-- ==== Sys2Proof/Word.lean ====
section
/-! DEFINITION. Word.lean: the machine's plainest data. Octets are bit vectors because both links, packed BCD and the
check register work on their bits (R25, R160, R169); numbers of objects, counts and timers are plain `Nat`. -/
namespace Sys2Proof

/-- One octet of a frame or one packed-BCD octet of the clock. -/
abbrev Octet := BitVec 8

/-- A 40-bit token code (R2). -/
abbrev Token := BitVec 40

/-- Four packed-BCD PIN digits, the first digit in the upper four bits (R2, R170). -/
abbrev PinBcd := BitVec 16

/-- A strongroom, its door and its suppression zone share one number, 1 to 16: index `r` stands for number `r + 1`. -/
abbrev Room := Fin 16

/-- A bank position 1 to 48: index `c` stands for position `c + 1`. -/
abbrev Pos := Fin 48

/-- A loop address 1 to 96: index `a` stands for address `a + 1`. -/
abbrev Addr := Fin 96

/-- A schedule number 0 to 63. -/
abbrev Sched := Fin 64

end Sys2Proof
end

