-- ==== Sys2Proof/Syntax.lean ====
section
/-! DEFINITION. Syntax.lean: the commands of the block, one constructor of `Instr` per row of spec/opcode_table.json, with
the operands the row's rule names. A request from the host carries what the octets of its payload spell after the request
code; `none` stands for a payload that spells no such fields: its length does not fit the request, or an enumerated field or
flag octet holds a value the request does not define (R170). -/
namespace Sys2Proof

/-! ### Values of fields -/

/-- Bearer classes (R2). -/
inductive Class
  | visitor | contractor | staff | custodian | safetyOfficer
  deriving DecidableEq, Repr

/-- The rights of a permission entry (R16). -/
structure Rights where
  enter : Bool
  night : Bool
  custody : Bool
  escort : Bool
  ventEntry : Bool
  deriving DecidableEq, Repr

/-- A packed-BCD date yy-mm-dd (R2, R24). -/
structure Date where
  year : Octet
  month : Octet
  day : Octet
  deriving DecidableEq, Repr

/-- A packed-BCD time of day (R24). -/
structure Time where
  hour : Octet
  minute : Octet
  second : Octet
  deriving DecidableEq, Repr

/-- A packed-BCD time hh:mm of a schedule window (R21). -/
structure HhMm where
  hour : Octet
  minute : Octet
  deriving DecidableEq, Repr

/-- A schedule window (R21). Bits 0 to 6 of `days` are Monday to Sunday, bit 7 is Holiday. -/
structure Window where
  days : BitVec 8
  start : HhMm
  stop : HhMm
  deriving DecidableEq, Repr

/-- A holiday date of either kind (R22). -/
inductive Holiday
  | everyYear (month day : Octet)
  | dated (year month day : Octet)
  deriving DecidableEq, Repr

/-- The site override (R35). -/
inductive Override
  | noOverride | holdOpen | forceAfterHours
  deriving DecidableEq, Repr

/-- Custody policies of a profile (R173). -/
inductive CustodyPolicy
  | never | night | always
  deriving DecidableEq, Repr

/-- Lone-worker policies of a profile (R107, R173). -/
inductive LonePolicy
  | off | always | lone | night
  deriving DecidableEq, Repr

/-- Knock modes of a profile (R112). -/
inductive Knock
  | double | singleOnFault
  deriving DecidableEq, Repr

/-- Station types; `unassigned` is the type "none" (R147, R149). -/
inductive StationType
  | unassigned | doorUnit | checkIn | detectorIf | releaseUnit | callPoint | pendantRx | bankMonitor
  deriving DecidableEq, Repr

/-- Supervisor Port modes (R162). -/
inductive LinkMode
  | direct | shared
  deriving DecidableEq, Repr

/-- The four states a report gives a point (R147, R155). -/
inductive PointState
  | normal | active | openFault | shortFault
  deriving DecidableEq, Repr

/-- The twenty alarm kinds (R95). -/
inductive AlarmKind
  | duress | panic | manDown | overdue | zoneAlert | zoneRelease | releaseFailed
  | forced | heldOpen | escortLapse | revokedInside | pinLockout
  | stationMissing | pointFault | coverageShort | rollUnreconciled | zoneDisabled
  | mainsFail | tablesLost | restarted
  deriving DecidableEq, Repr

/-! ### Operands of requests -/

/-- ENROL (R6), with the fields of its layout in R170. `cls` is the class octet as received. -/
structure EnrolArgs where
  bearer : Nat
  token : Token
  cls : Octet
  pin : Option PinBcd
  validFrom : Date
  validUntil : Option Date
  escortLimit : Nat
  interval : Nat
  deriving DecidableEq, Repr

/-- AMEND (R7): an unnamed field is `none`; `some none` makes the PIN or valid-until absent. -/
structure AmendArgs where
  bearer : Nat
  token : Option Token
  cls : Option Octet
  pin : Option (Option PinBcd)
  validFrom : Option Date
  validUntil : Option (Option Date)
  escortLimit : Option Nat
  interval : Option Nat
  deriving DecidableEq, Repr

/-- One permission content of CHAIN WRITE (R17). Bit `r` of `rooms` is strongroom `r + 1`. -/
structure PermContent where
  rooms : BitVec 16
  schedule : Nat
  rights : Rights
  deriving DecidableEq, Repr

structure ChainWriteArgs where
  bearer : Nat
  contents : List PermContent
  deriving DecidableEq, Repr

structure ScheduleWriteArgs where
  schedule : Nat
  windows : List Window
  deriving DecidableEq, Repr

/-- CLOCK SET (R28). -/
structure ClockSetArgs where
  date : Date
  time : Time
  weekday : Nat
  deriving DecidableEq, Repr

structure SiteSetArgs where
  schedule : Nat
  grace : Nat
  deriving DecidableEq, Repr

structure RollReadArgs where
  room : Nat
  start : Nat
  deriving DecidableEq, Repr

/-- DOOR RELEASE (R87). -/
structure DoorReleaseArgs where
  door : Nat
  hold : Bool
  deriving DecidableEq, Repr

/-- ALARM ACK and ALARM RESET (R99): `kind = none` is a kind octet that names none of the twenty kinds. -/
structure AlarmArgs where
  kind : Option AlarmKind
  room : Option Nat
  bearer : Option Nat
  station : Option Nat
  point : Option Nat
  deriving DecidableEq, Repr

/-- CYLINDER SET Install (R134). -/
structure InstallArgs where
  position : Nat
  charge : Nat
  deriving DecidableEq, Repr

/-- STATION CONFIGURE (R149): `type = none` is a type octet that names none of the eight values. -/
structure ConfigureArgs where
  address : Nat
  type : Option StationType
  room : Nat
  deriving DecidableEq, Repr

/-- The setting LINK SET carries beside the sync pair (R162): a mode (`none` for an undefined value) or a bit rate. -/
inductive LinkSetting
  | mode (m : Option LinkMode)
  | rate (bitsPerSecond : Nat)
  deriving DecidableEq, Repr

structure LinkSetArgs where
  port : Nat
  first : Octet
  second : Octet
  setting : LinkSetting
  deriving DecidableEq, Repr

/-- PROFILE LOAD (R173): every field; `none` is an undefined value of an enumerated field. -/
structure ProfileArgs where
  room : Nat
  volume : Nat
  factor : Nat
  limit : Nat
  delay : Nat
  soak : Nat
  knock : Option Knock
  capacity : Nat
  unlock : Nat
  heldOpen : Nat
  window : Nat
  custody : Option CustodyPolicy
  timeLock : Nat
  pinAlways : Option Bool
  lone : Option LonePolicy
  interval : Nat
  features : Octet
  deriving DecidableEq, Repr

/-! ### Operands of events -/

/-- The two serial ports (chapter 10). -/
inductive Port
  | supervisor | fieldLoop
  deriving DecidableEq, Repr

inductive Side
  | entry | exit
  deriving DecidableEq, Repr

/-- A presentation at a door unit (R38, R157). -/
structure DoorPresentation where
  side : Side
  token : Token
  digits : List Nat
  deriving DecidableEq, Repr

/-- A presentation at a check-in station (R109, R157). -/
structure CheckInPresentation where
  token : Token
  digits : List Nat
  deriving DecidableEq, Repr

inductive Button
  | checkIn | duress | tilt
  deriving DecidableEq, Repr

structure PendantReport where
  token : Token
  button : Button
  deriving DecidableEq, Repr

/-- The events a report carries (R148, R157). Each pressure flag is `true` for low. -/
inductive Events
  | nothing
  | door (ps : List DoorPresentation)
  | checkIn (ps : List CheckInPresentation)
  | pendant (ps : List PendantReport)
  | pressure (low : List Bool)
  deriving DecidableEq, Repr

/-- The next line bits of the Field Loop's receiver, up to the end of a frame at most, and what the payload of a frame that is
accepted in them spells (R148, R153 to R157): the spec gives a report's payload no layout. The frame's address and kind are read
from the bits. -/
structure ReportFrame where
  line : List Bool
  declared : Option StationType
  points : List PointState
  eventNumber : Nat
  events : Events
  deriving DecidableEq, Repr

/-! ### The commands -/

/-- One constructor per row of spec/opcode_table.json. -/
inductive Instr
  -- chapter 1
  | enrol (a : Option EnrolArgs)
  | amend (a : Option AmendArgs)
  | suspend (bearer : Option Nat)
  | reinstate (bearer : Option Nat)
  | revoke (bearer : Option Nat)
  | readBearer (bearer : Option Nat)
  | findToken (token : Option Token)
  | retentionSet (days : Option Nat)
  | chainWrite (a : Option ChainWriteArgs)
  | chainRead (bearer : Option Nat)
  | scheduleWrite (a : Option ScheduleWriteArgs)
  | scheduleRead (schedule : Option Nat)
  | holidayAdd (h : Option Holiday)
  | holidayRemove (h : Option Holiday)
  | holidayRead
  -- chapter 2
  | clockSet (a : Option ClockSetArgs)
  | clockRead
  | siteSet (a : Option SiteSetArgs)
  | siteOverride (o : Option Override)
  -- chapter 4
  | rollConfirm (room : Option Nat)
  | rollSweep (room : Option Nat)
  | rollRemove (bearer : Option Nat)
  | rollRead (a : Option RollReadArgs)
  -- chapter 5
  | doorRelease (a : Option DoorReleaseArgs)
  | doorLockdown (door : Option Nat)
  | doorRestore (door : Option Nat)
  | doorRead (door : Option Nat)
  -- chapter 6
  | alarmAck (a : Option AlarmArgs)
  | alarmReset (a : Option AlarmArgs)
  | alarmRead (start : Option Nat)
  -- chapter 7
  | zoneReset (zone : Option Nat)
  | zoneDisable (zone : Option Nat)
  | zoneEnable (zone : Option Nat)
  | releaseAuthorise (zone : Option Nat)
  | zoneRead (zone : Option Nat)
  -- chapter 8
  | cylinderInstall (a : Option InstallArgs)
  | cylinderIsolate (position : Option Nat)
  | cylinderReturn (position : Option Nat)
  | cylinderRemove (position : Option Nat)
  | cylinderRead (position : Option Nat)
  | bankRead
  -- chapter 9
  | stationConfigure (a : Option ConfigureArgs)
  | stationRead (address : Option Nat)
  -- chapter 10
  | linkSet (a : Option LinkSetArgs)
  | linkRead (port : Option Nat)
  | linkTest
  -- chapter 11
  | status
  /-- The looped lines serve a RESTART addressed to 255, which resets at once (R172). -/
  | restart (line1 line2 : List Bool)
  | addressSet (address : Option Nat)
  | profileLoad (a : Option ProfileArgs)
  | profileRead (room : Option Nat)
  | unknownRequest
  -- the ports
  /-- The next line bits of the Supervisor Port, up to the end of a frame at most. -/
  | supervisorFrameReceived (line : List Bool)
  | frameTransmit (port : Port)
  | linkSettingsApply
  /-- `line`: what the receiver of port 2 sees while its loop is made (R168). -/
  | linkTestRun (line : List Bool)
  | poll
  | broadcastPoll
  | pollMissed
  | report (frame : ReportFrame)
  -- time
  /-- `expiriesFirst`: the expiries that fall due at this tick are taken before the clock's advance is handed on. -/
  | secondTick (expiriesFirst : Bool)
  | graceTimerExpiry
  | unlockTimerExpiry (door : Room)
  | heldOpenTimerExpiry (door : Room)
  | pairingWindowExpiry (door : Room)
  | countdownEnd (zone : Room)
  | dischargeTimerExpiry (zone : Room)
  | flowStartTimerExpiry (zone : Room)
  | soakTimerExpiry (zone : Room)
  | loneWorkerPrompt (entry : Nat)
  | loneWorkerExpiry (entry : Nat)
  -- lines and supplies
  | mainsOkChange (active : Bool)
  | inhibitChange (active : Bool)
  /-- `line1`, `line2`: what each port's receiver sees while its loop is made in the self-test (R168, R176). -/
  | powerUp (line1 line2 : List Bool)
  | mainSupplyFail
  | backupLoss
  | resetLineLow
  | resetLineHigh (line1 line2 : List Bool)
  | restartWarmReset (line1 line2 : List Bool)
  | frameSent (port : Port)
  deriving DecidableEq, Repr

end Sys2Proof
end

