-- ==== Sys2Proof/Decode.lean ====
section
/-! DEFINITION. Decode.lean: the commands that words spell by the bits of spec/opcode_table.json. No row of the table gives a
bit: a command is a request, an event or an expiry, and no word spells one. The one octet layout the spec gives for a command's
operands, that of ENROL's payload (R170), is `EnrolArgs.decode` in Machine/Operands.lean. -/
namespace Sys2Proof

/-- The command a table word spells: none, for the table gives no bits. -/
def decodeTableWord (_nbits _w : Nat) : Option Instr := none

end Sys2Proof
end

