-- ==== Sys2Proof/Machine/Records.lean ====
section
/-! DEFINITION. Machine/Records.lean: the records the blocks hold, the frames and answers they exchange, and retained
memory, all as plain data. Tables whose records are mostly unused (bearers, permission entries, occupancy entries, the
token index) are lists of number and record with rising numbers: a number that is not listed is a FREE or unused record. -/
namespace Sys2Proof.Machine

open Sys2Proof

/-- A table by number, in rising order; an unlisted number holds no record. -/
abbrev Table (α : Type) := List (Nat × α)

/-! ### Bearer Table (chapter 1) -/

/-- The states of a live bearer record; FREE is the absence of a record (R2). -/
inductive BearerState
  | active | suspended | retiring
  deriving DecidableEq, Repr

/-- A live bearer record (R2). -/
structure Bearer where
  token : Token
  cls : Class
  pin : Option PinBcd
  validFrom : Date
  validUntil : Option Date
  chainHead : Nat
  escortLimit : Nat
  interval : Nat
  failedPin : Nat
  state : BearerState
  deriving DecidableEq, Repr

/-- A permission entry on a chain (R16). -/
structure PermEntry where
  content : PermContent
  next : Nat
  deriving DecidableEq, Repr

structure BearerTable where
  /-- Live records by bearer number, 1 to 4,095. -/
  bearers : Table Bearer
  /-- The token index (R4): token code to bearer number. -/
  index : Table Nat
  /-- Permission entries on chains, by entry number 1 to 8,191. -/
  entries : Table PermEntry
  /-- The free list, top first, and the number of entries it holds (R16). -/
  freeList : List Nat
  freeCount : Nat
  /-- Windows of schedules 0 to 63 (R21). -/
  schedules : Vector (List Window) 64
  /-- The holiday list in date order (R22). -/
  holidays : List Holiday
  /-- The site retention period in days (R14). -/
  retention : Nat
  deriving DecidableEq, Repr

/-! ### Site Clock (chapter 2) -/

inductive SiteState
  | openHours | closing | afterHours
  deriving DecidableEq, Repr

structure SiteClock where
  date : Date
  time : Time
  weekday : Nat
  /-- The clock state: `true` is SET (R27). -/
  isSet : Bool
  /-- The holiday test last taken for the current date (R32). -/
  holidayToday : Bool
  /-- The schedule in-force table (R30). -/
  inForce : Vector Bool 64
  siteSchedule : Sched
  /-- Closing grace in minutes (R33). -/
  grace : Nat
  siteState : SiteState
  override : Override
  /-- `none`: stopped. `some 0`: the last tick has been counted and the expiry is due. -/
  graceTimer : Option Nat
  deriving DecidableEq, Repr

/-! ### Access Decision Unit (chapter 3) -/

/-- A door's pairing context (R51). `night` is the rule set; a window of 0 has an expiry due. -/
inductive Context
  | empty
  | custody (night : Bool) (window : Nat) (bearer : Nat) (rights : Rights)
  | escort (night : Bool) (window : Nat) (bearer : Nat) (entry : Nat)
  deriving DecidableEq, Repr

/-! ### Occupancy Roll (chapter 4) -/

inductive CheckInState
  | off | running | prompted | overdue
  deriving DecidableEq, Repr

/-- An occupancy entry in use (R59). `promptDue` is the model's own: the counter has reached 60 at the last tick and the
prompt has not been taken yet. -/
structure OccEntry where
  bearer : Nat
  room : Room
  entryTick : Nat
  link : Option Nat
  escorted : Nat
  revokedInside : Bool
  lapsed : Bool
  counter : Int
  checkIn : CheckInState
  promptDue : Bool
  deriving DecidableEq, Repr

/-- A strongroom record (R60). The head count is the length of the list. -/
structure RoomRecord where
  list : List Nat
  unreconciled : Bool
  deriving DecidableEq, Repr

structure Roll where
  entries : Table OccEntry
  rooms : Vector RoomRecord 16
  tick : Nat
  deriving DecidableEq, Repr

/-! ### Door Controller (chapter 5) -/

inductive DoorState
  | secured | timeLocked | released | opened | held | forced | unknown
  deriving DecidableEq, Repr

inductive UnknownCause
  | start | lost
  deriving DecidableEq, Repr

inductive ReleaseKind
  | entry | exit | egress | command
  deriving DecidableEq, Repr

inductive OpenCause
  | grant | egress | command
  deriving DecidableEq, Repr

/-- The held-open timer (R75). `running 0`: the last tick has been counted and the expiry is due. -/
inductive HeldTimer
  | stopped | running (left : Nat) | expired
  deriving DecidableEq, Repr

/-- A door record (R75). A point state is `none` while it is not known. -/
structure Door where
  state : DoorState
  unknownCause : Option UnknownCause
  releaseKind : Option ReleaseKind
  openCause : Option OpenCause
  unlock : Option Nat
  heldOpen : HeldTimer
  timeLock : Bool
  closeDemand : Bool
  lockdown : Bool
  hold : Bool
  envelopeClosed : Bool
  contact : Option PointState
  bolt : Option PointState
  egress : Option PointState
  tamper : Option PointState
  deriving DecidableEq, Repr

/-! ### Alarm Table (chapter 6) -/

/-- A kind-and-key (R94); each key part is a number of the manual or absent. -/
structure AlarmKey where
  kind : AlarmKind
  room : Option Nat
  bearer : Option Nat
  station : Option Nat
  point : Option Nat
  deriving DecidableEq, Repr

inductive AlarmState
  | active | acked | restored | awaitReset
  deriving DecidableEq, Repr

inductive Priority
  | life | security | fault
  deriving DecidableEq, Repr

/-- A BCD date and time, or all zeros (R94). -/
structure Stamp where
  date : Date
  time : Time
  deriving DecidableEq, Repr

/-- An alarm record (R94). Priority, latching and silent are fixed by the kind (R95). -/
structure AlarmRecord where
  key : AlarmKey
  state : AlarmState
  raisedAt : Stamp
  repeats : Nat
  deriving DecidableEq, Repr

structure AlarmTable where
  /-- Oldest first, at most 64. -/
  records : List AlarmRecord
  overflow : Bool
  /-- The general-alarm and fault outputs (R103). -/
  general : Bool
  fault : Bool
  deriving DecidableEq, Repr

/-! ### Suppression Sequencer (chapter 7) -/

inductive ZoneState
  | disabled | normal | alert | held | countdown | waitBank | discharging | soak | vent
  deriving DecidableEq, Repr

inductive DisableCause
  | start | request
  deriving DecidableEq, Repr

inductive SequenceKind
  | noKind | automatic | manual
  deriving DecidableEq, Repr

/-- The set of hold reasons (R119). -/
structure Holds where
  abort : Bool
  occupied : Bool
  lockout : Bool
  siteInhibit : Bool
  deriving DecidableEq, Repr

/-- The condition in which a zone takes a point (R113). -/
inductive Condition
  | normal | active | fault
  deriving DecidableEq, Repr

/-- The points that reach a zone (R113). -/
structure ZoneInputs where
  detectorA : Condition
  detectorB : Condition
  manual : Condition
  abort : Condition
  lockout : Condition
  flow : Condition
  deriving DecidableEq, Repr

/-- A zone record (R112). A timer at `some 0` has its expiry due. `countdownDue` is the model's own: the tick that ends the
countdown has been counted and its COUNTDOWN_END has not been taken yet. -/
structure Zone where
  state : ZoneState
  disableCause : DisableCause
  holds : Holds
  kind : SequenceKind
  remainder : Nat
  accumulated : Nat
  authorise : Bool
  /-- The last envelope report: `true` is closed. -/
  lastEnvelope : Bool
  envelopeOpen : Bool
  flowSeen : Bool
  unconfirmed : Bool
  flowStart : Option Nat
  discharge : Option Nat
  soak : Option Nat
  inputs : ZoneInputs
  countdownDue : Bool
  deriving DecidableEq, Repr

/-! ### Agent Bank (chapter 8) -/

inductive CylinderState
  | ready | reserved | spent | isolated | fault | absent
  deriving DecidableEq, Repr

/-- A cylinder record (R132). -/
structure Cylinder where
  state : CylinderState
  charge : Option Nat
  zone : Option Room
  deferredLow : Bool
  deriving DecidableEq, Repr

inductive Flag
  | normal | low | unknown
  deriving DecidableEq, Repr

inductive Basis
  | noBasis | standing | reservation
  deriving DecidableEq, Repr

inductive Grade
  | full | short | nothing
  deriving DecidableEq, Repr

/-- A coverage record (R138). -/
structure Coverage where
  basis : Basis
  required : Nat
  sum : Nat
  achieved : Nat
  grade : Option Grade
  count : Nat
  deriving DecidableEq, Repr

structure AgentBank where
  cylinders : Vector Cylinder 48
  flags : Vector Flag 48
  /-- The reservation list, in confirmation order. -/
  reservations : List Room
  manifold : Option Room
  waitQueue : List Room
  coverage : Vector Coverage 16
  deriving DecidableEq, Repr

/-! ### Loop Master (chapter 9) -/

inductive StationState
  | unconfigured | pending | online | missing | wrongType
  deriving DecidableEq, Repr

/-- A point record (R147): the accepted state is `none` while not known. `held` is the model's own, for call points: the
point has been accepted Active and not Normal since, so a PANIC of its station stands for it (R105). -/
structure Point where
  accepted : Option PointState
  candidate : Option PointState
  count : Nat
  held : Bool
  deriving DecidableEq, Repr

/-- The Deny reasons (R58). -/
inductive DenyReason
  | stationFault | lockdown | timeLocked | zoneActive | unknown | revoked | suspended | outOfValidity
  | noPermission | outsideSchedule | pinWrong | passback | capacityFull | custodyRequired | escortRequired
  deriving DecidableEq, Repr

inductive AwaitReason
  | pinRequired | secondCustodian | notInside
  deriving DecidableEq, Repr

/-- A point as STATION READ shows it (R150). -/
structure PointView where
  accepted : Option PointState
  candidate : Option PointState
  count : Nat
  deriving DecidableEq, Repr

/-- The answer to a presentation (R58, R109). -/
inductive ReaderAnswer
  | grant (seconds : Nat)
  | await (reason : AwaitReason)
  | deny (reason : DenyReason)
  | checkedIn
  | notInside
  deriving DecidableEq, Repr

inductive BoltCommand
  | release (seconds : Nat)
  | cancel
  deriving DecidableEq, Repr

inductive Tone
  | closing | prompt
  deriving DecidableEq, Repr

/-- The reader answers of one report, with its event number (R151). -/
structure Answers where
  eventNumber : Nat
  answers : List ReaderAnswer
  deriving DecidableEq, Repr

/-- A one-shot command in its slot (R151); `carried`: the poll in progress carries it. -/
structure Slot (α : Type) where
  command : α
  carried : Bool
  deriving DecidableEq, Repr

/-- The pending one-shot commands of a station (R151). -/
structure Slots where
  bolt : Option (Slot BoltCommand)
  answers : Option (Slot Answers)
  tone : Option (Slot Tone)
  fire : Option (Slot (List Pos))
  deriving DecidableEq, Repr

/-- A station record (R147). -/
structure Station where
  type : StationType
  /-- The strongroom number, 0 for site-wide. -/
  room : Nat
  state : StationState
  misses : Nat
  points : List Point
  lastEvent : Nat
  slots : Slots
  lastAnswers : Option (List ReaderAnswer)
  deriving DecidableEq, Repr

/-- The sounder pattern at a release unit (R114). -/
inductive Sounder
  | off | alert | countdown | discharge
  deriving DecidableEq, Repr

/-- The standing outputs of a poll (R151). -/
inductive StandingOutputs
  | nothing
  | door (magnet : Bool)
  | releaseUnit (sounder : Sounder) (selectorOpen extraction : Bool)
  deriving DecidableEq, Repr

/-- What a poll carries (R151, R157, R158). -/
inductive PollContent
  | station (outputs : StandingOutputs) (bolt : Option BoltCommand) (answers : Option Answers) (tone : Option Tone)
      (fire : Option (List Pos)) (acknowledged : Nat)
  | broadcast (date : Date) (time : Time) (weekday : Nat)
  deriving DecidableEq, Repr

/-- Where the poll in progress stands: ready for the transmitter, being sent, in its reply window, or one that a port held
OFF cannot send (R151, R158). -/
inductive PollPhase
  | ready | sending | awaiting | unsent
  deriving DecidableEq, Repr

/-- The poll in progress; no address for the broadcast. -/
structure PollInProgress where
  address : Option Addr
  phase : PollPhase
  content : PollContent
  deriving DecidableEq, Repr

/-- A date, time and weekday handed on for the broadcast (R158). -/
structure ClockReading where
  date : Date
  time : Time
  weekday : Nat
  deriving DecidableEq, Repr

structure LoopMaster where
  stations : Vector Station 96
  /-- The address of the next station to poll in the scan. -/
  scan : Addr
  current : Option PollInProgress
  broadcastDue : Option ClockReading
  /-- The station whose answer poll is due and not started yet (R157). -/
  answerDue : Option Addr
  /-- The broadcast that is due has let one answer poll go before it (R158). -/
  yielded : Bool
  deriving DecidableEq, Repr

/-! ### Requests, answers and notices (chapters 10 and 11) -/

/-- Answer codes (R169). -/
inductive AnswerCode
  | ok | format | notFound | conflict | full | state
  deriving DecidableEq, Repr

/-- A request waiting in the request queue (R164, R166). -/
structure RequestFrame where
  address : Octet
  tag : Octet
  payload : List Octet
  deriving DecidableEq, Repr

/-- The part's copy of a strongroom profile (R173). -/
structure Profile where
  volume : Nat
  factor : Nat
  limit : Nat
  delay : Nat
  soak : Nat
  knock : Knock
  capacity : Nat
  unlock : Nat
  heldOpen : Nat
  window : Nat
  custody : CustodyPolicy
  timeLock : Sched
  pinAlways : Bool
  lone : LonePolicy
  interval : Nat
  features : Octet
  deriving DecidableEq, Repr

inductive RestartCause
  | coldStart | powerUp | resetLine | request
  deriving DecidableEq, Repr

inductive ReceiverState
  | off | hunt | header | body | check | discard
  deriving DecidableEq, Repr

inductive TransmitterState
  | off | idle | sending
  deriving DecidableEq, Repr

/-- A frame being taken by a receiver: the run of zeros on the line, the bits of the octet in progress, the octets taken, and
whether the receiver is in DISCARD (R161, R163). -/
structure RxFrame where
  run : Nat
  bits : List Bool
  octets : List Octet
  discarding : Bool
  deriving DecidableEq, Repr

/-- A receiver between two line bits: searching with the latest bits it has seen, aligned with the bits of the group in
progress, or taking a frame (R163). -/
inductive RxPhase
  | hunt (latest : List Bool)
  | aligned (group : List Bool)
  | frame (f : RxFrame)
  deriving DecidableEq, Repr

/-- A receiver: OFF, or on with what it has taken of the line (R163). -/
inductive Receiver
  | off
  | on (phase : RxPhase)
  deriving DecidableEq, Repr

/-- A sync pair, first octet first (R162). -/
structure SyncPair where
  first : Octet
  second : Octet
  deriving DecidableEq, Repr

/-- What an ALARM notice or ALARM ACK shows of a record (R99, R102). -/
inductive AlarmShown
  | standing (s : AlarmState)
  | retired | evicted | notStored
  deriving DecidableEq, Repr

/-- A bearer record as READ BEARER shows it (R11). -/
structure BearerView where
  state : BearerState
  token : Token
  cls : Class
  pinPresent : Bool
  validFrom : Date
  validUntil : Option Date
  chainHead : Nat
  escortLimit : Nat
  interval : Nat
  failedPin : Nat
  inside : Option Room
  deriving DecidableEq, Repr

/-- An entry as ROLL READ shows it (R69). -/
structure RollView where
  entry : Nat
  bearer : Nat
  entryTick : Nat
  link : Option Nat
  escorted : Nat
  revokedInside : Bool
  lapsed : Bool
  checkIn : CheckInState
  deriving DecidableEq, Repr

/-- A zone as ZONE READ shows it (R130). -/
structure ZoneView where
  state : ZoneState
  disableCause : DisableCause
  holds : Holds
  kind : SequenceKind
  authorise : Bool
  remainder : Nat
  accumulated : Nat
  flowStart : Option Nat
  discharge : Option Nat
  soak : Option Nat
  lastEnvelope : Bool
  envelopeOpen : Bool
  flowSeen : Bool
  unconfirmed : Bool
  inputs : ZoneInputs
  deriving DecidableEq, Repr

/-- A pairing context as DOOR READ shows it (R51, R89). -/
inductive ContextView
  | empty
  | custody (bearer window : Nat)
  | escort (bearer window : Nat)
  deriving DecidableEq, Repr

/-- The one-shot commands pending at a station, as STATION READ marks them (R150). -/
structure SlotMarks where
  bolt : Bool
  answers : Bool
  tone : Bool
  fire : Bool
  deriving DecidableEq, Repr

/-- What an answer carries after its head. -/
inductive Contents
  | nothing
  | enrolled (bearer interval : Nat)
  | amended (interval : Nat) (state : BearerState)
  | bearer (number : Nat) (record : Option BearerView)
  | retention (days : Nat)
  | chainTaken (entries : List Nat)
  | chain (entries : List (Nat × PermContent))
  | schedule (fixed : Bool) (windows : List Window)
  | holidays (dates : List Holiday)
  | clock (date : Date) (time : Time) (weekday : Nat)
  | clockRead (date : Date) (time : Time) (weekday : Nat) (isSet holiday : Bool) (site : SiteState) (override : Override)
      (schedule : Sched) (grace graceLeft : Nat)
  | site (schedule : Sched) (grace : Nat)
  | override (override : Override) (site : SiteState)
  | rollConfirmed (headCount : Nat) (unreconciled : Bool)
  | rollSwept (removed : Nat)
  | rollRemoved (room : Room) (headCount : Nat)
  | roll (headCount capacity : Nat) (unreconciled : Bool) (lapsed tick : Nat) (entries : List RollView)
  | doorReleased (state : DoorState) (hold : Bool)
  | door (record : Door) (station : Nat) (context : ContextView)
  | alarmAcked (shown : AlarmShown)
  | alarms (count : Nat) (overflow general fault : Bool) (records : List AlarmRecord)
  | zoneState (state : ZoneState)
  | authorised (state : ZoneState) (holds : Holds)
  | zone (view : ZoneView) (place : Nat) (coverage : Coverage)
  | cylinderState (state : CylinderState)
  | cylinder (record : Cylinder) (zoneState : Option ZoneState) (flag : Flag)
  | bank (manifold : Option Room) (queue : List Room) (reservations : List (Room × Nat × Option Grade))
      (counts : List (CylinderState × Nat)) (readySum : Nat)
  | station (type : StationType) (room : Nat) (state : StationState)
  | stationRead (type : StationType) (room : Nat) (state : StationState) (misses : Nat) (points : List PointView)
      (lastEvent : Nat) (pending : SlotMarks)
  | link1 (pair : SyncPair) (mode : LinkMode)
  | link2 (pair : SyncPair) (rate : Nat)
  | linkRead1 (pair : SyncPair) (mode : LinkMode) (rx : ReceiverState) (tx : TransmitterState)
  | linkRead2 (pair : SyncPair) (rate : Nat) (rx : ReceiverState) (tx : TransmitterState)
  | testResult (pass : Bool)
  | status (identity revision : Nat) (cause : RestartCause) (clockSet : Bool) (site : SiteState) (override : Override)
      (retention : Nat) (unit : Octet) (overflow error overrun : Bool) (zones : List ZoneState) (doors : List DoorState)
  | features (features : Octet)
  | profile (profile : Profile)
  deriving DecidableEq, Repr

/-- An answer (R169, R170). -/
structure Answer where
  tag : Octet
  request : Octet
  code : AnswerCode
  contents : Contents
  deriving DecidableEq, Repr

/-- The object a notice names (R167). -/
inductive NoticeObject
  | alarm (key : AlarmKey)
  | zone (zone : Room)
  | door (door : Room)
  | roll (room : Room)
  | cylinder (position : Pos)
  | coverage (zone : Room)
  | station (address : Addr)
  | site
  | bearer (number : Nat)
  deriving DecidableEq, Repr

/-- A notice with its contents (R174). -/
inductive Notice
  | alarm (key : AlarmKey) (shown : AlarmShown) (priority : Priority) (repeats : Nat) (raisedAt : Stamp)
  | zone (zone : Room) (state : ZoneState) (disableCause : DisableCause) (holds : Holds) (kind : SequenceKind)
      (authorise envelopeOpen unconfirmed : Bool) (remainder : Nat)
  | door (door : Room) (state : DoorState) (releaseKind : Option ReleaseKind) (openCause : Option OpenCause)
      (timeLock closeDemand lockdown hold envelopeClosed : Bool)
  | roll (room : Room) (headCount : Nat) (unreconciled : Bool) (lapsed revokedInside tick : Nat)
  | cylinder (position : Pos) (state : CylinderState) (charge : Option Nat) (zone : Option Room)
  | coverage (zone : Room) (record : Coverage)
  | station (address : Addr) (type : StationType) (room : Nat) (state : StationState)
  | site (state : SiteState) (override : Override) (clockSet : Bool)
  | bearer (number : Nat) (state : Option BearerState) (failedPin : Nat)
  deriving DecidableEq, Repr

/-- A field of a notice's contents (R12, R36, R73, R90, R102, R130, R138, R145, R150). -/
inductive NoticeField
  | alarmState (shown : AlarmShown)
  | alarmPriority (priority : Priority)
  | alarmRepeats (count : Nat)
  | alarmRaisedAt (stamp : Stamp)
  | zoneState (state : ZoneState)
  | zoneDisableCause (cause : DisableCause)
  | zoneHolds (holds : Holds)
  | zoneKind (kind : SequenceKind)
  | zoneAuthorise (set : Bool)
  | zoneEnvelopeOpen (set : Bool)
  | zoneUnconfirmed (set : Bool)
  | zoneRemainder (ticks : Nat)
  | doorState (state : DoorState)
  | doorReleaseKind (kind : Option ReleaseKind)
  | doorOpenCause (cause : Option OpenCause)
  | doorTimeLock (engaged : Bool)
  | doorCloseDemand (set : Bool)
  | doorLockdown (set : Bool)
  | doorHold (set : Bool)
  | doorEnvelope (closed : Bool)
  | rollHeadCount (count : Nat)
  | rollUnreconciled (set : Bool)
  | rollLapsed (count : Nat)
  | rollRevokedInside (count : Nat)
  | rollTick (tick : Nat)
  | cylinderState (state : CylinderState)
  | cylinderCharge (charge : Option Nat)
  | cylinderZone (zone : Option Room)
  | coverageBasis (basis : Basis)
  | coverageRequired (tenths : Nat)
  | coverageSum (tenths : Nat)
  | coverageAchieved (perMille : Nat)
  | coverageGrade (grade : Option Grade)
  | coverageCount (count : Nat)
  | stationType (type : StationType)
  | stationRoom (room : Nat)
  | stationState (state : StationState)
  | siteState (state : SiteState)
  | siteOverride (override : Override)
  | siteClockSet (set : Bool)
  | bearerState (state : Option BearerState)
  | bearerFailedPin (count : Nat)
  deriving DecidableEq, Repr

/-- What the end of an answer's transmission brings about (R162, R171, R172). -/
inductive AfterSent
  | nothing
  | linkSettings (pair : SyncPair) (mode : LinkMode)
  | unitAddress (address : Octet)
  | restart
  deriving DecidableEq, Repr

/-- An entry of the transmit queue (R167). -/
inductive TxEntry
  | answer (a : Answer) (after : AfterSent)
  | notice (n : Notice)
  deriving DecidableEq, Repr

/-- The frame the Supervisor Port is sending: the pair and the count of the sync pairs before it, its address and its Busy mark
are decided when it begins (R165, R171). -/
structure SentFrame where
  pair : SyncPair
  lead : Nat
  address : Octet
  busy : Bool
  entry : TxEntry
  deriving DecidableEq, Repr

/-- The Supervisor Port engine, port 1 (chapter 10). `txPair`, `txMode` and `rxPair` are the settings in use, which follow
the stored ones as R162 gives; `dataLow` holds the data output at zero after a cut-off frame (R161). -/
structure PortOne where
  pair : SyncPair
  mode : LinkMode
  txPair : SyncPair
  txMode : LinkMode
  rxPair : SyncPair
  rx : Receiver
  tx : TransmitterState
  /-- Held OFF after a failed self-test (R168). -/
  heldOff : Bool
  errorMark : Bool
  overrun : Bool
  requests : List RequestFrame
  queue : List TxEntry
  marks : List NoticeObject
  sending : Option SentFrame
  /-- The frames sent in the open turn of Shared mode (R165). -/
  turn : Option Nat
  dataLow : Bool
  deriving DecidableEq, Repr

/-- The Field Loop engine, port 2. `newSettings`: accepted settings that wait for the end of the poll in progress (R162). -/
structure PortTwo where
  pair : SyncPair
  rate : Nat
  usedPair : SyncPair
  usedRate : Nat
  newSettings : Bool
  rx : Receiver
  tx : TransmitterState
  heldOff : Bool
  dataLow : Bool
  deriving DecidableEq, Repr

/-- The Supervisor Request Handler (chapter 11). `sentAddress` is the unit address that sent frames carry (R171);
`linkTest` is a LINK TEST request that waits for its run (R168); `restartDue`: a RESTART answer has been sent (R172). -/
structure Handler where
  unitAddress : Octet
  sentAddress : Octet
  checkValue : BitVec 16
  cause : RestartCause
  profiles : Vector Profile 16
  linkTest : Option RequestFrame
  restartDue : Bool
  deriving DecidableEq, Repr

/-- The supplies and direct lines (R175, R177). -/
structure Lines where
  mainOn : Bool
  /-- RESET_N: `true` is high. -/
  resetHigh : Bool
  backupLost : Bool
  mainsOk : Bool
  inhibit : Bool
  deriving DecidableEq, Repr

/-- Work an event leaves for its end: a notice already built, or an object whose notice is built then (R174). -/
inductive Due
  | notice (n : Notice)
  | object (o : NoticeObject)
  deriving DecidableEq, Repr

/-- The part of an entry whose change queues a ROLL notice (R73). -/
structure EntryReport where
  entry : Nat
  revokedInside : Bool
  lapsed : Bool
  link : Option Nat
  escorted : Nat
  deriving DecidableEq, Repr

/-- The part of a strongroom's roll whose change queues a ROLL notice (R73). -/
structure RollReport where
  headCount : Nat
  unreconciled : Bool
  entries : List EntryReport
  deriving DecidableEq, Repr

/-! ### Retained memory (R175) -/

/-- The retained fields of a zone (R112). -/
structure RetainedZone where
  state : ZoneState
  disableCause : DisableCause
  kind : SequenceKind
  envelopeOpen : Bool
  flowSeen : Bool
  unconfirmed : Bool
  deriving DecidableEq, Repr

/-- Everything the backup supply holds, the clock block apart (R175). -/
structure Retained where
  bearers : BearerTable
  siteSchedule : Sched
  grace : Nat
  override : Override
  roll : Roll
  zones : List RetainedZone
  cylinders : Vector Cylinder 48
  stations : List (StationType × Nat)
  pair1 : SyncPair
  mode1 : LinkMode
  pair2 : SyncPair
  rate2 : Nat
  unitAddress : Octet
  profiles : Vector Profile 16
  deriving DecidableEq, Repr

end Sys2Proof.Machine
end

