-- ==== Sys2Proof/Config.lean ====
section
/-! DEFINITION. Config.lean: the numbers fixed for the whole manual (00_scope.md) and the free values, which have no body: the
spec names an octet string and gives no layout for it, so nothing in Lean knows which octets it is. -/
namespace Sys2Proof.Config

open Sys2Proof.Machine

def maxBearers : Nat := 4095
def maxPermEntries : Nat := 8191
def maxChain : Nat := 16
def maxOccEntries : Nat := 256
def maxAlarms : Nat := 64
def maxHolidays : Nat := 32
def requestQueueSize : Nat := 8
def transmitQueueSize : Nat := 16
def maxPayload : Nat := 120
def failedPinLimit : Nat := 5
def countdownRestart : Nat := 10
def flowStartWindow : Nat := 20
def dischargeWindow : Nat := 120
def promptLead : Int := 60
def missLimit : Nat := 3
/-- The top of the roll tick's range (R61). -/
def rollTickTop : Nat := 4294967295
/-- The top of the accumulated ticks' range (R112). -/
def accumulatedTop : Nat := 65535
/-- The part identity code and revision (R171). -/
def identity : Nat := 0x0E16
def revision : Nat := 1

/-- FREE VALUE (assumption 3): the octets of retained memory in address order, over which the check value is computed
(R175). The spec gives no layout. -/
opaque retainedOctets : Retained → List Octet

/-- FREE VALUE (assumption 4): the octets of an answer's contents after its head; the spec gives their order and no layout
(R169). -/
opaque contentsOctets : Contents → List Octet

/-- FREE VALUE (assumption 4): the octets that name a notice's object; the spec gives their place and no layout (R174). -/
opaque objectOctets : NoticeObject → List Octet

/-- FREE VALUE (assumption 4): the octets of one field of a notice's contents; the spec gives its place and no layout (R174). -/
opaque fieldOctets : NoticeField → List Octet

/-- FREE VALUE (assumption 4): the payload octets of a poll; the spec gives what it carries and no layout (R151, R157). -/
opaque pollOctets : PollContent → List Octet

end Sys2Proof.Config
end

