-- ==== Sys2Proof/Machine/Framing.lean ====
section
/-! DEFINITION. Machine/Framing.lean: the frame, its check, zero-run limiting, the receiver's states and the loopback test
(R159 to R164, R168, R169). A line is a list of bits in the order sent. -/
namespace Sys2Proof.Machine

open Sys2Proof

/-! ### Octets and bits -/

/-- The bits of an octet in line order, least-significant first (R159). -/
def bitsOf (o : Octet) : List Bool :=
  [o.getLsbD 0, o.getLsbD 1, o.getLsbD 2, o.getLsbD 3, o.getLsbD 4, o.getLsbD 5, o.getLsbD 6, o.getLsbD 7]

/-- The number whose bits, least-significant first, are given. -/
def bitsToNat : List Bool → Nat
  | [] => 0
  | b :: bs => b.toNat + 2 * bitsToNat bs

/-- The octet whose bits arrive in line order. -/
def octetOf (bs : List Bool) : Octet := BitVec.ofNat 8 (bitsToNat bs)

/-- The line bits of octets, before zero-run limiting. -/
def octetBits (os : List Octet) : List Bool := os.flatMap bitsOf

/-! ### The check (R160) -/

/-- One data bit through the check register. -/
def crcStep (r : BitVec 16) (b : Bool) : BitVec 16 :=
  if r.getLsbD 0 = b then r >>> 1 else (r >>> 1) ^^^ 0x8408#16

/-- The check of octets, the register preset to all ones. -/
def crc (os : List Octet) : BitVec 16 := (octetBits os).foldl crcStep 0xFFFF#16

/-- The check as sent: its low octet first. -/
def crcOctets (r : BitVec 16) : List Octet := [r.setWidth 8, (r >>> 8).setWidth 8]

/-! ### Zero-run limiting at the transmitter (R161) -/

/-- The line bits of data bits when `run` zeros precede them: an inserted one follows every seventh zero. -/
def stuff : Nat → List Bool → List Bool
  | _, [] => []
  | _, true :: bs => true :: stuff 0 bs
  | run, false :: bs => if run + 1 = 7 then false :: true :: stuff 0 bs else false :: stuff (run + 1) bs

/-! ### Frames (R159, R169) -/

/-- A frame's data: the sync pair comes before it and the check after. -/
structure LinkFrame where
  address : Octet
  kind : Octet
  tag : Octet
  payload : List Octet
  deriving DecidableEq, Repr

/-- Address, kind, tag, length and payload: the octets the check covers. -/
def LinkFrame.covered (f : LinkFrame) : List Octet :=
  [f.address, f.kind, f.tag, BitVec.ofNat 8 f.payload.length] ++ f.payload

/-- The octets from the address through the check. -/
def LinkFrame.octets (f : LinkFrame) : List Octet := f.covered ++ crcOctets (crc f.covered)

/-- The line bits from the first bit of the address to the end of the check. -/
def LinkFrame.line (f : LinkFrame) : List Bool := stuff 0 (octetBits f.octets)

/-- The bits of a sync pair, which is not subject to zero-run limiting. -/
def SyncPair.bits (p : SyncPair) : List Bool := bitsOf p.first ++ bitsOf p.second

/-- `n` sync pairs. -/
def SyncPair.idle (p : SyncPair) (n : Nat) : List Bool := (List.replicate n p.bits).flatten

/-- The kind octet: the kind code in bits 0 to 3 and the Busy mark in bit 4 (R169). -/
def kindOctet (code : Nat) (busy : Bool) : Octet := BitVec.ofNat 8 (code + if busy then 16 else 0)

/-! ### The receiver (R161, R163, R164) -/

/-- What a receiver takes a frame by: its sync pair and the addresses it accepts. -/
structure RxConfig where
  pair : SyncPair
  accepts : Octet → Bool

/-- How a frame ends at the receiver (R163): handed on, dropped (abort, run error, excess length, check mismatch), or ended
in DISCARD, which latches nothing. -/
inductive RxEvent
  | accepted (f : LinkFrame)
  | dropped
  | discarded
  deriving DecidableEq, Repr

/-- The length octet, once it has been taken. -/
def RxFrame.payloadLength (f : RxFrame) : Nat := ((f.octets[3]?).getD 0).toNat

/-- All octets through the check have been taken. -/
def RxFrame.complete (f : RxFrame) : Bool := 4 ≤ f.octets.length && f.octets.length = f.payloadLength + 6

/-- The receiver's state while it takes a frame (R163). -/
def RxFrame.state (f : RxFrame) : ReceiverState :=
  if f.discarding then .discard
  else if f.octets.length < 4 then .header
  else if f.octets.length < 4 + f.payloadLength then .body
  else .check

/-- A run error or an abort: it drops the frame, or only ends the discard. -/
def RxFrame.broken (f : RxFrame) : RxEvent := if f.discarding then .discarded else .dropped

/-- The end of a complete frame: the check decides, and DISCARD tests nothing. -/
def RxFrame.ended (f : RxFrame) : RxEvent :=
  if f.discarding then .discarded
  else
    let covered := f.octets.take (f.payloadLength + 4)
    if f.octets.drop (f.payloadLength + 4) = crcOctets (crc covered) then
      .accepted ⟨(f.octets[0]?).getD 0, (f.octets[1]?).getD 0, (f.octets[2]?).getD 0, covered.drop 4⟩
    else .dropped

/-- An octet has been completed: the address decision, the length check and the end of the frame (R163, R164). A run of seven
at the end of the check keeps the frame open until the inserted one has been deleted. -/
def RxFrame.octetTaken (accepts : Octet → Bool) (f : RxFrame) : RxFrame ⊕ RxEvent :=
  if f.octets.length = 1 then .inl { f with discarding := !accepts ((f.octets[0]?).getD 0) }
  else if f.octets.length = 4 && !f.discarding && decide (Config.maxPayload < f.payloadLength) then .inr .dropped
  else if f.complete && f.run != 7 then .inr f.ended
  else .inl f

/-- A data bit, after deletion of inserted ones. -/
def RxFrame.dataBit (accepts : Octet → Bool) (f : RxFrame) (b : Bool) : RxFrame ⊕ RxEvent :=
  let bits := f.bits ++ [b]
  if bits.length = 8 then
    RxFrame.octetTaken accepts { f with bits := [], octets := f.octets ++ [octetOf bits] }
  else .inl { f with bits := bits }

/-- One line bit of a frame: zero-run counting, deletion, run error and abort (R161). -/
def RxFrame.step (accepts : Octet → Bool) (f : RxFrame) (b : Bool) : RxFrame ⊕ RxEvent :=
  if b then
    if f.run = 7 then
      (if f.complete then .inr f.ended else .inl { f with run := 0 })
    else if 8 ≤ f.run then .inr f.broken
    else RxFrame.dataBit accepts { f with run := 0 } true
  else if 11 ≤ f.run then .inr f.broken
  else if 7 ≤ f.run then .inl { f with run := f.run + 1 }
  else RxFrame.dataBit accepts { f with run := f.run + 1 } false

/-- Line bits of a frame, until it ends. -/
def RxFrame.take (accepts : Octet → Bool) : RxFrame → List Bool → RxFrame ⊕ RxEvent
  | f, [] => .inl f
  | f, b :: bs =>
    match f.step accepts b with
    | .inl f' => RxFrame.take accepts f' bs
    | .inr e => .inr e

/-- The start of a frame: HEADER with nothing taken. -/
def RxFrame.start : RxFrame := ⟨0, [], [], false⟩

/-- One line bit at the receiver (R163). The 16-bit group that ends HUNT is taken as the first bits of the frame, when its last bit has
come. DEDUCED (assumption 62): a run error or an abort within it leaves the rest of the group, and the search begins at the bit after it. -/
def RxPhase.step (c : RxConfig) (p : RxPhase) (b : Bool) : RxPhase ⊕ RxEvent :=
  match p with
  | .hunt latest =>
    let seen := latest ++ [b]
    if seen.length = 16 then
      (if seen = c.pair.bits then .inl (.aligned []) else .inl (.hunt (seen.drop 1)))
    else .inl (.hunt seen)
  | .aligned group =>
    let group := group ++ [b]
    if group.length = 16 then
      if group = c.pair.bits then .inl (.aligned [])
      else
        match RxFrame.take c.accepts RxFrame.start group with
        | .inl f => .inl (.frame f)
        | .inr e => .inr e
    else .inl (.aligned group)
  | .frame f =>
    match f.step c.accepts b with
    | .inl f' => .inl (.frame f')
    | .inr e => .inr e

/-- The receiver's state of R163. -/
def RxPhase.state : RxPhase → ReceiverState
  | .hunt _ => .hunt
  | .aligned _ => .hunt
  | .frame f => f.state

/-- The receiver's state as LINK READ shows it (R162, R163). -/
def Receiver.state : Receiver → ReceiverState
  | .off => .off
  | .on p => p.state

/-- A receiver that enters HUNT (R163). -/
def Receiver.hunting : Receiver := .on (.hunt [])

/-- Line bits at the receiver: how the first frame that ends in them ends, or the phase they leave. -/
def receive (c : RxConfig) : RxPhase → List Bool → RxPhase ⊕ RxEvent
  | p, [] => .inl p
  | p, b :: bs =>
    match p.step c b with
    | .inl p' => receive c p' bs
    | .inr e => .inr e

/-- Line bits at a receiver that is OFF or on: the receiver after them, and how a frame has ended. After the end of a frame the
receiver is in HUNT (R163); an OFF receiver takes nothing. -/
def Receiver.take (r : Receiver) (c : RxConfig) (line : List Bool) : Receiver × Option RxEvent :=
  match r with
  | .off => (.off, none)
  | .on p =>
    match receive c p line with
    | .inl p' => (.on p', none)
    | .inr e => (.hunting, some e)

/-- A receiver is within a frame (R164). -/
def Receiver.inFrame : Receiver → Bool
  | .on (.frame _) => true
  | _ => false

/-- A kind octet of a kind code: its three highest bits are clear, the Busy mark is ignored (R164, R169). -/
def isKind (code : Nat) (k : Octet) : Bool := (k &&& 0xE0#8) = 0#8 && (k &&& 0x0F#8) = BitVec.ofNat 8 code

/-! ### Loopback (R168) -/

/-- The test frame: address 0, kind POLL on port 2 or ANSWER on port 1, tag 0, sixty octets of 00h and the octets 1 to 60. -/
def testFrame (p : Port) : LinkFrame :=
  { address := 0
    kind := match p with | .supervisor => kindOctet 2 false | .fieldLoop => kindOctet 4 false
    tag := 0
    payload := List.replicate 60 0 ++ (List.range 60).map fun n => BitVec.ofNat 8 (n + 1) }

/-- What the transmitter sends in the loopback test: two sync pairs, the test frame and four more sync pairs. -/
def testLine (pair : SyncPair) (p : Port) : List Bool :=
  pair.idle 2 ++ (testFrame p).line ++ pair.idle 4

/-- The result of the loopback test on what the receiver saw: it passes when the receiver accepts the frame sent by the time
the four sync pairs after its check have been sent. -/
def loopbackPasses (pair : SyncPair) (p : Port) (line : List Bool) : Bool :=
  receive ⟨pair, fun _ => true⟩ (.hunt []) (line.take (testLine pair p).length) = .inr (.accepted (testFrame p))

/-! ### The checks of LINK SET on the sync pair (R162) -/

/-- The bits hold a run of seven or more zeros. -/
def hasSevenZeros : List Bool → Bool
  | [] => false
  | b :: bs => (!b && (bs.take 6).length = 6 && (bs.take 6).all (!·)) || hasSevenZeros bs

/-- The pair, taken twice in a row, occurs at none of the bit positions 1 to 15. -/
def SyncPair.locksOnce (p : SyncPair) : Bool :=
  (List.range 15).all fun i => ((p.bits ++ p.bits).drop (i + 1)).take 16 != p.bits

def SyncPair.valid (p : SyncPair) : Bool :=
  !hasSevenZeros (p.bits ++ p.bits) && (p.second &&& 0xE0#8) != 0#8 && p.locksOnce

/-- The default pair B4h 4Bh (R162). -/
def SyncPair.default : SyncPair := ⟨0xB4#8, 0x4B#8⟩

/-- The bit rates of the Field Loop (R162). -/
def bitRates : List Nat := [9600, 19200, 38400, 57600, 115200]

end Sys2Proof.Machine
end

