-- ==== Sys2Proof/Machine/Operands.lean ====
section
/-! DEFINITION. Machine/Operands.lean: the forms of operands and their FORMAT checks: packed BCD, dates, times, PIN digits,
numbers of objects, and the ENROL payload layout. -/
namespace Sys2Proof

open Sys2Proof.Machine

/-! ### Packed BCD (Conventions, R25) -/

def hiDigit (o : Octet) : Nat := (o >>> 4).toNat
def loDigit (o : Octet) : Nat := (o &&& 0x0F#8).toNat

/-- Neither digit is above 9. -/
def bcdValid (o : Octet) : Bool := hiDigit o ≤ 9 && loDigit o ≤ 9

/-- The value of a packed-BCD octet. -/
def bcdVal (o : Octet) : Nat := hiDigit o * 10 + loDigit o

/-- A number below 100 in packed BCD. -/
def toBcd (n : Nat) : Octet := BitVec.ofNat 8 (n / 10 * 16 + n % 10)

/-- One added with decimal adjust (R25): a low digit that becomes ten is set to 0 and 1 is added to the high digit. -/
def bcdInc (o : Octet) : Octet :=
  if loDigit o + 1 = 10 then BitVec.ofNat 8 ((hiDigit o + 1) * 16) else o + 1#8

/-! ### The calendar (R25, R31) -/

/-- The year is divisible by 4 (Conventions, Time). -/
def leapYear (year : Nat) : Bool := year % 4 = 0

/-- The last day of a month, from the month's and the year's value. -/
def lastDayVal (year month : Nat) : Nat :=
  if month = 2 then (if leapYear year then 29 else 28)
  else if month = 4 || month = 6 || month = 9 || month = 11 then 30
  else 31

/-- The last day of the month of a packed-BCD date, in packed BCD. -/
def lastDay (year month : Octet) : Octet := toBcd (lastDayVal (bcdVal year) (bcdVal month))

/-- Valid BCD, a month of 01 to 12 and a day of 01 to the last day of that month in that year (R5, R28). -/
def Date.valid (d : Date) : Bool :=
  bcdValid d.year && bcdValid d.month && bcdValid d.day &&
    1 ≤ bcdVal d.month && bcdVal d.month ≤ 12 &&
    1 ≤ bcdVal d.day && bcdVal d.day ≤ lastDayVal (bcdVal d.year) (bcdVal d.month)

/-- The six-digit number yymmdd of a date, as its octets order it (R3). -/
def Date.number (d : Date) : Nat := d.year.toNat * 65536 + d.month.toNat * 256 + d.day.toNat

/-- Valid BCD and within 00:00:00 to 23:59:59 (R28). -/
def Time.valid (t : Time) : Bool :=
  bcdValid t.hour && bcdValid t.minute && bcdValid t.second &&
    bcdVal t.hour ≤ 23 && bcdVal t.minute ≤ 59 && bcdVal t.second ≤ 59

/-- The four-digit number hhmm, from the octets (R31). -/
def HhMm.number (t : HhMm) : Nat := t.hour.toNat * 256 + t.minute.toNat

def HhMm.valid (t : HhMm) : Bool :=
  bcdValid t.hour && bcdValid t.minute && bcdVal t.hour ≤ 23 && bcdVal t.minute ≤ 59

/-- The previous calendar date; the day before 00-01-01 is 99-12-31 (R31). -/
def Date.previous (d : Date) : Date :=
  if bcdVal d.day ≠ 1 then { d with day := toBcd (bcdVal d.day - 1) }
  else if bcdVal d.month ≠ 1 then
    { d with month := toBcd (bcdVal d.month - 1), day := lastDay d.year (toBcd (bcdVal d.month - 1)) }
  else { year := toBcd ((bcdVal d.year + 99) % 100), month := toBcd 12, day := toBcd 31 }

/-- Days of the months before `month` in a year. -/
def daysBefore (year : Nat) : Nat → Nat
  | 0 => 0
  | 1 => 0
  | m + 1 => daysBefore year m + lastDayVal year m

/-- The day's number on the Site Clock's calendar, counted from 00-01-01. -/
def Date.dayNumber (d : Date) : Nat :=
  let y := bcdVal d.year
  y * 365 + (y + 3) / 4 + daysBefore y (bcdVal d.month) + bcdVal d.day

/-- The count of date rollovers that take `until_` to `now`, 0 when it does not lie before `now` (R15). DESIGN CHOICE (assumption 43): no
wrap past year 99. -/
def daysPast (until_ now : Date) : Nat := now.dayNumber - until_.dayNumber

/-! ### PIN digits (R2, R45, R46) -/

/-- The four digits of a stored PIN, first digit first. -/
def pinDigits (p : PinBcd) : List Nat :=
  [(p >>> 12).toNat, ((p >>> 8) &&& 0xF#16).toNat, ((p >>> 4) &&& 0xF#16).toNat, (p &&& 0xF#16).toNat]

/-- Every PIN octet is valid BCD (R5). -/
def pinValid (p : PinBcd) : Bool := (pinDigits p).all (· ≤ 9)

/-- The duress form: the last digit plus 1 with decimal adjust, 9 becoming 0 (R46). -/
def duressDigits (p : PinBcd) : List Nat :=
  match pinDigits p with
  | [a, b, c, d] => [a, b, c, (d + 1) % 10]
  | ds => ds

/-- The digits a presentation supplies: the first four (R38). -/
def keptDigits (ds : List Nat) : List Nat := ds.take 4

/-! ### Numbers of objects (Conventions, Numbering) -/

/-- Strongroom, zone or door 1 to 16. -/
def room? (n : Nat) : Option Room :=
  if h : 1 ≤ n ∧ n ≤ 16 then some ⟨n - 1, by omega⟩ else none

/-- Bank position 1 to 48. -/
def pos? (n : Nat) : Option Pos :=
  if h : 1 ≤ n ∧ n ≤ 48 then some ⟨n - 1, by omega⟩ else none

/-- Loop address 1 to 96. -/
def addr? (n : Nat) : Option Addr :=
  if h : 1 ≤ n ∧ n ≤ 96 then some ⟨n - 1, by omega⟩ else none

/-- Schedule 0 to 63. -/
def sched? (n : Nat) : Option Sched :=
  if h : n < 64 then some ⟨n, h⟩ else none

/-- Bearer number 1 to 4,095. -/
def bearerValid (n : Nat) : Bool := 1 ≤ n && n ≤ Config.maxBearers

/-- A token code other than 0 and all ones. -/
def tokenValid (t : Token) : Bool := t != 0#40 && t != BitVec.allOnes 40

/-- The class of a class octet (R170). -/
def class? (o : Octet) : Option Class :=
  match o.toNat with
  | 0 => some .visitor
  | 1 => some .contractor
  | 2 => some .staff
  | 3 => some .custodian
  | 4 => some .safetyOfficer
  | _ => none

/-- The class octet of a class. -/
def Class.code : Class → Octet
  | .visitor => 0
  | .contractor => 1
  | .staff => 2
  | .custodian => 3
  | .safetyOfficer => 4

/-- The lone-worker interval as stored (R6): 0 stays, 1 to 4 becomes 5, above 120 becomes 120. -/
def clampInterval (n : Nat) : Nat :=
  if n = 0 then 0 else if n < 5 then 5 else if 120 < n then 120 else n

/-! ### FORMAT checks of composed operands -/

/-- The FORMAT checks of R5 on an ENROL. -/
def EnrolArgs.formatOk (a : EnrolArgs) : Bool :=
  a.bearer ≤ Config.maxBearers && tokenValid a.token && (class? a.cls).isSome &&
    (match a.pin with | none => true | some p => pinValid p) &&
    a.validFrom.valid &&
    (match a.validUntil with | none => true | some d => d.valid && a.validFrom.number ≤ d.number) &&
    a.escortLimit ≤ 7

/-- The dates that an AMEND names stand in order where it names both: no record can change that test. -/
def AmendArgs.namedDatesInOrder (a : AmendArgs) : Bool :=
  match a.validFrom, a.validUntil with
  | some first, some (some last) => first.number ≤ last.number
  | _, _ => true

/-- The FORMAT checks of R5 on the fields an AMEND names. Where it names one date alone, the order is tested on the record (R7): DEDUCED
(assumption 41). -/
def AmendArgs.formatOk (a : AmendArgs) : Bool :=
  bearerValid a.bearer &&
    (match a.token with | none => true | some t => tokenValid t) &&
    (match a.cls with | none => true | some c => (class? c).isSome) &&
    (match a.pin with | some (some p) => pinValid p | _ => true) &&
    (match a.validFrom with | none => true | some d => d.valid) &&
    (match a.validUntil with | some (some d) => d.valid | _ => true) &&
    (match a.escortLimit with | none => true | some n => n ≤ 7) && a.namedDatesInOrder

/-- A permission content within R17: a non-empty strongroom set, a schedule of 0 to 63, rights with ENTER. -/
def PermContent.formatOk (c : PermContent) : Bool :=
  c.rooms != 0#16 && c.schedule ≤ 63 && c.rights.enter

/-- A window within R21: a non-empty day set and valid times. -/
def Window.formatOk (w : Window) : Bool :=
  w.days != 0#8 && w.start.valid && w.stop.valid

/-- A holiday date within R22; 29 February of every year is accepted. -/
def Holiday.formatOk : Holiday → Bool
  | .everyYear m d =>
    bcdValid m && bcdValid d && 1 ≤ bcdVal m && bcdVal m ≤ 12 && 1 ≤ bcdVal d && bcdVal d ≤ lastDayVal 0 (bcdVal m)
  | .dated y m d => Date.valid ⟨y, m, d⟩

/-- The date order of the holiday list: month and day, then every-year before dated, then the year (R22). -/
def Holiday.rank : Holiday → Nat
  | .everyYear m d => (m.toNat * 256 + d.toNat) * 512
  | .dated y m d => (m.toNat * 256 + d.toNat) * 512 + 1 + y.toNat

/-- The date is a holiday by this entry (R23). -/
def Holiday.covers (d : Date) : Holiday → Bool
  | .everyYear m day => m = d.month && day = d.day
  | .dated y m day => y = d.year && m = d.month && day = d.day

def ClockSetArgs.formatOk (a : ClockSetArgs) : Bool :=
  a.date.valid && a.time.valid && 1 ≤ a.weekday && a.weekday ≤ 7

/-- Each present key part is in its range (R94, R99). -/
def Machine.AlarmKey.formatOk (k : AlarmKey) : Bool :=
  (match k.room with | none => true | some n => 1 ≤ n && n ≤ 16) &&
    (match k.bearer with | none => true | some n => bearerValid n) &&
    (match k.station with | none => true | some n => n ≤ 96) &&
    (match k.point with | none => true | some n => 1 ≤ n && n ≤ 4)

/-- The kind-and-key an ALARM ACK or ALARM RESET names, unless FORMAT refuses it (R99). -/
def AlarmArgs.key? (a : AlarmArgs) : Option AlarmKey :=
  match a.kind with
  | none => none
  | some k =>
    let key : AlarmKey := ⟨k, a.room, a.bearer, a.station, a.point⟩
    if key.formatOk then some key else none

/-- The profile a PROFILE LOAD carries, when every field lies in its range or set of values (R173). The part implements no
feature, so every bit of the features octet is cleared. -/
def ProfileArgs.profile? (a : ProfileArgs) : Option Profile :=
  match a.knock, a.custody, sched? a.timeLock, a.pinAlways, a.lone with
  | some kn, some cu, some tl, some pa, some lw =>
    if 10 ≤ a.volume ∧ a.volume ≤ 9999 ∧ 250 ≤ a.factor ∧ a.factor ≤ 900 ∧ 1 ≤ a.limit ∧ a.limit ≤ 48 ∧
        10 ≤ a.delay ∧ a.delay ≤ 120 ∧ a.soak ≤ 60 ∧ 1 ≤ a.capacity ∧ a.capacity ≤ 32 ∧ 3 ≤ a.unlock ∧ a.unlock ≤ 30 ∧
        5 ≤ a.heldOpen ∧ a.heldOpen ≤ 600 ∧ 5 ≤ a.window ∧ a.window ≤ 60 ∧ 5 ≤ a.interval ∧ a.interval ≤ 120 then
      some
        { volume := a.volume, factor := a.factor, limit := a.limit, delay := a.delay, soak := a.soak, knock := kn
          capacity := a.capacity, unlock := a.unlock, heldOpen := a.heldOpen, window := a.window, custody := cu
          timeLock := tl, pinAlways := pa, lone := lw, interval := a.interval, features := 0 }
    else none
  | _, _, _, _, _ => none

/-! ### Stations (R148) -/

/-- The number of points of a station type. -/
def StationType.pointCount : StationType → Nat
  | .doorUnit => 4
  | .detectorIf => 2
  | .releaseUnit => 4
  | .callPoint => 4
  | _ => 0

/-- The persistence of point `i` (counted from 0) of a station type. -/
def StationType.persistence : StationType → Nat → Nat
  | .doorUnit, 3 => 2
  | .doorUnit, _ => 1
  | .releaseUnit, 3 => 1
  | _, _ => 2

/-- A type that binds its station to a strongroom (R148, R149). -/
def StationType.bound : StationType → Bool
  | .doorUnit | .checkIn | .detectorIf | .releaseUnit => true
  | _ => false

/-- The events fit the declared type: at most 4, at most 12 PIN digits each, 48 pressure flags (R157). -/
def Events.fit : Events → StationType → Bool
  | .nothing, t => t != .bankMonitor
  | .door ps, t => t = .doorUnit && ps.length ≤ 4 && ps.all fun p => p.digits.length ≤ 12 && p.digits.all (· ≤ 9)
  | .checkIn ps, t => t = .checkIn && ps.length ≤ 4 && ps.all fun p => p.digits.all (· ≤ 9)
  | .pendant ps, t => t = .pendantRx && ps.length ≤ 4
  | .pressure low, t => t = .bankMonitor && low.length = 48

/-- The report carries presentations or pendant reports. -/
def Events.any : Events → Bool
  | .door ps => !ps.isEmpty
  | .checkIn ps => !ps.isEmpty
  | .pendant ps => !ps.isEmpty
  | _ => false

/-- A report's declared type, when its payload is well formed for it: one state for each point of the type, events that fit,
and an event number that is 0 exactly without events (R152, R157). -/
def ReportFrame.declared? (r : ReportFrame) : Option StationType :=
  match r.declared with
  | none => none
  | some t =>
    if t ≠ .unassigned ∧ r.points.length = t.pointCount ∧ r.events.fit t = true ∧ r.eventNumber ≤ 255 ∧
        ((r.eventNumber = 0) ↔ (r.events.any = false)) then some t
    else none

/-! ### The ENROL payload (R170) -/

/-- The request codes (R170). -/
def requestCodes : List Nat :=
  [0x10, 0x11, 0x12, 0x13, 0x14, 0x15, 0x16, 0x17, 0x18, 0x19, 0x1A, 0x1B, 0x1C, 0x1D, 0x1E, 0x20, 0x21, 0x22, 0x23,
   0x30, 0x31, 0x32, 0x33, 0x40, 0x41, 0x42, 0x43, 0x50, 0x51, 0x52, 0x60, 0x61, 0x62, 0x63, 0x64, 0x70, 0x71, 0x72,
   0x80, 0x81, 0x90, 0x91, 0x92, 0xA0, 0xA1, 0xA2, 0xA3, 0xA4]

/-- The fields a 20-octet ENROL payload spells; `none` for another length or an undefined presence bit. -/
def EnrolArgs.decode : List Octet → Option EnrolArgs
  | [_, n0, n1, t0, t1, t2, t3, t4, cls, presence, p0, p1, fy, fm, fd, uy, um, ud, escort, interval] =>
    if presence &&& 0xFC#8 = 0#8 then
      some
        { bearer := n0.toNat + 256 * n1.toNat
          token := t4 ++ t3 ++ t2 ++ t1 ++ t0
          cls := cls
          pin := if presence.getLsbD 0 then some (p0 ++ p1) else none
          validFrom := ⟨fy, fm, fd⟩
          validUntil := if presence.getLsbD 1 then some ⟨uy, um, ud⟩ else none
          escortLimit := escort.toNat
          interval := interval.toNat }
    else none
  | _ => none

/-- The payload of an ENROL, the request code first; absent fields are sent as zeros. -/
def EnrolArgs.encode (a : EnrolArgs) : List Octet :=
  let until_ := a.validUntil.getD ⟨0, 0, 0⟩
  let pin := a.pin.getD 0
  [0x10#8, BitVec.ofNat 8 a.bearer, BitVec.ofNat 8 (a.bearer / 256),
   a.token.setWidth 8, (a.token >>> 8).setWidth 8, (a.token >>> 16).setWidth 8, (a.token >>> 24).setWidth 8,
   (a.token >>> 32).setWidth 8, a.cls,
   BitVec.ofNat 8 ((if a.pin.isSome then 1 else 0) + if a.validUntil.isSome then 2 else 0),
   (pin >>> 8).setWidth 8, pin.setWidth 8,
   a.validFrom.year, a.validFrom.month, a.validFrom.day, until_.year, until_.month, until_.day,
   BitVec.ofNat 8 a.escortLimit, BitVec.ofNat 8 a.interval]

/-! ### Tables by number -/

/-- The record at a number. -/
def Machine.Table.get {α : Type} : Table α → Nat → Option α
  | [], _ => none
  | (k, a) :: m, n => if k = n then some a else Table.get m n

/-- The table with a record stored, in rising order. -/
def Machine.Table.set {α : Type} : Table α → Nat → α → Table α
  | [], n, a => [(n, a)]
  | (k, b) :: m, n, a =>
    if n < k then (n, a) :: (k, b) :: m
    else if n = k then (n, a) :: m
    else (k, b) :: Table.set m n a

/-- The table without the record at a number. -/
def Machine.Table.erase {α : Type} (m : Table α) (n : Nat) : Table α := m.filter fun p => p.1 != n

/-- The record at a number changed, if there is one. -/
def Machine.Table.modify {α : Type} (m : Table α) (n : Nat) (f : α → α) : Table α := m.map fun p => if p.1 = n then (p.1, f p.2) else p

/-- Every record changed. -/
def Machine.Table.mapAll {α : Type} (m : Table α) (f : α → α) : Table α := m.map fun p => (p.1, f p.2)

/-- The lowest number of `lo`, `lo + 1`, … (`n` of them) that holds no record. -/
def Machine.Table.lowestFree {α : Type} (m : Table α) : Nat → Nat → Option Nat
  | _, 0 => none
  | lo, n + 1 => if (Table.get m lo).isSome then Table.lowestFree m (lo + 1) n else some lo

/-- The form of a table: rising numbers. -/
def Machine.Table.wf {α : Type} (m : Table α) : Bool := (m.map Prod.fst).Pairwise (· < ·)

/-! ### Fixed tables -/

/-- The numbers below `n`, in rising order. -/
def fins : (n : Nat) → List (Fin n)
  | 0 => []
  | n + 1 => 0 :: (fins n).map Fin.succ

theorem fins_length (n : Nat) : (fins n).length = n := by
  induction n with
  | zero => rfl
  | succ n ih => simp [fins, ih]

/-- The fixed table of a function. -/
def vgen {α : Type} {n : Nat} (f : Fin n → α) : Vector α n := ⟨⟨(fins n).map f⟩, by simp [fins_length]⟩

/-- One record of a fixed table changed. -/
def vmod {α : Type} {n : Nat} (v : Vector α n) (i : Fin n) (f : α → α) : Vector α n := v.set i (f v[i])

/-- The sixteen strongrooms in number order. -/
def rooms : List Room := fins 16

/-- The manual's number of a strongroom, zone or door. -/
def num {n : Nat} (i : Fin n) : Nat := i.val + 1

end Sys2Proof
end

