-- ==== Sys2Proof/Machine/State.lean ====
section
/-! DEFINITION. Machine/State.lean: the state of the block, why a step could stop, retained memory, and the state after a cold
start. State is plain data; every block's state is one field. -/
namespace Sys2Proof.Machine

open Sys2Proof

/-- Reasons for a fault. The spec gives every command an effect in every state, so there is none: no meaning raises a fault
(safe: the type is empty). -/
inductive Fault
  deriving DecidableEq, Repr

/-- Reasons for a refusal. -/
inductive Refusal
  /-- Raised by exec's arm of a command that has no meaning yet; no arm does so in this model. Safe: the model stops where
  the part goes on. -/
  | notModelled (mnemonic : String)
  deriving DecidableEq, Repr

/-- The whole machine. -/
structure State where
  /-- The commands that wait, first in, first out: the model's own queue. -/
  pending : List Instr
  bt : BearerTable
  clk : SiteClock
  ctx : Vector Context 16
  roll : Roll
  doors : Vector Door 16
  alarms : AlarmTable
  zones : Vector Zone 16
  bank : AgentBank
  loop : LoopMaster
  p1 : PortOne
  p2 : PortTwo
  sup : Handler
  lines : Lines
  /-- The model's own scratch list of notices the event in progress owes; empty between commands. -/
  due : List Due
  deriving DecidableEq, Repr

/-! ### Retained memory (R175) -/

/-- The retained fields of a zone (R112). -/
def Zone.retained (z : Zone) : RetainedZone :=
  ⟨z.state, z.disableCause, z.kind, z.envelopeOpen, z.flowSeen, z.unconfirmed⟩

/-- Retained memory as the state holds it (R175). -/
def State.retained (s : State) : Retained :=
  { bearers := s.bt
    siteSchedule := s.clk.siteSchedule, grace := s.clk.grace, override := s.clk.override
    roll := s.roll
    zones := s.zones.toList.map Zone.retained
    cylinders := s.bank.cylinders
    stations := s.loop.stations.toList.map fun st => (st.type, st.room)
    pair1 := s.p1.pair, mode1 := s.p1.mode, pair2 := s.p2.pair, rate2 := s.p2.rate
    unitAddress := s.sup.unitAddress
    profiles := s.sup.profiles }

/-- The check value over retained memory: the register of R160 over its octets (R175). -/
def Retained.check (r : Retained) : BitVec 16 := crc (Config.retainedOctets r)

/-! ### The values after a cold start -/

/-- R2, R4, R14, R16, R21, R22: nothing enrolled, entry 1 on top of the free list. -/
def BearerTable.cold : BearerTable :=
  { bearers := [], index := [], entries := [], freeList := List.range' 1 Config.maxPermEntries
    freeCount := Config.maxPermEntries, schedules := Vector.replicate 64 [], holidays := [], retention := 0 }

/-- R24. -/
def SiteClock.cold : SiteClock :=
  { date := ⟨0x00#8, 0x01#8, 0x01#8⟩, time := ⟨0, 0, 0⟩, weekday := 6, isSet := false, holidayToday := false
    inForce := (Vector.replicate 64 false).set 0 true
    siteSchedule := 1, grace := 15, siteState := .afterHours, override := .noOverride, graceTimer := none }

/-- R59 to R61. -/
def Roll.cold : Roll := { entries := [], rooms := Vector.replicate 16 ⟨[], false⟩, tick := 0 }

/-- R75: the record after any start, time lock not engaged and close demand clear. -/
def Door.cold : Door :=
  { state := .unknown, unknownCause := some .start, releaseKind := none, openCause := none, unlock := none
    heldOpen := .stopped, timeLock := false, closeDemand := false, lockdown := false, hold := false
    envelopeClosed := false, contact := none, bolt := none, egress := none, tamper := none }

def ZoneInputs.allNormal : ZoneInputs := ⟨.normal, .normal, .normal, .normal, .normal, .normal⟩

/-- R131. -/
def Zone.cold : Zone :=
  { state := .disabled, disableCause := .start, holds := ⟨false, false, false, false⟩, kind := .noKind
    remainder := 0, accumulated := 0, authorise := false, lastEnvelope := false, envelopeOpen := false
    flowSeen := false, unconfirmed := false, flowStart := none, discharge := none, soak := none
    inputs := .allNormal, countdownDue := false }

/-- R132. -/
def Cylinder.cold : Cylinder := ⟨.absent, none, none, false⟩

/-- R138: basis None; the required quantity of the default profile is 400 agent tenths. -/
def Coverage.cold : Coverage := ⟨.noBasis, 400, 0, 0, none, 0⟩

/-- R146. -/
def AgentBank.cold : AgentBank :=
  { cylinders := Vector.replicate 48 .cold, flags := Vector.replicate 48 .unknown, reservations := []
    manifold := none, waitQueue := [], coverage := Vector.replicate 16 .cold }

def Slots.clear : Slots := ⟨none, none, none, none⟩

/-- R147. -/
def Station.cold : Station :=
  { type := .unassigned, room := 0, state := .unconfigured, misses := 0, points := [], lastEvent := 0
    slots := .clear, lastAnswers := none }

def LoopMaster.cold : LoopMaster :=
  { stations := Vector.replicate 96 .cold, scan := 0, current := none, broadcastDue := none, answerDue := none
    yielded := false }

/-- The defaults of R173. -/
def Profile.default : Profile :=
  { volume := 100, factor := 400, limit := 8, delay := 30, soak := 10, knock := .double, capacity := 8, unlock := 5
    heldOpen := 30, window := 20, custody := .never, timeLock := 0, pinAlways := false, lone := .off
    interval := 30, features := 0 }

/-- The Supervisor Port at a start with these settings, both engines in service (R162, R166, R167, R176). -/
def PortOne.fresh (pair : SyncPair) (mode : LinkMode) : PortOne :=
  { pair := pair, mode := mode, txPair := pair, txMode := mode, rxPair := pair, rx := .hunting, tx := .idle, heldOff := false
    errorMark := false, overrun := false, requests := [], queue := [], marks := [], sending := none, turn := none
    dataLow := false }

/-- The Field Loop at a start with these settings, in service. -/
def PortTwo.fresh (pair : SyncPair) (rate : Nat) : PortTwo :=
  { pair := pair, rate := rate, usedPair := pair, usedRate := rate, newSettings := false, rx := .hunting, tx := .idle
    heldOff := false, dataLow := false }

/-- An all-zeros stamp (R94). -/
def Stamp.zeros : Stamp := ⟨⟨0, 0, 0⟩, ⟨0, 0, 0⟩⟩

/-- A key that names a kind alone. -/
def AlarmKey.bare (k : AlarmKind) : AlarmKey := ⟨k, none, none, none, none⟩

/-- The part with every retained item at its cold-start value and every block at its start, before start-up makes the first
alarm record and queues its notices. -/
def State.cold : State :=
  { pending := [], bt := .cold, clk := .cold, ctx := Vector.replicate 16 .empty, roll := .cold
    doors := Vector.replicate 16 .cold
    alarms := { records := [], overflow := false, general := false, fault := false }
    zones := Vector.replicate 16 .cold, bank := .cold, loop := .cold
    p1 := .fresh .default .direct, p2 := .fresh .default 38400
    sup :=
      { unitAddress := 1, sentAddress := 1, checkValue := 0, cause := .coldStart
        profiles := Vector.replicate 16 .default, linkTest := none, restartDue := false }
    lines := { mainOn := true, resetHigh := true, backupLost := false, mainsOk := true, inhibit := false }
    due := [] }

/-- The machine right after a cold start whose self-tests passed, with mains good and the inhibit line inactive: TABLES_LOST is
the first alarm record and drives the fault output (R94, R103), its ALARM notice and the SITE notice wait (R37, R96), and the
check value has been computed (R175). DESIGN CHOICE (assumption 10): the levels of the lines and the waiting notices. -/
def State.reset : State :=
  { State.cold with
    alarms :=
      { records := [⟨.bare .tablesLost, .active, .zeros, 0⟩], overflow := false, general := false, fault := true }
    p1 :=
      { PortOne.fresh .default .direct with
        queue := [.notice (.alarm (.bare .tablesLost) (.standing .active) .fault 0 .zeros),
                  .notice (.site .afterHours .noOverride false)] }
    sup := { State.cold.sup with checkValue := State.cold.retained.check } }

end Sys2Proof.Machine
end

