-- ==== Sys2Proof/Machine/Flags.lean ====
section
/-! DEFINITION. Machine/Flags.lean: every condition the blocks derive from state: alarm properties, roll tests, validity and
rights, window evaluation, outputs of doors and zones, hold reasons, coverage figures. Nothing here changes state. -/
namespace Sys2Proof

open Sys2Proof.Machine

/-! ### Alarm kinds (R95) -/

def AlarmKind.priority : AlarmKind → Priority
  | .duress | .panic | .manDown | .overdue | .zoneAlert | .zoneRelease | .releaseFailed => .life
  | .forced | .heldOpen | .escortLapse | .revokedInside | .pinLockout => .security
  | .stationMissing | .pointFault | .coverageShort | .rollUnreconciled | .zoneDisabled | .mainsFail | .tablesLost
  | .restarted => .fault

def AlarmKind.latching : AlarmKind → Bool
  | .duress | .panic | .manDown | .zoneRelease | .releaseFailed | .forced | .tablesLost | .restarted => true
  | _ => false

def AlarmKind.silent : AlarmKind → Bool
  | .duress => true
  | _ => false

/-! ### Rights and windows (R19, R20, R31), point conditions (R113) -/

/-- The rights of an entry that a class allows (R19). -/
def Rights.allowed (r : Rights) (c : Class) : Rights :=
  { enter := r.enter
    night := r.night
    custody := r.custody && c = .custodian
    escort := r.escort && (c = .staff || c = .custodian || c = .safetyOfficer)
    ventEntry := r.ventEntry && c = .safetyOfficer }

/-- Every right of `need` is among the rights. -/
def Rights.covers (have_ need : Rights) : Bool :=
  (!need.enter || have_.enter) && (!need.night || have_.night) && (!need.custody || have_.custody) &&
    (!need.escort || have_.escort) && (!need.ventEntry || have_.ventEntry)

/-- The entry names the strongroom (R20). -/
def PermContent.names (c : PermContent) (cls : Class) (r : Room) (need : Rights) : Bool :=
  c.rooms.getLsbD r.val && (Rights.allowed c.rights cls).covers need

/-- A window is in force at a time, from the day-kind tests of the date and the day before (R31). -/
def Window.inForce (w : Window) (today yesterday : BitVec 8 → Bool) (t : HhMm) : Bool :=
  if w.start.number < w.stop.number then today w.days && w.start.number ≤ t.number && t.number < w.stop.number
  else
    today w.days && w.start.number ≤ t.number || yesterday w.days && t.number < w.stop.number

/-- A zone's condition of an accepted point state (R113). -/
def PointState.condition : PointState → Condition
  | .normal => .normal
  | .active => .active
  | .openFault | .shortFault => .fault

end Sys2Proof

namespace Sys2Proof.Machine

open Sys2Proof

/-! ### The part and its ports -/

/-- The part runs: main supply present and RESET_N high (R175). -/
def State.running (s : State) : Bool := s.lines.mainOn && s.lines.resetHigh

/-- Free entries of the transmit queue (R167). -/
def PortOne.free (p : PortOne) : Nat := Config.transmitQueueSize - p.queue.length

/-- The Busy mark of a frame that begins now (R165). -/
def PortOne.busy (p : PortOne) : Bool := 6 ≤ p.requests.length

/-- A request addressed to every unit on the line is not answered (R170). -/
def RequestFrame.broadcast (f : RequestFrame) : Bool := f.address = 255#8

/-! ### Keys and records of the Alarm Table -/

def AlarmKey.forRoom (k : AlarmKind) (r : Room) : AlarmKey := ⟨k, some (num r), none, none, none⟩
def AlarmKey.forBearer (k : AlarmKind) (b : Nat) : AlarmKey := ⟨k, none, some b, none, none⟩
def AlarmKey.forRoomBearer (k : AlarmKind) (r : Room) (b : Nat) : AlarmKey := ⟨k, some (num r), some b, none, none⟩
def AlarmKey.forStation (k : AlarmKind) (a : Addr) : AlarmKey := ⟨k, none, none, some (num a), none⟩
/-- POINT_FAULT keyed by station and point numbers; station 0 is the part itself, its point the port (R168). -/
def AlarmKey.forPoint (station point : Nat) : AlarmKey := ⟨.pointFault, none, none, some station, some point⟩

/-- The record qualifies for the general-alarm output (R103). -/
def AlarmRecord.drivesGeneral (r : AlarmRecord) : Bool :=
  (r.key.kind.priority = .life || r.key.kind.priority = .security) && !r.key.kind.silent &&
    (r.state = .active || r.state = .restored)

/-- The outputs as R103 derives them from the table and the mark. -/
def AlarmTable.deriveGeneral (t : AlarmTable) : Bool := t.records.any AlarmRecord.drivesGeneral || t.overflow
def AlarmTable.deriveFault (t : AlarmTable) : Bool := t.records.any (fun r => r.key.kind.priority = .fault) || t.overflow

/-- The stamp of a record made now: all zeros while the clock is UNSET (R94). -/
def SiteClock.stamp (c : SiteClock) : Stamp := if c.isSet then ⟨c.date, c.time⟩ else .zeros

/-! ### The roll's tests (R71) -/

def State.headCount (s : State) (r : Room) : Nat := s.roll.rooms[r].list.length

def State.occupied (s : State) (r : Room) : Bool := 0 < s.headCount r || s.roll.rooms[r].unreconciled

def State.isLone (s : State) (r : Room) : Bool := s.headCount r = 1

/-- The entry of a bearer, with its number. -/
def State.entryOf (s : State) (b : Nat) : Option (Nat × OccEntry) := s.roll.entries.find? fun p => p.2.bearer = b

/-- Room for `n` more bearers (R48, R71). -/
def State.roomFor (s : State) (r : Room) (n : Nat) : Bool :=
  s.headCount r + n ≤ s.sup.profiles[r].capacity && s.roll.entries.length + n ≤ Config.maxOccEntries

/-- The entries in use that name a strongroom's list, in list order. -/
def State.entriesIn (s : State) (r : Room) : List (Nat × OccEntry) :=
  s.roll.rooms[r].list.filterMap fun e => (s.roll.entries.get e).map fun o => (e, o)

def State.lapsedCount (s : State) (r : Room) : Nat := ((s.entriesIn r).filter fun p => p.2.lapsed).length
def State.revokedCount (s : State) (r : Room) : Nat := ((s.entriesIn r).filter fun p => p.2.revokedInside).length

/-! ### Bearers, rights and chains (R3, R4, R19, R20) -/

/-- A lookup of a token code (R4): 0 and all ones are not found. -/
def State.findToken (s : State) (t : Token) : Option Nat :=
  if tokenValid t then s.bt.index.get t.toNat else none

/-- The bearer is in validity at the clock's date (R3). -/
def State.inValidity (s : State) (b : Bearer) : Bool :=
  s.clk.isSet && b.validFrom.number ≤ s.clk.date.number &&
    (match b.validUntil with | none => true | some d => s.clk.date.number ≤ d.number)

/-- The results of the chain walk (R20). -/
inductive Walk
  | matched (rights : Rights) | named | nothing
  deriving DecidableEq, Repr

/-- The schedule of a permission content is in force. -/
def SiteClock.schedInForce (c : SiteClock) (n : Nat) : Bool :=
  match sched? n with
  | none => false
  | some i => c.inForce[i]

/-- The chain walk from an entry, with the count left and whether an entry has named the strongroom (R20). -/
def State.chainWalk (s : State) (cls : Class) (r : Room) (need : Rights) : Nat → Nat → Bool → Walk
  | 0, _, named => if named then .named else .nothing
  | fuel + 1, entry, named =>
    match s.bt.entries.get entry with
    | none => if named then .named else .nothing
    | some e =>
      if e.content.names cls r need && s.clk.schedInForce e.content.schedule then .matched (Rights.allowed e.content.rights cls)
      else s.chainWalk cls r need fuel e.next (named || e.content.names cls r need)

/-- The entry numbers of a chain, head first (R16). -/
def BearerTable.chain (t : BearerTable) : Nat → Nat → List Nat
  | 0, _ => []
  | fuel + 1, entry =>
    match t.entries.get entry with
    | none => []
    | some e => entry :: t.chain fuel e.next

/-- The chain of a bearer record. -/
def BearerTable.chainOf (t : BearerTable) (b : Bearer) : List Nat := t.chain Config.maxChain b.chainHead

/-! ### Schedules and site state (R23, R30, R31, R34) -/

def isHoliday (hs : List Holiday) (d : Date) : Bool := hs.any (Holiday.covers d)

/-- The weekday before a weekday, 1 going to 7 (R31). -/
def weekdayBefore (w : Nat) : Nat := if w = 1 then 7 else w - 1

/-- The day kind of a date tested against a day set: bit 7 for Holiday, else the weekday's bit (R31). -/
def dayMatches (days : BitVec 8) (holiday : Bool) (weekday : Nat) : Bool :=
  if holiday then days.getLsbD 7 else 1 ≤ weekday && weekday ≤ 7 && days.getLsbD (weekday - 1)

/-- The in-force entry a schedule takes at an evaluation (R30): schedule 0 always, the others only while the clock is SET. -/
def State.evaluateSchedule (s : State) (i : Sched) : Bool :=
  if i = 0 then true
  else if !s.clk.isSet then false
  else
    let c := s.clk
    let before := c.date.previous
    (s.bt.schedules[i]).any fun w =>
      w.inForce (fun days => dayMatches days c.holidayToday c.weekday)
        (fun days => dayMatches days (isHoliday s.bt.holidays before) (weekdayBefore c.weekday))
        ⟨c.time.hour, c.time.minute⟩

/-- The site schedule is in force and the clock is SET: what the site state follows (R34). -/
def State.siteInForce (s : State) : Bool := s.clk.isSet && s.clk.inForce[s.clk.siteSchedule]

/-- The night rules apply under a site state (R49). -/
def SiteState.night : SiteState → Bool
  | .openHours => false
  | .closing | .afterHours => true

/-! ### Stations and points -/

/-- The station configured with a type and strongroom number; `STATION CONFIGURE` admits one at most (R149). -/
def State.stationOf (s : State) (t : StationType) (room : Nat) : Option Addr :=
  (fins 96).find? fun a => s.loop.stations[a].type = t && s.loop.stations[a].room = room

/-- A station that receives nothing (R151). -/
def Station.lost (st : Station) : Bool := st.state = .missing || st.state = .wrongType

/-- The strongroom a bound station serves (R148). -/
def Station.serves (st : Station) : Option Room := if st.type.bound then room? st.room else none

/-- A bank monitor is ONLINE at an address other than `a` (R136, R152). -/
def State.otherMonitorOnline (s : State) (a : Addr) : Bool :=
  (fins 96).any fun i => i ≠ a && s.loop.stations[i].type = .bankMonitor && s.loop.stations[i].state = .online

/-! ### Doors (R76, R86, R87) -/

/-- The contact is taken as open: OPEN, HELD or FORCED. -/
def Door.isOpen (d : Door) : Bool := d.state = .opened || d.state = .held || d.state = .forced

/-- The magnet demand: energised while Hold is set and the door stands open (R79, R87). -/
def Door.magnet (d : Door) : Bool := d.hold && d.isOpen

/-- The envelope as R86 derives it. -/
def Door.deriveEnvelope (d : Door) : Bool :=
  d.state ≠ .unknown && d.contact = some .normal && d.bolt = some .normal

/-- A closed door's state: TIME_LOCKED under an engaged lock, else SECURED. -/
def Door.closedState (d : Door) : DoorState := if d.timeLock then .timeLocked else .secured

/-- The rank of release kinds: Egress, Exit, Command, Entry (R77). -/
def ReleaseKind.rank : ReleaseKind → Nat
  | .entry => 0
  | .command => 1
  | .exit => 2
  | .egress => 3

/-- The kind a RELEASED door takes when a release finds it with a kind (R77). -/
def ReleaseKind.higher (held arriving : ReleaseKind) : ReleaseKind := if held.rank < arriving.rank then arriving else held

/-- A release a close demand or a lockdown cancels (R85, R88). -/
def Door.cancellable (d : Door) : Bool :=
  d.state = .released && (d.releaseKind = some .entry || d.releaseKind = some .command)

/-- The time lock a schedule calls for (R84). -/
def State.timeLockOf (s : State) (r : Room) : Bool :=
  s.sup.profiles[r].timeLock ≠ 0 && !s.clk.inForce[s.sup.profiles[r].timeLock]

/-! ### Zones (R114, R116, R119) -/

/-- The close demand a zone state sets (R114). -/
def ZoneState.demand : ZoneState → Bool
  | .held | .countdown | .waitBank | .discharging | .soak => true
  | _ => false

def ZoneState.sounder : ZoneState → Sounder
  | .disabled | .normal | .vent => .off
  | .alert => .alert
  | .held | .countdown | .waitBank => .countdown
  | .discharging | .soak => .discharge

def ZoneState.selectorOpen (z : ZoneState) : Bool := z = .discharging
def ZoneState.extraction (z : ZoneState) : Bool := z = .vent

/-- A state in which a pairing context may stand (R57, R114). -/
def ZoneState.quiet (z : ZoneState) : Bool := z = .normal || z = .alert || z = .disabled

/-- A state that passes stage 2 (R42). -/
def ZoneState.allowsEntry (z : ZoneState) : Bool := z = .normal || z = .alert || z = .disabled || z = .vent

/-- A state that holds a reservation (R133). -/
def ZoneState.reserving (z : ZoneState) : Bool := z = .held || z = .countdown || z = .waitBank || z = .discharging

/-- The hold reasons of a zone, from its inputs (R119). -/
def State.deriveHolds (s : State) (z : Room) : Holds :=
  let zn := s.zones[z]
  { abort := zn.inputs.abort = .active
    occupied := s.occupied z && zn.kind = .automatic && !zn.authorise
    lockout := zn.inputs.lockout = .active
    siteInhibit := s.lines.inhibit }

def Holds.any (h : Holds) : Bool := h.abort || h.occupied || h.lockout || h.siteInhibit

/-- The confirmation test (R116): the release kind it confirms with. -/
def ZoneInputs.confirms (i : ZoneInputs) (k : Knock) : Option SequenceKind :=
  if i.manual = .active then some .manual
  else if i.detectorA = .active && i.detectorB = .active then some .automatic
  else if k = .singleOnFault &&
      (i.detectorA = .active && i.detectorB = .fault || i.detectorA = .fault && i.detectorB = .active) then some .automatic
  else none

def ZoneInputs.detectorActive (i : ZoneInputs) : Bool := i.detectorA = .active || i.detectorB = .active

def ZoneInputs.detectorsNormal (i : ZoneInputs) : Bool := i.detectorA = .normal && i.detectorB = .normal

/-! ### Coverage (R137, R138) -/

/-- The required quantity in agent tenths. -/
def Profile.required (p : Profile) : Nat := (p.volume * p.factor + 99) / 100

/-- The achieved factor in per-mille. -/
def Profile.achieved (p : Profile) (sum : Nat) : Nat := min 999 (100 * sum / p.volume)

def gradeOf (required sum : Nat) : Grade := if required ≤ sum then .full else if sum = 0 then .nothing else .short

/-- The figures of a computation (R137 steps 3 and 4). -/
def Profile.figures (p : Profile) (basis : Basis) (sum count : Nat) : Coverage :=
  { basis := basis, required := p.required, sum := sum, achieved := p.achieved sum
    grade := some (gradeOf p.required sum), count := count }

/-- A walk: the running sum, the number of cylinders held and the positions taken so far. -/
structure BankWalk where
  sum : Nat
  count : Nat
  taken : List Pos
  deriving DecidableEq, Repr

/-- The walk of R137 step 2 over positions in order: it takes READY cylinders until the sum reaches `required` or the zone
has `limit` cylinders. -/
def bankWalk (cyls : Vector Cylinder 48) (required limit : Nat) : List Pos → BankWalk → BankWalk
  | [], w => w
  | p :: ps, w =>
    if required ≤ w.sum || limit ≤ w.count then w
    else if cyls[p].state = .ready then
      bankWalk cyls required limit ps ⟨w.sum + cyls[p].charge.getD 0, w.count + 1, w.taken ++ [p]⟩
    else bankWalk cyls required limit ps w

/-- The cylinder is RESERVED to the zone. -/
def Cylinder.reservedTo (c : Cylinder) (z : Room) : Bool := c.state = .reserved && c.zone = some z

/-- The positions RESERVED to a zone, in position order (R123, R143). -/
def AgentBank.reservedPositions (b : AgentBank) (z : Room) : List Pos :=
  (fins 48).filter fun p => b.cylinders[p].reservedTo z

/-- The sum of charges at positions. -/
def AgentBank.chargeSum (b : AgentBank) (ps : List Pos) : Nat := (ps.map fun p => b.cylinders[p].charge.getD 0).sum

/-- The positions of READY cylinders. -/
def AgentBank.readyPositions (b : AgentBank) : List Pos := (fins 48).filter fun p => b.cylinders[p].state = .ready

/-- The coverage record of a zone, from its state, the cylinders and its profile (R138, R142). -/
def State.coverageOf (s : State) (z : Room) : Coverage :=
  let p := s.sup.profiles[z]
  match s.zones[z].state with
  | .normal | .alert =>
    let w := bankWalk s.bank.cylinders p.required p.limit (fins 48) ⟨0, 0, []⟩
    p.figures .standing w.sum w.count
  | .held | .countdown | .waitBank | .discharging =>
    let ps := s.bank.reservedPositions z
    p.figures .reservation (s.bank.chargeSum ps) ps.length
  | .disabled | .soak | .vent => ⟨.noBasis, p.required, 0, 0, none, 0⟩

/-- A grade that COVERAGE_SHORT stands for (R142). -/
def Coverage.isShort (c : Coverage) : Bool := c.grade = some .short || c.grade = some .nothing

/-! ### Lone-worker supervision (R107) -/

/-- Supervision holds for the entries of a strongroom. -/
def State.supervised (s : State) (r : Room) : Bool :=
  match s.sup.profiles[r].lone with
  | .off => false
  | .always => true
  | .lone => s.isLone r
  | .night => s.clk.siteState = .afterHours

/-- A full interval of an entry's counter in second ticks: the bearer's interval when not 0, else the profile's default. -/
def State.loneLoad (s : State) (o : OccEntry) : Int :=
  let own := match s.bt.bearers.get o.bearer with | none => 0 | some b => b.interval
  60 * ((if own ≠ 0 then own else s.sup.profiles[o.room].interval : Nat) : Int)

end Sys2Proof.Machine
end

