-- ==== Sys2Proof/Machine/Ops.lean ====
section
/-! DEFINITION. Machine/Ops.lean: the shared operations on state: updates of one record, the Alarm Table's raise and restore, the
transmit queue with its notices, pairing-context drops, one-shot commands, the end of an event, and the taking and answering
of a request. -/
namespace Sys2Proof.Machine

open Sys2Proof

/-! ### Updates of one record -/

def State.setDoor (s : State) (r : Room) (d : Door) : State := { s with doors := s.doors.set r d }
def State.setZone (s : State) (r : Room) (z : Zone) : State := { s with zones := s.zones.set r z }
def State.setCtx (s : State) (r : Room) (c : Context) : State := { s with ctx := s.ctx.set r c }
def State.setStation (s : State) (a : Addr) (st : Station) : State :=
  { s with loop := { s.loop with stations := s.loop.stations.set a st } }
def State.setRoom (s : State) (r : Room) (x : RoomRecord) : State :=
  { s with roll := { s.roll with rooms := s.roll.rooms.set r x } }
def State.setEntries (s : State) (m : Table OccEntry) : State := { s with roll := { s.roll with entries := m } }
def State.setBearers (s : State) (m : Table Bearer) : State := { s with bt := { s.bt with bearers := m } }
def State.setCylinder (s : State) (p : Pos) (c : Cylinder) : State :=
  { s with bank := { s.bank with cylinders := s.bank.cylinders.set p c } }
def State.setCoverage (s : State) (z : Room) (c : Coverage) : State :=
  { s with bank := { s.bank with coverage := s.bank.coverage.set z c } }
def State.setAlarms (s : State) (t : AlarmTable) : State := { s with alarms := t }
def State.setPortOne (s : State) (p : PortOne) : State := { s with p1 := p }

/-- A notice or an object left for the end of the event. -/
def State.owe (s : State) (d : Due) : State := { s with due := s.due ++ [d] }

/-! ### The Alarm Table (R96 to R98, R102) -/

/-- An ALARM notice of a standing record. -/
def AlarmRecord.notice (r : AlarmRecord) : Notice :=
  .alarm r.key (.standing r.state) r.key.kind.priority r.repeats r.raisedAt

/-- An ALARM notice of a record that has left the table. -/
def AlarmRecord.goneNotice (r : AlarmRecord) (shown : AlarmShown) : Notice :=
  .alarm r.key shown r.key.kind.priority 0 r.raisedAt

/-- A raise on a record that stands (R96). -/
def AlarmRecord.raisedAgain (r : AlarmRecord) : AlarmRecord :=
  { r with
    repeats := min 255 (r.repeats + 1)
    state := match r.state with | .restored | .awaitReset => .active | st => st }

/-- The classes of evictable records in the order R98 tries them for a new record's priority. -/
def evictionSteps : Priority → List (AlarmRecord → Bool)
  | p =>
    let ackedFault : AlarmRecord → Bool := fun r =>
      r.key.kind.priority = .fault && (r.state = .acked || r.state = .awaitReset)
    let ackedSecurity : AlarmRecord → Bool := fun r => r.key.kind.priority = .security && r.state = .acked
    let openFault : AlarmRecord → Bool := fun r =>
      r.key.kind.priority = .fault && (r.state = .active || r.state = .restored)
    match p with
    | .fault => [ackedFault]
    | .security => [ackedFault, ackedSecurity]
    | .life => [ackedFault, ackedSecurity, openFault]

/-- The record R98 evicts: the first found, class by class, nearest the head of the list. -/
def victim? (records : List AlarmRecord) (p : Priority) : Option AlarmRecord :=
  (evictionSteps p).findSome? fun test => records.find? test

/-- A raise of a kind-and-key (R96, R98). -/
def State.raiseAlarm (s : State) (k : AlarmKey) : State :=
  match s.alarms.records.find? fun r => r.key = k with
  | some r =>
    { s with
      alarms := { s.alarms with records := s.alarms.records.map fun x => if x.key = k then x.raisedAgain else x }
      due := s.due ++ [.notice r.raisedAgain.notice] }
  | none =>
    let fresh : AlarmRecord := ⟨k, .active, s.clk.stamp, 0⟩
    if s.alarms.records.length < Config.maxAlarms then
      { s with
        alarms := { s.alarms with records := s.alarms.records ++ [fresh] }
        due := s.due ++ [.notice fresh.notice] }
    else
      match victim? s.alarms.records k.kind.priority with
      | some v =>
        { s with
          alarms := { s.alarms with records := s.alarms.records.erase v ++ [fresh] }
          due := s.due ++ [.notice (v.goneNotice .evicted), .notice fresh.notice] }
      | none =>
        { s with
          alarms := { s.alarms with overflow := true }
          due := s.due ++ [.notice (.alarm k .notStored k.kind.priority 0 .zeros)] }

/-- A record whose condition has gone: its new state, or `none` when it is retired (R97). -/
def AlarmRecord.conditionGone (r : AlarmRecord) : Option AlarmRecord :=
  match r.state with
  | .active => some { r with state := .restored }
  | .acked => if r.key.kind.latching then some { r with state := .awaitReset } else none
  | .restored | .awaitReset => some r

/-- The notice of a change from a record to what `f` makes of it, none when nothing changes. -/
def AlarmRecord.changeNotice (r : AlarmRecord) (new : Option AlarmRecord) : List Due :=
  match new with
  | none => [.notice (r.goneNotice .retired)]
  | some r' => if r' = r then [] else [.notice r'.notice]

/-- The conditions of a group of records are gone (R97); a retirement clears the Overflow mark (R98). -/
def State.alarmsGone (s : State) (group : AlarmKey → Bool) : State :=
  let change := fun (r : AlarmRecord) => if group r.key then r.conditionGone else some r
  { s with
    alarms :=
      { s.alarms with
        records := s.alarms.records.filterMap change
        overflow := s.alarms.overflow && s.alarms.records.all fun r => (change r).isSome }
    due := s.due ++ s.alarms.records.flatMap fun r => r.changeNotice (change r) }

/-- The condition of one kind-and-key is gone. -/
def State.alarmGone (s : State) (k : AlarmKey) : State := s.alarmsGone fun x => x = k

/-! ### Pairing contexts (R57) -/

/-- The bearer a context names. -/
def Context.bearer? : Context → Option Nat
  | .empty => none
  | .custody _ _ b _ => some b
  | .escort _ _ b _ => some b

/-- The door's context becomes NONE. -/
def State.dropContext (s : State) (r : Room) : State := { s with ctx := s.ctx.set r .empty }

/-- Every context that a test picks becomes NONE. -/
def State.dropContexts (s : State) (test : Room → Context → Bool) : State :=
  { s with ctx := vgen fun r => if test r s.ctx[r] then .empty else s.ctx[r] }

/-- The contexts that name a bearer are dropped (R12). -/
def State.dropBearerContexts (s : State) (b : Nat) : State := s.dropContexts fun _ c => c.bearer? = some b

/-- The ESCORT contexts of an entry that leaves the roll are dropped (R57, R64). -/
def State.dropEscortContexts (s : State) (e : Nat) : State :=
  s.dropContexts fun _ c => match c with | .escort _ _ _ entry => entry = e | _ => false

/-! ### One-shot commands (R151) -/

/-- The pending commands of a station changed, unless it receives nothing. -/
def State.placeAt (s : State) (a : Option Addr) (f : Slots → Slots) : State :=
  match a with
  | none => s
  | some a => if s.loop.stations[a].lost then s
    else s.setStation a { s.loop.stations[a] with slots := f s.loop.stations[a].slots }

/-- A bolt command for the door unit of a door. -/
def State.placeBolt (s : State) (r : Room) (c : BoltCommand) : State :=
  s.placeAt (s.stationOf .doorUnit (num r)) fun sl => { sl with bolt := some ⟨c, false⟩ }

/-- An undelivered cancel is withdrawn from the slot of a door's unit: no bolt command follows an egress push (R76, R83). -/
def Slots.withoutCancel (sl : Slots) : Slots := { sl with bolt := sl.bolt.filter fun x => x.command ≠ .cancel }

def State.dropCancel (s : State) (r : Room) : State := s.placeAt (s.stationOf .doorUnit (num r)) Slots.withoutCancel

/-- A tone for the check-in station of a strongroom. -/
def State.placeTone (s : State) (r : Room) (t : Tone) : State :=
  s.placeAt (s.stationOf .checkIn (num r)) fun sl => { sl with tone := some ⟨t, false⟩ }

/-- The fire command for the release unit of a zone. -/
def State.placeFire (s : State) (r : Room) (ps : List Pos) : State :=
  s.placeAt (s.stationOf .releaseUnit (num r)) fun sl => { sl with fire := some ⟨ps, false⟩ }

/-! ### Notices (R167, R174) -/

/-- The object a notice names. -/
def Notice.object : Notice → NoticeObject
  | .alarm k _ _ _ _ => .alarm k
  | .zone z _ _ _ _ _ _ _ _ => .zone z
  | .door d _ _ _ _ _ _ _ _ => .door d
  | .roll r _ _ _ _ _ => .roll r
  | .cylinder p _ _ _ => .cylinder p
  | .coverage z _ => .coverage z
  | .station a _ _ _ => .station a
  | .site _ _ _ => .site
  | .bearer n _ _ => .bearer n

/-- The notice of an object, built from its state as it stands (R174). -/
def State.buildNotice (s : State) : NoticeObject → Notice
  | .alarm k =>
    match s.alarms.records.find? fun r => r.key = k with
    | some r => r.notice
    | none => .alarm k .retired k.kind.priority 0 .zeros
  | .zone z =>
    let x := s.zones[z]
    .zone z x.state x.disableCause x.holds x.kind x.authorise x.envelopeOpen x.unconfirmed x.remainder
  | .door d =>
    let x := s.doors[d]
    .door d x.state x.releaseKind x.openCause x.timeLock x.closeDemand x.lockdown x.hold x.envelopeClosed
  | .roll r => .roll r (s.headCount r) s.roll.rooms[r].unreconciled (s.lapsedCount r) (s.revokedCount r) s.roll.tick
  | .cylinder p => .cylinder p s.bank.cylinders[p].state s.bank.cylinders[p].charge s.bank.cylinders[p].zone
  | .coverage z => .coverage z s.bank.coverage[z]
  | .station a => .station a s.loop.stations[a].type s.loop.stations[a].room s.loop.stations[a].state
  | .site => .site s.clk.siteState s.clk.override s.clk.isSet
  | .bearer n =>
    match s.bt.bearers.get n with
    | none => .bearer n none 0
    | some b => .bearer n (some b.state) b.failedPin

/-- An entry is a waiting notice of an object. -/
def TxEntry.isNoticeOf (o : NoticeObject) : TxEntry → Bool
  | .notice n => n.object = o
  | .answer _ _ => false

/-- A notice is queued (R167): it replaces a waiting notice of its object in place, or takes a new entry while two are free
and no mark stands for it, or sets a pending mark. A port held OFF takes none. -/
def PortOne.queueNotice (p : PortOne) (n : Notice) : PortOne :=
  if p.heldOff then p
  else if p.queue.any (TxEntry.isNoticeOf n.object) then
    { p with queue := p.queue.map fun e => if e.isNoticeOf n.object then TxEntry.notice n else e }
  else if p.marks.contains n.object then p
  else if 2 ≤ p.free then { p with queue := p.queue ++ [.notice n] }
  else { p with marks := p.marks ++ [n.object] }

def State.queueNotice (s : State) (n : Notice) : State := { s with p1 := s.p1.queueNotice n }

/-- Owed work done: the notice is queued, built now where only its object is owed. -/
def State.payDue (s : State) : Due → State
  | .notice n => s.queueNotice n
  | .object o => s.queueNotice (s.buildNotice o)

/-- The pending marks served in order while two entries are free (R167). -/
def State.serveMarks (s : State) : List NoticeObject → State
  | [] => { s with p1 := { s.p1 with marks := [] } }
  | o :: rest =>
    if 2 ≤ s.p1.free then
      State.serveMarks { s with p1 := { s.p1 with queue := s.p1.queue ++ [.notice (s.buildNotice o)] } } rest
    else { s with p1 := { s.p1 with marks := o :: rest } }

/-! ### The end of an event -/

/-- The fields of a zone whose change queues a ZONE notice (R130). -/
def Zone.reported (z : Zone) := (z.state, z.disableCause, z.holds, z.kind, z.authorise, z.envelopeOpen, z.unconfirmed)

/-- The fields of a door whose change queues a DOOR notice (R90). -/
def Door.reported (d : Door) := (d.state, d.releaseKind, d.openCause, d.timeLock, d.closeDemand, d.lockdown, d.hold)

/-- What a ROLL notice reports a change of (R73). -/
def State.rollReported (s : State) (r : Room) : RollReport :=
  ⟨s.headCount r, s.roll.rooms[r].unreconciled,
    (s.entriesIn r).map fun p => ⟨p.1, p.2.revokedInside, p.2.lapsed, p.2.link, p.2.escorted⟩⟩

/-- The fields of a coverage record whose change queues a BANK notice (R145). -/
def Coverage.reported (c : Coverage) := (c.basis, c.sum, c.achieved, c.grade, c.count)

/-- The site's reported state (R36). -/
def SiteClock.reported (c : SiteClock) := (c.siteState, c.override, c.isSet)

/-- A bearer record's reported state (R12). -/
def State.bearerReported (s : State) (n : Nat) := (s.bt.bearers.get n).map fun b => (b.state, b.failedPin)

/-- The bearer numbers whose reported state differs, in number order but for records enrolled by the event. -/
def changedBearers (o n : State) : List Nat :=
  ((o.bt.bearers.map Prod.fst) ++ (n.bt.bearers.map Prod.fst).filter fun k => (o.bt.bearers.get k).isNone).filter
    fun k => o.bearerReported k ≠ n.bearerReported k

/-- The objects an event has changed, in the order their notices are queued. DESIGN CHOICE (assumption 20): one fixed order. -/
def changedObjects (o n : State) : List NoticeObject :=
  (if o.clk.reported = n.clk.reported then [] else [.site]) ++
  (changedBearers o n).map .bearer ++
  (rooms.filter fun r => o.doors[r].reported ≠ n.doors[r].reported).map .door ++
  (rooms.filter fun r => o.rollReported r ≠ n.rollReported r).map .roll ++
  (rooms.filter fun r => o.zones[r].reported ≠ n.zones[r].reported).map .zone ++
  ((fins 48).filter fun p => o.bank.cylinders[p] ≠ n.bank.cylinders[p]).map .cylinder ++
  (rooms.filter fun r => o.bank.coverage[r].reported ≠ n.bank.coverage[r].reported).map .coverage ++
  ((fins 96).filter fun a =>
      (o.loop.stations[a].type, o.loop.stations[a].room, o.loop.stations[a].state) ≠
        (n.loop.stations[a].type, n.loop.stations[a].room, n.loop.stations[a].state)).map .station

/-- COVERAGE_SHORT follows the change of a zone's grade over the event (R142). DEDUCED (assumption 21): start and end compared. -/
def State.coverageAlarm (s : State) (o : State) (z : Room) : State :=
  match o.bank.coverage[z].isShort, s.bank.coverage[z].isShort with
  | false, true => s.raiseAlarm (.forRoom .coverageShort z)
  | true, false => s.alarmGone (.forRoom .coverageShort z)
  | _, _ => s

/-- The zones by number, after every other alarm change of the event. DESIGN CHOICE (assumption 57). -/
def State.coverageAlarms (s o : State) : State := rooms.foldl (fun s z => s.coverageAlarm o z) s

/-- The event has left the table and the Overflow mark as they were. -/
def State.sameTable (s o : State) : Bool :=
  decide (o.alarms.records = s.alarms.records) && o.alarms.overflow == s.alarms.overflow

/-- Both outputs are derived again when the event has changed the table or the mark (R103). -/
def State.deriveOutputs (s o : State) : State :=
  { s with
    alarms :=
      { s.alarms with
        general := if s.sameTable o then s.alarms.general else s.alarms.deriveGeneral
        fault := if s.sameTable o then s.alarms.fault else s.alarms.deriveFault } }

/-- The notices an event owes are queued, then those of the objects it has changed. -/
def State.flush (s o : State) : State :=
  (s.due ++ (changedObjects o s).map Due.object).foldl State.payDue { s with due := [] }

/-- The check value is updated by every event that writes retained memory (R175). DEDUCED (assumption 22): at its end. -/
def State.updateCheck (s o : State) : State :=
  { s with
    sup := { s.sup with checkValue := if o.retained = s.retained then s.sup.checkValue else s.retained.check } }

/-- The end of the event that took the part from `o` to `s`. -/
def State.finish (o s : State) : State :=
  let s := s.coverageAlarms o
  let s := s.deriveOutputs o
  let s := s.flush o
  s.updateCheck o

/-- A whole event. -/
def State.event (s : State) (f : State → State) : State := State.finish s (f s)

/-! ### Requests (R167, R170) -/

/-- What a request's owner gives back for its answer. -/
structure Reply where
  code : AnswerCode
  contents : Contents
  after : AfterSent := .nothing
  deriving DecidableEq, Repr

/-- An OK answer with contents. -/
def Reply.ok (c : Contents) : Reply := ⟨.ok, c, .nothing⟩

/-- A refused request: the code, and no change. -/
def refuse (c : AnswerCode) (s : State) : State × Reply := (s, ⟨c, .nothing, .nothing⟩)

/-- A request the Supervisor Request Handler can take now: the part runs, port 1 is in service, no LINK TEST is unanswered and
no RESTART waits for its reset, and a transmit entry is free unless no answer will be queued (R167, R170). -/
def State.canTake (s : State) (f : RequestFrame) : Bool :=
  s.running && !s.p1.heldOff && s.sup.linkTest.isNone && !s.sup.restartDue && (f.broadcast || 1 ≤ s.p1.free)

/-- The request at the head of the queue, taken, when it is one the test picks. -/
def State.takeRequest (s : State) (test : List Octet → Bool) : Option (RequestFrame × State) :=
  match s.p1.requests with
  | [] => none
  | f :: rest => if test f.payload && s.canTake f then some (f, { s with p1 := { s.p1 with requests := rest } }) else none

/-- A payload begins with a request code. -/
def hasCode (code : Nat) (payload : List Octet) : Bool := payload.head? = some (BitVec.ofNat 8 code)

/-- An entry is an answer. -/
def TxEntry.isAnswer : TxEntry → Bool
  | .answer _ _ => true
  | .notice _ => false

/-- What the sending of an answer brings about on the link settings and the address (R162, R171); the settings open a turn
in Shared mode when an answer waits. -/
def State.applyAfter (s : State) : AfterSent → State
  | .nothing => s
  | .linkSettings pair mode =>
    { s with
      p1 :=
        { s.p1 with
          txPair := pair, txMode := mode
          turn :=
            match mode, s.p1.txMode with
            | .direct, _ => none
            | .shared, .shared => s.p1.turn
            | .shared, .direct => if s.p1.queue.any TxEntry.isAnswer then some 0 else none } }
  | .unitAddress a => { s with sup := { s.sup with sentAddress := a } }
  | .restart => { s with sup := { s.sup with restartDue := true } }

/-- A newer setting of the same kind takes the place of one that still waits for its answer. -/
def AfterSent.overrides : AfterSent → AfterSent → Bool
  | .linkSettings _ _, .linkSettings _ _ => true
  | .unitAddress _, .unitAddress _ => true
  | _, _ => false

/-- An entry without the after-effect that a newer setting overrides. -/
def TxEntry.without (new : AfterSent) : TxEntry → TxEntry
  | .answer a old => .answer a (if new.overrides old then .nothing else old)
  | .notice n => .notice n

/-- Port 1 without the waiting after-effects that a newer setting overrides, in the queue and in the frame being sent. -/
def PortOne.without (p : PortOne) (new : AfterSent) : PortOne :=
  { p with
    queue := p.queue.map (TxEntry.without new)
    sending := p.sending.map fun f => { f with entry := f.entry.without new } }

/-- What a broadcast request would bring about once answered follows at once, over what waits for an earlier answer (R162, R170,
R171). DESIGN CHOICE (assumption 24). -/
def State.applyNow (s : State) (new : AfterSent) : State :=
  State.applyAfter { s with p1 := s.p1.without new } new

/-- The answer is queued at the tail and opens a turn in Shared mode (R165); a broadcast request is not answered. -/
def State.answer (s : State) (f : RequestFrame) (code : Octet) (r : Reply) : State :=
  if f.broadcast then s.applyNow r.after
  else
    { s with
      p1 :=
        { s.p1 with
          queue := s.p1.queue ++ [.answer ⟨f.tag, code, r.code, r.contents⟩ r.after]
          turn := if s.p1.txMode = .shared then some (s.p1.turn.getD 0) else s.p1.turn } }

/-- A taken request carried out as one event and answered. -/
def State.carryOut (s : State) (f : RequestFrame) (code : Octet) (body : RequestFrame → State → State × Reply) : State :=
  (State.finish s (body f s).1).answer f code (body f s).2

/-- A request that a command serves: the head of the queue, when its payload is one the test picks, is taken, carried out and
answered under its own request code. DESIGN CHOICE (assumption 2): with another request at the head, or while the handler cannot take it,
nothing changes. -/
def serveWhen (test : List Octet → Bool) (body : RequestFrame → State → State × Reply) (s : State) :
    Host.Outcome State Fault Refusal :=
  match s.takeRequest test with
  | none => .next s
  | some (f, s1) => .next (s1.carryOut f (f.payload.headD 0) body)

/-- A request whose payload begins with a code. -/
def serve (code : Nat) (body : RequestFrame → State → State × Reply) (s : State) : Host.Outcome State Fault Refusal :=
  serveWhen (hasCode code) body s

/-- A request whose payload carries fields: FORMAT when it does not spell them, as one of the code alone does not (R170). -/
def serveFields {α : Type} (code : Nat) (a : Option α) (body : α → State → State × Reply) (s : State) :
    Host.Outcome State Fault Refusal :=
  serve code
    (fun f s =>
      match a with
      | none => refuse .format s
      | some a => if 2 ≤ f.payload.length then body a s else refuse .format s) s

/-- A request that carries no fields: FORMAT for any payload longer than its code (R170). -/
def serveBare (code : Nat) (body : RequestFrame → State → State × Reply) (s : State) : Host.Outcome State Fault Refusal :=
  serve code (fun f s => if f.payload.length = 1 then body f s else refuse .format s) s

/-- An event the part takes only while it runs (R175, R176). -/
def whenRunning (s : State) (t : State) : Host.Outcome State Fault Refusal := .next (if s.running then t else s)

end Sys2Proof.Machine
end

