-- ==== Sys2Proof/Machine/Bank.lean ====
section
/-! DEFINITION. Machine/Bank.lean: the Agent Bank (chapter 8): reservation, top-up, release, accounting, standing coverage,
pressure flags, and the meanings of CYLINDER SET, CYLINDER READ and BANK READ. -/
namespace Sys2Proof.Machine

open Sys2Proof

/-! ### Coverage records (R138, R142) -/

/-- One zone's coverage record computed afresh. -/
def State.refreshCoverage (s : State) (z : Room) : State := s.setCoverage z (s.coverageOf z)

/-- Every zone's coverage record computed afresh, at the end of an event that changes cylinders. -/
def State.refreshAll (s : State) : State := { s with bank := { s.bank with coverage := vgen s.coverageOf } }

/-! ### Reservations (R139 to R141) -/

/-- Cylinders become RESERVED to a zone. -/
def State.reserveAll (s : State) (z : Room) (ps : List Pos) : State :=
  { s with
    bank :=
      { s.bank with
        cylinders := vgen fun p =>
          if ps.contains p then { s.bank.cylinders[p] with state := .reserved, zone := some z } else s.bank.cylinders[p] } }

/-- The part of a top-up that serves one zone (R140): a DISCHARGING zone and a FULL zone are passed over. -/
def State.topUpZone (s : State) (z : Room) : State :=
  let p := s.sup.profiles[z]
  let held := s.bank.reservedPositions z
  let sum := s.bank.chargeSum held
  if s.zones[z].state = .discharging then s
  else if p.required ≤ sum then s
  else s.reserveAll z (bankWalk s.bank.cylinders p.required p.limit (fins 48) ⟨sum, held.length, []⟩).taken

/-- A top-up in list order, with the coverage records after it (R140, R142). -/
def State.topUp (s : State) : State := (s.bank.reservations.foldl State.topUpZone s).refreshAll

/-- The reservation at confirmation (R139). -/
def State.reserve (s : State) (z : Room) : State :=
  let p := s.sup.profiles[z]
  let s := { s with bank := { s.bank with reservations := s.bank.reservations ++ [z] } }
  (s.reserveAll z (bankWalk s.bank.cylinders p.required p.limit (fins 48) ⟨0, 0, []⟩).taken).refreshAll

/-- Every cylinder RESERVED to a zone changed. -/
def State.changeReserved (s : State) (z : Room) (f : Cylinder → Cylinder) : State :=
  { s with
    bank :=
      { s.bank with
        cylinders := vgen fun p => if s.bank.cylinders[p].reservedTo z then f s.bank.cylinders[p] else s.bank.cylinders[p] } }

/-- The zone leaves the reservation list (R141, R144). -/
def State.leaveReservations (s : State) (z : Room) : State :=
  { s with bank := { s.bank with reservations := s.bank.reservations.filter (· ≠ z) } }

/-- A reservation is released (R141). -/
def State.releaseReservation (s : State) (z : Room) : State :=
  ((s.changeReserved z fun c => { c with state := .ready, zone := none }).leaveReservations z).topUp

/-- Accounting, list and manifold after a discharge (R144 steps 1 to 4, before the grant): SPENT after a completion, FAULT
after a failure. -/
def State.account (s : State) (z : Room) (complete : Bool) : State :=
  let s := (s.changeReserved z fun c =>
    { c with state := if complete then .spent else .fault, zone := none, deferredLow := false }).leaveReservations z
  { s with bank := { s.bank with manifold := none } }.refreshAll

/-! ### Pressure flags (R136) -/

/-- A flag newly set to low acts on the cylinder at its position. -/
def State.cylinderLow (s : State) (p : Pos) : Cylinder :=
  let c := s.bank.cylinders[p]
  match c.state, c.zone with
  | .ready, _ => { c with state := .fault }
  | .reserved, some z =>
    if s.zones[z].state = .discharging then { c with deferredLow := true } else { c with state := .fault, zone := none }
  | _, _ => c

/-- A position whose flag is newly low. -/
def State.newlyLow (s : State) (low : List Bool) (p : Pos) : Bool := low.getD p.val false && s.bank.flags[p] ≠ .low

/-- A bank monitor's 48 flags replace the held ones; a top-up follows when a cylinder has left a reservation. -/
def State.takeFlags (s : State) (low : List Bool) : State :=
  let cyls : Vector Cylinder 48 := vgen fun p => if s.newlyLow low p then s.cylinderLow p else s.bank.cylinders[p]
  let left := (fins 48).any fun p => s.bank.cylinders[p].state = .reserved && cyls[p].state = .fault
  let n := { s with bank := { s.bank with cylinders := cyls, flags := vgen fun p => if low.getD p.val false then .low else .normal } }
  if left then n.topUp else if cyls = s.bank.cylinders then n else n.refreshAll

/-- Every flag becomes unknown (R136). -/
def State.flagsUnknown (s : State) : State := { s with bank := { s.bank with flags := Vector.replicate 48 .unknown } }

/-! ### CYLINDER SET (R134) -/

/-- The state of a cylinder that comes into service: FAULT while its flag stands low. -/
def State.inService (s : State) (p : Pos) : CylinderState := if s.bank.flags[p] = .low then .fault else .ready

/-- The consequences of a changed cylinder in the same event. -/
def State.afterCylinder (s : State) (offered : Bool) : State := if offered then s.topUp else s.refreshAll

def installBody (a : InstallArgs) (s : State) : State × Reply :=
  match pos? a.position with
  | none => refuse .format s
  | some p =>
    if a.charge = 0 || 999 < a.charge then refuse .format s
    else if s.bank.cylinders[p].state ≠ .absent then refuse .state s
    else
      let st := s.inService p
      (((s.setCylinder p { s.bank.cylinders[p] with state := st, charge := some a.charge }).afterCylinder (st = .ready)),
        .ok (.cylinderState st))

def isolateBody (position : Nat) (s : State) : State × Reply :=
  match pos? position with
  | none => refuse .format s
  | some p =>
    let c := s.bank.cylinders[p]
    match c.state, c.zone with
    | .ready, _ => ((s.setCylinder p { c with state := .isolated }).afterCylinder false, .ok (.cylinderState .isolated))
    | .reserved, some z =>
      if s.zones[z].state = .discharging then refuse .state s
      else ((s.setCylinder p { c with state := .isolated, zone := none }).afterCylinder true, .ok (.cylinderState .isolated))
    | _, _ => refuse .state s

def returnBody (position : Nat) (s : State) : State × Reply :=
  match pos? position with
  | none => refuse .format s
  | some p =>
    let c := s.bank.cylinders[p]
    if c.state = .isolated || c.state = .fault then
      let st := s.inService p
      ((s.setCylinder p { c with state := st, deferredLow := false }).afterCylinder (st = .ready), .ok (.cylinderState st))
    else refuse .state s

def removeBody (position : Nat) (s : State) : State × Reply :=
  match pos? position with
  | none => refuse .format s
  | some p =>
    let c := s.bank.cylinders[p]
    if c.state = .reserved then refuse .state s
    else if c.state = .absent then (s, .ok (.cylinderState .absent))
    else ((s.setCylinder p { c with state := .absent, charge := none }).afterCylinder false, .ok (.cylinderState .absent))

/-- CYLINDER SET Install (R134). -/
def execCylinderInstall (a : Option InstallArgs) (s : State) : Host.Outcome State Fault Refusal := serveFields 0x70 a installBody s

/-- CYLINDER SET Isolate (R134). -/
def execCylinderIsolate (position : Option Nat) (s : State) : Host.Outcome State Fault Refusal :=
  serveFields 0x70 position isolateBody s

/-- CYLINDER SET Return (R134). -/
def execCylinderReturn (position : Option Nat) (s : State) : Host.Outcome State Fault Refusal :=
  serveFields 0x70 position returnBody s

/-- CYLINDER SET Remove (R134). -/
def execCylinderRemove (position : Option Nat) (s : State) : Host.Outcome State Fault Refusal :=
  serveFields 0x70 position removeBody s

/-! ### CYLINDER READ and BANK READ (R135) -/

def cylinderReadBody (position : Nat) (s : State) : State × Reply :=
  match pos? position with
  | none => refuse .format s
  | some p =>
    let c := s.bank.cylinders[p]
    let zoneState := if c.state = .reserved then c.zone.map fun z => s.zones[z].state else none
    (s, .ok (.cylinder c zoneState s.bank.flags[p]))

/-- The six states in the order of R132. -/
def cylinderStates : List CylinderState := [.ready, .reserved, .spent, .isolated, .fault, .absent]

def AgentBank.stateCount (b : AgentBank) (st : CylinderState) : Nat :=
  ((fins 48).filter fun p => b.cylinders[p].state = st).length

def bankReadBody (_ : RequestFrame) (s : State) : State × Reply :=
  let b := s.bank
  let lists := b.reservations.map fun z => (z, (b.reservedPositions z).length, b.coverage[z].grade)
  (s, .ok (.bank b.manifold b.waitQueue lists (cylinderStates.map fun st => (st, b.stateCount st))
    (b.chargeSum b.readyPositions)))

/-- CYLINDER READ (R135). -/
def execCylinderRead (position : Option Nat) (s : State) : Host.Outcome State Fault Refusal :=
  serveFields 0x71 position cylinderReadBody s

/-- BANK READ (R135). -/
def execBankRead (s : State) : Host.Outcome State Fault Refusal := serveBare 0x72 bankReadBody s

end Sys2Proof.Machine
end

