-- ==== Sys2Proof/Machine/DoorCore.lean ====
section
/-! DEFINITION. Machine/DoorCore.lean: the parts of the Door Controller (chapter 5) that other blocks act through: the held-open
timer, the envelope, the close demand, and a door that becomes UNKNOWN. -/
namespace Sys2Proof.Machine

open Sys2Proof

/-! ### The held-open timer (R82) -/

/-- The end of an expired timer while the door is open: the HELD_OPEN condition is gone and a HELD door is OPEN. -/
def State.endExpired (s : State) (r : Room) : State :=
  let d := s.doors[r]
  if d.heldOpen = .expired then
    (s.setDoor r { d with state := if d.state = .held then .opened else d.state }).alarmGone (.forRoom .heldOpen r)
  else s

/-- The timer set to a value that is not expired while the door is open. -/
def State.resetHeld (s : State) (r : Room) (t : HeldTimer) : State :=
  let s := s.endExpired r
  s.setDoor r { s.doors[r] with heldOpen := t }

/-- The timer loaded with the allowance. -/
def State.loadHeld (s : State) (r : Room) : State := s.resetHeld r (.running s.sup.profiles[r].heldOpen)

/-- The timer stopped. -/
def State.stopHeld (s : State) (r : Room) : State := s.resetHeld r .stopped

/-- Hold is cleared and an open door's timer is loaded (R85, R88). -/
def State.dropHold (s : State) (r : Room) : State :=
  let s := s.setDoor r { s.doors[r] with hold := false }
  if s.doors[r].isOpen then s.loadHeld r else s

/-! ### The envelope (R86) -/

/-- An envelope report to the zone. -/
def State.reportEnvelope (s : State) (r : Room) : State :=
  s.setZone r { s.zones[r] with lastEnvelope := s.doors[r].envelopeClosed }

/-- The envelope derived again; its change is reported while the close demand is set. -/
def State.deriveEnvelope (s : State) (r : Room) : State :=
  let d := s.doors[r]
  let s := s.setDoor r { d with envelopeClosed := d.deriveEnvelope }
  if d.closeDemand && d.envelopeClosed != d.deriveEnvelope then s.reportEnvelope r else s

/-! ### Cancels and the close demand (R85, R88) -/

/-- A release of kind Entry or Command is cancelled. -/
def State.cancelRelease (s : State) (r : Room) : State :=
  let d := s.doors[r]
  if d.cancellable then
    (s.placeBolt r .cancel).setDoor r { d with state := d.closedState, releaseKind := none, unlock := none }
  else s

/-- The close demand as the zone's state sets it; only a change has effects. -/
def State.setCloseDemand (s : State) (r : Room) (demand : Bool) : State :=
  let d := s.doors[r]
  if d.closeDemand = demand then s
  else
    let s := s.setDoor r { d with closeDemand := demand }
    if demand then ((s.dropHold r).cancelRelease r).reportEnvelope r else s

/-! ### Loss of the door unit (R92) -/

/-- The door becomes UNKNOWN. -/
def State.doorUnknown (s : State) (r : Room) (cause : UnknownCause) : State :=
  let s := s.setDoor r
    { s.doors[r] with
      state := .unknown, unknownCause := some cause, releaseKind := none, openCause := none, unlock := none
      heldOpen := .stopped, hold := false }
  let s := (s.alarmGone (.forRoom .heldOpen r)).alarmGone (.forRoom .forced r)
  let s := (s.dropContext r).deriveEnvelope r
  s.owe (.object (.door r))

/-- The door unit's points are not known any more (R152). -/
def State.doorPointsLost (s : State) (r : Room) : State :=
  s.setDoor r { s.doors[r] with contact := none, bolt := none, egress := none, tamper := none }

end Sys2Proof.Machine
end

