-- ==== Sys2Proof/Machine/Zones.lean ====
section
/-! DEFINITION. Machine/Zones.lean: the Suppression Sequencer (chapter 7): states and their outputs, confirmation, hold reasons,
countdown end, discharge, soak and vent, and the meanings of the zone requests, the zone expiries and INHIBIT_CHANGE. -/
namespace Sys2Proof.Machine

open Sys2Proof

/-! ### Changes of state (R114) -/

/-- The zone enters a state: the close demand, the bank's coverage record and the pairing context follow. -/
def State.enterZone (s : State) (z : Room) (st : ZoneState) : State :=
  let s := s.setZone z { s.zones[z] with state := st }
  let s := (s.setCloseDemand z st.demand).refreshCoverage z
  if st.quiet then s else s.dropContext z

/-! ### Hold reasons (R119, R120, R122) -/

/-- The zone leaves the manifold's wait queue. -/
def State.leaveQueue (s : State) (z : Room) : State :=
  { s with bank := { s.bank with waitQueue := s.bank.waitQueue.filter (· ≠ z) } }

/-- The hold reasons act on the state in HELD, COUNTDOWN and WAIT_BANK. -/
def State.actOnHolds (s : State) (z : Room) : State :=
  let zn := s.zones[z]
  match zn.state, zn.holds.any with
  | .countdown, true => (s.setZone z { zn with countdownDue := false }).enterZone z .held
  | .waitBank, true => ((s.leaveQueue z).setZone z { zn with remainder := 0 }).enterZone z .held
  | .held, false =>
    (s.setZone z { zn with remainder := max zn.remainder Config.countdownRestart }).enterZone z .countdown
  | _, _ => s

/-- The hold reasons derived afresh, with their effect. -/
def State.rederive (s : State) (z : Room) : State :=
  (s.setZone z { s.zones[z] with holds := s.deriveHolds z }).actOnHolds z

/-! ### Alert and confirmation (R115 to R117) -/

/-- Confirmation with a release kind. -/
def State.confirm (s : State) (z : Room) (k : SequenceKind) : State :=
  let s := s.setZone z { s.zones[z] with kind := k }
  let s := (s.raiseAlarm (.forRoom .zoneRelease z)).reserve z
  let s := s.setZone z
    { s.zones[z] with
      remainder := s.sup.profiles[z].delay, accumulated := 0, countdownDue := false, holds := s.deriveHolds z }
  s.enterZone z (if s.zones[z].holds.any then .held else .countdown)

/-- The live inputs tested in NORMAL and ALERT. -/
def State.testInputs (s : State) (z : Room) : State :=
  let zn := s.zones[z]
  if zn.state = .normal || zn.state = .alert then
    match zn.inputs.confirms s.sup.profiles[z].knock with
    | some k => s.confirm z k
    | none =>
      if zn.state = .normal && zn.inputs.detectorActive then
        (s.enterZone z .alert).raiseAlarm (.forRoom .zoneAlert z)
      else s
  else s

/-! ### The manifold and discharge (R122 to R126, R143, R144) -/

/-- The manifold is granted to the zone, which enters DISCHARGING (R123). -/
def State.grant (s : State) (z : Room) : State :=
  let s := { s with bank := { s.bank with manifold := some z } }
  let s := s.setZone z
    { s.zones[z] with
      envelopeOpen := !s.zones[z].lastEnvelope, flowSeen := false
      flowStart := some Config.flowStartWindow, discharge := some Config.dischargeWindow }
  (s.placeFire z (s.bank.reservedPositions z)).enterZone z .discharging

/-- The zone asks for the manifold (R122). -/
def State.askManifold (s : State) (z : Room) : State :=
  if s.bank.manifold = none ∧ s.bank.waitQueue = [] then s.grant z
  else { s with bank := { s.bank with waitQueue := s.bank.waitQueue ++ [z] } }.enterZone z .waitBank

/-- The free manifold goes to the head of the wait queue (R143). -/
def State.grantNext (s : State) : State :=
  match s.bank.waitQueue with
  | [] => s
  | z :: rest => { s with bank := { s.bank with waitQueue := rest } }.grant z

/-- The end of a discharge: accounting, the manifold passed on, and SOAK, or VENT when the soak time is 0. -/
def State.endDischarge (s : State) (z : Room) (complete : Bool) : State :=
  let s := s.setZone z { s.zones[z] with flowStart := none, discharge := none }
  let s := (s.account z complete).grantNext
  let soak := s.sup.profiles[z].soak
  if soak = 0 then s.enterZone z .vent
  else (s.setZone z { s.zones[z] with soak := some (60 * soak) }).enterZone z .soak

/-- The discharge completes (R124). DEDUCED (assumption 50): SPENT however the timer and the flow switch stood. -/
def State.completeDischarge (s : State) (z : Room) : State := s.endDischarge z true

/-- The flow-start window has passed without flow (R125). -/
def State.failDischarge (s : State) (z : Room) : State :=
  let s := s.raiseAlarm (.forRoom .releaseFailed z)
  (s.setZone z { s.zones[z] with unconfirmed := true }).endDischarge z false

/-! ### Inputs (R113, R118, R124) -/

/-- A manual release accepted Active overrides an Automatic sequence that has not discharged (R118). -/
def State.manualOverride (s : State) (z : Room) : State :=
  let zn := s.zones[z]
  if (zn.state = .held || zn.state = .countdown || zn.state = .waitBank) && zn.kind = .automatic then
    (s.setZone z { zn with kind := .manual }).raiseAlarm (.forRoom .zoneRelease z)
  else s

/-- The flow switch is followed in DISCHARGING (R124). -/
def State.followFlow (s : State) (z : Room) : State :=
  let zn := s.zones[z]
  if zn.state ≠ .discharging then s
  else
    match zn.inputs.flow with
    | .active => s.setZone z { zn with flowSeen := true, flowStart := none }
    | .normal => if zn.flowSeen then s.completeDischarge z else s
    | .fault => s

/-- The points that an event changes for a zone are taken as one event, on the inputs as they stand at its end. -/
def State.zoneInputs (s : State) (z : Room) (new : ZoneInputs) : State :=
  let old := s.zones[z].inputs
  let s := s.setZone z { s.zones[z] with inputs := new }
  let s := if old.manual ≠ .active ∧ new.manual = .active then s.manualOverride z else s
  let s := s.rederive z
  let s :=
    if old.detectorA ≠ new.detectorA ∨ old.detectorB ≠ new.detectorB ∨ old.manual ≠ new.manual then s.testInputs z else s
  if old.flow ≠ new.flow then s.followFlow z else s

/-- INHIBIT_CHANGE: the line's level is taken, and each zone derives its hold reasons (R113, R177). -/
def execInhibitChange (active : Bool) (s : State) : Host.Outcome State Fault Refusal :=
  let t := { s with lines := { s.lines with inhibit := active } }
  .next (if s.running then State.finish s (rooms.foldl State.rederive t) else t)

/-! ### Expiries -/

/-- The last tick of the countdown: the remainder reaches 0 and the manifold is asked for (R120, R122). -/
def State.endCountdown (s : State) (z : Room) : State :=
  let zn := s.zones[z]
  (s.setZone z
    { zn with remainder := 0, accumulated := min Config.accumulatedTop (zn.accumulated + 1), countdownDue := false }).askManifold z

/-- The countdown's end is due. -/
def State.countdownIsDue (s : State) (z : Room) : Bool := s.zones[z].state = .countdown && s.zones[z].countdownDue

/-- The discharge timer's expiry is due. -/
def State.dischargeIsDue (s : State) (z : Room) : Bool := s.zones[z].state = .discharging && s.zones[z].discharge = some 0

/-- The flow-start timer's expiry is due. -/
def State.flowStartIsDue (s : State) (z : Room) : Bool := s.zones[z].state = .discharging && s.zones[z].flowStart = some 0

/-- The soak timer's expiry is due. -/
def State.soakIsDue (s : State) (z : Room) : Bool := s.zones[z].state = .soak && s.zones[z].soak = some 0

/-- The soak ends (R126). -/
def State.endSoak (s : State) (z : Room) : State := (s.setZone z { s.zones[z] with soak := none }).enterZone z .vent

/-- An expiry, as one event, when it is due and the part runs. -/
def expiry (due : Bool) (f : State → State) (s : State) : State := if s.running && due then s.event f else s

def State.takeCountdownEnd (s : State) (z : Room) : State := expiry (s.countdownIsDue z) (·.endCountdown z) s
def State.takeDischargeExpiry (s : State) (z : Room) : State := expiry (s.dischargeIsDue z) (·.completeDischarge z) s
def State.takeFlowStartExpiry (s : State) (z : Room) : State := expiry (s.flowStartIsDue z) (·.failDischarge z) s
def State.takeSoakExpiry (s : State) (z : Room) : State := expiry (s.soakIsDue z) (·.endSoak z) s

/-- COUNTDOWN_END (R122). -/
def execCountdownEnd (z : Room) (s : State) : Host.Outcome State Fault Refusal := .next (s.takeCountdownEnd z)

/-- DISCHARGE_TIMER_EXPIRY (R124). -/
def execDischargeTimerExpiry (z : Room) (s : State) : Host.Outcome State Fault Refusal := .next (s.takeDischargeExpiry z)

/-- FLOW_START_TIMER_EXPIRY (R125). -/
def execFlowStartTimerExpiry (z : Room) (s : State) : Host.Outcome State Fault Refusal := .next (s.takeFlowStartExpiry z)

/-- SOAK_TIMER_EXPIRY (R126). -/
def execSoakTimerExpiry (z : Room) (s : State) : Host.Outcome State Fault Refusal := .next (s.takeSoakExpiry z)

/-! ### Zone requests (R121, R127, R128, R130) -/

/-- A request that names a zone, door or strongroom 1 to 16: FORMAT outside. -/
def withRoom (n : Nat) (s : State) (body : Room → State × Reply) : State × Reply :=
  match room? n with
  | none => refuse .format s
  | some r => body r

/-- The zone reaches NORMAL by ZONE RESET (R127). -/
def State.reachNormal (s : State) (z : Room) : State :=
  let s := s.setZone z
    { s.zones[z] with
      kind := .noKind, remainder := 0, accumulated := 0, authorise := false, envelopeOpen := false, flowSeen := false
      unconfirmed := false }
  let s := s.alarmsGone fun k =>
    k = .forRoom .zoneAlert z || k = .forRoom .zoneRelease z || k = .forRoom .releaseFailed z
  let s := s.enterZone z .normal
  (s.rederive z).testInputs z

/-- ZONE RESET is accepted (R127). -/
def Zone.resettable (zn : Zone) : Bool :=
  match zn.state with
  | .alert => zn.inputs.detectorsNormal
  | .held => !zn.inputs.detectorActive && zn.inputs.manual ≠ .active
  | .vent => zn.inputs.detectorsNormal && zn.inputs.manual ≠ .active
  | _ => false

/-- The answer that carries the zone's state after the request. -/
def State.zoneReply (s : State) (z : Room) : State × Reply := (s, .ok (.zoneState s.zones[z].state))

def zoneResetBody (n : Nat) (s : State) : State × Reply :=
  withRoom n s fun z =>
    if s.zones[z].resettable then
      let s := if s.zones[z].state = .held then s.releaseReservation z else s
      (s.reachNormal z).zoneReply z
    else refuse .state s

/-- The zone enters DISABLED by ZONE DISABLE (R128). DESIGN CHOICE (assumption 60): ZONE_ALERT ends before ZONE_DISABLED is raised. -/
def State.disableZone (s : State) (z : Room) : State :=
  let s := if s.zones[z].state = .alert then s.alarmGone (.forRoom .zoneAlert z) else s
  let s := (s.setZone z { s.zones[z] with disableCause := .request }).enterZone z .disabled
  s.raiseAlarm (.forRoom .zoneDisabled z)

def zoneDisableBody (n : Nat) (s : State) : State × Reply :=
  withRoom n s fun z =>
    match s.zones[z].state with
    | .normal | .alert => (s.disableZone z).zoneReply z
    | .disabled => s.zoneReply z
    | _ => refuse .state s

def zoneEnableBody (n : Nat) (s : State) : State × Reply :=
  withRoom n s fun z =>
    if s.zones[z].state = .disabled then
      let s := if s.zones[z].disableCause = .request then s.alarmGone (.forRoom .zoneDisabled z) else s
      ((s.enterZone z .normal).testInputs z).zoneReply z
    else refuse .state s

def releaseAuthoriseBody (n : Nat) (s : State) : State × Reply :=
  withRoom n s fun z =>
    if s.zones[z].state = .held || s.zones[z].state = .countdown then
      let s := (s.setZone z { s.zones[z] with authorise := true }).rederive z
      (s, .ok (.authorised s.zones[z].state s.zones[z].holds))
    else refuse .state s

/-- The zone's place in the wait queue, or 0 (R130). -/
def AgentBank.place (b : AgentBank) (z : Room) : Nat :=
  match b.waitQueue.findIdx? (· = z) with
  | none => 0
  | some i => i + 1

/-- A zone as ZONE READ shows it: every field but the model's own mark (R130). -/
def Zone.view (zn : Zone) : ZoneView :=
  { state := zn.state, disableCause := zn.disableCause, holds := zn.holds, kind := zn.kind, authorise := zn.authorise
    remainder := zn.remainder, accumulated := zn.accumulated, flowStart := zn.flowStart, discharge := zn.discharge
    soak := zn.soak, lastEnvelope := zn.lastEnvelope, envelopeOpen := zn.envelopeOpen, flowSeen := zn.flowSeen
    unconfirmed := zn.unconfirmed, inputs := zn.inputs }

def zoneReadBody (n : Nat) (s : State) : State × Reply :=
  withRoom n s fun z => (s, .ok (.zone s.zones[z].view (s.bank.place z) s.bank.coverage[z]))

/-- ZONE RESET (R127). -/
def execZoneReset (zone : Option Nat) (s : State) : Host.Outcome State Fault Refusal := serveFields 0x60 zone zoneResetBody s

/-- ZONE DISABLE (R128). -/
def execZoneDisable (zone : Option Nat) (s : State) : Host.Outcome State Fault Refusal :=
  serveFields 0x61 zone zoneDisableBody s

/-- ZONE ENABLE (R128). -/
def execZoneEnable (zone : Option Nat) (s : State) : Host.Outcome State Fault Refusal :=
  serveFields 0x62 zone zoneEnableBody s

/-- RELEASE AUTHORISE (R121). -/
def execReleaseAuthorise (zone : Option Nat) (s : State) : Host.Outcome State Fault Refusal :=
  serveFields 0x63 zone releaseAuthoriseBody s

/-- ZONE READ (R130). -/
def execZoneRead (zone : Option Nat) (s : State) : Host.Outcome State Fault Refusal := serveFields 0x64 zone zoneReadBody s

end Sys2Proof.Machine
end

