-- ==== Sys2Proof/Machine/Alarms.lean ====
section
/-! DEFINITION. Machine/Alarms.lean: lone-worker supervision, check-ins, pendants and call points, and the meanings of ALARM ACK,
ALARM RESET, ALARM READ, LONE_WORKER_PROMPT and LONE_WORKER_EXPIRY (chapter 6). -/
namespace Sys2Proof.Machine

open Sys2Proof

/-! ### Starting and stopping (R107, R110) -/

/-- An entry changed. -/
def State.modEntry (s : State) (e : Nat) (f : OccEntry → OccEntry) : State := s.setEntries (s.roll.entries.modify e f)

/-- The OVERDUE key of an entry. -/
def OccEntry.overdueKey (o : OccEntry) : AlarmKey := .forRoomBearer .overdue o.room o.bearer

/-- The counter loaded with a full interval and the state RUNNING. -/
def State.loadCounter (s : State) (e : Nat) (o : OccEntry) : State :=
  s.modEntry e fun x => { x with counter := s.loneLoad o, checkIn := .running, promptDue := false }

/-- The re-test of one entry. -/
def State.retestEntry (s : State) (e : Nat) : State :=
  match s.roll.entries.get e with
  | none => s
  | some o =>
    match s.supervised o.room, o.checkIn with
    | true, .off => s.loadCounter e o
    | true, _ => s
    | false, .off => s
    | false, _ =>
      (s.modEntry e fun x => { x with counter := 0, checkIn := .off, promptDue := false }).alarmGone o.overdueKey

/-- The re-test of a strongroom's entries. -/
def State.retest (s : State) (r : Room) : State := s.roll.rooms[r].list.foldl State.retestEntry s

/-! ### Prompt and expiry (R108) -/

/-- The entry's prompt is due. -/
def State.promptIsDue (s : State) (e : Nat) : Bool :=
  match s.roll.entries.get e with
  | none => false
  | some o => o.promptDue && o.checkIn ≠ .off

/-- The entry's counter has run out. -/
def State.overdueIsDue (s : State) (e : Nat) : Bool :=
  match s.roll.entries.get e with
  | none => false
  | some o => o.checkIn ≠ .off && o.counter = 0

/-- The prompt: RUNNING becomes PROMPTED, and the tone is asked for. -/
def State.prompt (s : State) (e : Nat) : State :=
  match s.roll.entries.get e with
  | none => s
  | some o =>
    (s.modEntry e fun x =>
      { x with promptDue := false, checkIn := if x.checkIn = .running then .prompted else x.checkIn }).placeTone o.room .prompt

/-- The expiry: OVERDUE is raised and the counter loaded again. -/
def State.overdue (s : State) (e : Nat) : State :=
  match s.roll.entries.get e with
  | none => s
  | some o =>
    ((s.loadCounter e o).modEntry e fun x => { x with checkIn := .overdue }).raiseAlarm o.overdueKey

def State.takePrompt (s : State) (e : Nat) : State := expiry (s.promptIsDue e) (·.prompt e) s
def State.takeOverdue (s : State) (e : Nat) : State := expiry (s.overdueIsDue e) (·.overdue e) s

/-- LONE_WORKER_PROMPT (R108). -/
def execLoneWorkerPrompt (entry : Nat) (s : State) : Host.Outcome State Fault Refusal := .next (s.takePrompt entry)

/-- LONE_WORKER_EXPIRY (R108). -/
def execLoneWorkerExpiry (entry : Nat) (s : State) : Host.Outcome State Fault Refusal := .next (s.takeOverdue entry)

/-! ### Check-ins, pendants and call points (R105, R106, R109) -/

/-- A check-in for the bearer of an entry. -/
def State.checkIn (s : State) (e : Nat) (o : OccEntry) : State :=
  let s := if o.checkIn = .off then s else s.loadCounter e o
  (s.alarmGone o.overdueKey).alarmsGone fun k => (k.kind = .duress || k.kind = .manDown) && k.bearer = some o.bearer

/-- A presentation at the check-in station of a strongroom. -/
def State.checkInPresentation (s : State) (r : Room) (p : CheckInPresentation) : State × ReaderAnswer :=
  match s.findToken p.token with
  | none => (s, .notInside)
  | some b =>
    match s.entryOf b with
    | none => (s, .notInside)
    | some (e, o) => if o.room = r then (s.checkIn e o, .checkedIn) else (s, .notInside)

/-- The DURESS key of a bearer: the strongroom is that of the bearer's entry, or absent (R106). -/
def State.pendantDuressKey (s : State) (b : Nat) : AlarmKey :=
  match s.entryOf b with
  | none => .forBearer .duress b
  | some (_, o) => .forRoomBearer .duress o.room b

/-- A pendant report heard by the receiver at an address. -/
def State.pendant (s : State) (a : Addr) (p : PendantReport) : State :=
  match s.findToken p.token, p.button with
  | some b, .checkIn => match s.entryOf b with | none => s | some (e, o) => s.checkIn e o
  | some b, .duress => s.raiseAlarm (s.pendantDuressKey b)
  | some b, .tilt => s.raiseAlarm (.forBearer .manDown b)
  | none, .checkIn => s
  | none, .duress => s.raiseAlarm (.forStation .duress a)
  | none, .tilt => s.raiseAlarm (.forStation .manDown a)

/-- An accepted change of a call point: Active raises PANIC; Normal ends it when no point of the station is held Active. -/
def State.callPoint (s : State) (a : Addr) (accepted : PointState) (anyHeld : Bool) : State :=
  match accepted with
  | .active => s.raiseAlarm (.forStation .panic a)
  | .normal => if anyHeld then s else s.alarmGone (.forStation .panic a)
  | .openFault | .shortFault => s

/-! ### ALARM ACK, ALARM RESET and ALARM READ (R99 to R101) -/

/-- The record is an event record (R95). -/
def State.isEventRecord (s : State) (r : AlarmRecord) : Bool :=
  match r.key.kind with
  | .tablesLost | .restarted => true
  | .duress | .manDown =>
    match r.key.bearer with
    | none => true
    | some b => (s.entryOf b).isNone
  | _ => false

/-- The outcome of an acknowledgement; retired is `standing` no more. -/
inductive Acked
  | refused
  | becomes (r : AlarmRecord)
  | retires
  deriving DecidableEq, Repr

/-- The table of R99. -/
def AlarmRecord.acknowledge (r : AlarmRecord) (event : Bool) : Acked :=
  match r.state, event with
  | .awaitReset, _ => .refused
  | _, true => .becomes { r with state := .awaitReset }
  | .active, false => .becomes { r with state := .acked }
  | .acked, false => .refused
  | .restored, false => if r.key.kind.latching then .becomes { r with state := .awaitReset } else .retires

/-- A record of the table replaced. -/
def State.putAlarm (s : State) (r : AlarmRecord) : State :=
  { s with
    alarms := { s.alarms with records := s.alarms.records.map fun x => if x.key = r.key then r else x }
    due := s.due ++ [.notice r.notice] }

/-- A record retired by a request, which clears the Overflow mark (R98). -/
def State.retireAlarm (s : State) (r : AlarmRecord) : State :=
  { s with
    alarms := { s.alarms with records := s.alarms.records.filter (fun x => x.key ≠ r.key), overflow := false }
    due := s.due ++ [.notice (r.goneNotice .retired)] }

/-- The record a request names: FORMAT for a malformed key, NOT_FOUND for a key that no record has. -/
def withAlarm (a : AlarmArgs) (s : State) (body : AlarmRecord → State × Reply) : State × Reply :=
  match a.key? with
  | none => refuse .format s
  | some k =>
    match s.alarms.records.find? fun r => r.key = k with
    | none => refuse .notFound s
    | some r => body r

def alarmAckBody (a : AlarmArgs) (s : State) : State × Reply :=
  withAlarm a s fun r =>
    match r.acknowledge (s.isEventRecord r) with
    | .refused => refuse .state s
    | .becomes r' => (s.putAlarm r', .ok (.alarmAcked (.standing r'.state)))
    | .retires => (s.retireAlarm r, .ok (.alarmAcked .retired))

def alarmResetBody (a : AlarmArgs) (s : State) : State × Reply :=
  withAlarm a s fun r => if r.state = .awaitReset then (s.retireAlarm r, .ok .nothing) else refuse .state s

def alarmReadBody (start : Nat) (s : State) : State × Reply :=
  if 1 ≤ start ∧ start ≤ 64 then
    let t := s.alarms
    (s, .ok (.alarms t.records.length t.overflow t.general t.fault ((t.records.drop (start - 1)).take 6)))
  else refuse .format s

/-- ALARM ACK (R99). -/
def execAlarmAck (a : Option AlarmArgs) (s : State) : Host.Outcome State Fault Refusal := serveFields 0x50 a alarmAckBody s

/-- ALARM RESET (R100). -/
def execAlarmReset (a : Option AlarmArgs) (s : State) : Host.Outcome State Fault Refusal := serveFields 0x51 a alarmResetBody s

/-- ALARM READ (R101). -/
def execAlarmRead (start : Option Nat) (s : State) : Host.Outcome State Fault Refusal := serveFields 0x52 start alarmReadBody s

end Sys2Proof.Machine
end

