-- ==== Sys2Proof/Machine/Bearers.lean ====
section
/-! DEFINITION. Machine/Bearers.lean: the Bearer Table (chapter 1): chains and their free list, retirement, failed PINs, retention,
and the meanings of the requests on bearers, chains, and the reads of schedules and holidays. -/
namespace Sys2Proof.Machine

open Sys2Proof

/-! ### Chains (R16, R17) -/

/-- Entries returned: pushed one at a time, so the last ends on top. -/
def BearerTable.giveBack (t : BearerTable) (es : List Nat) : BearerTable :=
  { t with
    entries := t.entries.filter fun p => !es.contains p.1
    freeList := es.foldl (fun l e => e :: l) t.freeList
    freeCount := t.freeCount + es.length }

/-- The entries of a new chain, each linked to the one popped after it. -/
def linkChain : List Nat → List PermContent → List (Nat × PermEntry)
  | e :: es, c :: cs => (e, { content := c, next := match cs with | [] => 0 | _ => es.headD 0 }) :: linkChain es cs
  | _, _ => []

/-- A new chain built from entries popped off the free list: the table, and the entries in chain order. -/
def BearerTable.build (t : BearerTable) (contents : List PermContent) : BearerTable × List Nat :=
  let es := t.freeList.take contents.length
  ({ t with
      entries := (linkChain es contents).foldl (fun m p => m.set p.1 p.2) t.entries
      freeList := t.freeList.drop contents.length
      freeCount := t.freeCount - contents.length }, es)

/-! ### Retirement (R9, R10) -/

/-- A bearer record changed. -/
def State.modBearer (s : State) (b : Nat) (f : Bearer → Bearer) : State := s.setBearers (s.bt.bearers.modify b f)

/-- The completion of a retirement (R10). -/
def State.completeRetirement (s : State) (b : Nat) : State :=
  match s.bt.bearers.get b with
  | none => s
  | some r =>
    let t := s.bt.giveBack (s.bt.chainOf r)
    let s := { s with bt := { t with index := t.index.erase r.token.toNat, bearers := t.bearers.erase b } }
    (s.alarmsGone fun k => k = .forBearer .revokedInside b || k = .forBearer .pinLockout b).dropBearerContexts b

/-- A bearer retired as by REVOKE (R9). -/
def State.retire (s : State) (b : Nat) : State :=
  match s.entryOf b with
  | none => s.completeRetirement b
  | some (e, _) =>
    let s := s.modBearer b fun r => { r with state := .retiring }
    let s := s.modEntry e fun o => { o with revokedInside := true }
    (s.raiseAlarm (.forBearer .revokedInside b)).dropBearerContexts b

/-! ### Failed PINs (R13) -/

/-- A wrong-PIN report. -/
def State.wrongPin (s : State) (b : Nat) : State :=
  match s.bt.bearers.get b with
  | none => s
  | some r =>
    if r.state = .active ∧ r.pin.isSome then
      let n := min Config.failedPinLimit (r.failedPin + 1)
      if n = Config.failedPinLimit then
        ((s.modBearer b fun r => { r with failedPin := n, state := .suspended }).raiseAlarm
          (.forBearer .pinLockout b)).dropBearerContexts b
      else s.modBearer b fun r => { r with failedPin := n }
    else s

/-- A PIN-correct report. -/
def State.pinCorrect (s : State) (b : Nat) : State :=
  s.modBearer b fun r => if r.state = .active then { r with failedPin := 0 } else r

/-! ### Retention retirement (R15) -/

/-- The bearer is due for retention retirement at a date. -/
def Bearer.pastRetention (r : Bearer) (days : Nat) (now : Date) : Bool :=
  (r.state = .active || r.state = .suspended) &&
    (match r.validUntil with | none => false | some d => days < daysPast d now)

/-- The retirements of a date rollover, in bearer-number order. -/
def State.retention (s : State) : State :=
  if s.bt.retention = 0 then s
  else
    ((s.bt.bearers.filter fun p => p.2.pastRetention s.bt.retention s.clk.date).map Prod.fst).foldl State.retire s

/-! ### Requests on bearer records (R5 to R11) -/

/-- The record a request names: FORMAT for an invalid number, NOT_FOUND for a FREE record. -/
def withBearer (b : Nat) (s : State) (body : Bearer → State × Reply) : State × Reply :=
  if bearerValid b then
    match s.bt.bearers.get b with
    | none => refuse .notFound s
    | some r => body r
  else refuse .format s

/-- The slot an ENROL takes (R6). -/
def State.slot (s : State) (b : Nat) : Except AnswerCode Nat :=
  if b = 0 then
    match s.bt.bearers.lowestFree 1 Config.maxBearers with
    | none => .error .full
    | some n => .ok n
  else if (s.bt.bearers.get b).isSome then .error .state
  else .ok b

/-- The record an ENROL fills. -/
def EnrolArgs.record (a : EnrolArgs) (cls : Class) : Bearer :=
  { token := a.token, cls := cls, pin := a.pin, validFrom := a.validFrom, validUntil := a.validUntil, chainHead := 0
    escortLimit := a.escortLimit, interval := clampInterval a.interval, failedPin := 0, state := .active }

def enrolBody (a : EnrolArgs) (s : State) : State × Reply :=
  match a.formatOk, class? a.cls with
  | true, some cls =>
    match s.slot a.bearer with
    | .error c => refuse c s
    | .ok n =>
      if (s.bt.index.get a.token.toNat).isSome then refuse .conflict s
      else
        let r := EnrolArgs.record a cls
        ({ s with bt := { s.bt with bearers := s.bt.bearers.set n r, index := s.bt.index.set a.token.toNat n } },
          .ok (.enrolled n r.interval))
  | _, _ => refuse .format s

/-- The record an AMEND leaves. -/
def AmendArgs.apply (a : AmendArgs) (r : Bearer) : Bearer :=
  { r with
    token := a.token.getD r.token
    cls := match a.cls with | none => r.cls | some c => (class? c).getD r.cls
    pin := a.pin.getD r.pin
    validFrom := a.validFrom.getD r.validFrom
    validUntil := a.validUntil.getD r.validUntil
    escortLimit := a.escortLimit.getD r.escortLimit
    interval := match a.interval with | none => r.interval | some n => clampInterval n }

/-- The dates of a record stand in order. -/
def Bearer.datesInOrder (r : Bearer) : Bool :=
  match r.validUntil with
  | none => true
  | some d => r.validFrom.number ≤ d.number

def amendBody (a : AmendArgs) (s : State) : State × Reply :=
  if !a.formatOk then refuse .format s
  else
    withBearer a.bearer s fun r =>
      let n := AmendArgs.apply a r
      if !n.datesInOrder then refuse .format s
      else if r.state = .retiring then refuse .state s
      else if n.token ≠ r.token ∧ (s.bt.index.get n.token.toNat).isSome then refuse .conflict s
      else
        ({ s with
            bt :=
              { s.bt with
                bearers := s.bt.bearers.set a.bearer n
                index := (s.bt.index.erase r.token.toNat).set n.token.toNat a.bearer } },
          .ok (.amended n.interval n.state))

def suspendBody (b : Nat) (s : State) : State × Reply :=
  withBearer b s fun r =>
    if r.state = .active then
      ((s.modBearer b fun r => { r with state := .suspended }).dropBearerContexts b, .ok .nothing)
    else refuse .state s

def reinstateBody (b : Nat) (s : State) : State × Reply :=
  withBearer b s fun r =>
    if r.state = .suspended then
      ((s.modBearer b fun r => { r with state := .active, failedPin := 0 }).alarmGone (.forBearer .pinLockout b), .ok .nothing)
    else refuse .state s

def revokeBody (b : Nat) (s : State) : State × Reply :=
  withBearer b s fun r => if r.state = .retiring then refuse .state s else (s.retire b, .ok .nothing)

/-- A record as READ BEARER shows it. -/
def State.viewBearer (s : State) (b : Nat) : Contents :=
  .bearer b ((s.bt.bearers.get b).map fun r =>
    { state := r.state, token := r.token, cls := r.cls, pinPresent := r.pin.isSome, validFrom := r.validFrom
      validUntil := r.validUntil, chainHead := r.chainHead, escortLimit := r.escortLimit, interval := r.interval
      failedPin := r.failedPin, inside := (s.entryOf b).map fun p => p.2.room })

def readBearerBody (b : Nat) (s : State) : State × Reply :=
  if bearerValid b then (s, .ok (s.viewBearer b)) else refuse .format s

def findTokenBody (t : Token) (s : State) : State × Reply :=
  if tokenValid t then
    match s.findToken t with
    | none => refuse .notFound s
    | some b => (s, .ok (s.viewBearer b))
  else refuse .format s

def retentionSetBody (days : Nat) (s : State) : State × Reply :=
  if 90 < days then refuse .format s
  else ({ s with bt := { s.bt with retention := days } }, .ok (.retention days))

/-- The payload of the request at the head is that of an ENROL with these operands (R170). -/
def enrolMatches (a : Option EnrolArgs) (payload : List Octet) : Bool := hasCode 0x10 payload && EnrolArgs.decode payload = a

/-- ENROL (R6); its operands are what the payload spells by the layout of R170. -/
def execEnrol (a : Option EnrolArgs) (s : State) : Host.Outcome State Fault Refusal :=
  serveWhen (enrolMatches a) (fun _ s => match a with | none => refuse .format s | some a => enrolBody a s) s

/-- AMEND (R7). -/
def execAmend (a : Option AmendArgs) (s : State) : Host.Outcome State Fault Refusal := serveFields 0x11 a amendBody s

/-- SUSPEND (R8). -/
def execSuspend (bearer : Option Nat) (s : State) : Host.Outcome State Fault Refusal := serveFields 0x12 bearer suspendBody s

/-- REINSTATE (R8). -/
def execReinstate (bearer : Option Nat) (s : State) : Host.Outcome State Fault Refusal :=
  serveFields 0x13 bearer reinstateBody s

/-- REVOKE (R9). -/
def execRevoke (bearer : Option Nat) (s : State) : Host.Outcome State Fault Refusal := serveFields 0x14 bearer revokeBody s

/-- READ BEARER (R11). -/
def execReadBearer (bearer : Option Nat) (s : State) : Host.Outcome State Fault Refusal :=
  serveFields 0x15 bearer readBearerBody s

/-- FIND TOKEN (R11). -/
def execFindToken (token : Option Token) (s : State) : Host.Outcome State Fault Refusal :=
  serveFields 0x16 token findTokenBody s

/-- RETENTION SET (R14). -/
def execRetentionSet (days : Option Nat) (s : State) : Host.Outcome State Fault Refusal :=
  serveFields 0x17 days retentionSetBody s

/-! ### Requests on chains (R17, R18) -/

/-- The FORMAT checks of CHAIN WRITE. -/
def ChainWriteArgs.formatOk (a : ChainWriteArgs) : Bool :=
  bearerValid a.bearer && a.contents.length ≤ Config.maxChain && a.contents.all PermContent.formatOk

def chainWriteBody (a : ChainWriteArgs) (s : State) : State × Reply :=
  if !ChainWriteArgs.formatOk a then refuse .format s
  else
    withBearer a.bearer s fun r =>
      let old := s.bt.chainOf r
      if r.state = .retiring then refuse .state s
      else if s.bt.freeCount + old.length < a.contents.length then refuse .full s
      else
        let (t, es) := (s.bt.giveBack old).build a.contents
        ({ s with bt := { t with bearers := t.bearers.set a.bearer { r with chainHead := es.headD 0 } } }, .ok (.chainTaken es))

def chainReadBody (b : Nat) (s : State) : State × Reply :=
  withBearer b s fun r =>
    (s, .ok (.chain ((s.bt.chainOf r).filterMap fun e => (s.bt.entries.get e).map fun x => (e, x.content))))

/-- CHAIN WRITE (R17). -/
def execChainWrite (a : Option ChainWriteArgs) (s : State) : Host.Outcome State Fault Refusal :=
  serveFields 0x18 a chainWriteBody s

/-- CHAIN READ (R18). -/
def execChainRead (bearer : Option Nat) (s : State) : Host.Outcome State Fault Refusal :=
  serveFields 0x19 bearer chainReadBody s

/-! ### SCHEDULE READ and HOLIDAY READ (R21, R23) -/

def scheduleReadBody (n : Nat) (s : State) : State × Reply :=
  match sched? n with
  | none => refuse .format s
  | some i => (s, .ok (.schedule (n = 0) (if n = 0 then [] else s.bt.schedules[i])))

def holidayReadBody (_ : RequestFrame) (s : State) : State × Reply := (s, .ok (.holidays s.bt.holidays))

/-- SCHEDULE READ (R21). -/
def execScheduleRead (schedule : Option Nat) (s : State) : Host.Outcome State Fault Refusal :=
  serveFields 0x1B schedule scheduleReadBody s

/-- HOLIDAY READ (R23). -/
def execHolidayRead (s : State) : Host.Outcome State Fault Refusal := serveBare 0x1E holidayReadBody s

end Sys2Proof.Machine
end

