-- ==== Sys2Proof/Machine/Roll.lean ====
section
/-! DEFINITION. Machine/Roll.lean: the Occupancy Roll (chapter 4): admission, removal, egress openings, the hand-on, and the
meanings of the roll requests. -/
namespace Sys2Proof.Machine

open Sys2Proof

/-- The hand-on of a strongroom's head count and mark (R63). -/
def State.handOn (s : State) (r : Room) : State := (s.rederive r).retest r

/-! ### Admission (R62) -/

/-- An admission of a bearer, with the escort's entry or none. -/
structure Admission where
  bearer : Nat
  escort : Option Nat
  deriving DecidableEq, Repr

/-- One admission, before the hand-on. -/
def State.admitOne (r : Room) (s : State) (a : Admission) : State :=
  match s.roll.entries.lowestFree 1 Config.maxOccEntries with
  | none => s
  | some e =>
    let o : OccEntry :=
      { bearer := a.bearer, room := r, entryTick := s.roll.tick, link := a.escort, escorted := 0, revokedInside := false
        lapsed := false, counter := 0, checkIn := .off, promptDue := false }
    let s := s.setEntries (s.roll.entries.set e o)
    let s := s.setRoom r { s.roll.rooms[r] with list := s.roll.rooms[r].list ++ [e] }
    match a.escort with
    | none => s
    | some x => s.modEntry x fun o => { o with escorted := o.escorted + 1 }

/-- The admissions of one grant, handed on once. -/
def State.admitAll (s : State) (r : Room) (as : List Admission) : State := (as.foldl (State.admitOne r) s).handOn r

/-! ### Removal (R64, R65) -/

/-- Every ESCORT_LAPSE condition of a strongroom is gone. -/
def State.lapseGone (s : State) (r : Room) : State := s.alarmsGone fun k => k.kind = .escortLapse && k.room = some (num r)

/-- The visitors of an escort entry lose their link and take Lapsed. -/
def OccEntry.lapse (e : Nat) (o : OccEntry) : OccEntry := if o.link = some e then { o with link := none, lapsed := true } else o

/-- The removal of one entry, by an exit or by ROLL REMOVE. -/
def State.removeEntry (s : State) (e : Nat) (o : OccEntry) : State :=
  let r := o.room
  let s : State := match o.link with | none => s | some x => s.modEntry x fun o => { o with escorted := o.escorted - 1 }
  let s : State :=
    if o.escorted = 0 then s
    else (s.setEntries (s.roll.entries.mapAll (OccEntry.lapse e))).raiseAlarm (.forRoomBearer .escortLapse r o.bearer)
  let s := s.dropEscortContexts e
  let s := s.setEntries (s.roll.entries.erase e)
  let s := s.setRoom r { s.roll.rooms[r] with list := s.roll.rooms[r].list.filter (· ≠ e) }
  let s : State := s.alarmGone o.overdueKey
  let s : State := if o.lapsed && s.lapsedCount r = 0 then s.lapseGone r else s
  let s := if o.revokedInside then s.completeRetirement o.bearer else s
  s.handOn r

/-! ### Egress openings (R66) -/

/-- An egress opening of a strongroom's door. -/
def State.egressOpening (s : State) (r : Room) : State :=
  let was := s.roll.rooms[r].unreconciled
  let s := (s.setRoom r { s.roll.rooms[r] with unreconciled := true }).raiseAlarm (.forRoom .rollUnreconciled r)
  if was then s else s.handOn r

/-! ### Requests (R67 to R69) -/

/-- The Unreconciled mark is cleared and its condition is gone. -/
def State.reconcile (s : State) (r : Room) : State :=
  (s.setRoom r { s.roll.rooms[r] with unreconciled := false }).alarmGone (.forRoom .rollUnreconciled r)

def rollConfirmBody (n : Nat) (s : State) : State × Reply :=
  withRoom n s fun r =>
    let s := if s.roll.rooms[r].unreconciled then (s.reconcile r).handOn r else s
    (s, .ok (.rollConfirmed (s.headCount r) s.roll.rooms[r].unreconciled))

/-- One entry taken out by a sweep. -/
def State.sweepEntry (s : State) (e : Nat) : State :=
  match s.roll.entries.get e with
  | none => s
  | some o =>
    let s := s.dropEscortContexts e
    let s := s.setEntries (s.roll.entries.erase e)
    let s := s.alarmGone o.overdueKey
    if o.revokedInside then s.completeRetirement o.bearer else s

/-- The sweep of a strongroom (R67). R67 ends ROLL_UNRECONCILED and every ESCORT_LAPSE in one sentence without an order; that
ROLL_UNRECONCILED ends first is DESIGN CHOICE (assumption 63). -/
def State.sweep (s : State) (r : Room) : State :=
  let es := s.roll.rooms[r].list
  let s := es.foldl State.sweepEntry s
  let s := s.setRoom r { s.roll.rooms[r] with list := [] }
  ((s.reconcile r).lapseGone r).handOn r

def rollSweepBody (n : Nat) (s : State) : State × Reply :=
  withRoom n s fun r =>
    if s.occupied r then (s.sweep r, .ok (.rollSwept (s.headCount r))) else (s, .ok (.rollSwept 0))

def rollRemoveBody (b : Nat) (s : State) : State × Reply :=
  if bearerValid b then
    match s.entryOf b with
    | none => refuse .notFound s
    | some (e, o) =>
      let s := s.removeEntry e o
      (s, .ok (.rollRemoved o.room (s.headCount o.room)))
  else refuse .format s

/-- An entry as ROLL READ shows it. -/
def rollView (p : Nat × OccEntry) : RollView :=
  { entry := p.1, bearer := p.2.bearer, entryTick := p.2.entryTick, link := p.2.link, escorted := p.2.escorted
    revokedInside := p.2.revokedInside, lapsed := p.2.lapsed, checkIn := p.2.checkIn }

def rollReadBody (a : RollReadArgs) (s : State) : State × Reply :=
  withRoom a.room s fun r =>
    if 1 ≤ a.start ∧ a.start ≤ 32 then
      (s, .ok (.roll (s.headCount r) s.sup.profiles[r].capacity s.roll.rooms[r].unreconciled (s.lapsedCount r) s.roll.tick
        (((s.entriesIn r).drop (a.start - 1)).take 8 |>.map rollView)))
    else refuse .format s

/-- ROLL CONFIRM (R67). -/
def execRollConfirm (room : Option Nat) (s : State) : Host.Outcome State Fault Refusal := serveFields 0x30 room rollConfirmBody s

/-- ROLL SWEEP (R67). -/
def execRollSweep (room : Option Nat) (s : State) : Host.Outcome State Fault Refusal := serveFields 0x31 room rollSweepBody s

/-- ROLL REMOVE (R68). -/
def execRollRemove (bearer : Option Nat) (s : State) : Host.Outcome State Fault Refusal :=
  serveFields 0x32 bearer rollRemoveBody s

/-- ROLL READ (R69). -/
def execRollRead (a : Option RollReadArgs) (s : State) : Host.Outcome State Fault Refusal := serveFields 0x33 a rollReadBody s

end Sys2Proof.Machine
end

