-- ==== Sys2Proof/Machine/Clock.lean ====
section
/-! DEFINITION. Machine/Clock.lean: the Site Clock (chapter 2): the BCD advance, schedule evaluation, the site state with the site
override and the closing grace, door time locks, and the meanings of the clock, site, schedule and holiday requests and of
GRACE_TIMER_EXPIRY. -/
namespace Sys2Proof.Machine

open Sys2Proof

/-! ### Time locks (R84) -/

/-- A door's time lock derived again. -/
def State.deriveTimeLock (s : State) (r : Room) : State :=
  let d := s.doors[r]
  let lock := s.timeLockOf r
  s.setDoor r
    { d with
      timeLock := lock
      state :=
        match d.state, lock with
        | .secured, true => .timeLocked
        | .timeLocked, false => .secured
        | st, _ => st }

/-! ### The site state (R34 to R36) -/

/-- The NIGHT policy's entries re-tested (R107), strongroom by strongroom in number order: DESIGN CHOICE (assumption 54). -/
def State.retestNight (s : State) : State :=
  (rooms.filter fun r => s.sup.profiles[r].lone = .night).foldl State.retest s

/-- The closing tone in every Occupied strongroom (R36). -/
def State.closingTones (s : State) : State := (rooms.filter s.occupied).foldl (fun (t : State) r => t.placeTone r .closing) s

/-- The site enters a state: the grace timer runs in CLOSING only. -/
def State.enterSite (s : State) (st : SiteState) : State :=
  if s.clk.siteState = st then { s with clk := { s.clk with graceTimer := if st = SiteState.closing then s.clk.graceTimer else none } }
  else
    let s : State :=
      { s with clk := { s.clk with siteState := st, graceTimer := if st = SiteState.closing then some (60 * s.clk.grace) else none } }
    let s := if st = SiteState.closing then s.closingTones else s
    s.retestNight

/-- The site schedule comes into force: a HoldOpen lapses (R35). -/
def State.siteOpens (s : State) : State :=
  let s := if s.clk.override = .holdOpen then { s with clk := { s.clk with override := .noOverride } } else s
  match s.clk.siteState with
  | .openHours => s
  | .closing => s.enterSite .openHours
  | .afterHours => if s.clk.override = .forceAfterHours then s else s.enterSite .openHours

/-- The site schedule goes out of force. -/
def State.siteCloses (s : State) : State :=
  if s.clk.siteState = .openHours ∧ s.clk.override = .noOverride then
    s.enterSite (if s.clk.grace = 0 then .afterHours else .closing)
  else s

/-- The site state follows the site schedule from its entry before an evaluation to the entry after it. -/
def State.siteFollows (s : State) (before : Bool) : State :=
  match before, s.siteInForce with
  | false, true => s.siteOpens
  | true, false => s.siteCloses
  | _, _ => s

/-! ### Evaluation (R30, R32) -/

/-- The holiday test for the current date taken. -/
def State.takeHoliday (s : State) : State :=
  { s with clk := { s.clk with holidayToday := isHoliday s.bt.holidays s.clk.date } }

/-- An evaluation of the in-force table, with its changes handed on; `before` is the site schedule's entry before the event. -/
def State.evaluate (s : State) (before : Bool) : State :=
  let old := s.clk.inForce
  let new := vgen s.evaluateSchedule
  let s := ({ s with clk := { s.clk with inForce := new } } : State).siteFollows before
  (rooms.filter fun r => old[s.sup.profiles[r].timeLock] ≠ new[s.sup.profiles[r].timeLock]).foldl State.deriveTimeLock s

/-- A reading handed over for the broadcast: it takes the place of the reading in a broadcast that is built and not begun, or of one that is
due (R158). DEDUCED (assumption 65): while a broadcast is being sent, it makes another one due. -/
def LoopMaster.takeReading (l : LoopMaster) (r : ClockReading) : LoopMaster :=
  match l.current with
  | some ⟨none, .ready, _⟩ => { l with current := some ⟨none, .ready, .broadcast r.date r.time r.weekday⟩ }
  | _ => { l with broadcastDue := some r }

/-- The date, time and weekday handed to the Loop Master for the broadcast (R26, R28, R158). -/
def State.handTime (s : State) : State :=
  { s with loop := s.loop.takeReading ⟨s.clk.date, s.clk.time, s.clk.weekday⟩ }

/-! ### The advance (R25, R26) -/

/-- One octet advanced: wrapped to `first` with a carry when it reaches `top`. -/
def wrapAt (top first o : Octet) : Octet × Bool := if bcdInc o = top then (first, true) else (bcdInc o, false)

/-- The clock one second on, and whether the carry reached the minutes and the day. -/
structure Advance where
  clk : SiteClock
  minute : Bool
  day : Bool
  deriving DecidableEq, Repr

/-- The carry into the day (R25 steps 4 to 6). -/
def SiteClock.nextDay (c : SiteClock) : SiteClock :=
  let weekday := if c.weekday = 7 then 1 else c.weekday + 1
  let d := bcdInc c.date.day
  if d.toNat ≤ (lastDay c.date.year c.date.month).toNat then { c with weekday := weekday, date := { c.date with day := d } }
  else
    let m := bcdInc c.date.month
    if m.toNat ≤ 0x12 then { c with weekday := weekday, date := { c.date with month := m, day := 0x01 } }
    else { c with weekday := weekday, date := ⟨(wrapAt 0xA0 0x00 c.date.year).1, 0x01, 0x01⟩ }

/-- The clock advanced by one second while SET. -/
def SiteClock.advance (c : SiteClock) : Advance :=
  if !c.isSet then ⟨c, false, false⟩
  else
    let (sec, carryS) := wrapAt 0x60 0x00 c.time.second
    if !carryS then ⟨{ c with time := { c.time with second := sec } }, false, false⟩
    else
      let (min, carryM) := wrapAt 0x60 0x00 c.time.minute
      if !carryM then ⟨{ c with time := { c.time with second := sec, minute := min } }, true, false⟩
      else
        let (hour, carryH) := wrapAt 0x24 0x00 c.time.hour
        let c := { c with time := ⟨hour, min, sec⟩ }
        if !carryH then ⟨c, true, false⟩ else ⟨c.nextDay, true, true⟩

/-- The clock's advance at a second tick, with all that a minute boundary and a date rollover bring (R26): the evaluation before the
retirements, which the spec leaves without an order. DESIGN CHOICE (assumption 59). -/
def State.advanceClock (s : State) : State :=
  let before := s.siteInForce
  let a := s.clk.advance
  let s := { s with clk := a.clk }
  let s := if a.day then s.takeHoliday else s
  let s := if a.minute then (s.evaluate before).handTime else s
  if a.day then s.retention else s

/-! ### The grace timer (R34) -/

/-- The grace timer's expiry is due. -/
def State.graceIsDue (s : State) : Bool := s.clk.siteState = .closing && s.clk.graceTimer = some 0

def State.takeGraceExpiry (s : State) : State := expiry s.graceIsDue (·.enterSite .afterHours) s

/-- GRACE_TIMER_EXPIRY (R34). -/
def execGraceTimerExpiry (s : State) : Host.Outcome State Fault Refusal := .next s.takeGraceExpiry

/-! ### Requests (R21 to R23, R28, R29, R33, R35) -/

def clockSetBody (a : ClockSetArgs) (s : State) : State × Reply :=
  if !a.formatOk then refuse .format s
  else
    let before := s.siteInForce
    let s := { s with clk := { s.clk with date := a.date, time := a.time, weekday := a.weekday, isSet := true } }
    (((s.takeHoliday).evaluate before).handTime, .ok (.clock a.date a.time a.weekday))

def clockReadBody (_ : RequestFrame) (s : State) : State × Reply :=
  let c := s.clk
  (s, .ok (.clockRead c.date c.time c.weekday c.isSet c.holidayToday c.siteState c.override c.siteSchedule c.grace
    (c.graceTimer.getD 0)))

def siteSetBody (a : SiteSetArgs) (s : State) : State × Reply :=
  match sched? a.schedule with
  | none => refuse .format s
  | some i =>
    if 60 < a.grace then refuse .format s
    else
      let before := s.siteInForce
      (({ s with clk := { s.clk with siteSchedule := i, grace := a.grace } } : State).evaluate before, .ok (.site i a.grace))

/-- The site state an override brings about at once (R35). -/
def State.applyOverride (s : State) (o : Override) : State :=
  let s := { s with clk := { s.clk with override := o } }
  match o with
  | .holdOpen => s.enterSite .openHours
  | .forceAfterHours => s.enterSite .afterHours
  | .noOverride => s.enterSite (if s.siteInForce then .openHours else .afterHours)

def siteOverrideBody (o : Override) (s : State) : State × Reply :=
  if o = .holdOpen ∧ s.clk.isSet = false then refuse .state s
  else
    let s := s.applyOverride o
    (s, .ok (.override o s.clk.siteState))

/-- The schedules evaluated again after their windows or the holidays have changed. -/
def State.reevaluate (s : State) : State := s.evaluate s.siteInForce

def scheduleWriteBody (a : ScheduleWriteArgs) (s : State) : State × Reply :=
  match sched? a.schedule with
  | none => refuse .format s
  | some i =>
    if i = 0 ∨ 4 < a.windows.length ∨ a.windows.all Window.formatOk = false then refuse .format s
    else (({ s with bt := { s.bt with schedules := s.bt.schedules.set i a.windows } } : State).reevaluate, .ok .nothing)

/-- A date inserted at its place in date order (R22). -/
def insertHoliday (h : Holiday) : List Holiday → List Holiday
  | [] => [h]
  | x :: xs => if Holiday.rank h < Holiday.rank x then h :: x :: xs else x :: insertHoliday h xs

/-- The holiday list replaced, with the tests and evaluations that follow (R23, R32). -/
def State.putHolidays (s : State) (hs : List Holiday) : State :=
  ({ s with bt := { s.bt with holidays := hs } } : State).takeHoliday.reevaluate

def holidayAddBody (h : Holiday) (s : State) : State × Reply :=
  if !h.formatOk then refuse .format s
  else if s.bt.holidays.contains h then refuse .conflict s
  else if Config.maxHolidays ≤ s.bt.holidays.length then refuse .full s
  else (s.putHolidays (insertHoliday h s.bt.holidays), .ok .nothing)

def holidayRemoveBody (h : Holiday) (s : State) : State × Reply :=
  if !h.formatOk then refuse .format s
  else if s.bt.holidays.contains h then (s.putHolidays (s.bt.holidays.erase h), .ok .nothing)
  else refuse .notFound s

/-- CLOCK SET (R28). -/
def execClockSet (a : Option ClockSetArgs) (s : State) : Host.Outcome State Fault Refusal := serveFields 0x20 a clockSetBody s

/-- CLOCK READ (R29). -/
def execClockRead (s : State) : Host.Outcome State Fault Refusal := serveBare 0x21 clockReadBody s

/-- SITE SET (R33). -/
def execSiteSet (a : Option SiteSetArgs) (s : State) : Host.Outcome State Fault Refusal := serveFields 0x22 a siteSetBody s

/-- SITE OVERRIDE (R35). -/
def execSiteOverride (o : Option Override) (s : State) : Host.Outcome State Fault Refusal := serveFields 0x23 o siteOverrideBody s

/-- SCHEDULE WRITE (R21). -/
def execScheduleWrite (a : Option ScheduleWriteArgs) (s : State) : Host.Outcome State Fault Refusal :=
  serveFields 0x1A a scheduleWriteBody s

/-- HOLIDAY ADD (R22). -/
def execHolidayAdd (h : Option Holiday) (s : State) : Host.Outcome State Fault Refusal := serveFields 0x1C h holidayAddBody s

/-- HOLIDAY REMOVE (R23). -/
def execHolidayRemove (h : Option Holiday) (s : State) : Host.Outcome State Fault Refusal :=
  serveFields 0x1D h holidayRemoveBody s

end Sys2Proof.Machine
end

