-- ==== Sys2Proof/Machine/Doors.lean ====
section
/-! DEFINITION. Machine/Doors.lean: the rest of the Door Controller (chapter 5): releases, the door unit's points, egress, recovery,
timers, and the meanings of the door requests, UNLOCK_TIMER_EXPIRY and HELD_OPEN_TIMER_EXPIRY. -/
namespace Sys2Proof.Machine

open Sys2Proof

/-! ### Releases (R77) -/

/-- The held-open timer reloaded by a release or an egress report while the door is open, unless Hold is set. -/
def State.reloadHeld (s : State) (r : Room) : State := if s.doors[r].hold then s else s.loadHeld r

/-- A release of a kind. -/
def State.release (s : State) (r : Room) (k : ReleaseKind) : State :=
  let unlock := s.sup.profiles[r].unlock
  let s := if k = .egress then s else s.placeBolt r (.release unlock)
  let d := s.doors[r]
  match d.state with
  | .secured | .timeLocked => s.setDoor r { d with state := .released, releaseKind := some k, unlock := some unlock }
  | .released =>
    s.setDoor r { d with releaseKind := some ((d.releaseKind.getD k).higher k), unlock := some unlock }
  | .opened | .held =>
    let s := s.reloadHeld r
    s.setDoor r { s.doors[r] with state := .opened, openCause := if k = .egress then some .egress else d.openCause }
  | .forced =>
    let s := s.reloadHeld r
    s.setDoor r { s.doors[r] with openCause := if k = .egress then some .egress else d.openCause }
  | .unknown => s

/-! ### The points of the door unit (R76, R79, R80, R83, R92, R93) -/

/-- The egress push has become pressed: the release, with the end of HELD_OPEN, and then the egress opening. DESIGN CHOICE
(assumption 63): that order. -/
def State.egressPressed (s : State) (r : Room) : State :=
  let wasOpen := s.doors[r].isOpen
  let s := s.release r .egress
  if wasOpen then s.egressOpening r else s

/-- The open cause a release gives. -/
def ReleaseKind.cause : ReleaseKind → OpenCause
  | .entry | .exit => .grant
  | .command => .command
  | .egress => .egress

/-- The held-open timer of a door that opens (R82). -/
def State.openingTimer (s : State) (r : Room) : HeldTimer :=
  if s.doors[r].hold then .stopped else .running s.sup.profiles[r].heldOpen

/-- The contact has become open. -/
def State.contactOpened (s : State) (r : Room) : State :=
  let d := s.doors[r]
  match d.state with
  | .released =>
    let s := s.setDoor r
      { d with
        state := .opened, openCause := d.releaseKind.map ReleaseKind.cause, releaseKind := none, unlock := none
        heldOpen := s.openingTimer r }
    if d.releaseKind = some .egress then s.egressOpening r else s
  | .secured | .timeLocked =>
    (s.setDoor r { d with state := .forced, heldOpen := s.openingTimer r }).raiseAlarm (.forRoom .forced r)
  | _ => s

/-- The contact has become closed while the door was open. -/
def State.contactClosed (s : State) (r : Room) : State :=
  let d := s.doors[r]
  if d.isOpen then
    let s := s.setDoor r { d with state := d.closedState, heldOpen := .stopped, openCause := none, hold := false }
    let s := s.alarmGone (.forRoom .heldOpen r)
    if d.state = .forced then s.alarmGone (.forRoom .forced r) else s
  else s

/-- A door in UNKNOWN takes its state from a report that knows the contact (R93). DESIGN CHOICE (assumption 63): FORCED before
ROLL_UNRECONCILED. -/
def State.doorRecovers (s : State) (r : Room) : State :=
  let d := s.doors[r]
  let lost := d.unknownCause = some .lost ∧ 0 < s.headCount r
  let d' := { d with unknownCause := none }
  if d.contact = some .normal then
    let s := s.setDoor r { d' with state := d.closedState }
    if lost then s.egressOpening r else s
  else if d.egress = some .active then
    (s.setDoor r { d' with state := .opened, openCause := some .egress, heldOpen := s.openingTimer r }).egressOpening r
  else
    let s := (s.setDoor r { d' with state := .forced, heldOpen := s.openingTimer r }).raiseAlarm (.forRoom .forced r)
    if lost then s.egressOpening r else s

/-- The accepted changes of a door unit's points that one report brings. -/
structure DoorChanges where
  contact : Option PointState
  bolt : Option PointState
  egress : Option PointState
  tamper : Option PointState
  deriving DecidableEq, Repr

/-- The effect of an accepted change of the tamper point, from its state before. DEDUCED (assumption 35): Active raises also after
a fault, whose POINT_FAULT the Loop Master has just declared gone (R156). -/
def State.tamperChanged (s : State) (a : Addr) (old : Option PointState) (new : PointState) : State :=
  let key := AlarmKey.forPoint (num a) 4
  match new with
  | .normal => s.alarmGone key
  | .active => s.raiseAlarm key
  | .openFault | .shortFault => if old = none ∨ old = some .normal then s.raiseAlarm key else s

/-- The effect of the contact's accepted change on a door that is known. -/
def State.contactChanged (s : State) (r : Room) (new : PointState) : State :=
  match new with
  | .active => s.contactOpened r
  | .normal => s.contactClosed r
  | .openFault | .shortFault => s.doorUnknown r .lost

/-- The effect of the changes on the door's state: the egress push before the contact. In every state a push that becomes
pressed withdraws a cancel that has not been delivered (R83). DEDUCED (assumption 53): a push held pressed from an earlier report is
no change, and an opening without a release is FORCED beside it (R78). -/
def State.doorFollows (s : State) (r : Room) (ch : DoorChanges) : State :=
  let s := if ch.egress = some .active then s.dropCancel r else s
  if s.doors[r].state = .unknown then
    match ch.contact with
    | none => s
    | some .normal | some .active => s.doorRecovers r
    | some .openFault | some .shortFault => s.doorUnknown r .lost
  else
    let s := if ch.egress = some .active then s.egressPressed r else s
    match ch.contact with
    | none => s
    | some c => s.contactChanged r c

/-- The accepted changes taken as one event (R76). DESIGN CHOICE (assumption 63): the tamper point before the push and the contact. -/
def State.doorPoints (s : State) (a : Addr) (r : Room) (ch : DoorChanges) : State :=
  let d := s.doors[r]
  let s := s.setDoor r
    { d with
      contact := ch.contact <|> d.contact, bolt := ch.bolt <|> d.bolt, egress := ch.egress <|> d.egress
      tamper := ch.tamper <|> d.tamper }
  let s := match ch.tamper with | none => s | some p => s.tamperChanged a d.tamper p
  (s.doorFollows r ch).deriveEnvelope r

/-! ### Timers (R78, R82) -/

/-- The unlock timer's expiry is due. -/
def State.unlockIsDue (s : State) (r : Room) : Bool := s.doors[r].state = .released && s.doors[r].unlock = some 0

/-- The release is spent. -/
def State.endRelease (s : State) (r : Room) : State :=
  let d := s.doors[r]
  s.setDoor r { d with state := d.closedState, releaseKind := none, unlock := none, hold := false }

/-- The held-open timer's expiry is due. -/
def State.heldOpenIsDue (s : State) (r : Room) : Bool := s.doors[r].heldOpen = .running 0 && s.doors[r].isOpen

/-- The held-open timer stands expired. -/
def State.expireHeld (s : State) (r : Room) : State :=
  let d := s.doors[r]
  (s.setDoor r { d with heldOpen := .expired, state := if d.state = .opened then .held else d.state }).raiseAlarm
    (.forRoom .heldOpen r)

def State.takeUnlockExpiry (s : State) (r : Room) : State := expiry (s.unlockIsDue r) (·.endRelease r) s
def State.takeHeldOpenExpiry (s : State) (r : Room) : State := expiry (s.heldOpenIsDue r) (·.expireHeld r) s

/-- UNLOCK_TIMER_EXPIRY (R78). -/
def execUnlockTimerExpiry (door : Room) (s : State) : Host.Outcome State Fault Refusal := .next (s.takeUnlockExpiry door)

/-- HELD_OPEN_TIMER_EXPIRY (R82). -/
def execHeldOpenTimerExpiry (door : Room) (s : State) : Host.Outcome State Fault Refusal := .next (s.takeHeldOpenExpiry door)

/-! ### Requests (R87 to R89) -/

/-- DOOR RELEASE is refused with STATE. -/
def Door.refusesRelease (d : Door) : Bool := d.state = .unknown || d.lockdown || d.closeDemand || d.timeLock

/-- The Hold option of an accepted DOOR RELEASE. -/
def State.applyHold (s : State) (r : Room) (hold : Bool) : State :=
  let was := s.doors[r].hold
  let s := s.setDoor r { s.doors[r] with hold := hold }
  if s.doors[r].isOpen then
    if hold then s.stopHeld r else if was then s.loadHeld r else s
  else s

def doorReleaseBody (a : DoorReleaseArgs) (s : State) : State × Reply :=
  withRoom a.door s fun r =>
    if s.doors[r].refusesRelease then refuse .state s
    else
      let s := (s.release r .command).applyHold r a.hold
      (s, .ok (.doorReleased s.doors[r].state s.doors[r].hold))

def doorLockdownBody (n : Nat) (s : State) : State × Reply :=
  withRoom n s fun r =>
    let s := (s.setDoor r { s.doors[r] with lockdown := true }).dropContext r
    let s := (s.cancelRelease r).dropHold r
    (s.owe (.object (.door r)), .ok .nothing)

def doorRestoreBody (n : Nat) (s : State) : State × Reply :=
  withRoom n s fun r => (s.setDoor r { s.doors[r] with lockdown := false }, .ok .nothing)

/-- A context as DOOR READ shows it. -/
def Context.view : Context → ContextView
  | .empty => .empty
  | .custody _ w b _ => .custody b w
  | .escort _ w b _ => .escort b w

/-- The door unit's address, or 0 when none is configured. -/
def State.doorUnitNumber (s : State) (r : Room) : Nat :=
  match s.stationOf .doorUnit (num r) with
  | none => 0
  | some a => num a

def doorReadBody (n : Nat) (s : State) : State × Reply :=
  withRoom n s fun r => (s, .ok (.door s.doors[r] (s.doorUnitNumber r) s.ctx[r].view))

/-- DOOR RELEASE (R87). -/
def execDoorRelease (a : Option DoorReleaseArgs) (s : State) : Host.Outcome State Fault Refusal :=
  serveFields 0x40 a doorReleaseBody s

/-- DOOR LOCKDOWN (R88). -/
def execDoorLockdown (door : Option Nat) (s : State) : Host.Outcome State Fault Refusal :=
  serveFields 0x41 door doorLockdownBody s

/-- DOOR RESTORE (R88). -/
def execDoorRestore (door : Option Nat) (s : State) : Host.Outcome State Fault Refusal :=
  serveFields 0x42 door doorRestoreBody s

/-- DOOR READ (R89). -/
def execDoorRead (door : Option Nat) (s : State) : Host.Outcome State Fault Refusal := serveFields 0x43 door doorReadBody s

end Sys2Proof.Machine
end

