-- ==== Sys2Proof/Machine/Access.lean ====
section
/-! DEFINITION. Machine/Access.lean: the Access Decision Unit (chapter 3): exit presentations, the nine stages of an entry decision,
custody pairs, escort groups, and the meaning of PAIRING_WINDOW_EXPIRY. -/
namespace Sys2Proof.Machine

open Sys2Proof

/-! ### Exit presentations (R39) -/

/-- The Grant answer with the door's unlock time. -/
def State.grantAnswer (s : State) (r : Room) : ReaderAnswer := .grant s.sup.profiles[r].unlock

/-- An exit presentation at the door of a strongroom. -/
def State.exitPresentation (s : State) (r : Room) (t : Token) : State × ReaderAnswer :=
  let s := s.release r .exit
  match (s.findToken t).bind s.entryOf with
  | none => (s, .await .notInside)
  | some (e, o) => if o.room = r then (s.removeEntry e o, s.grantAnswer r) else (s, .await .notInside)

/-! ### Stages 1 and 2 (R41, R42) -/

/-- The reason stage 1 gives. -/
def State.doorDenies (s : State) (a : Addr) (r : Room) : Option DenyReason :=
  let d := s.doors[r]
  if s.loop.stations[a].state ≠ .online ∨ d.state = .unknown then some .stationFault
  else if d.lockdown then some .lockdown
  else if d.timeLock then some .timeLocked
  else none

/-! ### Rule sets and required rights (R44, R49, R50) -/

/-- The context serves a presentation by a bearer of a class. -/
def Context.serves (c : Context) (cls : Class) : Bool :=
  match c with
  | .empty => false
  | .custody _ _ _ _ => cls ≠ .visitor
  | .escort _ _ _ _ => cls = .visitor

/-- The rule set a context records: `true` for the night rules. -/
def Context.night : Context → Bool
  | .empty => false
  | .custody n _ _ _ => n
  | .escort n _ _ _ => n

/-- The decision applies the night rules. -/
def State.nightRules (s : State) (r : Room) (cls : Class) : Bool :=
  if s.ctx[r].serves cls then s.ctx[r].night else s.clk.siteState.night

/-- The rights stage 5 requires. -/
def State.needed (s : State) (r : Room) (night : Bool) : Rights :=
  { enter := true, night := night, custody := false, escort := false, ventEntry := s.zones[r].state = .vent }

/-- Custody applies to a presentation. -/
def State.custodyApplies (s : State) (r : Room) (cls : Class) (night : Bool) : Bool :=
  cls ≠ .visitor &&
    (match s.ctx[r] with
      | .custody _ _ _ _ => true
      | _ =>
        match s.sup.profiles[r].custody with
        | .never => false
        | .night => night
        | .always => true)

/-! ### Stage 6 (R45 to R47) -/

/-- Digits equal to the duress form raise DURESS, with a PIN-correct report. -/
def State.duressPin (s : State) (r : Room) (b : Nat) : State := (s.pinCorrect b).raiseAlarm (.forRoomBearer .duress r b)

/-- The PIN stage: the state after its reports, and the answer when the decision ends here. -/
def State.pinStage (s : State) (r : Room) (b : Nat) (rec : Bearer) (night : Bool) (digits : List Nat) :
    State × Option ReaderAnswer :=
  if night || s.sup.profiles[r].pinAlways then
    match rec.pin, digits with
    | none, [] => (s, some (.deny .pinWrong))
    | none, _ => (s.wrongPin b, some (.deny .pinWrong))
    | some _, [] => (s, some (.await .pinRequired))
    | some p, ds =>
      if ds = pinDigits p then (s.pinCorrect b, none)
      else if ds = duressDigits p then (s.duressPin r b, none)
      else (s.wrongPin b, some (.deny .pinWrong))
  else
    match rec.pin with
    | none => (s, none)
    | some p => if digits = duressDigits p then (s.duressPin r b, none) else (s, none)

/-! ### Grants and stage 9 (R50 to R55, R57) -/

/-- The CUSTODY contexts of other doors in which a bearer just admitted waits are dropped. -/
def State.dropWaiting (s : State) (r : Room) (b : Nat) : State :=
  s.dropContexts fun door c => match c with | .custody _ _ w _ => w = b && door ≠ r | _ => false

/-- The grant's release and admissions, with the contexts they drop. -/
def State.grantEntry (s : State) (r : Room) (as : List Admission) : State :=
  let s := (s.release r .entry).admitAll r as
  as.foldl (fun s a => s.dropWaiting r a.bearer) s

/-- The escort limit of a bearer. -/
def State.escortLimit (s : State) (b : Nat) : Nat :=
  match s.bt.bearers.get b with
  | none => 0
  | some x => x.escortLimit

/-- An ESCORT context opens for a bearer just admitted, where R54 allows it. -/
def State.openGroup (s : State) (r : Room) (night : Bool) (b : Nat) (rights : Rights) : State :=
  if rights.escort && 0 < s.escortLimit b && s.ctx[r] = .empty && s.zones[r].state ≠ .vent then
    match s.entryOf b with
    | none => s
    | some (e, _) => s.setCtx r (.escort night s.sup.profiles[r].window b e)
  else s

/-- A plain grant. -/
def State.plainGrant (s : State) (r : Room) (b : Nat) (night : Bool) (rights : Rights) : State × ReaderAnswer :=
  ((s.grantEntry r [⟨b, none⟩]).openGroup r night b rights, s.grantAnswer r)

/-- The completion of a custody pair (R53). -/
def State.completePair (s : State) (r : Room) (first : Nat) (firstRights : Rights) (night : Bool) (second : Nat) :
    State × ReaderAnswer :=
  let t := (s.grantEntry r [⟨first, none⟩, ⟨second, none⟩]).setCtx r .empty
  (t.openGroup r night first firstRights, s.grantAnswer r)

/-- Custody (R52, R53). -/
def State.custodyStage (s : State) (r : Room) (b : Nat) (night : Bool) (rights : Rights) : State × ReaderAnswer :=
  match s.ctx[r] with
  | .custody n _ first firstRights =>
    if first = b then (s, .await .secondCustodian)
    else if rights.custody then s.completePair r first firstRights n b
    else (s, .deny .custodyRequired)
  | _ =>
    if rights.custody then (s.setCtx r (.custody night s.sup.profiles[r].window b rights), .await .secondCustodian)
    else (s, .deny .custodyRequired)

/-- A visitor (R55). -/
def State.visitorStage (s : State) (r : Room) (b : Nat) : State × ReaderAnswer :=
  match s.ctx[r] with
  | .escort n _ escort e =>
    let count := match s.roll.entries.get e with | none => 0 | some o => o.escorted
    let limit := s.escortLimit escort
    if limit ≤ count then (s.setCtx r .empty, .deny .escortRequired)
    else
      let t := s.grantEntry r [⟨b, some e⟩]
      (t.setCtx r (if count + 1 = limit then .empty else .escort n s.sup.profiles[r].window escort e), s.grantAnswer r)
  | _ => (s, .deny .escortRequired)

/-- Stage 9. -/
def State.pairingStage (s : State) (r : Room) (b : Nat) (cls : Class) (night : Bool) (rights : Rights) :
    State × ReaderAnswer :=
  if cls = .visitor then s.visitorStage r b
  else if s.custodyApplies r cls night then s.custodyStage r b night rights
  else s.plainGrant r b night rights

/-! ### The entry decision (R40) -/

/-- Stages 7 to 9. -/
def State.lastStages (s : State) (r : Room) (b : Nat) (cls : Class) (night : Bool) (rights : Rights) : State × ReaderAnswer :=
  if (s.entryOf b).isSome then (s, .deny .passback)
  else if !s.roomFor r (if s.custodyApplies r cls night then 2 else 1) then (s, .deny .capacityFull)
  else s.pairingStage r b cls night rights

/-- Stages 4 to 9, for an ACTIVE record. -/
def State.decideBearer (s : State) (r : Room) (b : Nat) (rec : Bearer) (digits : List Nat) : State × ReaderAnswer :=
  if !s.inValidity rec then (s, .deny .outOfValidity)
  else
    let night := s.nightRules r rec.cls
    match s.chainWalk rec.cls r (s.needed r night) Config.maxChain rec.chainHead false with
    | .named => (s, .deny .outsideSchedule)
    | .nothing => (s, .deny .noPermission)
    | .matched rights =>
      match s.pinStage r b rec night digits with
      | (s, some answer) => (s, answer)
      | (s, none) => s.lastStages r b rec.cls night rights

/-- Stage 3 onward. -/
def State.decideToken (s : State) (r : Room) (t : Token) (digits : List Nat) : State × ReaderAnswer :=
  match s.findToken t with
  | none => (s, .deny .unknown)
  | some b =>
    match s.bt.bearers.get b with
    | none => (s, .deny .unknown)
    | some rec =>
      match rec.state with
      | .retiring => (s, .deny .revoked)
      | .suspended => (s, .deny .suspended)
      | .active => s.decideBearer r b rec digits

/-- An entry presentation, decided stage by stage. -/
def State.entryPresentation (s : State) (a : Addr) (r : Room) (t : Token) (digits : List Nat) : State × ReaderAnswer :=
  match s.doorDenies a r with
  | some reason => (s, .deny reason)
  | none => if s.zones[r].state.allowsEntry then s.decideToken r t digits else (s, .deny .zoneActive)

/-- A presentation at the door unit at an address, which serves a strongroom. -/
def State.presentation (s : State) (a : Addr) (r : Room) (p : DoorPresentation) : State × ReaderAnswer :=
  match p.side with
  | .exit => s.exitPresentation r p.token
  | .entry => s.entryPresentation a r p.token (keptDigits p.digits)

/-! ### The pairing window (R56) -/

/-- The ticks left in a context's window. -/
def Context.window? : Context → Option Nat
  | .empty => none
  | .custody _ w _ _ => some w
  | .escort _ w _ _ => some w

/-- The window's expiry is due. -/
def State.windowIsDue (s : State) (r : Room) : Bool := s.ctx[r].window? = some 0

def State.takeWindowExpiry (s : State) (r : Room) : State := expiry (s.windowIsDue r) (·.dropContext r) s

/-- PAIRING_WINDOW_EXPIRY (R56). -/
def execPairingWindowExpiry (door : Room) (s : State) : Host.Outcome State Fault Refusal := .next (s.takeWindowExpiry door)

end Sys2Proof.Machine
end

