-- ==== Sys2Proof/Machine/Stations.lean ====
section
/-! DEFINITION. Machine/Stations.lean: the Loop Master (chapter 9): persistence, the owners of points and events, loss and
recovery, the contents of polls, and the meanings of POLL, BROADCAST_POLL, POLL_MISSED, REPORT, STATION CONFIGURE and STATION
READ. -/
namespace Sys2Proof.Machine

open Sys2Proof

/-! ### Persistence (R155) -/

/-- A point that has not been reported. -/
def Point.fresh : Point := ⟨none, none, 0, false⟩

/-- An accepted state stored; a call point is held from Active to Normal (R105). -/
def Point.accept (p : Point) (st : PointState) : Point :=
  { p with accepted := some st, held := match st with | .active => true | .normal => false | _ => p.held }

/-- A reported state through persistence; the accepted change, if it makes one. -/
def Point.filter (p : Point) (persistence : Nat) (st : PointState) : Point × Option PointState :=
  let p : Point :=
    if p.candidate = some st then { p with count := min 4 (p.count + 1) } else { p with candidate := some st, count := 1 }
  if persistence ≤ p.count ∧ p.accepted ≠ some st then (p.accept st, some st) else (p, none)

/-- The points of a station through a report, with the accepted changes in point order. -/
def filterPoints (t : StationType) : Nat → List Point → List PointState → List (Point × Option PointState)
  | i, p :: ps, st :: sts => p.filter (t.persistence i) st :: filterPoints t (i + 1) ps sts
  | _, _, _ => []

/-! ### Faults and owners (R156) -/

/-- The fault condition of an accepted change at point `i` (counted from 0). -/
def State.pointFault (s : State) (a : Addr) (i : Nat) (st : PointState) : State :=
  match st with
  | .normal | .active => s.alarmGone (.forPoint (num a) (i + 1))
  | .openFault | .shortFault => s.raiseAlarm (.forPoint (num a) (i + 1))

/-- The fault conditions of a report's accepted changes. -/
def State.pointFaults (s : State) (a : Addr) : Nat → List (Option PointState) → State
  | _, [] => s
  | i, none :: cs => s.pointFaults a (i + 1) cs
  | i, some st :: cs => (s.pointFault a i st).pointFaults a (i + 1) cs

/-- The condition a zone takes for a point: the accepted change's, or what it has taken before. -/
def changedCondition (c : Option PointState) (old : Condition) : Condition :=
  match c with
  | none => old
  | some st => st.condition

/-- Accepted changes of a detector interface, at its zone. -/
def ZoneInputs.detectors (i : ZoneInputs) (cs : List (Option PointState)) : ZoneInputs :=
  { i with
    detectorA := changedCondition (cs.getD 0 none) i.detectorA
    detectorB := changedCondition (cs.getD 1 none) i.detectorB }

/-- Accepted changes of a release unit, at its zone. -/
def ZoneInputs.releaseUnit (i : ZoneInputs) (cs : List (Option PointState)) : ZoneInputs :=
  { i with
    manual := changedCondition (cs.getD 0 none) i.manual
    abort := changedCondition (cs.getD 1 none) i.abort
    lockout := changedCondition (cs.getD 2 none) i.lockout
    flow := changedCondition (cs.getD 3 none) i.flow }

/-- A call-point station's accepted changes at the Alarm Table, against its points as the report leaves them. DEDUCED (assumption 36). -/
def State.callPoints (s : State) (a : Addr) (cs : List (Option PointState)) : State :=
  cs.foldl
    (fun s c =>
      match c with
      | none => s
      | some st => s.callPoint a st (s.loop.stations[a].points.any (·.held)))
    s

/-- The accepted changes of one report handed to the owner of the station's points. -/
def State.ownerTakes (s : State) (a : Addr) (cs : List (Option PointState)) : State :=
  let st := s.loop.stations[a]
  match st.type, st.serves with
  | .doorUnit, some r =>
    s.doorPoints a r ⟨cs.getD 0 none, cs.getD 1 none, cs.getD 2 none, cs.getD 3 none⟩
  | .detectorIf, some r => s.zoneInputs r (s.zones[r].inputs.detectors cs)
  | .releaseUnit, some r => s.zoneInputs r (s.zones[r].inputs.releaseUnit cs)
  | .callPoint, _ => s.callPoints a cs
  | _, _ => s

/-! ### Loss (R152) -/

/-- The flags become unknown when no other bank monitor is ONLINE (R136). -/
def State.monitorLost (s : State) (a : Addr) : State := if s.otherMonitorOnline a then s else s.flagsUnknown

/-- The missing meaning handed to the owner of a station's points. -/
def State.missingMeaning (s : State) (a : Addr) : State :=
  let st := s.loop.stations[a]
  match st.type, st.serves with
  | .doorUnit, some r => (s.doorPointsLost r).doorUnknown r .lost
  | .detectorIf, some r => s.zoneInputs r { s.zones[r].inputs with detectorA := .fault, detectorB := .fault }
  | .releaseUnit, some r =>
    s.zoneInputs r { s.zones[r].inputs with manual := .fault, abort := .fault, lockout := .fault, flow := .fault }
  | .bankMonitor, _ => s.monitorLost a
  | _, _ => s

/-- The points of a station that is lost: candidates and counts cleared, accepted states not known but for call points. -/
def Station.lostPoints (st : Station) (fresh : Bool) : List Point :=
  st.points.map fun p =>
    { p with
      candidate := none, count := 0
      accepted := if fresh && st.type ≠ .callPoint then none else p.accepted }

/-- A station enters MISSING or WRONG_TYPE, and STATION_MISSING is raised, after what its missing meaning ends (R152): DESIGN CHOICE
(assumption 61). -/
def State.loseStation (s : State) (a : Addr) (state : StationState) : State :=
  let st := s.loop.stations[a]
  let fresh := st.state = .pending || st.state = .online
  let s := s.setStation a { st with state := state, slots := .clear, points := st.lostPoints fresh }
  let s := if fresh then s.missingMeaning a else s
  s.raiseAlarm (.forStation .stationMissing a)

/-- A poll of a station has ended without a valid reply. -/
def State.miss (s : State) (a : Addr) : State :=
  let st := s.loop.stations[a]
  if st.state = .unconfigured then s
  else
    let n := min Config.missLimit (st.misses + 1)
    let s := s.setStation a { st with misses := n }
    if n = Config.missLimit ∧ st.state ≠ .missing then s.loseStation a .missing else s

/-! ### Polls (R151, R157, R158) -/

/-- The standing outputs of a station's poll. Every poll carries them (R151): DEDUCED (assumption 55), also one to a MISSING or
WRONG_TYPE station. DESIGN CHOICE (assumption 56): a station of strongroom 0 is sent the outputs of no demand. -/
def State.standing (s : State) (a : Addr) : StandingOutputs :=
  let st := s.loop.stations[a]
  match st.type, st.serves with
  | .doorUnit, some r => .door s.doors[r].magnet
  | .doorUnit, none => .door false
  | .releaseUnit, some r =>
    .releaseUnit s.zones[r].state.sounder s.zones[r].state.selectorOpen s.zones[r].state.extraction
  | .releaseUnit, none => .releaseUnit .off false false
  | _, _ => .nothing

/-- The contents of a station's poll, as they stand. -/
def State.pollContent (s : State) (a : Addr) : PollContent :=
  let sl := s.loop.stations[a].slots
  .station (s.standing a) (sl.bolt.map (·.command)) (sl.answers.map (·.command)) (sl.tone.map (·.command))
    (sl.fire.map (·.command)) s.loop.stations[a].lastEvent

/-- Every pending command is carried by the poll just built. -/
def Slots.carry (sl : Slots) : Slots :=
  { bolt := sl.bolt.map fun x => { x with carried := true }
    answers := sl.answers.map fun x => { x with carried := true }
    tone := sl.tone.map fun x => { x with carried := true }
    fire := sl.fire.map fun x => { x with carried := true } }

/-- A command that the replied poll carried is cleared. -/
def keepUncarried {α : Type} (x : Option (Slot α)) : Option (Slot α) := x.filter fun y => !y.carried

/-- The commands left after a valid reply. -/
def Slots.delivered (sl : Slots) : Slots :=
  ⟨keepUncarried sl.bolt, keepUncarried sl.answers, keepUncarried sl.tone, keepUncarried sl.fire⟩

/-- The phase of a poll just built: a port held OFF cannot send it. -/
def PortTwo.firstPhase (p : PortTwo) : PollPhase := if p.heldOff then .unsent else .ready

/-- A poll to a station, built and made the poll in progress. DEDUCED (assumptions 29 and 30): its phases. -/
def State.startPoll (s : State) (a : Addr) : State :=
  let current : PollInProgress := ⟨some a, s.p2.firstPhase, s.pollContent a⟩
  let s := s.setStation a { s.loop.stations[a] with slots := s.loop.stations[a].slots.carry }
  { s with loop := { s.loop with current := some current } }

/-- The address after an address, 96 going to 1. -/
def nextAddr (a : Addr) : Addr := if h : a.val + 1 < 96 then ⟨a.val + 1, h⟩ else 0

/-- The first configured station among `n` addresses from one on. -/
def State.firstConfigured (s : State) : Nat → Addr → Option Addr
  | 0, _ => none
  | n + 1, a => if s.loop.stations[a].state ≠ .unconfigured then some a else s.firstConfigured n (nextAddr a)

/-- The loop is between polls and nothing holds the scan: no poll in progress, no LINK TEST waiting, no settings to apply. -/
def State.loopFree (s : State) : Bool :=
  s.running && s.loop.current.isNone && s.sup.linkTest.isNone && !s.p2.newSettings

/-- The broadcast that is due goes next: no answer poll is due, or it has let one go before it (R158). -/
def LoopMaster.broadcastNext (l : LoopMaster) : Bool := l.broadcastDue.isSome && (l.answerDue.isNone || l.yielded)

/-- An answer poll (R157); a broadcast that is due has let it go first (R158). -/
def State.startAnswerPoll (s : State) (a : Addr) : State :=
  let t := s.startPoll a
  { t with loop := { t.loop with answerDue := none, yielded := t.loop.broadcastDue.isSome } }

/-- The next poll of the scan (R151). -/
def State.startScanPoll (s : State) : State :=
  match s.firstConfigured 96 s.loop.scan with
  | none => s
  | some a =>
    let t := s.startPoll a
    { t with loop := { t.loop with scan := nextAddr a } }

/-- POLL (R151, R157): an answer poll that is due, or the next poll of the scan. A broadcast whose place it is goes first,
unless the port is held OFF. -/
def execPoll (s : State) : Host.Outcome State Fault Refusal :=
  .next (
    if s.loopFree && (!s.loop.broadcastNext || s.p2.heldOff) then
      match s.loop.answerDue with
      | some a => s.startAnswerPoll a
      | none => s.startScanPoll
    else s)

/-- BROADCAST_POLL (R158). -/
def execBroadcastPoll (s : State) : Host.Outcome State Fault Refusal :=
  .next (
    match s.loop.broadcastDue with
    | none => s
    | some r =>
      if s.loopFree && s.loop.broadcastNext then
        { s with
          loop :=
            { s.loop with
              broadcastDue := none, yielded := false
              current := if s.p2.heldOff then none else some ⟨none, .ready, .broadcast r.date r.time r.weekday⟩ } }
      else s)

/-- The poll in progress has been sent to a station, or could not be sent. -/
def PollInProgress.mayMiss (p : PollInProgress) : Bool := p.phase = .awaiting || p.phase = .unsent

/-- POLL_MISSED (R152): not while the receiver is within a frame, which is taken whole (R164). -/
def execPollMissed (s : State) : Host.Outcome State Fault Refusal :=
  .next (
    match s.loop.current with
    | some ⟨some a, phase, content⟩ =>
      if s.running && PollInProgress.mayMiss ⟨some a, phase, content⟩ && !s.p2.rx.inFrame then
        s.event fun s => { s with loop := { s.loop with current := none } }.miss a
      else s
    | _ => s)

/-! ### Reports (R153, R154, R157) -/

/-- A reply of another type than the configured one. -/
def State.wrongType (s : State) (a : Addr) : State :=
  let st := s.loop.stations[a]
  let s := s.setStation a { st with misses := 0 }
  if st.state = .wrongType then s else s.loseStation a .wrongType

/-- The station's part of a report: ONLINE, with the STATION_MISSING condition gone. -/
def State.stationReturns (s : State) (a : Addr) : State :=
  let st := s.loop.stations[a]
  let s := s.setStation a { st with misses := 0, state := .online }
  if st.lost then s.alarmGone (.forStation .stationMissing a) else s

/-- The points of a report. DESIGN CHOICE (assumption 58): every POINT_FAULT before what the owner makes of the changes, as for
a call point's PANIC. -/
def State.takePoints (s : State) (a : Addr) (states : List PointState) : State :=
  let st := s.loop.stations[a]
  let ps := filterPoints st.type 0 st.points states
  let s := s.setStation a { st with points := ps.map Prod.fst }
  let cs := ps.map Prod.snd
  (s.pointFaults a 0 cs).ownerTakes a cs

/-- The whole pressure flags of a bank monitor's report. -/
def State.takeReportFlags (s : State) (e : Events) : State :=
  match e with
  | .pressure low => s.takeFlags low
  | _ => s

/-- Steps 1 and 2 of a report, with the flags of a bank monitor. -/
def State.takeReport (s : State) (a : Addr) (r : ReportFrame) : State :=
  (((s.stationReturns a).takePoints a r.points).takeReportFlags r.events)

/-- Presentations taken one at a time, each as one event; the answers in list order. -/
def takePresentations {α : Type} (decide_ : State → α → State × ReaderAnswer) : State → List α → State × List ReaderAnswer
  | s, [] => (s, [])
  | s, p :: ps =>
    let d := decide_ s p
    let rest := takePresentations decide_ (State.finish s d.1) ps
    (rest.1, d.2 :: rest.2)

/-- The owner's answers to a report's new events; no answers for events without an owner and for pendant reports. -/
def State.takeEvents (s : State) (a : Addr) (e : Events) : State × Option (List ReaderAnswer) :=
  match e, s.loop.stations[a].serves with
  | .door ps, some r =>
    let d := takePresentations (fun s p => s.presentation a r p) s ps
    (d.1, some d.2)
  | .checkIn ps, some r =>
    let d := takePresentations (fun s p => s.checkInPresentation r p) s ps
    (d.1, some d.2)
  | .pendant ps, _ => (ps.foldl (fun s p => s.event fun s => s.pendant a p) s, none)
  | _, _ => (s, none)

/-- The events have an owner. -/
def Station.owns (st : Station) (e : Events) : Bool :=
  match e with
  | .pendant _ => true
  | .door _ | .checkIn _ => st.serves.isSome
  | _ => false

/-- The answers of new events placed in the slot and kept, with the event number (R157). -/
def State.keepAnswers (s : State) (a : Addr) (n : Nat) (answers : Option (List ReaderAnswer)) : State :=
  let st := s.loop.stations[a]
  s.setStation a
    { st with
      lastEvent := n, lastAnswers := answers
      slots := match answers with | none => st.slots | some l => { st.slots with answers := some ⟨⟨n, l⟩, false⟩ } }

/-- The answers of events sent again, rebuilt when their slot has been cleared. -/
def State.rebuildAnswers (s : State) (a : Addr) : State :=
  let st := s.loop.stations[a]
  match st.slots.answers, st.lastAnswers with
  | none, some l => s.setStation a { st with slots := { st.slots with answers := some ⟨⟨st.lastEvent, l⟩, false⟩ } }
  | _, _ => s

/-- The answer poll that a report calls for: sent at once, unless it must wait for the settings of port 2 (R162), a LINK TEST
(R168), or a broadcast that has let another answer poll go before it (R158). DEDUCED (assumption 29). -/
def State.callAnswerPoll (s : State) (a : Addr) : State :=
  if s.p2.newSettings || s.sup.linkTest.isSome || (s.loop.broadcastDue.isSome && s.loop.yielded) then
    { s with loop := { s.loop with answerDue := some a } }
  else s.startAnswerPoll a

/-- Steps 3 and 4 of a report. -/
def State.reportEvents (s : State) (a : Addr) (r : ReportFrame) : State :=
  if r.eventNumber = 0 then s
  else
    let owned := s.loop.stations[a].owns r.events
    let s :=
      if r.eventNumber = s.loop.stations[a].lastEvent then s.rebuildAnswers a
      else
        let d := s.takeEvents a r.events
        d.1.keepAnswers a r.eventNumber d.2
    if owned then s.callAnswerPoll a else s

/-- The poll is complete; the commands it carried have been delivered. -/
def State.endPoll (s : State) (a : Addr) : State :=
  let s := s.setStation a { s.loop.stations[a] with slots := s.loop.stations[a].slots.delivered }
  { s with loop := { s.loop with current := none } }

/-- A valid reply of the polled station, whose declared type is given. -/
def State.validReply (s : State) (a : Addr) (t : StationType) (r : ReportFrame) : State :=
  let s1 := s.endPoll a
  let st := s1.loop.stations[a]
  if st.state = .unconfigured then s1
  else if t ≠ st.type then State.finish s1 (s1.wrongType a)
  else (State.finish s1 (s1.takeReport a r)).reportEvents a r

/-- What port 2's receiver takes frames by: every address (R164). -/
def PortTwo.rxConfig (p : PortTwo) : RxConfig := ⟨p.usedPair, fun _ => true⟩

/-- The line bits taken by port 2's receiver; a frame dropped latches nothing (R163). -/
def State.hearLoop (s : State) (line : List Bool) : State × Option RxEvent :=
  let r := s.p2.rx.take s.p2.rxConfig line
  ({ s with p2 := { s.p2 with rx := r.1 } }, r.2)

/-- A frame handed to the Loop Master, whose payload spells `r`: a frame that is no valid reply is not taken (R152). DEDUCED
(assumption 31): it leaves the poll in progress. -/
def State.takeReply (s : State) (r : ReportFrame) (f : LinkFrame) : State :=
  match s.loop.current, r.declared? with
  | some ⟨some a, .awaiting, _⟩, some t => if isKind 5 f.kind && f.address.toNat = num a then s.validReply a t r else s
  | _, _ => s

/-- REPORT (R152 to R157, R160 to R164): the line bits of port 2's receiver, and the frame accepted in them. -/
def execReport (r : ReportFrame) (s : State) : Host.Outcome State Fault Refusal :=
  .next (
    if s.running then
      match s.hearLoop r.line with
      | (t, some (.accepted f)) => t.takeReply r f
      | (t, _) => t
    else s)

/-! ### STATION CONFIGURE and STATION READ (R149, R150) -/

/-- The zone of a type and strongroom stands where a detector interface or release unit may not be changed. -/
def State.zoneBars (s : State) (t : StationType) (room : Nat) : Bool :=
  (t = .detectorIf || t = .releaseUnit) &&
    (match room? room with
      | none => false
      | some z => s.zones[z].state ≠ .normal && s.zones[z].state ≠ .disabled)

/-- Another station is configured with the type and strongroom. -/
def State.roleTaken (s : State) (a : Addr) (t : StationType) (room : Nat) : Bool :=
  t.bound && 1 ≤ room &&
    (fins 96).any fun i => i ≠ a && s.loop.stations[i].type = t && s.loop.stations[i].room = room

/-- The old owner is told that the station no longer serves it. -/
def State.endRole (s : State) (a : Addr) : State :=
  let st := s.loop.stations[a]
  match st.type, st.serves with
  | .doorUnit, some r => (s.doorPointsLost r).doorUnknown r .start
  | .detectorIf, some r => s.zoneInputs r { s.zones[r].inputs with detectorA := .normal, detectorB := .normal }
  | .releaseUnit, some r =>
    s.zoneInputs r { s.zones[r].inputs with manual := .normal, abort := .normal, lockout := .normal, flow := .normal }
  | .callPoint, _ => s.alarmGone (.forStation .panic a)
  | .bankMonitor, _ => if st.state = .online then s.monitorLost a else s
  | _, _ => s

/-- The record of a station newly configured. -/
def Station.configured (t : StationType) (room : Nat) : Station :=
  { type := t, room := room, state := if t = .unassigned then .unconfigured else .pending, misses := 0
    points := List.replicate t.pointCount .fresh, lastEvent := 0, slots := .clear, lastAnswers := none }

/-- An answer poll that is due to a station is dropped with its record (R149, R157). -/
def State.dropAnswerPoll (s : State) (a : Addr) : State :=
  { s with loop := { s.loop with answerDue := s.loop.answerDue.filter (· ≠ a) } }

/-- The conditions of an address are gone: STATION_MISSING and every POINT_FAULT. -/
def State.stationAlarmsGone (s : State) (a : Addr) : State :=
  s.alarmsGone fun k => k = .forStation .stationMissing a || (k.kind = .pointFault && k.station = some (num a))

/-- STATION CONFIGURE's checks and its effect (R149). A poll to the station that is built and not begun is still sent as it was built, with the
one-shot commands it carries, although the record has discarded them: DESIGN CHOICE (assumption 64). -/
def stationConfigureBody (c : ConfigureArgs) (s : State) : State × Reply :=
  match addr? c.address, c.type with
  | some a, some t =>
    let st := s.loop.stations[a]
    if 16 < c.room then refuse .format s
    else if s.zoneBars st.type st.room || s.zoneBars t c.room then refuse .state s
    else if s.roleTaken a t c.room then refuse .conflict s
    else if st.type = t ∧ st.room = c.room then (s, .ok (.station st.type st.room st.state))
    else
      let new := Station.configured t c.room
      ((((s.endRole a).stationAlarmsGone a).dropAnswerPoll a).setStation a new, .ok (.station new.type new.room new.state))
  | _, _ => refuse .format s

/-- The pending commands as STATION READ marks them. -/
def Slots.marks (sl : Slots) : SlotMarks := ⟨sl.bolt.isSome, sl.answers.isSome, sl.tone.isSome, sl.fire.isSome⟩

/-- A point as STATION READ shows it (R150). -/
def Point.view (p : Point) : PointView := ⟨p.accepted, p.candidate, p.count⟩

def stationReadBody (n : Nat) (s : State) : State × Reply :=
  match addr? n with
  | none => refuse .format s
  | some a =>
    let st := s.loop.stations[a]
    (s, .ok (.stationRead st.type st.room st.state st.misses (st.points.map Point.view) st.lastEvent st.slots.marks))

/-- STATION CONFIGURE (R149). -/
def execStationConfigure (a : Option ConfigureArgs) (s : State) : Host.Outcome State Fault Refusal :=
  serveFields 0x80 a stationConfigureBody s

/-- STATION READ (R150). -/
def execStationRead (address : Option Nat) (s : State) : Host.Outcome State Fault Refusal :=
  serveFields 0x81 address stationReadBody s

end Sys2Proof.Machine
end

