-- ==== Sys2Proof/Machine/Link.lean ====
section
/-! DEFINITION. Machine/Link.lean: the Link Engines (chapter 10): reception at the Supervisor Port, transmission on both ports, the
link settings, LINK TEST, and the meanings of their commands. -/
namespace Sys2Proof.Machine

open Sys2Proof

/-! ### Frames sent (R165, R169, R174) -/

/-- The answer codes of R169. -/
def AnswerCode.octet : AnswerCode → Octet
  | .ok => 0
  | .format => 1
  | .notFound => 2
  | .conflict => 3
  | .full => 4
  | .state => 5

/-- The notice kind codes of R174. -/
def Notice.code : Notice → Octet
  | .alarm _ _ _ _ _ => 1
  | .zone _ _ _ _ _ _ _ _ _ => 2
  | .door _ _ _ _ _ _ _ _ _ => 3
  | .roll _ _ _ _ _ _ => 4
  | .cylinder _ _ _ _ => 5
  | .coverage _ _ => 5
  | .station _ _ _ _ => 6
  | .site _ _ _ => 7
  | .bearer _ _ _ => 8

/-- The contents of a notice, field by field in the order in which the owning rule lists them (R174): R102 of an alarm, R130 of a zone, R90
of a door, R73 of a strongroom's roll, R145 of a cylinder and, with R138, of a coverage record, R150 of a station, R36 of the site and R12
of a bearer. -/
def Notice.fields : Notice → List NoticeField
  | .alarm _ shown priority repeats raisedAt =>
    [.alarmState shown, .alarmPriority priority, .alarmRepeats repeats, .alarmRaisedAt raisedAt]
  | .zone _ state cause holds kind authorise envelopeOpen unconfirmed remainder =>
    [.zoneState state, .zoneDisableCause cause, .zoneHolds holds, .zoneKind kind, .zoneAuthorise authorise,
     .zoneEnvelopeOpen envelopeOpen, .zoneUnconfirmed unconfirmed, .zoneRemainder remainder]
  | .door _ state kind cause timeLock closeDemand lockdown hold envelope =>
    [.doorState state, .doorReleaseKind kind, .doorOpenCause cause, .doorTimeLock timeLock, .doorCloseDemand closeDemand,
     .doorLockdown lockdown, .doorHold hold, .doorEnvelope envelope]
  | .roll _ headCount unreconciled lapsed revokedInside tick =>
    [.rollHeadCount headCount, .rollUnreconciled unreconciled, .rollLapsed lapsed, .rollRevokedInside revokedInside, .rollTick tick]
  | .cylinder _ state charge reservedTo => [.cylinderState state, .cylinderCharge charge, .cylinderZone reservedTo]
  | .coverage _ c =>
    [.coverageBasis c.basis, .coverageRequired c.required, .coverageSum c.sum, .coverageAchieved c.achieved,
     .coverageGrade c.grade, .coverageCount c.count]
  | .station _ type room state => [.stationType type, .stationRoom room, .stationState state]
  | .site state override clockSet => [.siteState state, .siteOverride override, .siteClockSet clockSet]
  | .bearer _ state failedPin => [.bearerState state, .bearerFailedPin failedPin]

/-- The payload of a notice: the kind code, the object, and the contents in their order (R174). The octets of the object and of each field
are free (assumption 4). -/
def Notice.payload (n : Notice) : List Octet :=
  n.code :: (Config.objectOctets n.object ++ n.fields.flatMap Config.fieldOctets)

/-- The octets of an answer's contents: none where it carries none, those of an accepted ENROL, low octet first (R169, R170), and the one
features octet of an accepted PROFILE LOAD (R173). For the others the spec gives the fields and no layout: the octets are free
(assumption 4). -/
def Contents.octets : Contents → List Octet
  | .nothing => []
  | .enrolled n minutes => [BitVec.ofNat 8 n, BitVec.ofNat 8 (n / 256), BitVec.ofNat 8 minutes]
  | .features stored => [stored]
  | c => Config.contentsOctets c

/-- A payload holds at most 120 octets (R159). -/
def boundedPayload (os : List Octet) : List Octet := os.take Config.maxPayload

/-- The frame that sends an entry of the transmit queue: the part's address, the kind with its Busy mark, the request's tag or
0, and the payload with its head. -/
def SentFrame.linkFrame (f : SentFrame) : LinkFrame :=
  match f.entry with
  | .answer a _ =>
    { address := f.address, kind := kindOctet 2 f.busy, tag := a.tag
      payload := boundedPayload ([a.request, a.code.octet] ++ a.contents.octets) }
  | .notice n =>
    { address := f.address, kind := kindOctet 3 f.busy, tag := 0
      payload := boundedPayload n.payload }

/-- The line bits of a frame on port 1: the sync pairs before it, and the frame (R159, R165). -/
def SentFrame.line (f : SentFrame) : List Bool := f.pair.idle f.lead ++ f.linkFrame.line

/-- The frame that sends the poll in progress. -/
def PollInProgress.linkFrame (p : PollInProgress) : LinkFrame :=
  { address := match p.address with | none => 0 | some a => BitVec.ofNat 8 (num a)
    kind := kindOctet 4 false, tag := 0, payload := boundedPayload (Config.pollOctets p.content) }

/-- The line bits of a poll: one more sync pair, and the frame (R159, R165). -/
def PollInProgress.line (p : PollInProgress) (pair : SyncPair) : List Bool := pair.idle 1 ++ p.linkFrame.line

/-! ### The data outputs (R161, R165, R168) -/

/-- What a data output sends: zero for the rest of a reset that cut off a frame, nothing that a rule gives while its transmitter
is OFF, one outside the turns of Shared mode, sync pairs one after another, or the bits of a frame with the pairs before it. -/
inductive LineOutput
  | zero
  | off
  | one
  | pairs (pair : SyncPair)
  | bits (line : List Bool)
  deriving DecidableEq, Repr

/-- The data output of port 1; it is held at one while the loop of the loopback test is made. -/
def PortOne.output (p : PortOne) (looped : Bool) : LineOutput :=
  if looped then .one
  else if p.dataLow then .zero
  else
    match p.tx, p.sending with
    | .off, _ => .off
    | .sending, some f => .bits f.line
    | _, _ => if p.txMode = .direct || p.turn.isSome then .pairs p.txPair else .one

/-- The data output of port 2; it is held at one while the loop of the loopback test is made. -/
def State.loopOutput (s : State) (looped : Bool) : LineOutput :=
  if looped then .one
  else if s.p2.dataLow then .zero
  else
    match s.p2.tx, s.loop.current with
    | .off, _ => .off
    | .sending, some p => .bits (p.line s.p2.usedPair)
    | _, _ => .pairs s.p2.usedPair

/-! ### Reception at port 1 (R163, R164, R166) -/

/-- The addresses port 1 accepts. -/
def State.acceptsAddress (s : State) (a : Octet) : Bool := a = s.sup.unitAddress || a = 255#8

/-- A REQUEST joins the tail of the request queue, or is dropped with Overrun latched. -/
def PortOne.takeFrame (p : PortOne) (f : LinkFrame) : PortOne :=
  if isKind 1 f.kind then
    if p.requests.length < Config.requestQueueSize then
      { p with requests := p.requests ++ [⟨f.address, f.tag, f.payload⟩] }
    else { p with overrun := true }
  else p

/-- The end of a frame at the receiver; its return to HUNT brings new settings into use. -/
def PortOne.frameEnds (p : PortOne) (e : RxEvent) : PortOne :=
  let p :=
    match e with
    | .accepted f => p.takeFrame f
    | .dropped => { p with errorMark := true }
    | .discarded => p
  { p with rxPair := p.txPair }

/-- What port 1's receiver takes frames by. -/
def State.rxConfig (s : State) : RxConfig := ⟨s.p1.rxPair, s.acceptsAddress⟩

/-- The line bits taken by port 1's receiver. -/
def State.hear (s : State) (line : List Bool) : State :=
  let r := s.p1.rx.take s.rxConfig line
  let p := { s.p1 with rx := r.1 }
  s.setPortOne (match r.2 with | none => p | some e => p.frameEnds e)

/-- SUPERVISOR_FRAME_RECEIVED (R163, R164): the next line bits, up to the end of a frame at most. -/
def execSupervisorFrameReceived (line : List Bool) (s : State) : Host.Outcome State Fault Refusal :=
  .next (if s.running then s.hear line else s)

/-! ### Transmission (R165, R167) -/

/-- Port 1 may begin the frame at the head of its queue. -/
def State.mayTransmit (s : State) : Bool :=
  s.running && !s.p1.heldOff && s.p1.tx = .idle && !s.sup.restartDue && (s.p1.txMode = .direct || s.p1.turn.isSome)

/-- The sync pairs before the next frame: one more in Direct mode, and in a turn of Shared mode two before its first frame and
one between frames (R165). -/
def PortOne.lead (p : PortOne) : Nat := if p.txMode = .shared && p.turn = some 0 then 2 else 1

/-- Port 1 begins a frame: the entry is freed and pending marks are served. -/
def State.beginFrame (s : State) : State :=
  match s.p1.queue with
  | [] => s
  | e :: rest =>
    let p :=
      { s.p1 with
        queue := rest, tx := .sending
        sending := some ⟨s.p1.txPair, s.p1.lead, s.sup.sentAddress, s.p1.busy, e⟩ }
    (s.setPortOne p).serveMarks p.marks

/-- Port 2 begins the poll in progress. -/
def State.beginPoll (s : State) : State :=
  match s.loop.current with
  | some ⟨a, .ready, c⟩ =>
    if s.running && !s.p2.heldOff then
      { s with loop := { s.loop with current := some ⟨a, .sending, c⟩ }, p2 := { s.p2 with tx := .sending } }
    else s
  | _ => s

/-- FRAME_TRANSMIT (R165, R167). -/
def execFrameTransmit (port : Port) (s : State) : Host.Outcome State Fault Refusal :=
  .next (
    match port with
    | .supervisor => if s.mayTransmit then s.beginFrame else s
    | .fieldLoop => s.beginPoll)

/-- The turn after a frame of it has been sent: it goes on while an answer waits, and with notices up to four frames (R165). DESIGN CHOICE
(assumption 25): the count. -/
def PortOne.turnAfter (p : PortOne) : Option Nat :=
  match p.turn with
  | none => none
  | some n => if p.queue.any TxEntry.isAnswer || (n + 1 < 4 && !p.queue.isEmpty) then some (n + 1) else none

/-- What an entry's transmission brings about. -/
def TxEntry.after : TxEntry → AfterSent
  | .answer _ a => a
  | .notice _ => .nothing

/-- Port 1 has sent its frame. -/
def State.frameDone (s : State) : State :=
  match s.p1.sending with
  | none => s
  | some f => (s.setPortOne { s.p1 with tx := .idle, sending := none, turn := s.p1.turnAfter }).applyAfter f.entry.after

/-- Port 2 has sent its poll: a station's reply window opens, and a broadcast is complete. -/
def State.pollSent (s : State) : State :=
  match s.loop.current with
  | some ⟨a, .sending, c⟩ =>
    { s with
      loop := { s.loop with current := match a with | none => none | some a => some ⟨some a, .awaiting, c⟩ }
      p2 := { s.p2 with tx := .idle } }
  | _ => s

/-- FRAME_SENT (R165): the last line bit of a frame has been sent. -/
def execFrameSent (port : Port) (s : State) : Host.Outcome State Fault Refusal :=
  .next (
    if s.running then
      match port with
      | .supervisor => s.frameDone
      | .fieldLoop => s.pollSent
    else s)

/-! ### Link settings (R162) -/

def linkSetBody (a : LinkSetArgs) (s : State) : State × Reply :=
  let pair : SyncPair := ⟨a.first, a.second⟩
  if !pair.valid then refuse .format s
  else
    match a.port, a.setting with
    | 1, .mode (some m) =>
      (s.setPortOne { s.p1 with pair := pair, mode := m }, ⟨.ok, .link1 pair m, .linkSettings pair m⟩)
    | 2, .rate r =>
      if bitRates.contains r then
        ({ s with p2 := { s.p2 with pair := pair, rate := r, newSettings := true } }, .ok (.link2 pair r))
      else refuse .format s
    | _, _ => refuse .format s

def linkReadBody (port : Nat) (s : State) : State × Reply :=
  match port with
  | 1 => (s, .ok (.linkRead1 s.p1.pair s.p1.mode s.p1.rx.state s.p1.tx))
  | 2 => (s, .ok (.linkRead2 s.p2.pair s.p2.rate s.p2.rx.state s.p2.tx))
  | _ => refuse .format s

/-- LINK SET (R162). -/
def execLinkSet (a : Option LinkSetArgs) (s : State) : Host.Outcome State Fault Refusal := serveFields 0x90 a linkSetBody s

/-- LINK READ (R162). -/
def execLinkRead (port : Option Nat) (s : State) : Host.Outcome State Fault Refusal := serveFields 0x91 port linkReadBody s

/-- LINK_SETTINGS_APPLY (R162): port 2's new settings take effect at the end of the poll in progress. The receiver keeps its phase and goes on
with the new pair, where R162 does not say that its search begins afresh: DESIGN CHOICE (assumption 66). -/
def execLinkSettingsApply (s : State) : Host.Outcome State Fault Refusal :=
  .next (
    if s.running && s.p2.newSettings && s.loop.current.isNone then
      { s with p2 := { s.p2 with usedPair := s.p2.pair, usedRate := s.p2.rate, newSettings := false } }
    else s)

/-! ### LINK TEST (R168) -/

/-- LINK TEST: the request is taken and waits for its run; any field is FORMAT. -/
def execLinkTest (s : State) : Host.Outcome State Fault Refusal :=
  match s.takeRequest (hasCode 0x92) with
  | none => .next s
  | some (f, s1) =>
    .next (
      if f.payload.length = 1 then { s1 with sup := { s1.sup with linkTest := some f } }
      else s1.carryOut f 0x92 fun _ s => refuse .format s)

/-- The key of a port's self-test failure. -/
def portFault (port : Nat) : AlarmKey := .forPoint 0 port

/-- The effect of a loopback test's result on port 2; the test has put the receiver into HUNT. -/
def State.linkTested (s : State) (pass : Bool) : State :=
  match s.p2.heldOff, pass with
  | false, true => { s with p2 := { s.p2 with rx := .hunting } }
  | false, false => { s with p2 := { s.p2 with heldOff := true, rx := .off, tx := .off } }.raiseAlarm (portFault 2)
  | true, true => { s with p2 := { s.p2 with heldOff := false, rx := .hunting, tx := .idle } }.alarmGone (portFault 2)
  | true, false => s

/-- LINK_TEST_RUN (R168): the test runs on the line the receiver sees, and the request is answered. DEDUCED (assumption 52): other requests
wait for it. -/
def execLinkTestRun (line : List Bool) (s : State) : Host.Outcome State Fault Refusal :=
  .next (
    match s.sup.linkTest with
    | none => s
    | some f =>
      if s.running && s.loop.current.isNone && !s.p2.newSettings then
        let pass := loopbackPasses s.p2.usedPair .fieldLoop line
        { s with sup := { s.sup with linkTest := none } }.carryOut f 0x92 fun _ t =>
          (t.linkTested pass, .ok (.testResult pass))
      else s)

end Sys2Proof.Machine
end

