-- ==== Sys2Proof/Machine/Supervisor.lean ====
section
/-! DEFINITION. Machine/Supervisor.lean: the Supervisor Request Handler's own requests and MAINS_OK (chapter 11): STATUS, ADDRESS
SET, PROFILE LOAD, PROFILE READ, a request of no known code, and MAINS_OK_CHANGE. -/
namespace Sys2Proof.Machine

open Sys2Proof

/-- What STATUS reads (R171). -/
def State.statusContents (s : State) : Contents :=
  .status Config.identity Config.revision s.sup.cause s.clk.isSet s.clk.siteState s.clk.override s.bt.retention
    s.sup.unitAddress s.alarms.overflow s.p1.errorMark s.p1.overrun (rooms.map fun z => s.zones[z].state)
    (rooms.map fun d => s.doors[d].state)

def statusBody (f : RequestFrame) (s : State) : State × Reply :=
  (if f.broadcast then s else s.setPortOne { s.p1 with errorMark := false, overrun := false }, .ok s.statusContents)

def addressSetBody (n : Nat) (s : State) : State × Reply :=
  if n = 0 ∨ 255 ≤ n then refuse .format s
  else
    ({ s with sup := { s.sup with unitAddress := BitVec.ofNat 8 n } }, ⟨.ok, .nothing, .unitAddress (BitVec.ofNat 8 n)⟩)

/-- PROFILE LOAD is refused with STATE before its fields are tested (R173). -/
def State.barsProfile (s : State) (r : Room) : Bool :=
  (s.zones[r].state ≠ .normal && s.zones[r].state ≠ .disabled) || s.ctx[r] ≠ .empty

/-- An accepted load, handed to the blocks that depend on it, in the order R173 lists them: DESIGN CHOICE (assumption 63). -/
def State.loadProfile (s : State) (r : Room) (p : Profile) : State :=
  let s := { s with sup := { s.sup with profiles := s.sup.profiles.set r p } }
  let s := ((s.refreshCoverage r).deriveTimeLock r).retest r
  if s.zones[r].state = .normal then s.testInputs r else s

def profileLoadBody (a : ProfileArgs) (s : State) : State × Reply :=
  withRoom a.room s fun r =>
    if s.barsProfile r then refuse .state s
    else
      match a.profile? with
      | none => refuse .format s
      | some p =>
        if p.capacity < s.headCount r then refuse .state s else (s.loadProfile r p, .ok (.features p.features))

def profileReadBody (n : Nat) (s : State) : State × Reply :=
  withRoom n s fun r => (s, .ok (.profile s.sup.profiles[r]))

/-- A payload that is empty or begins with no known request code (R170). -/
def unknownPayload (payload : List Octet) : Bool :=
  match payload with
  | [] => true
  | c :: _ => !requestCodes.contains c.toNat

/-- STATUS (R171). -/
def execStatus (s : State) : Host.Outcome State Fault Refusal := serveBare 0xA0 statusBody s

/-- ADDRESS SET (R171). -/
def execAddressSet (address : Option Nat) (s : State) : Host.Outcome State Fault Refusal :=
  serveFields 0xA2 address addressSetBody s

/-- PROFILE LOAD (R173). -/
def execProfileLoad (a : Option ProfileArgs) (s : State) : Host.Outcome State Fault Refusal :=
  serveFields 0xA3 a profileLoadBody s

/-- PROFILE READ (R173). -/
def execProfileRead (room : Option Nat) (s : State) : Host.Outcome State Fault Refusal :=
  serveFields 0xA4 room profileReadBody s

/-- A request of no known code: FORMAT, with the received code or 0 echoed (R170). -/
def execUnknownRequest (s : State) : Host.Outcome State Fault Refusal :=
  serveWhen unknownPayload (fun _ s => refuse .format s) s

/-- The effect of a changed MAINS_OK line. -/
def State.mainsChanged (s : State) : State :=
  if s.lines.mainsOk then s.alarmGone (.bare .mainsFail) else s.raiseAlarm (.bare .mainsFail)

/-- MAINS_OK_CHANGE (R177). DEDUCED (assumptions 8 and 13): a repeated level, and a level in reset, is only recorded. -/
def execMainsOkChange (active : Bool) (s : State) : Host.Outcome State Fault Refusal :=
  let t := { s with lines := { s.lines with mainsOk := active } }
  .next (if s.running && s.lines.mainsOk != active then State.finish s t.mainsChanged else t)

end Sys2Proof.Machine
end

