-- ==== Sys2Proof/Machine/Startup.lean ====
section
/-! DEFINITION. Machine/Startup.lean: retained memory across resets, the start-up sequence (R37, R74, R111, R131, R146, R147,
R175, R176), and the meanings of RESTART, POWER_UP, MAIN_SUPPLY_FAIL, BACKUP_LOSS, the reset line and RESTART_WARM_RESET. -/
namespace Sys2Proof.Machine

open Sys2Proof

/-! ### The state the blocks start from -/

/-- A zone's state after a warm reset (R131). -/
def ZoneState.restarted : ZoneState → ZoneState
  | .disabled => .disabled
  | .normal | .alert | .held | .countdown | .waitBank => .normal
  | .discharging | .soak | .vent => .vent

/-- A zone record after a warm reset, before its hold reasons are derived. -/
def Zone.restarted (z : Zone) : Zone :=
  let st := z.state.restarted
  let vent := st = .vent
  { Zone.cold with
    state := st, disableCause := z.disableCause
    kind := if vent then z.kind else .noKind
    envelopeOpen := vent && z.envelopeOpen
    flowSeen := vent && z.flowSeen
    unconfirmed := vent && (z.unconfirmed || (z.state = .discharging && !z.flowSeen)) }

/-- A cylinder after a warm reset, by the state its zone held (R146). DEDUCED (assumption 18): one with no zone is READY. -/
def Cylinder.restarted (zones : Vector Zone 16) (c : Cylinder) : Cylinder :=
  if c.state = .reserved then
    let st :=
      match c.zone with
      | none => CylinderState.ready
      | some z => if zones[z].state = .discharging then (if zones[z].flowSeen then .spent else .fault) else .ready
    { c with state := st, zone := none, deferredLow := false }
  else c

/-- A station after a warm reset (R147). -/
def Station.restarted (st : Station) : Station := Station.configured st.type st.room

/-- The alarm table emptied (R104). -/
def AlarmTable.empty : AlarmTable := { records := [], overflow := false, general := false, fault := false }

/-- What a warm reset keeps, with every block at its start (R175). DEDUCED (assumption 12): the clock goes on. -/
def State.kept (s : State) (cause : RestartCause) : State :=
  { pending := s.pending
    bt := s.bt
    clk := { s.clk with graceTimer := none }
    ctx := Vector.replicate 16 .empty
    roll := s.roll
    doors := Vector.replicate 16 .cold
    alarms := .empty
    zones := vgen fun z => s.zones[z].restarted
    bank := { AgentBank.cold with cylinders := vgen fun p => s.bank.cylinders[p].restarted s.zones }
    loop := { LoopMaster.cold with stations := vgen fun a => s.loop.stations[a].restarted }
    p1 := .fresh s.p1.pair s.p1.mode
    p2 := .fresh s.p2.pair s.p2.rate
    sup :=
      { s.sup with
        sentAddress := s.sup.unitAddress, cause := cause, linkTest := none, restartDue := false }
    lines := s.lines
    due := [] }

/-- Every retained item at its cold-start value (R175). -/
def State.lost (s : State) : State :=
  { State.cold with pending := s.pending, lines := { s.lines with backupLost := false } }

/-! ### Step 4 of the sequence, block by block (R176) -/

/-- The site state derived at start-up (R37). -/
def State.startSite (s : State) : SiteState :=
  if s.clk.isSet && s.clk.override ≠ .forceAfterHours && (s.siteInForce || s.clk.override = .holdOpen) then .openHours
  else .afterHours

/-- The Site Clock (R37). -/
def State.startClock (s : State) : State :=
  let s := s.takeHoliday
  let s := { s with clk := { s.clk with inForce := vgen s.evaluateSchedule } }
  ({ s with clk := { s.clk with siteState := s.startSite } } : State).owe (.object .site)

/-- The Bearer Table raises its conditions again (R13, R70). -/
def State.startBearers (s : State) : State :=
  let inside := (s.bt.bearers.filter fun p => p.2.state = .retiring && (s.entryOf p.1).isSome).map Prod.fst
  let locked := (s.bt.bearers.filter fun p => p.2.state ≠ .active && p.2.failedPin = 5).map Prod.fst
  let s := inside.foldl (fun s b => State.raiseAlarm s (.forBearer .revokedInside b)) s
  locked.foldl (fun s b => State.raiseAlarm s (.forBearer .pinLockout b)) s

/-- The Occupancy Roll (R74). -/
def State.startRoll (s : State) : State :=
  let mark (r : Room) : RoomRecord :=
    { s.roll.rooms[r] with unreconciled := s.roll.rooms[r].unreconciled || 0 < s.headCount r }
  let s := { s with roll := { s.roll with rooms := vgen mark } }
  let marked := rooms.filter fun r => s.roll.rooms[r].unreconciled
  let s := marked.foldl (fun s r => State.raiseAlarm s (.forRoom .rollUnreconciled r)) s
  let s := (rooms.filter fun r => 0 < s.lapsedCount r).foldl (fun s r => State.raiseAlarm s (.forRoom .escortLapse r)) s
  (rooms.filter s.occupied).foldl (fun s r => State.owe s (.object (.roll r))) s

/-- The conditions a zone raises again (R131). -/
def State.zoneConditions (s : State) (z : Room) : State :=
  let zn := s.zones[z]
  match zn.state with
  | .disabled => if zn.disableCause = .request then s.raiseAlarm (.forRoom .zoneDisabled z) else s
  | .vent =>
    let s := s.raiseAlarm (.forRoom .zoneRelease z)
    if zn.unconfirmed then s.raiseAlarm (.forRoom .releaseFailed z) else s
  | _ => s

/-- The Suppression Sequencer (R131). -/
def State.startZones (s : State) (warm : Bool) : State :=
  let s := { s with zones := vgen fun z => { s.zones[z] with holds := s.deriveHolds z } }
  let s := rooms.foldl State.zoneConditions s
  if warm then rooms.foldl (fun s z => State.owe s (.object (.zone z))) s else s

/-- The Agent Bank (R146); `changed` are the positions whose records the reset has changed. -/
def State.startBank (s : State) (warm : Bool) (changed : List Pos) : State :=
  let s := s.refreshAll
  let s := (rooms.filter fun z => s.bank.coverage[z].isShort).foldl
    (fun s z => State.raiseAlarm s (.forRoom .coverageShort z)) s
  let s := changed.foldl (fun s p => State.owe s (.object (.cylinder p))) s
  if warm then rooms.foldl (fun s z => State.owe s (.object (.coverage z))) s else s

/-- The Door Controller (R75). -/
def State.startDoors (s : State) : State :=
  { s with
    doors := vgen fun r => { Door.cold with timeLock := s.timeLockOf r, closeDemand := s.zones[r].state.demand } }

/-- The lone-worker fields (R111). -/
def State.startLone (s : State) : State :=
  s.setEntries (s.roll.entries.mapAll fun o =>
    if s.supervised o.room then { o with counter := s.loneLoad o, checkIn := .running, promptDue := false }
    else { o with counter := 0, checkIn := .off, promptDue := false })

/-- The ports as their self-tests leave them (R176 step 6). -/
def State.startPorts (s : State) (pass1 pass2 : Bool) : State :=
  let p1 : PortOne := if pass1 then s.p1 else { s.p1 with rx := .off, tx := .off, heldOff := true }
  let p2 : PortTwo := if pass2 then s.p2 else { s.p2 with rx := .off, tx := .off, heldOff := true }
  { s with p1 := p1, p2 := p2 }

/-! ### The sequence (R176) -/

/-- The start is a cold start: the check value differs or the latch is set (R175). -/
def State.startsCold (s : State) : Bool := s.retained.check ≠ s.sup.checkValue || s.lines.backupLost

/-- Steps 2 to 5 on the state the blocks start from. DEDUCED (assumption 17): the order of raises and notices. -/
def State.startBlocks (s : State) (warm pass1 pass2 : Bool) (changed : List Pos) : State :=
  let s := s.raiseAlarm (.bare (if warm then .restarted else .tablesLost))
  let s := if pass1 then s else s.raiseAlarm (portFault 1)
  let s := if pass2 then s else s.raiseAlarm (portFault 2)
  let s := (s.startClock.startBearers.startRoll.startZones warm).startBank warm changed
  let s := s.startDoors.startLone
  if s.lines.mainsOk then s else s.raiseAlarm (.bare .mainsFail)

/-- The positions whose cylinder records a warm reset changes. -/
def State.resetCylinders (s : State) : List Pos :=
  (fins 48).filter fun p => s.bank.cylinders[p].restarted s.zones ≠ s.bank.cylinders[p]

/-- The end of start-up: the outputs derived, the notices queued, the check value computed. -/
def State.startEnds (s : State) : State :=
  let s := { s with alarms := { s.alarms with general := s.alarms.deriveGeneral, fault := s.alarms.deriveFault } }
  let s := s.due.foldl State.payDue { s with due := [] }
  { s with sup := { s.sup with checkValue := s.retained.check } }

/-- The start-up sequence with a restart cause, and what each port's receiver sees in its self-test. DESIGN CHOICE (assumption 16): the
self-test uses the stored pair. -/
def State.startUp (s : State) (cause : RestartCause) (line1 line2 : List Bool) : State :=
  let pass1 := loopbackPasses s.p1.pair .supervisor line1
  let pass2 := loopbackPasses s.p2.pair .fieldLoop line2
  let cold := s.startsCold
  let t := if cold then s.lost else s.kept cause
  let changed := if cold then [] else s.resetCylinders
  ((t.startPorts pass1 pass2).startBlocks (!cold) pass1 pass2 changed).startEnds

/-! ### Supplies, the reset line and RESTART (R172, R175) -/

/-- Receivers and transmitters are OFF in reset; a frame being sent is cut off with the data output at zero (R161, R163).
DEDUCED (assumption 19); the alarm outputs stand: DESIGN CHOICE (assumption 15). -/
def State.portsOff (s : State) : State :=
  { s with
    p1 := { s.p1 with rx := .off, tx := .off, sending := none, dataLow := s.p1.dataLow || s.p1.tx = .sending }
    p2 := { s.p2 with rx := .off, tx := .off, dataLow := s.p2.dataLow || s.p2.tx = .sending } }

/-- POWER_UP (R175): the main supply returns; RESET_N low keeps the part in reset with its outputs inactive (R103): DEDUCED
(assumption 14). -/
def execPowerUp (line1 line2 : List Bool) (s : State) : Host.Outcome State Fault Refusal :=
  .next (
    if s.lines.mainOn then s
    else
      let t := { s with lines := { s.lines with mainOn := true } }
      if t.lines.resetHigh then t.startUp .powerUp line1 line2 else { t with alarms := .empty })

/-- MAIN_SUPPLY_FAIL (R175): the part stops with its retained writes complete. -/
def execMainSupplyFail (s : State) : Host.Outcome State Fault Refusal :=
  .next (if s.lines.mainOn then { s.portsOff with lines := { s.lines with mainOn := false } } else s)

/-- BACKUP_LOSS (R175): the backup-loss latch is set. -/
def execBackupLoss (s : State) : Host.Outcome State Fault Refusal :=
  .next { s with lines := { s.lines with backupLost := true } }

/-- RESET_LINE_LOW (R175): the part stops and is held in reset. -/
def execResetLineLow (s : State) : Host.Outcome State Fault Refusal :=
  .next (if s.lines.resetHigh then { s.portsOff with lines := { s.lines with resetHigh := false } } else s)

/-- RESET_LINE_HIGH (R175): a warm reset with cause ResetLine. -/
def execResetLineHigh (line1 line2 : List Bool) (s : State) : Host.Outcome State Fault Refusal :=
  .next (
    if s.lines.resetHigh then s
    else
      let t := { s with lines := { s.lines with resetHigh := true } }
      if t.lines.mainOn then t.startUp .resetLine line1 line2 else t)

/-- RESTART_WARM_RESET (R172): the reset that follows the answer to RESTART. -/
def execRestartWarmReset (line1 line2 : List Bool) (s : State) : Host.Outcome State Fault Refusal :=
  .next (if s.running && s.sup.restartDue then s.startUp .request line1 line2 else s)

/-- RESTART (R172): answered OK, or, addressed to 255, a warm reset at once; any field is FORMAT. -/
def execRestart (line1 line2 : List Bool) (s : State) : Host.Outcome State Fault Refusal :=
  match s.takeRequest (hasCode 0xA1) with
  | none => .next s
  | some (f, s1) =>
    .next (
      if f.payload.length ≠ 1 then s1.carryOut f 0xA1 fun _ s => refuse .format s
      else if f.broadcast then s1.startUp .request line1 line2
      else s1.carryOut f 0xA1 fun _ s => (s, ⟨.ok, .nothing, .restart⟩))

end Sys2Proof.Machine
end

