-- ==== Sys2Proof/Machine/Timers.lean ====
section
/-! DEFINITION. Machine/Timers.lean: the meaning of SECOND_TICK: every timer and counter counted down, the clock advanced, and the
expiries that have fallen due (R1, R25, R61, R78, R82, R108, R120). -/
namespace Sys2Proof.Machine

open Sys2Proof

/-! ### Count-downs -/

/-- A timer one tick on. -/
def tickTimer (t : Option Nat) : Option Nat := t.map (· - 1)

def HeldTimer.tick : HeldTimer → HeldTimer
  | .running n => .running (n - 1)
  | t => t

def Door.tick (d : Door) : Door := { d with unlock := tickTimer d.unlock, heldOpen := d.heldOpen.tick }

def Context.tick : Context → Context
  | .empty => .empty
  | .custody n w b r => .custody n (w - 1) b r
  | .escort n w b e => .escort n (w - 1) b e

/-- A zone one tick on. In COUNTDOWN the remainder falls and the accumulated ticks rise; the tick that would end the countdown
is held for COUNTDOWN_END, which takes the rest of it (R120, R122). DESIGN CHOICE (assumption 9). -/
def Zone.tick (z : Zone) : Zone :=
  let z := { z with discharge := tickTimer z.discharge, flowStart := tickTimer z.flowStart, soak := tickTimer z.soak }
  if z.state = .countdown then
    if z.remainder ≤ 1 then { z with countdownDue := true }
    else { z with remainder := z.remainder - 1, accumulated := min Config.accumulatedTop (z.accumulated + 1) }
  else z

/-- An entry's lone-worker counter one tick on (R108). -/
def OccEntry.tick (o : OccEntry) : OccEntry :=
  if o.checkIn = .off then o
  else
    { o with
      counter := o.counter - 1
      promptDue := o.counter - 1 = Config.promptLead && (o.checkIn = .running || o.checkIn = .overdue) }

/-- Every running timer and counter, and the roll tick. -/
def State.countDown (s : State) : State :=
  { s with
    clk := { s.clk with graceTimer := tickTimer s.clk.graceTimer }
    ctx := vgen fun r => s.ctx[r].tick
    doors := vgen fun r => s.doors[r].tick
    zones := vgen fun z => s.zones[z].tick
    roll := { s.roll with tick := min Config.rollTickTop (s.roll.tick + 1), entries := s.roll.entries.mapAll OccEntry.tick } }

/-! ### Expiries (R1) -/

/-- Every expiry that is due, taken as its own event. DESIGN CHOICE (assumption 7): one fixed order. -/
def State.settle (s : State) : State :=
  let s := s.takeGraceExpiry
  let s := rooms.foldl State.takeUnlockExpiry s
  let s := rooms.foldl State.takeHeldOpenExpiry s
  let s := rooms.foldl State.takeWindowExpiry s
  let s := rooms.foldl State.takeDischargeExpiry s
  let s := rooms.foldl State.takeFlowStartExpiry s
  let s := rooms.foldl State.takeSoakExpiry s
  let s := rooms.foldl State.takeCountdownEnd s
  let s := (s.roll.entries.map Prod.fst).foldl State.takePrompt s
  (s.roll.entries.map Prod.fst).foldl State.takeOverdue s

/-- SECOND_TICK (R25). Expiries left from the tick before are taken first; those of this tick are taken before the clock is
handed on, or are left for their own commands: DESIGN CHOICE (assumption 6). Without the main supply, or in reset, only the clock runs:
DEDUCED (assumption 12). -/
def execSecondTick (expiriesFirst : Bool) (s : State) : Host.Outcome State Fault Refusal :=
  .next (
    if s.running then
      let s := s.settle.event State.countDown
      let s := if expiriesFirst then s.settle else s
      s.event State.advanceClock
    else { s with clk := s.clk.advance.clk })

end Sys2Proof.Machine
end

