-- ==== Sys2Proof/Machine/Dispatch.lean ====
section
/-! DEFINITION. Machine/Dispatch.lean: one arm per command, each a direct call of its meaning. -/
namespace Sys2Proof.Machine

open Sys2Proof

def exec (i : Instr) (s : State) : Host.Outcome State Fault Refusal :=
  match i with
  | .enrol a => Sys2Proof.Machine.execEnrol a s
  | .amend a => Sys2Proof.Machine.execAmend a s
  | .suspend bearer => Sys2Proof.Machine.execSuspend bearer s
  | .reinstate bearer => Sys2Proof.Machine.execReinstate bearer s
  | .revoke bearer => Sys2Proof.Machine.execRevoke bearer s
  | .readBearer bearer => Sys2Proof.Machine.execReadBearer bearer s
  | .findToken token => Sys2Proof.Machine.execFindToken token s
  | .retentionSet days => Sys2Proof.Machine.execRetentionSet days s
  | .chainWrite a => Sys2Proof.Machine.execChainWrite a s
  | .chainRead bearer => Sys2Proof.Machine.execChainRead bearer s
  | .scheduleWrite a => Sys2Proof.Machine.execScheduleWrite a s
  | .scheduleRead schedule => Sys2Proof.Machine.execScheduleRead schedule s
  | .holidayAdd h => Sys2Proof.Machine.execHolidayAdd h s
  | .holidayRemove h => Sys2Proof.Machine.execHolidayRemove h s
  | .holidayRead => Sys2Proof.Machine.execHolidayRead s
  | .clockSet a => Sys2Proof.Machine.execClockSet a s
  | .clockRead => Sys2Proof.Machine.execClockRead s
  | .siteSet a => Sys2Proof.Machine.execSiteSet a s
  | .siteOverride o => Sys2Proof.Machine.execSiteOverride o s
  | .rollConfirm room => Sys2Proof.Machine.execRollConfirm room s
  | .rollSweep room => Sys2Proof.Machine.execRollSweep room s
  | .rollRemove bearer => Sys2Proof.Machine.execRollRemove bearer s
  | .rollRead a => Sys2Proof.Machine.execRollRead a s
  | .doorRelease a => Sys2Proof.Machine.execDoorRelease a s
  | .doorLockdown door => Sys2Proof.Machine.execDoorLockdown door s
  | .doorRestore door => Sys2Proof.Machine.execDoorRestore door s
  | .doorRead door => Sys2Proof.Machine.execDoorRead door s
  | .alarmAck a => Sys2Proof.Machine.execAlarmAck a s
  | .alarmReset a => Sys2Proof.Machine.execAlarmReset a s
  | .alarmRead start => Sys2Proof.Machine.execAlarmRead start s
  | .zoneReset zone => Sys2Proof.Machine.execZoneReset zone s
  | .zoneDisable zone => Sys2Proof.Machine.execZoneDisable zone s
  | .zoneEnable zone => Sys2Proof.Machine.execZoneEnable zone s
  | .releaseAuthorise zone => Sys2Proof.Machine.execReleaseAuthorise zone s
  | .zoneRead zone => Sys2Proof.Machine.execZoneRead zone s
  | .cylinderInstall a => Sys2Proof.Machine.execCylinderInstall a s
  | .cylinderIsolate position => Sys2Proof.Machine.execCylinderIsolate position s
  | .cylinderReturn position => Sys2Proof.Machine.execCylinderReturn position s
  | .cylinderRemove position => Sys2Proof.Machine.execCylinderRemove position s
  | .cylinderRead position => Sys2Proof.Machine.execCylinderRead position s
  | .bankRead => Sys2Proof.Machine.execBankRead s
  | .stationConfigure a => Sys2Proof.Machine.execStationConfigure a s
  | .stationRead address => Sys2Proof.Machine.execStationRead address s
  | .linkSet a => Sys2Proof.Machine.execLinkSet a s
  | .linkRead port => Sys2Proof.Machine.execLinkRead port s
  | .linkTest => Sys2Proof.Machine.execLinkTest s
  | .status => Sys2Proof.Machine.execStatus s
  | .restart line1 line2 => Sys2Proof.Machine.execRestart line1 line2 s
  | .addressSet address => Sys2Proof.Machine.execAddressSet address s
  | .profileLoad a => Sys2Proof.Machine.execProfileLoad a s
  | .profileRead room => Sys2Proof.Machine.execProfileRead room s
  | .unknownRequest => Sys2Proof.Machine.execUnknownRequest s
  | .supervisorFrameReceived line => Sys2Proof.Machine.execSupervisorFrameReceived line s
  | .frameTransmit port => Sys2Proof.Machine.execFrameTransmit port s
  | .linkSettingsApply => Sys2Proof.Machine.execLinkSettingsApply s
  | .linkTestRun line => Sys2Proof.Machine.execLinkTestRun line s
  | .poll => Sys2Proof.Machine.execPoll s
  | .broadcastPoll => Sys2Proof.Machine.execBroadcastPoll s
  | .pollMissed => Sys2Proof.Machine.execPollMissed s
  | .report frame => Sys2Proof.Machine.execReport frame s
  | .secondTick expiriesFirst => Sys2Proof.Machine.execSecondTick expiriesFirst s
  | .graceTimerExpiry => Sys2Proof.Machine.execGraceTimerExpiry s
  | .unlockTimerExpiry door => Sys2Proof.Machine.execUnlockTimerExpiry door s
  | .heldOpenTimerExpiry door => Sys2Proof.Machine.execHeldOpenTimerExpiry door s
  | .pairingWindowExpiry door => Sys2Proof.Machine.execPairingWindowExpiry door s
  | .countdownEnd zone => Sys2Proof.Machine.execCountdownEnd zone s
  | .dischargeTimerExpiry zone => Sys2Proof.Machine.execDischargeTimerExpiry zone s
  | .flowStartTimerExpiry zone => Sys2Proof.Machine.execFlowStartTimerExpiry zone s
  | .soakTimerExpiry zone => Sys2Proof.Machine.execSoakTimerExpiry zone s
  | .loneWorkerPrompt entry => Sys2Proof.Machine.execLoneWorkerPrompt entry s
  | .loneWorkerExpiry entry => Sys2Proof.Machine.execLoneWorkerExpiry entry s
  | .mainsOkChange active => Sys2Proof.Machine.execMainsOkChange active s
  | .inhibitChange active => Sys2Proof.Machine.execInhibitChange active s
  | .powerUp line1 line2 => Sys2Proof.Machine.execPowerUp line1 line2 s
  | .mainSupplyFail => Sys2Proof.Machine.execMainSupplyFail s
  | .backupLoss => Sys2Proof.Machine.execBackupLoss s
  | .resetLineLow => Sys2Proof.Machine.execResetLineLow s
  | .resetLineHigh line1 line2 => Sys2Proof.Machine.execResetLineHigh line1 line2 s
  | .restartWarmReset line1 line2 => Sys2Proof.Machine.execRestartWarmReset line1 line2 s
  | .frameSent port => Sys2Proof.Machine.execFrameSent port s

end Sys2Proof.Machine
end

