-- ==== Sys2Proof/Safety.lean ====
section
/-! DEFINITION. Safety.lean: what counts as a safe run, and the words the statements use: a request that waits and can be served, the state
once it has been taken, its answer, and a state that differs from another only by what the end of an event queues. -/
namespace Sys2Proof.Safety

open Sys2Proof Sys2Proof.Machine

/-! ### Laws of the state -/

/-- The law of R94: no two records have the same kind-and-key, and there are at most 64. -/
def AlarmLaw (s : State) : Prop :=
  (s.alarms.records.map AlarmRecord.key).Nodup ∧ s.alarms.records.length ≤ 64

/-- The queues of port 1 hold no more than their entries, and the answer that a LINK TEST still waits for has one (R166 to
R168). -/
def QueueLaw (s : State) : Prop :=
  s.p1.requests.length ≤ 8 ∧ s.p1.queue.length ≤ 16 ∧
    ∀ f, s.sup.linkTest = some f → f.address ≠ 255 → s.p1.queue.length ≤ 15

/-- The law of R103: each alarm output is what the table and the Overflow mark make it. -/
def OutputsLaw (s : State) : Prop :=
  s.alarms.general = s.alarms.deriveGeneral ∧ s.alarms.fault = s.alarms.deriveFault

/-- The law of R123 and R143: a zone in DISCHARGING holds the manifold, so at most one zone discharges. -/
def ManifoldLaw (s : State) : Prop := ∀ z : Room, s.zones[z].state = .discharging → s.bank.manifold = some z

/-- The law of R4: the live records, listed by rising bearer number, hold distinct token codes, and the index takes each of them to
its bearer. -/
def TokenLaw (t : BearerTable) : Prop :=
  t.bearers.wf = true ∧
  (∀ b r, t.bearers.get b = some r → t.index.get r.token.toNat = some b) ∧
  ∀ tok b, t.index.get tok = some b → ∃ r, t.bearers.get b = some r ∧ r.token.toNat = tok

/-- The law of R16: every permission entry is either on the free list or on exactly one bearer's chain, and every chain ends within
16 entries. -/
structure ChainLaw (t : BearerTable) : Prop where
  count : t.freeCount = t.freeList.length
  nodup : t.freeList.Nodup
  free : ∀ e ∈ t.freeList, 1 ≤ e ∧ e ≤ 8191 ∧ t.entries.get e = none
  used : ∀ e, (t.entries.get e).isSome → 1 ≤ e ∧ e ≤ 8191 ∧ ∃ b r, t.bearers.get b = some r ∧ e ∈ t.chainOf r
  all : ∀ e, 1 ≤ e → e ≤ 8191 → e ∈ t.freeList ∨ (t.entries.get e).isSome
  disjoint : ∀ b c r q e, t.bearers.get b = some r → t.bearers.get c = some q → e ∈ t.chainOf r → e ∈ t.chainOf q → b = c
  ends : ∀ b r, t.bearers.get b = some r → (t.chainOf r).Nodup ∧ t.chain 17 r.chainHead = t.chainOf r
  heads : ∀ b r, t.bearers.get b = some r → r.chainHead = 0 ∨ (t.entries.get r.chainHead).isSome
  links : ∀ e x, t.entries.get e = some x → x.next = 0 ∨ (t.entries.get x.next).isSome

/-- The law of R72: no list holds more entries than its strongroom's capacity. -/
def CapacityLaw (s : State) : Prop := ∀ r : Room, s.headCount r ≤ s.sup.profiles[r].capacity

/-- The law of R59: the entries are listed by rising number, a bearer has at most one and each names a live bearer; a waiting
custodian is live and has none. -/
def OccupancyLaw (s : State) : Prop :=
  s.roll.entries.wf = true ∧
  (s.roll.entries.map fun p => p.2.bearer).Nodup ∧
  (∀ p ∈ s.roll.entries, (s.bt.bearers.get p.2.bearer).isSome) ∧
  ∀ (r : Room) n w b g, s.ctx[r] = .custody n w b g → s.entryOf b = none ∧ (s.bt.bearers.get b).isSome

/-- The wait queue holds zones in WAIT_BANK, each once (R143). -/
def WaitLaw (s : State) : Prop := s.bank.waitQueue.Nodup ∧ ∀ z ∈ s.bank.waitQueue, s.zones[z].state = .waitBank

/-- What keeps the law of R120: before DISCHARGING, the remainder and the accumulated ticks make up the pre-discharge delay. -/
def DelayLaw (s : State) : Prop :=
  WaitLaw s ∧ ∀ z : Room,
    s.sup.profiles[z].delay ≤ 120 ∧
    (s.zones[z].countdownDue = true → s.zones[z].state = .countdown ∧ s.zones[z].remainder ≤ 1) ∧
    (s.zones[z].state = .held ∨ s.zones[z].state = .countdown →
      s.sup.profiles[z].delay ≤ s.zones[z].remainder + s.zones[z].accumulated) ∧
    (s.zones[z].state = .waitBank → s.sup.profiles[z].delay ≤ s.zones[z].accumulated)

/-- What keeps the law of R121: while the part runs, the hold reasons of a zone are those of its inputs, and none holds in COUNTDOWN
and WAIT_BANK. -/
def HoldLaw (s : State) : Prop :=
  WaitLaw s ∧
    (s.lines.mainOn = true → s.lines.resetHigh = true → ∀ z : Room,
      s.zones[z].holds = s.deriveHolds z ∧
      (s.zones[z].state = .countdown ∨ s.zones[z].state = .waitBank → s.zones[z].holds.any = false))

/-- The law of R133: every RESERVED cylinder names a zone on the reservation list, the list holds exactly the zones in HELD,
COUNTDOWN, WAIT_BANK and DISCHARGING, and no zone has more cylinders than its limit. -/
def ReservationLaw (s : State) : Prop :=
  WaitLaw s ∧
  (∀ z : Room, z ∈ s.bank.reservations ↔ s.zones[z].state.reserving = true) ∧
  (∀ p : Pos, s.bank.cylinders[p].state = .reserved → ∃ z ∈ s.bank.reservations, s.bank.cylinders[p].zone = some z) ∧
  ∀ z : Room, (s.bank.reservedPositions z).length ≤ s.sup.profiles[z].limit

/-- The law of R138: the achieved factor is the smaller of 999 and the quotient of 100 × S by V. -/
def AchievedLaw (s : State) : Prop :=
  ∀ z : Room, s.bank.coverage[z].achieved = min 999 (100 * s.bank.coverage[z].sum / s.sup.profiles[z].volume)

/-- Every event has been ended: no notice is owed between commands (R174). -/
def Settled (s : State) : Prop := s.due = []

/-- The part runs: main supply present and RESET_N high (R175). -/
def Runs (s : State) : Prop := s.lines.mainOn = true ∧ s.lines.resetHigh = true

/-! ### The transmit queue and the notices (R167, R174) -/

/-- What an entry of the transmit queue stands for: an answer, or the object of a notice. -/
def place : TxEntry → Answer ⊕ NoticeObject
  | .answer a _ => .inl a
  | .notice n => .inr n.object

/-- The transmit queue and the pending marks of `p` after the end of an event: every entry keeps its place, an answer as it stood with what
follows its sending, a notice replaced at most by a newer one of its object; what is new at the tail is notices, and new marks stand behind
the old. So the answers of the new queue are those of the old, in order (R167). -/
def Grown (p : PortOne) (queue : List TxEntry) (marks : List NoticeObject) : Prop :=
  (∃ objects : List NoticeObject,
    queue.map (fun e => (place e, e.after)) = p.queue.map (fun e => (place e, e.after)) ++ objects.map fun o => (.inr o, .nothing)) ∧
  ∃ new, marks = p.marks ++ new

/-- The notices of an object that wait. -/
def waiting (s : State) (o : NoticeObject) : List TxEntry := s.p1.queue.filter (TxEntry.isNoticeOf o)

/-- The record of a kind-and-key. -/
def recordOf (s : State) (k : AlarmKey) : Option AlarmRecord := s.alarms.records.find? fun r => r.key = k

/-- What a change of a strongroom's roll is a change of: the head count, the mark, and the flags and links of its entries (R73). -/
def rollFigures (s : State) (r : Room) : Nat × Bool × List (Nat × Bool × Bool × Option Nat × Nat) :=
  (s.headCount r, s.roll.rooms[r].unreconciled,
    (s.entriesIn r).map fun p => (p.1, p.2.revokedInside, p.2.lapsed, p.2.link, p.2.escorted))

/-- The object differs between two states in a field whose change queues its notice (R12, R36, R73, R90, R102, R130, R145, R150). -/
def Changed (s t : State) : NoticeObject → Prop
  | .alarm k => recordOf s k ≠ recordOf t k
  | .zone z =>
    let fields (x : Zone) := (x.state, x.disableCause, x.holds, x.kind, x.authorise, x.envelopeOpen, x.unconfirmed)
    fields s.zones[z] ≠ fields t.zones[z]
  | .door d =>
    let fields (x : Door) := (x.state, x.releaseKind, x.openCause, x.timeLock, x.closeDemand, x.lockdown, x.hold)
    fields s.doors[d] ≠ fields t.doors[d]
  | .roll r => rollFigures s r ≠ rollFigures t r
  | .cylinder p => s.bank.cylinders[p] ≠ t.bank.cylinders[p]
  | .coverage z =>
    let fields (x : Coverage) := (x.basis, x.sum, x.achieved, x.grade, x.count)
    fields s.bank.coverage[z] ≠ fields t.bank.coverage[z]
  | .station a =>
    let fields (x : Station) := (x.type, x.room, x.state)
    fields s.loop.stations[a] ≠ fields t.loop.stations[a]
  | .site => (s.clk.siteState, s.clk.override, s.clk.isSet) ≠ (t.clk.siteState, t.clk.override, t.clk.isSet)
  | .bearer n =>
    (s.bt.bearers.get n).map (fun b => (b.state, b.failedPin)) ≠ (t.bt.bearers.get n).map (fun b => (b.state, b.failedPin))

/-- A notice carries the object's fields as they are in `t`. What a notice carries without being queued for it may be older: a zone's
remainder, a door's envelope, the roll tick and a zone's required quantity. -/
def Tells (t : State) : NoticeObject → Notice → Prop
  | .alarm k, n =>
    match recordOf t k with
    | some r => n = .alarm k (.standing r.state) k.kind.priority r.repeats r.raisedAt
    | none => ∃ shown at_, (∀ st, shown ≠ .standing st) ∧ n = .alarm k shown k.kind.priority 0 at_
  | .zone z, n =>
    let x := t.zones[z]
    ∃ remainder, n = .zone z x.state x.disableCause x.holds x.kind x.authorise x.envelopeOpen x.unconfirmed remainder
  | .door d, n =>
    let x := t.doors[d]
    ∃ closed, n = .door d x.state x.releaseKind x.openCause x.timeLock x.closeDemand x.lockdown x.hold closed
  | .roll r, n => ∃ tick, n = .roll r (t.headCount r) t.roll.rooms[r].unreconciled (t.lapsedCount r) (t.revokedCount r) tick
  | .cylinder p, n => n = .cylinder p t.bank.cylinders[p].state t.bank.cylinders[p].charge t.bank.cylinders[p].zone
  | .coverage z, n => ∃ required, n = .coverage z { t.bank.coverage[z] with required := required }
  | .station a, n => n = .station a t.loop.stations[a].type t.loop.stations[a].room t.loop.stations[a].state
  | .site, n => n = .site t.clk.siteState t.clk.override t.clk.isSet
  | .bearer b, n =>
    n = match t.bt.bearers.get b with | none => .bearer b none 0 | some r => .bearer b (some r.state) r.failedPin

/-- The host will hear of the object: a notice of it waits, or its mark is set, and every notice of it that waits is the newest. -/
def Announced (t : State) (o : NoticeObject) : Prop :=
  (o ∈ t.p1.marks ∨ waiting t o ≠ []) ∧ ∀ n, TxEntry.notice n ∈ waiting t o → Tells t o n

/-- The commands that start the part again, RESTART among them (R172, R175, R176). -/
def startsAgain : Instr → Bool
  | .powerUp _ _ | .resetLineHigh _ _ | .restart _ _ | .restartWarmReset _ _ => true
  | _ => false

/-- The command queues a notice of the object only for a change of it: not where one command brings several events (a REPORT, a second tick)
or serves marks, nor for the DOOR notices that R88 and R92 queue whether or not a field changes, nor for ALARM notices, which a raise
queues each time (R102). -/
def silentUnlessChanged : Instr → NoticeObject → Bool
  | .report _, _ | .secondTick _, _ | .frameTransmit _, _ | _, .alarm _ => false
  | .doorLockdown _, .door _ | .pollMissed, .door _ | .stationConfigure _, .door _ => false
  | _, _ => true

/-! ### Requests -/

/-- The request `f` stands at the head of the request queue with `rest` behind it, is addressed to this unit alone, and the
Supervisor Request Handler can take it (R167, R168, R170, R172). -/
structure Waits (s : State) (f : RequestFrame) (rest : List RequestFrame) (code : Octet) : Prop where
  head : s.p1.requests = f :: rest
  code : f.payload.head? = some code
  runs : Runs s
  inService : s.p1.heldOff = false
  noTest : s.sup.linkTest = none
  noRestart : s.sup.restartDue = false
  entryFree : s.p1.queue.length ≤ 15
  addressed : f.address ≠ 255
  settled : Settled s

/-- The same for a request whose payload carries fields after its code (R170). -/
structure WaitsWith (s : State) (f : RequestFrame) (rest : List RequestFrame) (code : Octet) : Prop
    extends Waits s f rest code where
  fields : 2 ≤ f.payload.length

/-- The state once the request at the head of the queue has been taken. -/
def taken (s : State) (rest : List RequestFrame) : State := { s with p1 := { s.p1 with requests := rest } }

/-- A state with an answer at the tail of its transmit queue; in Shared mode the answer opens a turn or joins the open one
(R165, R167, R169). -/
def answered (u : State) (f : RequestFrame) (code : Octet) (c : AnswerCode) (x : Contents) (after : AfterSent) : State :=
  { u with
    p1 :=
      { u.p1 with
        queue := u.p1.queue ++ [.answer ⟨f.tag, code, c, x⟩ after]
        turn := if u.p1.txMode = .shared then some (u.p1.turn.getD 0) else u.p1.turn } }

/-- The request is refused: answered with a code and no contents, with no other effect (R170). -/
def refused (s : State) (f : RequestFrame) (rest : List RequestFrame) (code : Octet) (c : AnswerCode) : State :=
  answered (taken s rest) f code c .nothing .nothing

/-- `t` is `u` with no notice owed, but for notices queued, pending marks set and the check value. -/
def UpToNotices (u t : State) : Prop :=
  ∃ q m v, Grown u.p1 q m ∧ t = { u with due := [], p1 := { u.p1 with queue := q, marks := m }, sup := { u.sup with checkValue := v } }

/-- `t` is `u` with no notice owed, but for notices queued, pending marks set, the check value and the two alarm outputs. -/
def UpToOutputs (u t : State) : Prop :=
  ∃ g h q m v, Grown u.p1 q m ∧ t =
    { u with
      due := [], alarms := { u.alarms with general := g, fault := h }, p1 := { u.p1 with queue := q, marks := m }
      sup := { u.sup with checkValue := v } }

/-- The outcome of a request that is accepted: the state `u` it brings about, up to the notices the event queues, with its OK
answer behind them. -/
def Accepted (o : Host.Outcome State Fault Refusal) (u : State) (f : RequestFrame) (code : Octet) (x : Contents)
    (after : AfterSent) : Prop :=
  ∃ v, UpToNotices u v ∧ o = .next (answered v f code .ok x after)

/-- The same for a request whose effect touches the Alarm Table: the records and the Overflow mark are those of `u`. -/
def AcceptedWithAlarms (o : Host.Outcome State Fault Refusal) (u : State) (f : RequestFrame) (code : Octet) (x : Contents) : Prop :=
  ∃ v, UpToOutputs u v ∧ o = .next (answered v f code .ok x .nothing)

/-- The contexts with those that name a bearer dropped (R12). -/
def withoutBearer (s : State) (b : Nat) : Vector Context 16 :=
  vgen fun d => if decide (s.ctx[d].bearer? = some b) then .empty else s.ctx[d]

/-- The Alarm Table holds a record of a kind-and-key. -/
def Stands (s : State) (k : AlarmKey) : Prop := ∃ r ∈ s.alarms.records, r.key = k

/-- No record of a kind-and-key shows its condition as present: each that stands is RESTORED or AWAIT_RESET (R97). -/
def ConditionGone (s : State) (k : AlarmKey) : Prop :=
  ∀ r ∈ s.alarms.records, r.key = k → r.state = .restored ∨ r.state = .awaitReset

/-- The Alarm Table has room for all that one report may raise. -/
def Roomy (s : State) : Prop := s.alarms.records.length ≤ 40

/-- The same with the ALARM notice of the change named: an empty queue holds that notice alone before the answer. -/
def AcceptedWithNotice (o : Host.Outcome State Fault Refusal) (u : State) (f : RequestFrame) (code : Octet) (x : Contents)
    (n : Notice) : Prop :=
  ∃ v, UpToOutputs u v ∧ (u.p1.queue = [] → u.p1.marks = [] → v.p1.queue = [.notice n]) ∧
    o = .next (answered v f code .ok x .nothing)

/-- The transmit queue ends with the OK answer to a request, behind the notices of its event and all that waited before (R167, R174). -/
def AnsweredOk (s t : State) (f : RequestFrame) (code : Octet) (x : Contents) : Prop :=
  ∃ q, Grown s.p1 q t.p1.marks ∧ t.p1.queue = q ++ [.answer ⟨f.tag, code, .ok, x⟩ .nothing]

/-- A request at port 1 is taken and answered OK, and its effect changes no other request in the queue. -/
def TakenAndAnswered (s : State) (o : Host.Outcome State Fault Refusal) (rest : List RequestFrame) (f : RequestFrame)
    (code : Octet) (x : Contents) (effect : State → Prop) : Prop :=
  ∃ t, o = .next t ∧ t.p1.requests = rest ∧ AnsweredOk s t f code x ∧ effect t

/-- The code of a request that carries fields, ENROL's layout apart, and whether the command's operand spells them (R170). -/
def fieldRequest : Instr → Option (Octet × Bool)
  | .amend a => some (0x11, a.isSome)
  | .suspend a => some (0x12, a.isSome)
  | .reinstate a => some (0x13, a.isSome)
  | .revoke a => some (0x14, a.isSome)
  | .readBearer a => some (0x15, a.isSome)
  | .findToken a => some (0x16, a.isSome)
  | .retentionSet a => some (0x17, a.isSome)
  | .chainWrite a => some (0x18, a.isSome)
  | .chainRead a => some (0x19, a.isSome)
  | .scheduleWrite a => some (0x1A, a.isSome)
  | .scheduleRead a => some (0x1B, a.isSome)
  | .holidayAdd a => some (0x1C, a.isSome)
  | .holidayRemove a => some (0x1D, a.isSome)
  | .clockSet a => some (0x20, a.isSome)
  | .siteSet a => some (0x22, a.isSome)
  | .siteOverride a => some (0x23, a.isSome)
  | .rollConfirm a => some (0x30, a.isSome)
  | .rollSweep a => some (0x31, a.isSome)
  | .rollRemove a => some (0x32, a.isSome)
  | .rollRead a => some (0x33, a.isSome)
  | .doorRelease a => some (0x40, a.isSome)
  | .doorLockdown a => some (0x41, a.isSome)
  | .doorRestore a => some (0x42, a.isSome)
  | .doorRead a => some (0x43, a.isSome)
  | .alarmAck a => some (0x50, a.isSome)
  | .alarmReset a => some (0x51, a.isSome)
  | .alarmRead a => some (0x52, a.isSome)
  | .zoneReset a => some (0x60, a.isSome)
  | .zoneDisable a => some (0x61, a.isSome)
  | .zoneEnable a => some (0x62, a.isSome)
  | .releaseAuthorise a => some (0x63, a.isSome)
  | .zoneRead a => some (0x64, a.isSome)
  | .cylinderInstall a => some (0x70, a.isSome)
  | .cylinderIsolate a => some (0x70, a.isSome)
  | .cylinderReturn a => some (0x70, a.isSome)
  | .cylinderRemove a => some (0x70, a.isSome)
  | .cylinderRead a => some (0x71, a.isSome)
  | .stationConfigure a => some (0x80, a.isSome)
  | .stationRead a => some (0x81, a.isSome)
  | .linkSet a => some (0x90, a.isSome)
  | .linkRead a => some (0x91, a.isSome)
  | .addressSet a => some (0xA2, a.isSome)
  | .profileLoad a => some (0xA3, a.isSome)
  | .profileRead a => some (0xA4, a.isSome)
  | _ => none

/-- The code of a request that carries no fields (R170). -/
def bareRequest : Instr → Option Octet
  | .holidayRead => some 0x1E
  | .clockRead => some 0x21
  | .bankRead => some 0x72
  | .linkTest => some 0x92
  | .status => some 0xA0
  | .restart _ _ => some 0xA1
  | _ => none

/-! ### Reports -/

/-- The line bits complete an accepted REPORT frame of the station at `a`, which is configured and whose poll awaits its reply
(R152, R164). -/
structure Replies (s : State) (a : Addr) (line : List Bool) : Prop where
  runs : Runs s
  polled : ∃ c, s.loop.current = some ⟨some a, .awaiting, c⟩
  configured : s.loop.stations[a].state ≠ .unconfigured
  bits : ∃ p f, s.p2.rx = .on p ∧ receive ⟨s.p2.usedPair, fun _ => true⟩ p line = .inr (.accepted f) ∧
    f.address.toNat = num a ∧ (f.kind &&& 0xE0#8) = 0#8 ∧ (f.kind &&& 0x0F#8) = 5#8

/-- The accepted changes that a report's point states bring at a station, in point order (R155). -/
def changes (s : State) (a : Addr) (states : List PointState) : List (Option PointState) :=
  (filterPoints s.loop.stations[a].type 0 s.loop.stations[a].points states).map Prod.snd

/-- The condition in which a zone takes a point after an accepted change or none (R113). -/
def follows (old : Condition) (change : Option PointState) : Condition := (change.map PointState.condition).getD old

/-- A report of the ONLINE station at `a` brings new events under the number `n`; no settings, LINK TEST or broadcast makes its answer
poll wait (R157, R158, R162, R168). -/
structure Brings (s : State) (a : Addr) (line : List Bool) (n : Nat) : Prop extends Replies s a line where
  online : s.loop.stations[a].state = .online
  number : 1 ≤ n ∧ n ≤ 255 ∧ n ≠ s.loop.stations[a].lastEvent
  unhindered : s.p2.newSettings = false ∧ s.sup.linkTest = none ∧ (s.loop.broadcastDue = none ∨ s.loop.yielded = false)
  settled : Settled s

/-- The station at `a` is the door unit of the door of `r`, and its report with new events brings no change of a point (R155). -/
structure Presents (s : State) (a : Addr) (r : Room) (line : List Bool) (states : List PointState) (n : Nat) : Prop
    extends Brings s a line n where
  unit : s.loop.stations[a].type = .doorUnit ∧ s.loop.stations[a].room = num r
  four : states.length = 4
  still : ∀ c ∈ changes s a states, c = none

/-- What one presentation at the entry reader of a door unit does. -/
def presented (s : State) (line : List Bool) (states : List PointState) (n : Nat) (token : Token) (digits : List Nat) :
    Host.Outcome State Fault Refusal :=
  exec (.report ⟨line, some .doorUnit, states, n, .door [⟨.entry, token, digits⟩]⟩) s

/-- The answer poll of the station at `a` is in progress; it acknowledges the number `n` and carries these reader answers (R157). -/
def AnswerPoll (t : State) (a : Addr) (n : Nat) (answers : Option Answers) : Prop :=
  ∃ outputs bolt tone fire,
    t.loop.current = some ⟨some a, if t.p2.heldOff then .unsent else .ready, .station outputs bolt answers tone fire n⟩

/-- A report with one presentation is answered: the answer is kept with its event number and rides in the answer poll that is
built at once (R157). -/
def AnswersWith (o : Host.Outcome State Fault Refusal) (a : Addr) (n : Nat) (answer : ReaderAnswer) (effect : State → Prop) :
    Prop :=
  ∃ t, o = .next t ∧ t.loop.stations[a].lastEvent = n ∧ t.loop.stations[a].lastAnswers = some [answer] ∧
    t.loop.stations[a].slots.answers = some ⟨⟨n, [answer]⟩, true⟩ ∧ AnswerPoll t a n (some ⟨n, [answer]⟩) ∧ effect t

/-- A presentation of a token reaches the PIN stage: the door and the zone admit it, and the token names an ACTIVE bearer in
validity whose chain matches with these rights (R41 to R44). -/
structure ReachesPin (s : State) (a : Addr) (r : Room) (token : Token) (b : Nat) (rec : Bearer) (rights : Rights) : Prop where
  door : s.doorDenies a r = none
  zone : s.zones[r].state.allowsEntry = true
  token : s.findToken token = some b
  live : s.bt.bearers.get b = some rec
  active : rec.state = .active
  valid : s.inValidity rec = true
  chain : s.chainWalk rec.cls r (s.needed r (s.nightRules r rec.cls)) 16 rec.chainHead false = .matched rights

/-- The PIN stage demands digits (R45). -/
def demandsPin (s : State) (r : Room) (cls : Sys2Proof.Class) : Bool := s.nightRules r cls || s.sup.profiles[r].pinAlways

/-- The digits pass the PIN stage without signalling duress: the record's own PIN where one is demanded, else anything but the duress
form (R45). -/
def passesPin (s : State) (r : Room) (rec : Bearer) (digits : List Nat) : Prop :=
  if demandsPin s r rec.cls then ∃ p, rec.pin = some p ∧ digits.take 4 = pinDigits p
  else ∀ p, rec.pin = some p → digits.take 4 ≠ duressDigits p

/-- A presentation reaches stage 9: the digits pass, the bearer is outside, and the strongroom has room for it, for two where custody
applies (R45, R48). -/
structure ReachesPairing (s : State) (a : Addr) (r : Room) (token : Token) (digits : List Nat) (b : Nat) (rec : Bearer)
    (rights : Rights) : Prop extends ReachesPin s a r token b rec rights where
  pin : passesPin s r rec digits
  outside : s.entryOf b = none
  room : s.roomFor r (if s.custodyApplies r rec.cls (s.nightRules r rec.cls) then 2 else 1) = true

/-- A grant of the door of `r`: a closed door is released with kind Entry for the profile's unlock time, and the release command rides
in the answer poll of the door unit at `a` (R50, R77). -/
def DoorGranted (s t : State) (a : Addr) (r : Room) : Prop :=
  (s.doors[r].state = .secured →
    t.doors[r].state = .released ∧ t.doors[r].releaseKind = some .entry ∧ t.doors[r].unlock = some s.sup.profiles[r].unlock) ∧
  (s.stationOf .doorUnit (num r) = some a →
    t.loop.stations[a].slots.bolt = some ⟨.release s.sup.profiles[r].unlock, true⟩)

/-- The bearer has one entry more in a strongroom's list, with a link to its escort's entry or none (R59, R62). -/
def AdmittedTo (t : State) (r : Room) (b : Nat) (link : Option Nat) : Prop :=
  ∃ e o, t.entryOf b = some (e, o) ∧ o.room = r ∧ o.link = link ∧ o.escorted = 0 ∧ e ∈ t.roll.rooms[r].list

/-- The rights that a class allows (R19). -/
def allowedTo (cls : Sys2Proof.Class) (x : Rights) : Rights :=
  { enter := x.enter, night := x.night, custody := x.custody && cls = .custodian
    escort := x.escort && (cls = .staff || cls = .custodian || cls = .safetyOfficer)
    ventEntry := x.ventEntry && cls = .safetyOfficer }

/-- The rights include every right that is required. -/
def Covers (given need : Rights) : Prop :=
  (need.enter = true → given.enter = true) ∧ (need.night = true → given.night = true) ∧
    (need.custody = true → given.custody = true) ∧ (need.escort = true → given.escort = true) ∧
    (need.ventEntry = true → given.ventEntry = true)

/-- A chain entry names the strongroom, and its rights that the class allows include every required right (R20). -/
def NamesRoom (cls : Sys2Proof.Class) (r : Room) (need : Rights) (c : PermContent) : Prop :=
  c.rooms.getLsbD r.val = true ∧ Covers (allowedTo cls c.rights) need

/-- The same, with the entry's schedule in force. -/
def FitsNow (s : State) (cls : Sys2Proof.Class) (r : Room) (need : Rights) (c : PermContent) : Prop :=
  NamesRoom cls r need c ∧ ∃ i : Sched, c.schedule = i.val ∧ s.clk.inForce[i] = true

/-! ### Forms of operands -/

/-- A packed-BCD octet: neither digit is above 9. -/
def IsBcd (o : Octet) : Prop := o.toNat / 16 ≤ 9 ∧ o.toNat % 16 ≤ 9

/-- The two decimal digits of a packed-BCD octet as a number. -/
def twoDigits (o : Octet) : Nat := o.toNat / 16 * 10 + o.toNat % 16

/-- The days of a month (R25). -/
def daysIn (year month : Nat) : Nat :=
  if month = 2 then (if year % 4 = 0 then 29 else 28) else if month ∈ [4, 6, 9, 11] then 30 else 31

/-- A date with valid packed BCD, a month of 01 to 12 and a day of that month in that year (R5, R28). -/
def RealDate (d : Date) : Prop :=
  IsBcd d.year ∧ IsBcd d.month ∧ IsBcd d.day ∧ 1 ≤ twoDigits d.month ∧ twoDigits d.month ≤ 12 ∧ 1 ≤ twoDigits d.day ∧
    twoDigits d.day ≤ daysIn (twoDigits d.year) (twoDigits d.month)

/-- The six-digit decimal number yymmdd of a date (R3). -/
def yymmdd (d : Date) : Nat := twoDigits d.year * 10000 + twoDigits d.month * 100 + twoDigits d.day

/-- A time of day with valid packed BCD, an hour up to 23 and a minute up to 59 (R21). -/
def RealTime (t : HhMm) : Prop := IsBcd t.hour ∧ IsBcd t.minute ∧ twoDigits t.hour ≤ 23 ∧ twoDigits t.minute ≤ 59

/-- The four-digit decimal number hhmm of a time (R31). -/
def hhmm (t : HhMm) : Nat := twoDigits t.hour * 100 + twoDigits t.minute

/-- Every digit of a PIN is a decimal digit (R5). -/
def RealPin (p : PinBcd) : Prop :=
  p.toNat / 4096 ≤ 9 ∧ p.toNat / 256 % 16 ≤ 9 ∧ p.toNat / 16 % 16 ≤ 9 ∧ p.toNat % 16 ≤ 9

/-- A token code other than 0 and all ones (R4, R5). -/
def RealToken (t : Token) : Prop := t ≠ 0 ∧ t ≠ BitVec.allOnes 40

/-- The ranges of R5 on an ENROL. -/
def EnrolInRange (a : EnrolArgs) : Prop :=
  a.bearer ≤ 4095 ∧ RealToken a.token ∧ a.cls.toNat ≤ 4 ∧ (∀ p, a.pin = some p → RealPin p) ∧ RealDate a.validFrom ∧
    (∀ d, a.validUntil = some d → RealDate d ∧ yymmdd a.validFrom ≤ yymmdd d) ∧ a.escortLimit ≤ 7

/-- The ranges of R5 on the fields that an AMEND names (R7). -/
def AmendInRange (a : AmendArgs) : Prop :=
  1 ≤ a.bearer ∧ a.bearer ≤ 4095 ∧ (∀ t, a.token = some t → RealToken t) ∧ (∀ c, a.cls = some c → c.toNat ≤ 4) ∧
    (∀ p, a.pin = some (some p) → RealPin p) ∧ (∀ d, a.validFrom = some d → RealDate d) ∧
    (∀ d, a.validUntil = some (some d) → RealDate d) ∧ (∀ n, a.escortLimit = some n → n ≤ 7) ∧
    ∀ first last, a.validFrom = some first → a.validUntil = some (some last) → yymmdd first ≤ yymmdd last

/-- The ranges of R17 on a CHAIN WRITE. -/
def ChainInRange (a : ChainWriteArgs) : Prop :=
  1 ≤ a.bearer ∧ a.bearer ≤ 4095 ∧ a.contents.length ≤ 16 ∧
    ∀ c ∈ a.contents, c.rooms ≠ 0 ∧ c.schedule ≤ 63 ∧ c.rights.enter = true

/-- The ranges of R28 on a CLOCK SET. -/
def ClockInRange (a : ClockSetArgs) : Prop :=
  RealDate a.date ∧ IsBcd a.time.hour ∧ IsBcd a.time.minute ∧ IsBcd a.time.second ∧ twoDigits a.time.hour ≤ 23 ∧
    twoDigits a.time.minute ≤ 59 ∧ twoDigits a.time.second ≤ 59 ∧ 1 ≤ a.weekday ∧ a.weekday ≤ 7

/-- The ranges of R21 on a window. -/
def WindowInRange (w : Window) : Prop := w.days ≠ 0 ∧ RealTime w.start ∧ RealTime w.stop

/-- A holiday date that is a date; 29 February of every year is one (R22). -/
def RealHoliday : Holiday → Prop
  | .everyYear m d => IsBcd m ∧ IsBcd d ∧ 1 ≤ twoDigits m ∧ twoDigits m ≤ 12 ∧ 1 ≤ twoDigits d ∧ twoDigits d ≤ daysIn 0 (twoDigits m)
  | .dated y m d => RealDate ⟨y, m, d⟩

/-- The operands of ALARM ACK and ALARM RESET name a kind-and-key, each part in its range (R94, R99). -/
def NamesKey (a : AlarmArgs) (k : AlarmKey) : Prop :=
  a = ⟨some k.kind, k.room, k.bearer, k.station, k.point⟩ ∧ (∀ n, k.room = some n → 1 ≤ n ∧ n ≤ 16) ∧
    (∀ n, k.bearer = some n → 1 ≤ n ∧ n ≤ 4095) ∧ (∀ n, k.station = some n → n ≤ 96) ∧ ∀ n, k.point = some n → 1 ≤ n ∧ n ≤ 4

/-- The ranges of R173 on the numbers of a profile. -/
def ProfileInRange (a : ProfileArgs) : Prop :=
  10 ≤ a.volume ∧ a.volume ≤ 9999 ∧ 250 ≤ a.factor ∧ a.factor ≤ 900 ∧ 1 ≤ a.limit ∧ a.limit ≤ 48 ∧ 10 ≤ a.delay ∧
    a.delay ≤ 120 ∧ a.soak ≤ 60 ∧ 1 ≤ a.capacity ∧ a.capacity ≤ 32 ∧ 3 ≤ a.unlock ∧ a.unlock ≤ 30 ∧ 5 ≤ a.heldOpen ∧
    a.heldOpen ≤ 600 ∧ 5 ≤ a.window ∧ a.window ≤ 60 ∧ a.timeLock ≤ 63 ∧ 5 ≤ a.interval ∧ a.interval ≤ 120

/-- The profile is what a PROFILE LOAD carries, its features octet cleared (R173). -/
def CarriesProfile (a : ProfileArgs) (p : Profile) : Prop :=
  a.knock = some p.knock ∧ a.custody = some p.custody ∧ a.pinAlways = some p.pinAlways ∧ a.lone = some p.lone ∧
    (p.volume, p.factor, p.limit, p.delay, p.soak, p.capacity) = (a.volume, a.factor, a.limit, a.delay, a.soak, a.capacity) ∧
    (p.unlock, p.heldOpen, p.window, p.timeLock.val, p.interval, p.features) =
      (a.unlock, a.heldOpen, a.window, a.timeLock, a.interval, 0)

/-! ### The clock -/

/-- The seconds of the day of a clock. -/
def secondOfDay (c : SiteClock) : Nat := bcdVal c.time.hour * 3600 + bcdVal c.time.minute * 60 + bcdVal c.time.second

/-- The seconds since 00-01-01 00:00:00, the first day counting as day 1. -/
def secondOfCentury (c : SiteClock) : Nat := c.date.dayNumber * 86400 + secondOfDay c

/-- What the clock reads. -/
def reading (c : SiteClock) : Date × Time × Nat × Bool := (c.date, c.time, c.weekday, c.isSet)

/-- The in-force table holds what an evaluation gives each schedule (R30). -/
def Evaluated (s : State) : Prop := ∀ i : Sched, s.clk.inForce[i] = s.evaluateSchedule i

/-- The site schedule is in force and the clock SET: what the site state follows (R34). -/
def siteIsOpen (c : SiteClock) : Bool := c.isSet && c.inForce[c.siteSchedule]

/-- The site state, override and grace timer that an evaluation makes of a clock, from whether the site was open before it and is open after it:
the evaluation's rows of R34's table, and the lapse of HoldOpen (R35). -/
def followed (c : SiteClock) (before after : Bool) : SiteState × Override × Option Nat :=
  let lapsed : Override := if c.override = .holdOpen then .noOverride else c.override
  match before, after, c.siteState with
  | false, true, .openHours => (.openHours, lapsed, c.graceTimer)
  | false, true, .closing => (.openHours, lapsed, none)
  | false, true, .afterHours =>
    if c.override = .forceAfterHours then (.afterHours, .forceAfterHours, c.graceTimer) else (.openHours, lapsed, none)
  | true, false, .openHours =>
    if c.override ≠ .noOverride then (.openHours, c.override, c.graceTimer)
    else if c.grace = 0 then (.afterHours, .noOverride, none)
    else (.closing, .noOverride, some (60 * c.grace))
  | _, _, st => (st, c.override, c.graceTimer)

/-- An evaluation has taken `s` to `t`, and all it changes is handed on (R30): `c` is the clock's site settings and timer as the event itself
leaves them. The site state follows the site schedule; on an entry to CLOSING the check-in station of each Occupied strongroom, unless it
is lost, is given the closing tone (R36); and a door's time lock follows its schedule's entry where that has changed (R84). -/
structure EvaluationHandedOn (s t : State) (c : SiteClock) : Prop where
  evaluated : Evaluated t
  site : (t.clk.siteState, t.clk.override, t.clk.graceTimer) = followed c (siteIsOpen s.clk) (siteIsOpen t.clk)
  tones : s.clk.siteState ≠ .closing → t.clk.siteState = .closing → ∀ (r : Room) (a : Addr), s.occupied r = true →
    s.stationOf .checkIn (num r) = some a → s.loop.stations[a].state ≠ .missing → s.loop.stations[a].state ≠ .wrongType →
      t.loop.stations[a].slots.tone = some ⟨.closing, false⟩
  noTones : ∀ a : Addr,
    (s.clk.siteState = .closing ∨ t.clk.siteState ≠ .closing ∨
      ∀ r : Room, s.occupied r = true → s.stationOf .checkIn (num r) ≠ some a) →
        t.loop.stations[a].slots.tone = s.loop.stations[a].slots.tone
  locks : ∀ r : Room,
    let i := s.sup.profiles[r].timeLock
    if t.clk.inForce[i] = s.clk.inForce[i] then
      t.doors[r].timeLock = s.doors[r].timeLock ∧ t.doors[r].state = s.doors[r].state
    else
      t.doors[r].timeLock = (i ≠ 0 && !t.clk.inForce[i]) ∧
        t.doors[r].state =
          match s.doors[r].state, t.doors[r].timeLock with
          | .secured, true => .timeLocked
          | .timeLocked, false => .secured
          | st, _ => st

/-- A reading is handed to the Loop Master: it replaces the one in a broadcast that is built and not begun, or is the one that is due (R158). -/
def HandedOver (s t : State) (r : ClockReading) : Prop :=
  (∀ c, s.loop.current = some ⟨none, .ready, c⟩ →
    t.loop.current = some ⟨none, .ready, .broadcast r.date r.time r.weekday⟩ ∧ t.loop.broadcastDue = s.loop.broadcastDue) ∧
  ((∀ c, s.loop.current ≠ some ⟨none, .ready, c⟩) →
    t.loop.current = s.loop.current ∧ t.loop.broadcastDue = some r)

/-- The other strongrooms' doors, contexts, roll lists and zones are as before. -/
def OtherRoomsKept (s t : State) (r : Room) : Prop :=
  ∀ j : Room, j ≠ r →
    t.doors[j] = s.doors[j] ∧ t.ctx[j] = s.ctx[j] ∧ t.roll.rooms[j] = s.roll.rooms[j] ∧ t.zones[j] = s.zones[j]

/-- Every running timer and counter one second tick on, and the roll tick (R1, R61, R78, R82, R108, R120). -/
def ticked (s : State) : State :=
  { s with
    clk := { s.clk with graceTimer := s.clk.graceTimer.map (· - 1) }
    ctx := vgen fun r => s.ctx[r].tick
    doors := vgen fun r => s.doors[r].tick
    zones := vgen fun z => s.zones[z].tick
    roll := { s.roll with tick := min 4294967295 (s.roll.tick + 1), entries := s.roll.entries.mapAll OccEntry.tick } }

/-- No timer's expiry is due. -/
def NothingDue (s : State) : Prop :=
  s.graceIsDue = false ∧
  (∀ r : Room, s.unlockIsDue r = false ∧ s.heldOpenIsDue r = false ∧ s.windowIsDue r = false ∧ s.dischargeIsDue r = false ∧
    s.flowStartIsDue r = false ∧ s.soakIsDue r = false ∧ s.countdownIsDue r = false) ∧
  ∀ e, s.promptIsDue e = false ∧ s.overdueIsDue e = false

/-! ### Zones and starts -/

/-- The hold reasons of a zone with a given kind, Authorise and level of the inhibit line (R119). -/
def holdsWith (s : State) (z : Room) (kind : SequenceKind) (authorise inhibit : Bool) : Holds :=
  { abort := s.zones[z].inputs.abort = .active
    occupied := s.occupied z && kind = .automatic && !authorise
    lockout := s.zones[z].inputs.lockout = .active
    siteInhibit := inhibit }

/-- The state that hold reasons give a zone (R120, R122). -/
def heldState (st : ZoneState) (held : Bool) : ZoneState :=
  match st, held with
  | .countdown, true | .waitBank, true => .held
  | .held, false => .countdown
  | st, _ => st

/-- An entry but for its lone-worker fields (R59). -/
def entryBase (o : OccEntry) : Nat × Room × Nat × Option Nat × Nat × Bool × Bool :=
  (o.bearer, o.room, o.entryTick, o.link, o.escorted, o.revokedInside, o.lapsed)

/-- What every station but its pending commands is: type, strongroom, state, misses, points and last event. -/
def stationBase (s : State) (a : Addr) : StationType × Nat × StationState × Nat × List Point × Nat :=
  let st := s.loop.stations[a]
  (st.type, st.room, st.state, st.misses, st.points, st.lastEvent)

/-- A zone record right after a warm start of a zone record, with hold reasons derived at the start (R112, R131). -/
def restartedZone (z : Zone) (holds : Holds) : Zone :=
  let vent := z.state = .discharging ∨ z.state = .soak ∨ z.state = .vent
  { state := if z.state = .disabled then .disabled else if vent then .vent else .normal
    disableCause := z.disableCause
    holds := holds
    kind := if vent then z.kind else .noKind
    remainder := 0, accumulated := 0, authorise := false, lastEnvelope := false
    envelopeOpen := vent ∧ z.envelopeOpen = true
    flowSeen := vent ∧ z.flowSeen = true
    unconfirmed := vent ∧ (z.unconfirmed = true ∨ (z.state = .discharging ∧ z.flowSeen = false))
    flowStart := none, discharge := none, soak := none
    inputs := ⟨.normal, .normal, .normal, .normal, .normal, .normal⟩
    countdownDue := false }

/-- `t` is a warm start of `s`: retained memory and the clock are kept, and the blocks are at their start (R175, R176). -/
structure WarmStart (s t : State) (cause : RestartCause) : Prop where
  bearers : t.bt = s.bt
  reading : reading t.clk = reading s.clk
  settings : t.clk.siteSchedule = s.clk.siteSchedule ∧ t.clk.grace = s.clk.grace ∧ t.clk.override = s.clk.override
  notClosing : t.clk.siteState ≠ .closing ∧ t.clk.graceTimer = none
  evaluated : Evaluated t
  tick : t.roll.tick = s.roll.tick
  lists : ∀ r : Room, t.roll.rooms[r] =
    { s.roll.rooms[r] with unreconciled := s.roll.rooms[r].unreconciled || 0 < s.headCount r }
  contexts : ∀ r : Room, t.ctx[r] = .empty
  doors : ∀ r : Room, t.doors[r] =
    { Door.cold with timeLock := t.timeLockOf r, closeDemand := t.zones[r].state.demand }
  entries : ∀ e, (t.roll.entries.get e).map entryBase = (s.roll.entries.get e).map entryBase
  lone : ∀ e o, t.roll.entries.get e = some o →
    o.promptDue = false ∧
      (o.counter, o.checkIn) = if t.supervised o.room then (t.loneLoad o, .running) else (0, .off)
  zones : ∀ z : Room, t.zones[z] = restartedZone s.zones[z] (t.deriveHolds z)
  bank : t.bank.reservations = [] ∧ t.bank.manifold = none ∧ t.bank.waitQueue = []
  cylinders : ∀ p : Pos, t.bank.cylinders[p] = s.bank.cylinders[p].restarted s.zones
  stations : ∀ a : Addr, t.loop.stations[a] = Station.configured s.loop.stations[a].type s.loop.stations[a].room
  settingsKept : t.p1.pair = s.p1.pair ∧ t.p1.mode = s.p1.mode ∧ t.p2.pair = s.p2.pair ∧ t.p2.rate = s.p2.rate
  handler : t.sup.profiles = s.sup.profiles ∧ t.sup.unitAddress = s.sup.unitAddress ∧ t.sup.cause = cause
  queues : t.p1.requests = [] ∧ t.sup.linkTest = none ∧ t.sup.restartDue = false
  restarted : Stands t (.bare .restarted) ∨ t.alarms.records.length = 64
  settled : Settled t

end Sys2Proof.Safety
end

