-- ==== Sys2Proof/Certificates/Slice0/Obligations.lean ====
section
/-! DEFINITION. Certificates/Slice0/Obligations.lean: the statements about the model, one definition each, for the provers. A hypothesis
`Waits s f rest code` says that request `f` stands at the head of the request queue and can be served, `WaitsWith` that its payload also
carries fields; `taken`, `answered`, `refused` and `Accepted` say what has become of it (Safety.lean). -/
section Statements

open Sys2Proof Sys2Proof.Machine Sys2Proof.Safety

/-! ### Reads -/

/-- R29, R89, R101, R135: CLOCK READ, DOOR READ, ALARM READ, CYLINDER READ and BANK READ answer with what the rules list and change nothing;
a number out of its range is FORMAT. The state, causes, timers, marks, envelope and the four accepted point states of DOOR READ are those of
the door record itself. -/
def Obligations.RecordReadsAnswerAndChangeNothing : Prop :=
  (∀ (s : State) (f : RequestFrame) (rest : List RequestFrame), Waits s f rest 0x21 → f.payload.length = 1 →
     exec .clockRead s = .next (
       answered (taken s rest) f 0x21 .ok
         (.clockRead s.clk.date s.clk.time s.clk.weekday s.clk.isSet s.clk.holidayToday s.clk.siteState s.clk.override
           s.clk.siteSchedule s.clk.grace (s.clk.graceTimer.getD 0)) .nothing)) ∧
  (∀ (s : State) (f : RequestFrame) (rest : List RequestFrame), WaitsWith s f rest 0x43 →
     (∀ d : Room,
       exec (.doorRead (some (num d))) s =
         .next (answered (taken s rest) f 0x43 .ok (.door s.doors[d] (s.doorUnitNumber d) s.ctx[d].view) .nothing)) ∧
     (∀ n, n = 0 ∨ 16 < n → exec (.doorRead (some n)) s = .next (refused s f rest 0x43 .format))) ∧
  (∀ (s : State) (f : RequestFrame) (rest : List RequestFrame) (start : Nat), WaitsWith s f rest 0x52 →
     exec (.alarmRead (some start)) s = .next (
       if 1 ≤ start ∧ start ≤ 64 then
         answered (taken s rest) f 0x52 .ok
           (.alarms s.alarms.records.length s.alarms.overflow s.alarms.general s.alarms.fault
             ((s.alarms.records.drop (start - 1)).take 6)) .nothing
       else refused s f rest 0x52 .format)) ∧
  (∀ (s : State) (f : RequestFrame) (rest : List RequestFrame),
     (WaitsWith s f rest 0x71 →
       (∀ p : Pos, s.bank.cylinders[p].state ≠ .reserved →
         exec (.cylinderRead (some (num p))) s =
           .next (answered (taken s rest) f 0x71 .ok (.cylinder s.bank.cylinders[p] none s.bank.flags[p]) .nothing)) ∧
       (∀ (p : Pos) (z : Room), s.bank.cylinders[p].state = .reserved → s.bank.cylinders[p].zone = some z →
         exec (.cylinderRead (some (num p))) s =
           .next (answered (taken s rest) f 0x71 .ok
             (.cylinder s.bank.cylinders[p] (some s.zones[z].state) s.bank.flags[p]) .nothing)) ∧
       (∀ n, n = 0 ∨ 48 < n → exec (.cylinderRead (some n)) s = .next (refused s f rest 0x71 .format))) ∧
     (Waits s f rest 0x72 → f.payload.length = 1 →
       exec .bankRead s =
         .next (answered (taken s rest) f 0x72 .ok
           (.bank s.bank.manifold s.bank.waitQueue
             (s.bank.reservations.map fun z => (z, (s.bank.reservedPositions z).length, s.bank.coverage[z].grade))
             ([.ready, .reserved, .spent, .isolated, .fault, .absent].map fun st => (st, s.bank.stateCount st))
             (s.bank.chargeSum s.bank.readyPositions)) .nothing)))

/-- READ BEARER, FIND TOKEN, CHAIN READ, SCHEDULE READ, HOLIDAY READ, ROLL READ, ZONE READ, STATION READ, LINK READ and PROFILE READ
answer with the record and change nothing (R11, R18, R21, R23, R69, R130, R150, R162, R173); STATUS returns the marks as they stood and
clears the error mark and the Overrun mark (R171). -/
def Obligations.TableReadsAndStatus : Prop :=
  ((∀ (s : State) (f : RequestFrame) (rest : List RequestFrame),
      (∀ b, WaitsWith s f rest 0x15 → 1 ≤ b → b ≤ 4095 →
        exec (.readBearer (some b)) s = .next (answered (taken s rest) f 0x15 .ok (s.viewBearer b) .nothing)) ∧
      (∀ (t : Token) b, WaitsWith s f rest 0x16 → t ≠ 0 → t ≠ BitVec.allOnes 40 → s.bt.index.get t.toNat = some b →
        exec (.findToken (some t)) s = .next (answered (taken s rest) f 0x16 .ok (s.viewBearer b) .nothing)) ∧
      (∀ (t : Token), WaitsWith s f rest 0x16 → t ≠ 0 → t ≠ BitVec.allOnes 40 → s.bt.index.get t.toNat = none →
        exec (.findToken (some t)) s = .next (refused s f rest 0x16 .notFound)) ∧
      (∀ b r, WaitsWith s f rest 0x19 → 1 ≤ b → b ≤ 4095 → s.bt.bearers.get b = some r →
        exec (.chainRead (some b)) s =
          .next (answered (taken s rest) f 0x19 .ok
            (.chain ((s.bt.chainOf r).filterMap fun e => (s.bt.entries.get e).map fun x => (e, x.content))) .nothing)) ∧
      (∀ i : Sched, WaitsWith s f rest 0x1B →
        exec (.scheduleRead (some i.val)) s =
          .next (answered (taken s rest) f 0x1B .ok (.schedule (i.val = 0) (if i.val = 0 then [] else s.bt.schedules[i])) .nothing)) ∧
      (Waits s f rest 0x1E → f.payload.length = 1 →
        exec .holidayRead s = .next (answered (taken s rest) f 0x1E .ok (.holidays s.bt.holidays) .nothing))) ∧
   (∀ (s : State) (f : RequestFrame) (rest : List RequestFrame),
      (∀ (r : Room) (start : Nat), WaitsWith s f rest 0x33 → 1 ≤ start → start ≤ 32 →
        exec (.rollRead (some ⟨num r, start⟩)) s =
          .next (answered (taken s rest) f 0x33 .ok
            (.roll (s.headCount r) s.sup.profiles[r].capacity s.roll.rooms[r].unreconciled (s.lapsedCount r) s.roll.tick
              (((s.entriesIn r).drop (start - 1)).take 8 |>.map rollView)) .nothing)) ∧
      (∀ z : Room, WaitsWith s f rest 0x64 →
        exec (.zoneRead (some (num z))) s =
          .next (answered (taken s rest) f 0x64 .ok (.zone
              { state := s.zones[z].state, disableCause := s.zones[z].disableCause, holds := s.zones[z].holds
                kind := s.zones[z].kind, authorise := s.zones[z].authorise, remainder := s.zones[z].remainder
                accumulated := s.zones[z].accumulated, flowStart := s.zones[z].flowStart
                discharge := s.zones[z].discharge, soak := s.zones[z].soak, lastEnvelope := s.zones[z].lastEnvelope
                envelopeOpen := s.zones[z].envelopeOpen, flowSeen := s.zones[z].flowSeen
                unconfirmed := s.zones[z].unconfirmed, inputs := s.zones[z].inputs }
              (s.bank.place z) s.bank.coverage[z]) .nothing)) ∧
      (∀ a : Addr, WaitsWith s f rest 0x81 →
        exec (.stationRead (some (num a))) s =
          .next (answered (taken s rest) f 0x81 .ok
            (.stationRead s.loop.stations[a].type s.loop.stations[a].room s.loop.stations[a].state s.loop.stations[a].misses
              (s.loop.stations[a].points.map fun p => ⟨p.accepted, p.candidate, p.count⟩) s.loop.stations[a].lastEvent
              s.loop.stations[a].slots.marks) .nothing)) ∧
      (WaitsWith s f rest 0x91 →
        exec (.linkRead (some 1)) s =
            .next (answered (taken s rest) f 0x91 .ok (.linkRead1 s.p1.pair s.p1.mode s.p1.rx.state s.p1.tx) .nothing) ∧
          exec (.linkRead (some 2)) s =
            .next (answered (taken s rest) f 0x91 .ok (.linkRead2 s.p2.pair s.p2.rate s.p2.rx.state s.p2.tx) .nothing) ∧
          ∀ n, n ≠ 1 → n ≠ 2 → exec (.linkRead (some n)) s = .next (refused s f rest 0x91 .format)) ∧
      (∀ r : Room, WaitsWith s f rest 0xA4 →
        exec (.profileRead (some (num r))) s =
          .next (answered (taken s rest) f 0xA4 .ok (.profile s.sup.profiles[r]) .nothing)))) ∧
  (∀ (s : State) (f : RequestFrame) (rest : List RequestFrame), Waits s f rest 0xA0 → f.payload.length = 1 →
     Accepted (exec .status s) { taken s rest with p1 := { (taken s rest).p1 with errorMark := false, overrun := false } } f 0xA0
       (.status 0x0E16 1 s.sup.cause s.clk.isSet s.clk.siteState s.clk.override s.bt.retention s.sup.unitAddress
         s.alarms.overflow s.p1.errorMark s.p1.overrun (rooms.map fun z => s.zones[z].state)
         (rooms.map fun d => s.doors[d].state)) .nothing)

/-! ### The Bearer Table -/

/-- ENROL fills a FREE slot, the lowest for bearer number 0, and its token enters the index (R6); its checks, in their order and FORMAT with
R5's ranges, refuse it without effect (R5, R6). Its payload spells what it was made from, for every field at every value its octets can
hold, and the answer's contents are the bearer number in two octets, low octet first, and the interval (R169, R170). -/
def Obligations.EnrolFillsAFreeSlotOrRefuses : Prop :=
  (∀ (s : State) (f : RequestFrame) (rest : List RequestFrame) (a : EnrolArgs) (cls : Sys2Proof.Class) (n : Nat),
     Waits s f rest 0x10 → EnrolArgs.decode f.payload = some a → EnrolInRange a → class? a.cls = some cls →
     1 ≤ n → n ≤ 4095 → s.bt.bearers.get n = none →
     (a.bearer = n ∨ (a.bearer = 0 ∧ ∀ m, 1 ≤ m → m < n → (s.bt.bearers.get m).isSome)) →
     s.bt.index.get a.token.toNat = none →
     Accepted (exec (.enrol (some a)) s)
       { taken s rest with
         bt :=
           { s.bt with
             bearers := s.bt.bearers.set n
               { token := a.token, cls := cls, pin := a.pin, validFrom := a.validFrom, validUntil := a.validUntil
                 chainHead := 0, escortLimit := a.escortLimit, interval := clampInterval a.interval, failedPin := 0
                 state := .active }
             index := s.bt.index.set a.token.toNat n } }
       f 0x10 (.enrolled n (clampInterval a.interval)) .nothing) ∧
  (∀ (s : State) (f : RequestFrame) (rest : List RequestFrame) (a : EnrolArgs),
     Waits s f rest 0x10 → EnrolArgs.decode f.payload = some a →
     (¬EnrolInRange a → exec (.enrol (some a)) s = .next (refused s f rest 0x10 .format)) ∧
     (EnrolInRange a → a.bearer = 0 → (∀ m, 1 ≤ m → m ≤ 4095 → (s.bt.bearers.get m).isSome) →
       exec (.enrol (some a)) s = .next (refused s f rest 0x10 .full)) ∧
     (EnrolInRange a → a.bearer ≠ 0 → (s.bt.bearers.get a.bearer).isSome →
       exec (.enrol (some a)) s = .next (refused s f rest 0x10 .state)) ∧
     (EnrolInRange a → a.bearer ≠ 0 → s.bt.bearers.get a.bearer = none → (s.bt.index.get a.token.toNat).isSome →
       exec (.enrol (some a)) s = .next (refused s f rest 0x10 .conflict))) ∧
  (∀ a : EnrolArgs, a.bearer < 65536 → a.escortLimit < 256 → a.interval < 256 → EnrolArgs.decode a.encode = some a) ∧
  (∀ n i : Nat, n < 65536 → i < 256 →
     ∃ low high interval : Octet, Contents.octets (.enrolled n i) = [low, high, interval] ∧
       low.toNat + 256 * high.toNat = n ∧ interval.toNat = i)

/-- AMEND changes the named fields, the others stay, and the index follows the token; its checks, in their order, refuse it without effect,
and two named dates out of order are FORMAT whatever the record (R5, R7; the order of the dates after NOT_FOUND, where one date alone is
named, is assumption 41). SUSPEND and REINSTATE of a live record, and their refusals (R8, R12, R13). -/
def Obligations.AmendSuspendAndReinstate : Prop :=
  (∀ (s : State) (f : RequestFrame) (rest : List RequestFrame) (a : AmendArgs) (r : Bearer),
     WaitsWith s f rest 0x11 → AmendInRange a → s.bt.bearers.get a.bearer = some r → r.state ≠ .retiring →
     (AmendArgs.apply a r).datesInOrder = true →
     ((AmendArgs.apply a r).token = r.token ∨ s.bt.index.get (AmendArgs.apply a r).token.toNat = none) →
     Accepted (exec (.amend (some a)) s)
       { taken s rest with
         bt :=
           { s.bt with
             bearers := s.bt.bearers.set a.bearer (AmendArgs.apply a r)
             index := (s.bt.index.erase r.token.toNat).set (AmendArgs.apply a r).token.toNat a.bearer } }
       f 0x11 (.amended (AmendArgs.apply a r).interval r.state) .nothing ∧
     (AmendArgs.apply a r).chainHead = r.chainHead ∧ (AmendArgs.apply a r).failedPin = r.failedPin ∧
     (AmendArgs.apply a r).state = r.state) ∧
  (∀ (s : State) (f : RequestFrame) (rest : List RequestFrame) (a : AmendArgs), WaitsWith s f rest 0x11 →
     (¬AmendInRange a → exec (.amend (some a)) s = .next (refused s f rest 0x11 .format)) ∧
     (AmendInRange a → s.bt.bearers.get a.bearer = none →
       exec (.amend (some a)) s = .next (refused s f rest 0x11 .notFound)) ∧
     ∀ r, AmendInRange a → s.bt.bearers.get a.bearer = some r →
       ((AmendArgs.apply a r).datesInOrder = false → exec (.amend (some a)) s = .next (refused s f rest 0x11 .format)) ∧
       ((AmendArgs.apply a r).datesInOrder = true →
         (r.state = .retiring → exec (.amend (some a)) s = .next (refused s f rest 0x11 .state)) ∧
         (r.state ≠ .retiring → (AmendArgs.apply a r).token ≠ r.token →
           (s.bt.index.get (AmendArgs.apply a r).token.toNat).isSome →
           exec (.amend (some a)) s = .next (refused s f rest 0x11 .conflict)))) ∧
  (∀ (s : State) (f : RequestFrame) (rest : List RequestFrame) (b : Nat) (r : Bearer),
     1 ≤ b → b ≤ 4095 → s.bt.bearers.get b = some r →
     (WaitsWith s f rest 0x12 →
       (r.state = .active →
         Accepted (exec (.suspend (some b)) s)
           { taken s rest with
             bt := { s.bt with bearers := s.bt.bearers.modify b fun x => { x with state := .suspended } }
             ctx := withoutBearer s b }
           f 0x12 .nothing .nothing) ∧
       (r.state ≠ .active → exec (.suspend (some b)) s = .next (refused s f rest 0x12 .state))) ∧
     (WaitsWith s f rest 0x13 →
       (r.state = .suspended →
         AcceptedWithAlarms (exec (.reinstate (some b)) s)
           { taken s rest with
             bt := { s.bt with bearers := s.bt.bearers.modify b fun x => { x with state := .active, failedPin := 0 } }
             alarms := (s.alarmGone (.forBearer .pinLockout b)).alarms }
           f 0x13 .nothing) ∧
       (r.state ≠ .suspended → exec (.reinstate (some b)) s = .next (refused s f rest 0x13 .state))))

/-- REVOKE: a bearer with no occupancy entry is retired at once and its chain goes back to the free list entry by entry (R9, R10); a bearer
inside is RETIRING, its entry is marked and REVOKED_INSIDE is raised (R9, R70); a RETIRING record is refused. -/
def Obligations.RevokeCompletesOrRetires : Prop :=
  (∀ (s : State) (f : RequestFrame) (rest : List RequestFrame) (b : Nat) (r : Bearer),
     WaitsWith s f rest 0x14 → 1 ≤ b → b ≤ 4095 → s.bt.bearers.get b = some r → r.state ≠ .retiring → s.entryOf b = none →
     AcceptedWithAlarms (exec (.revoke (some b)) s)
       { taken s rest with
         bt :=
           { s.bt with
             bearers := s.bt.bearers.erase b
             index := s.bt.index.erase r.token.toNat
             entries := s.bt.entries.filter fun p => !(s.bt.chainOf r).contains p.1
             freeList := (s.bt.chainOf r).reverse ++ s.bt.freeList
             freeCount := s.bt.freeCount + (s.bt.chainOf r).length }
         ctx := withoutBearer s b
         alarms := (s.alarmsGone fun k => k = .forBearer .revokedInside b || k = .forBearer .pinLockout b).alarms }
       f 0x14 .nothing) ∧
  (∀ (s : State) (f : RequestFrame) (rest : List RequestFrame) (b : Nat) (r : Bearer),
     WaitsWith s f rest 0x14 → 1 ≤ b → b ≤ 4095 → s.bt.bearers.get b = some r →
     (∀ e o, r.state ≠ .retiring → s.entryOf b = some (e, o) →
       AcceptedWithAlarms (exec (.revoke (some b)) s)
         { taken s rest with
           bt := { s.bt with bearers := s.bt.bearers.modify b fun x => { x with state := .retiring } }
           roll := { s.roll with entries := s.roll.entries.modify e fun x => { x with revokedInside := true } }
           ctx := withoutBearer s b
           alarms := (s.raiseAlarm (.forBearer .revokedInside b)).alarms }
         f 0x14 .nothing) ∧
     (r.state = .retiring → exec (.revoke (some b)) s = .next (refused s f rest 0x14 .state)))

/-- RETENTION SET stores 0 to 90 days and echoes them (R14); ADDRESS SET stores 1 to 254 as the address by which frames are accepted at
once, and as that of sent frames after the answer (R171). Any other value is FORMAT. -/
def Obligations.RetentionAndAddressAreStored : Prop :=
  (∀ (s : State) (f : RequestFrame) (rest : List RequestFrame) (days : Nat), WaitsWith s f rest 0x17 →
     (days ≤ 90 →
       Accepted (exec (.retentionSet (some days)) s) { taken s rest with bt := { s.bt with retention := days } } f 0x17
         (.retention days) .nothing) ∧
     (90 < days → exec (.retentionSet (some days)) s = .next (refused s f rest 0x17 .format))) ∧
  (∀ (s : State) (f : RequestFrame) (rest : List RequestFrame) (n : Nat), WaitsWith s f rest 0xA2 →
     (1 ≤ n → n ≤ 254 →
       Accepted (exec (.addressSet (some n)) s)
         { taken s rest with sup := { s.sup with unitAddress := BitVec.ofNat 8 n } } f 0xA2 .nothing
         (.unitAddress (BitVec.ofNat 8 n))) ∧
     (n = 0 ∨ 255 ≤ n → exec (.addressSet (some n)) s = .next (refused s f rest 0xA2 .format)))

/-- CHAIN WRITE returns the old chain, builds the new one and names its first entry as the head, or is refused by the four checks in their
order (R17); a chain built from entries popped off the free list reads back, in order, as the entries taken and their contents (R16 to R18).
-/
def Obligations.ChainWriteReplacesTheChain : Prop :=
  (∀ (s : State) (f : RequestFrame) (rest : List RequestFrame) (a : ChainWriteArgs), WaitsWith s f rest 0x18 →
     (¬ChainInRange a → exec (.chainWrite (some a)) s = .next (refused s f rest 0x18 .format)) ∧
     (ChainInRange a → s.bt.bearers.get a.bearer = none →
       exec (.chainWrite (some a)) s = .next (refused s f rest 0x18 .notFound))) ∧
  (∀ (s : State) (f : RequestFrame) (rest : List RequestFrame) (a : ChainWriteArgs) (r : Bearer),
     WaitsWith s f rest 0x18 → ChainInRange a → s.bt.bearers.get a.bearer = some r →
     let back := s.bt.giveBack (s.bt.chainOf r)
     let new := back.build a.contents
     (r.state ≠ .retiring → a.contents.length ≤ s.bt.freeCount + (s.bt.chainOf r).length →
       Accepted (exec (.chainWrite (some a)) s)
         { taken s rest with
           bt := { new.1 with bearers := s.bt.bearers.set a.bearer { r with chainHead := new.2.headD 0 } } }
         f 0x18 (.chainTaken new.2) .nothing) ∧
     (r.state ≠ .retiring → s.bt.freeCount + (s.bt.chainOf r).length < a.contents.length →
       exec (.chainWrite (some a)) s = .next (refused s f rest 0x18 .full)) ∧
     (r.state = .retiring → exec (.chainWrite (some a)) s = .next (refused s f rest 0x18 .state))) ∧
  (∀ (t : BearerTable) (contents : List PermContent),
     contents.length ≤ 16 → contents.length ≤ t.freeList.length → t.freeList.Nodup → 0 ∉ t.freeList →
     t.entries.get 0 = none →
     let new := t.build contents
     new.2 = t.freeList.take contents.length ∧
     new.1.freeList = t.freeList.drop contents.length ∧
     new.1.chain 16 (new.2.headD 0) = new.2 ∧
     (new.2.map fun e => (new.1.entries.get e).map PermEntry.content) = contents.map some ∧
     ∀ k, k ∉ new.2 → new.1.entries.get k = t.entries.get k)

/-! ### The Site Clock -/

/-- R25: on a valid reading the advance is one second of the calendar, the last second of year 99 going to 00-01-01 00:00:00; a minute
boundary follows second 59 and a date rollover follows 23:59:59, with the weekday one on. While UNSET nothing advances. -/
def Obligations.ClockAdvancesOneSecond : Prop :=
  ∀ c : SiteClock,
    (c.isSet = false → c.advance = ⟨c, false, false⟩) ∧
    (c.isSet = true → c.date.valid = true → c.time.valid = true → 1 ≤ c.weekday → c.weekday ≤ 7 →
      let a := c.advance
      a.clk = { c with date := a.clk.date, time := a.clk.time, weekday := a.clk.weekday } ∧
      a.clk.date.valid = true ∧ a.clk.time.valid = true ∧
      (a.minute = true ↔ bcdVal c.time.second = 59) ∧ (a.day = true ↔ secondOfDay c = 86399) ∧
      a.clk.weekday = (if a.day then c.weekday % 7 + 1 else c.weekday) ∧
      secondOfCentury a.clk =
        if secondOfCentury c = 36525 * 86400 + 86399 then 86400 else secondOfCentury c + 1)

/-- A second tick at which no expiry is left from the tick before counts every running timer and counter down by one and the roll tick up
(`ticked`), then advances the clock (R1, R25, R26, R61, R78, R82, R108, R120). The last tick of a countdown stays at remainder 1 with the
mark `countdownDue`, and a prompt at 60 is the mark `promptDue` (the model's choice, assumption 9); the expiries of the tick are left for
their own commands, or with the operand `true` taken before the clock (assumption 6). A minute boundary evaluates the schedules, moves the
site state, the closing tones and the time locks by what has changed (R30, R34 to R36, R84), and hands the time on, in place of a reading
not yet sent (R158; assumption 65); a date rollover takes the holiday test and retires the bearers past the retention period (R15, R26; the
count of days is assumption 43). Without the main supply, or in reset, a tick advances the clock alone (R25, R175; assumption 12). -/
def Obligations.SecondTickCountsEveryTimerDown : Prop :=
  (∀ (s : State) (b : Bool), ¬ Runs s → exec (.secondTick b) s = .next { s with clk := s.clk.advance.clk }) ∧
  (∀ s : State, Runs s → Settled s → NothingDue s →
     (s.clk.advance.minute = false →
       (∃ t, exec (.secondTick false) s = .next t ∧
         UpToNotices
           { ticked s with clk := { s.clk.advance.clk with graceTimer := s.clk.graceTimer.map (· - 1) } } t) ∧
       (∀ r : Room, s.doors[r].state = .released → s.doors[r].unlock = some 1 →
         ∃ t, exec (.secondTick true) s = .next t ∧ reading t.clk = reading s.clk.advance.clk ∧
           t.doors[r].state = s.doors[r].closedState ∧ t.doors[r].releaseKind = none ∧ t.doors[r].unlock = none ∧
           t.doors[r].hold = false) ∧
       (∀ r : Room, s.ctx[r].window? = some 1 →
         ∃ t, exec (.secondTick true) s = .next t ∧ reading t.clk = reading s.clk.advance.clk ∧ t.ctx[r] = .empty)) ∧
     (s.clk.advance.minute = true →
       ∃ t, exec (.secondTick false) s = .next t ∧ reading t.clk = reading s.clk.advance.clk ∧
         t.clk.holidayToday =
           (if s.clk.advance.day then isHoliday s.bt.holidays s.clk.advance.clk.date else s.clk.holidayToday) ∧
         EvaluationHandedOn s t (ticked s).clk ∧
         HandedOver s t ⟨s.clk.advance.clk.date, s.clk.advance.clk.time, s.clk.advance.clk.weekday⟩ ∧
         (s.clk.advance.day = false → t.bt = s.bt) ∧ t.zones = (ticked s).zones ∧ t.roll.tick = (ticked s).roll.tick ∧
         t.bank = s.bank ∧ t.p2 = s.p2 ∧ t.lines = s.lines)) ∧
  (∀ s : State, Runs s → Settled s → NothingDue s → TokenLaw s.bt → OccupancyLaw s → s.clk.advance.day = true →
     ∃ t, exec (.secondTick false) s = .next t ∧
       (s.bt.retention = 0 → t.bt = s.bt) ∧
       ∀ b r, s.bt.bearers.get b = some r →
         let past : Prop :=
           s.bt.retention ≠ 0 ∧ r.state ≠ .retiring ∧
             ∃ d, r.validUntil = some d ∧ s.bt.retention < s.clk.advance.clk.date.dayNumber - d.dayNumber
         (¬past → t.bt.bearers.get b = some r) ∧
         (past → s.entryOf b = none → t.bt.bearers.get b = none) ∧
         ∀ e o, past → s.entryOf b = some (e, o) →
           t.bt.bearers.get b = some { r with state := .retiring } ∧
             ∃ x, t.roll.entries.get e = some x ∧ x.bearer = b ∧ x.revokedInside = true)

/-- An evaluation gives schedule 0 in force at all times, the others not while the clock is UNSET, and else as one of its windows is in
force: by the day kind of the window's start day, and past midnight by that of the day before (R23, R30, R31). The chain walk ends at the
first entry that names the strongroom, with every required right among those its class allows, and whose schedule is in force; those rights
are its result. Without one it is Named where an entry names the strongroom, else None (R19, R20). -/
def Obligations.WindowsAndTheChainWalk : Prop :=
  (∀ (s : State) (i : Sched),
     (i = 0 → s.evaluateSchedule i = true) ∧
     (i ≠ 0 → s.clk.isSet = false → s.evaluateSchedule i = false) ∧
     (i ≠ 0 → s.clk.isSet = true → RealTime ⟨s.clk.time.hour, s.clk.time.minute⟩ → 1 ≤ s.clk.weekday → s.clk.weekday ≤ 7 →
       (∀ w ∈ s.bt.schedules[i], RealTime w.start ∧ RealTime w.stop) →
       let now := hhmm ⟨s.clk.time.hour, s.clk.time.minute⟩
       let today (w : Window) : Bool := w.days.getLsbD (if s.clk.holidayToday then 7 else s.clk.weekday - 1)
       let yesterday (w : Window) : Bool :=
         w.days.getLsbD (
           if isHoliday s.bt.holidays s.clk.date.previous then 7 else if s.clk.weekday = 1 then 6 else s.clk.weekday - 2)
       (s.evaluateSchedule i = true ↔
         ∃ w ∈ s.bt.schedules[i],
           (hhmm w.start < hhmm w.stop ∧ today w = true ∧ hhmm w.start ≤ now ∧ now < hhmm w.stop) ∨
           (hhmm w.stop < hhmm w.start ∧
             (today w = true ∧ hhmm w.start ≤ now ∨ yesterday w = true ∧ now < hhmm w.stop)) ∨
           (hhmm w.stop = hhmm w.start ∧
             (today w = true ∧ hhmm w.start ≤ now ∨ yesterday w = true ∧ now < hhmm w.start))))) ∧
  (∀ (hs : List Holiday) (d : Date),
     isHoliday hs d = true ↔ .everyYear d.month d.day ∈ hs ∨ .dated d.year d.month d.day ∈ hs) ∧
  (∀ (c : SiteClock) (d : Date), RealDate d →
     RealDate d.previous ∧
       { c with date := d.previous, time := ⟨0x23, 0x59, 0x59⟩, isSet := true : SiteClock }.advance.clk.date = d) ∧
  (∀ (s : State) (rec : Bearer) (r : Room) (need : Rights),
     let contents := (s.bt.chainOf rec).filterMap fun e => (s.bt.entries.get e).map fun x => x.content
     let names (c : PermContent) : Prop := NamesRoom rec.cls r need c
     let fits (c : PermContent) : Prop := FitsNow s rec.cls r need c
     let walk := s.chainWalk rec.cls r need 16 rec.chainHead false
     (s.bt.chainOf rec).length ≤ 16 ∧
     (∀ pre c post, contents = pre ++ c :: post → fits c → (∀ x ∈ pre, ¬fits x) →
       walk = .matched (allowedTo rec.cls c.rights)) ∧
     ((∀ x ∈ contents, ¬fits x) → (∃ x ∈ contents, names x) → walk = .named) ∧
     ((∀ x ∈ contents, ¬names x) → walk = .nothing))

/-- CLOCK SET sets the clock, takes the holiday test of the new date, evaluates every schedule with all that hangs on it and hands the time
on, in place of a reading not yet sent (R28, R30, R32, R34 to R36, R158; assumption 65); it is FORMAT for a date or time that is none, or a
weekday outside 1 to 7 (R28). SITE SET stores both values and evaluates at once, or refuses both with FORMAT (R33). -/
def Obligations.ClockSetAndSiteSetEvaluate : Prop :=
  (∀ (s : State) (f : RequestFrame) (rest : List RequestFrame) (a : ClockSetArgs), WaitsWith s f rest 0x20 →
     (ClockInRange a →
       ∃ t, exec (.clockSet (some a)) s = .next t ∧ reading t.clk = (a.date, a.time, a.weekday, true) ∧
         t.clk.holidayToday = isHoliday s.bt.holidays a.date ∧ EvaluationHandedOn s t s.clk ∧
         HandedOver s t ⟨a.date, a.time, a.weekday⟩ ∧ t.bt = s.bt ∧ t.zones = s.zones ∧ t.bank = s.bank ∧
         t.ctx = s.ctx ∧ t.p2 = s.p2 ∧ t.lines = s.lines ∧ t.p1.requests = rest ∧
         AnsweredOk s t f 0x20 (.clock a.date a.time a.weekday)) ∧
     (¬ClockInRange a → exec (.clockSet (some a)) s = .next (refused s f rest 0x20 .format))) ∧
  (∀ (s : State) (f : RequestFrame) (rest : List RequestFrame), WaitsWith s f rest 0x22 →
     (∀ (i : Sched) (g : Nat), g ≤ 60 →
       ∃ t, exec (.siteSet (some ⟨i.val, g⟩)) s = .next t ∧ t.clk.siteSchedule = i ∧ t.clk.grace = g ∧
         EvaluationHandedOn s t { s.clk with grace := g } ∧ reading t.clk = reading s.clk ∧ t.bt = s.bt ∧
         t.zones = s.zones ∧ t.bank = s.bank ∧ t.ctx = s.ctx ∧ t.p2 = s.p2 ∧ t.lines = s.lines ∧
         t.p1.requests = rest ∧ AnsweredOk s t f 0x22 (.site i g)) ∧
     (∀ n g, 63 < n ∨ 60 < g → exec (.siteSet (some ⟨n, g⟩)) s = .next (refused s f rest 0x22 .format)))

/-- What following the site schedule does to the site state at an evaluation, HoldOpen's lapse among it (R34, R35): the operation alone, whose
effect in the commands that evaluate `SecondTickCountsEveryTimerDown`, `ClockSetAndSiteSetEvaluate` and `ScheduleAndHolidayWritesEvaluate`
state. SITE OVERRIDE stores the override and sets the site state at once, with the grace timer stopped (R35). SITE OVERRIDE None derives the
state afresh, AFTER_HOURS while the clock is UNSET (R27, R34; assumption 46). -/
def Obligations.SiteStateFollowsScheduleAndOverride : Prop :=
  (∀ s : State,
     (s.siteInForce = true → s.clk.siteState = .closing →
       (s.siteFollows false).clk.siteState = .openHours ∧ (s.siteFollows false).clk.graceTimer = none) ∧
     (s.siteInForce = true → s.clk.siteState = .afterHours → s.clk.override = .forceAfterHours → s.siteFollows false = s) ∧
     (s.siteInForce = true → s.clk.siteState = .afterHours → s.clk.override ≠ .forceAfterHours →
       (s.siteFollows false).clk.siteState = .openHours) ∧
     (s.siteInForce = true → s.clk.override = .holdOpen → (s.siteFollows false).clk.override = .noOverride) ∧
     (s.siteInForce = false → s.clk.siteState = .openHours → s.clk.override = .noOverride → s.clk.grace = 0 →
       (s.siteFollows true).clk.siteState = .afterHours) ∧
     (s.siteInForce = false → s.clk.siteState = .openHours → s.clk.override = .noOverride → 0 < s.clk.grace →
       (s.siteFollows true).clk.siteState = .closing ∧ (s.siteFollows true).clk.graceTimer = some (60 * s.clk.grace)) ∧
     (s.siteInForce = false → s.clk.siteState = .openHours → s.clk.override = .holdOpen → s.siteFollows true = s) ∧
     s.siteFollows s.siteInForce = s) ∧
  (∀ (s : State) (f : RequestFrame) (rest : List RequestFrame) (o : Override), WaitsWith s f rest 0x23 →
     (¬(o = .holdOpen ∧ s.clk.isSet = false) →
       ∃ t, exec (.siteOverride (some o)) s = .next t ∧
         t.clk =
           { s.clk with
             override := o, graceTimer := none
             siteState :=
               match o with
               | .holdOpen => .openHours
               | .forceAfterHours => .afterHours
               | .noOverride => if s.clk.isSet ∧ s.clk.inForce[s.clk.siteSchedule] then .openHours else .afterHours } ∧
         t.bt = s.bt ∧ t.doors = s.doors ∧ t.zones = s.zones ∧ t.bank = s.bank ∧ t.ctx = s.ctx ∧ t.p2 = s.p2 ∧
         t.lines = s.lines ∧ t.p1.requests = rest ∧ AnsweredOk s t f 0x23 (.override o t.clk.siteState)) ∧
     (o = .holdOpen → s.clk.isSet = false → exec (.siteOverride (some o)) s = .next (refused s f rest 0x23 .state)))

/-- R21 to R23: SCHEDULE WRITE, HOLIDAY ADD and HOLIDAY REMOVE change their list and evaluate at once, with all that hangs on the evaluation
(R30, R34 to R36), or are refused; windows and holiday dates out of range are FORMAT. -/
def Obligations.ScheduleAndHolidayWritesEvaluate : Prop :=
  ∀ (s : State) (f : RequestFrame) (rest : List RequestFrame),
    let evaluated (t : State) : Prop := EvaluationHandedOn s t s.clk
    (∀ (n : Nat) (ws : List Window), WaitsWith s f rest 0x1A →
      n = 0 ∨ 63 < n ∨ 4 < ws.length ∨ (∃ w ∈ ws, ¬WindowInRange w) →
      exec (.scheduleWrite (some ⟨n, ws⟩)) s = .next (refused s f rest 0x1A .format)) ∧
    (∀ (i : Sched) (ws : List Window), WaitsWith s f rest 0x1A → i ≠ 0 → ws.length ≤ 4 → (∀ w ∈ ws, WindowInRange w) →
      ∃ t, exec (.scheduleWrite (some ⟨i.val, ws⟩)) s = .next t ∧ t.bt = { s.bt with schedules := s.bt.schedules.set i ws } ∧
        evaluated t ∧ reading t.clk = reading s.clk ∧ t.zones = s.zones ∧ t.bank = s.bank ∧ t.ctx = s.ctx ∧
        t.lines = s.lines ∧ t.p1.requests = rest ∧ AnsweredOk s t f 0x1A .nothing) ∧
    (∀ h : Holiday, WaitsWith s f rest 0x1C → RealHoliday h → h ∉ s.bt.holidays → s.bt.holidays.length < 32 →
      ∃ t, exec (.holidayAdd (some h)) s = .next t ∧ t.bt = { s.bt with holidays := insertHoliday h s.bt.holidays } ∧
        t.clk.holidayToday = isHoliday (insertHoliday h s.bt.holidays) s.clk.date ∧ evaluated t ∧
        reading t.clk = reading s.clk ∧ t.zones = s.zones ∧ t.bank = s.bank ∧ t.ctx = s.ctx ∧ t.lines = s.lines ∧
        t.p1.requests = rest ∧ AnsweredOk s t f 0x1C .nothing) ∧
    (∀ h : Holiday, ¬RealHoliday h →
      (WaitsWith s f rest 0x1C → exec (.holidayAdd (some h)) s = .next (refused s f rest 0x1C .format)) ∧
      (WaitsWith s f rest 0x1D → exec (.holidayRemove (some h)) s = .next (refused s f rest 0x1D .format))) ∧
    (∀ h : Holiday, WaitsWith s f rest 0x1C → RealHoliday h →
      (h ∈ s.bt.holidays → exec (.holidayAdd (some h)) s = .next (refused s f rest 0x1C .conflict)) ∧
      (h ∉ s.bt.holidays → 32 ≤ s.bt.holidays.length → exec (.holidayAdd (some h)) s = .next (refused s f rest 0x1C .full))) ∧
    (∀ h : Holiday, WaitsWith s f rest 0x1D → RealHoliday h → h ∈ s.bt.holidays →
      ∃ t, exec (.holidayRemove (some h)) s = .next t ∧ t.bt = { s.bt with holidays := s.bt.holidays.erase h } ∧
        t.clk.holidayToday = isHoliday (s.bt.holidays.erase h) s.clk.date ∧ evaluated t ∧ reading t.clk = reading s.clk ∧
        t.zones = s.zones ∧ t.bank = s.bank ∧ t.ctx = s.ctx ∧ t.lines = s.lines ∧ t.p1.requests = rest ∧
        AnsweredOk s t f 0x1D .nothing) ∧
    (∀ h : Holiday, WaitsWith s f rest 0x1D → RealHoliday h → h ∉ s.bt.holidays →
      exec (.holidayRemove (some h)) s = .next (refused s f rest 0x1D .notFound))

/-! ### The Occupancy Roll -/

/-- ROLL CONFIRM clears the Unreconciled mark and keeps every entry; ROLL SWEEP removes every entry of an Occupied strongroom and clears its
mark, the others keeping theirs; each leaves a strongroom with nothing to clear as it is (R67). ROLL REMOVE takes the bearer's entry off the
roll; a visitor it escorted loses its link and is Lapsed (R64, R68). -/
def Obligations.RollRequestsClearSweepAndRemove : Prop :=
  (∀ (s : State) (f : RequestFrame) (rest : List RequestFrame) (r : Room), WaitsWith s f rest 0x30 →
     (s.roll.rooms[r].unreconciled = true →
       TakenAndAnswered s (exec (.rollConfirm (some (num r))) s) rest f 0x30 (.rollConfirmed (s.headCount r) false) fun t =>
         t.roll.rooms = s.roll.rooms.set r { s.roll.rooms[r] with unreconciled := false } ∧
         (t.roll.entries.map fun p => (p.1, entryBase p.2)) = (s.roll.entries.map fun p => (p.1, entryBase p.2)) ∧
         t.roll.tick = s.roll.tick ∧ OtherRoomsKept s t r ∧ t.bt = s.bt ∧ t.clk = s.clk ∧ t.bank.cylinders = s.bank.cylinders ∧
         t.bank.reservations = s.bank.reservations ∧ t.bank.manifold = s.bank.manifold ∧
         (∀ a : Addr, stationBase t a = stationBase s a) ∧ t.p2 = s.p2 ∧ t.lines = s.lines) ∧
     (s.roll.rooms[r].unreconciled = false →
       exec (.rollConfirm (some (num r))) s =
         .next (answered (taken s rest) f 0x30 .ok (.rollConfirmed (s.headCount r) false) .nothing))) ∧
  (∀ (s : State) (f : RequestFrame) (rest : List RequestFrame) (r : Room), WaitsWith s f rest 0x31 →
     (s.occupied r = true →
       TakenAndAnswered s (exec (.rollSweep (some (num r))) s) rest f 0x31 (.rollSwept (s.headCount r)) fun t =>
         t.roll.rooms = s.roll.rooms.set r ⟨[], false⟩ ∧
         (∀ e, t.roll.entries.get e = if e ∈ s.roll.rooms[r].list then none else s.roll.entries.get e) ∧ t.roll.tick = s.roll.tick ∧
         t.clk = s.clk ∧ (∀ j : Room, j ≠ r → t.doors[j] = s.doors[j] ∧ t.zones[j] = s.zones[j]) ∧
         t.bank.cylinders = s.bank.cylinders ∧ t.bank.reservations = s.bank.reservations ∧
         t.bank.manifold = s.bank.manifold ∧ (∀ a : Addr, stationBase t a = stationBase s a) ∧ t.p2 = s.p2 ∧
         t.lines = s.lines) ∧
     (s.occupied r = false →
       exec (.rollSweep (some (num r))) s = .next (answered (taken s rest) f 0x31 .ok (.rollSwept 0) .nothing))) ∧
  (∀ (s : State) (f : RequestFrame) (rest : List RequestFrame) (b : Nat), WaitsWith s f rest 0x32 → 1 ≤ b → b ≤ 4095 →
     (∀ e o, s.entryOf b = some (e, o) →
       TakenAndAnswered s (exec (.rollRemove (some b)) s) rest f 0x32
         (.rollRemoved o.room (s.roll.rooms[o.room].list.filter (· ≠ e)).length) fun t =>
         t.roll.rooms =
           s.roll.rooms.set o.room { s.roll.rooms[o.room] with list := s.roll.rooms[o.room].list.filter (· ≠ e) } ∧
         t.roll.entries.get e = none ∧
         (∀ k v, k ≠ e → s.roll.entries.get k = some v → v.link = some e → 0 < o.escorted →
           ∃ w, t.roll.entries.get k = some w ∧ w.link = none ∧ w.lapsed = true ∧ w.bearer = v.bearer ∧ w.room = v.room) ∧
         (∀ k v, k ≠ e → s.roll.entries.get k = some v → v.link ≠ some e ∨ o.escorted = 0 →
           ∃ w, t.roll.entries.get k = some w ∧
             entryBase w = entryBase { v with escorted := if o.link = some k then v.escorted - 1 else v.escorted }) ∧
         t.clk = s.clk ∧ t.roll.tick = s.roll.tick ∧
         (∀ j : Room, j ≠ o.room → t.doors[j] = s.doors[j] ∧ t.zones[j] = s.zones[j]) ∧
         t.bank.cylinders = s.bank.cylinders ∧ t.bank.reservations = s.bank.reservations ∧
         t.bank.manifold = s.bank.manifold ∧ (∀ a : Addr, stationBase t a = stationBase s a) ∧ t.p2 = s.p2 ∧
         t.lines = s.lines) ∧
     (s.entryOf b = none → exec (.rollRemove (some b)) s = .next (refused s f rest 0x32 .notFound)))

/-! ### The Door Controller -/

/-- An accepted DOOR RELEASE on a closed or released door, and the four grounds of refusal (R77, R87). DOOR LOCKDOWN sets the mark, drops the
context and Hold, and cancels an Entry or Command release; DOOR RESTORE clears the mark and nothing else (R88). -/
def Obligations.DoorRequestsReleaseLockAndRestore : Prop :=
  (∀ (s : State) (f : RequestFrame) (rest : List RequestFrame) (r : Room) (hold : Bool), WaitsWith s f rest 0x40 →
     (s.doors[r].refusesRelease = true →
       exec (.doorRelease (some ⟨num r, hold⟩)) s = .next (refused s f rest 0x40 .state)) ∧
     (s.doors[r].refusesRelease = false → s.doors[r].state = .secured →
       Accepted (exec (.doorRelease (some ⟨num r, hold⟩)) s)
         { taken s rest with
           doors := s.doors.set r
             { s.doors[r] with
               state := .released, releaseKind := some .command, unlock := some s.sup.profiles[r].unlock, hold := hold }
           loop := (s.placeBolt r (.release s.sup.profiles[r].unlock)).loop }
         f 0x40 (.doorReleased .released hold) .nothing) ∧
     (∀ k, s.doors[r].refusesRelease = false → s.doors[r].state = .released → s.doors[r].releaseKind = some k →
       Accepted (exec (.doorRelease (some ⟨num r, hold⟩)) s)
         { taken s rest with
           doors := s.doors.set r
             { s.doors[r] with
               releaseKind := some (if k = .entry then .command else k), unlock := some s.sup.profiles[r].unlock
               hold := hold }
           loop := (s.placeBolt r (.release s.sup.profiles[r].unlock)).loop }
         f 0x40 (.doorReleased .released hold) .nothing)) ∧
  (∀ (s : State) (f : RequestFrame) (rest : List RequestFrame) (r : Room),
     (WaitsWith s f rest 0x41 →
       TakenAndAnswered s (exec (.doorLockdown (some (num r))) s) rest f 0x41 .nothing fun t =>
         t.doors[r].lockdown = true ∧ t.doors[r].hold = false ∧ t.ctx[r] = .empty ∧
         (s.doors[r].state = .released → s.doors[r].releaseKind = some .entry ∨ s.doors[r].releaseKind = some .command →
           t.doors[r].state = s.doors[r].closedState ∧ t.doors[r].releaseKind = none ∧ t.doors[r].unlock = none) ∧
         (s.doors[r].state = .released → s.doors[r].releaseKind = some .exit ∨ s.doors[r].releaseKind = some .egress →
           t.doors[r].state = .released ∧ t.doors[r].releaseKind = s.doors[r].releaseKind ∧
             t.doors[r].unlock = s.doors[r].unlock) ∧
         OtherRoomsKept s t r ∧ t.bt = s.bt ∧ t.clk = s.clk ∧ t.roll = s.roll ∧ t.zones = s.zones ∧ t.bank = s.bank ∧
         t.p2 = s.p2 ∧ t.lines = s.lines) ∧
     (WaitsWith s f rest 0x42 →
       Accepted (exec (.doorRestore (some (num r))) s)
         { taken s rest with doors := s.doors.set r { s.doors[r] with lockdown := false } } f 0x42 .nothing .nothing))

/-- The unlock timer, the held-open timer, the pairing window and the grace timer at their expiries (R34, R56, R78, R82). The prompt makes a
RUNNING entry PROMPTED and asks for the tone; the expiry raises OVERDUE and loads the counter again (R108). The prompt of a counter that has
reached 60 waits as the mark `promptDue`, which is the model's choice (assumption 9). -/
def Obligations.DoorGraceAndLoneWorkerExpiries : Prop :=
  (∀ (s : State) (r : Room), Runs s →
     (s.doors[r].state = .released → s.doors[r].unlock = some 0 →
       ∃ t, exec (.unlockTimerExpiry r) s = .next t ∧
         UpToNotices
           { s with
             doors := s.doors.set r
               { s.doors[r] with state := s.doors[r].closedState, releaseKind := none, unlock := none, hold := false } } t) ∧
     (s.doors[r].heldOpen = .running 0 → s.doors[r].isOpen = true →
       ∃ t, exec (.heldOpenTimerExpiry r) s = .next t ∧
         UpToOutputs
           { s with
             doors := s.doors.set r
               { s.doors[r] with
                 heldOpen := .expired, state := if s.doors[r].state = .opened then .held else s.doors[r].state }
             alarms := (s.raiseAlarm (.forRoom .heldOpen r)).alarms } t) ∧
     (s.ctx[r].window? = some 0 →
       ∃ t, exec (.pairingWindowExpiry r) s = .next t ∧ UpToNotices { s with ctx := s.ctx.set r .empty } t)) ∧
  (∀ s : State, Runs s → s.clk.siteState = .closing → s.clk.graceTimer = some 0 →
     ∃ t, exec .graceTimerExpiry s = .next t ∧ t.clk = { s.clk with siteState := .afterHours, graceTimer := none } ∧
       t.bt = s.bt ∧ t.doors = s.doors ∧ t.zones = s.zones ∧ t.bank = s.bank ∧ t.ctx = s.ctx ∧ t.p2 = s.p2 ∧ t.lines = s.lines) ∧
  (∀ (s : State) (e : Nat) (o : OccEntry), Runs s → s.roll.entries.get e = some o → o.checkIn ≠ .off →
     (o.promptDue = true →
       ∃ t, exec (.loneWorkerPrompt e) s = .next t ∧
         UpToNotices
           { s with
             roll :=
               { s.roll with
                 entries := s.roll.entries.modify e fun x =>
                   { x with promptDue := false, checkIn := if x.checkIn = .running then .prompted else x.checkIn } }
             loop := (s.placeTone o.room .prompt).loop } t) ∧
     (o.counter = 0 →
       ∃ t, exec (.loneWorkerExpiry e) s = .next t ∧
         t.roll.entries.get e = some { o with counter := s.loneLoad o, checkIn := .overdue, promptDue := false } ∧
         (∀ k, k ≠ e → t.roll.entries.get k = s.roll.entries.get k) ∧
         t.alarms.records = (s.raiseAlarm (.forRoomBearer .overdue o.room o.bearer)).alarms.records ∧ t.bt = s.bt ∧
         t.clk = s.clk ∧ t.doors = s.doors ∧ t.zones = s.zones ∧ t.bank = s.bank ∧ t.loop = s.loop ∧ t.p2 = s.p2))

/-! ### The Alarm Table -/

/-- A raise on a record that stands raises its repeat count up to 255 and makes RESTORED and AWAIT_RESET ACTIVE again; a new kind-and-key
makes a new ACTIVE record at the tail while the table holds fewer than 64 (R96). A condition that is gone moves ACTIVE to RESTORED, ACKED to
AWAIT_RESET for a latching kind and off the table for another, and leaves every other record as it is (R97). -/
def Obligations.RaiseAndRestoreFollowTheTables : Prop :=
  (∀ (s : State) (k : AlarmKey),
     (∀ r, s.alarms.records.find? (fun x => x.key = k) = some r →
       (s.raiseAlarm k).alarms.records = s.alarms.records.map fun x =>
         if x.key = k then
           { x with
             repeats := min 255 (x.repeats + 1)
             state := if x.state = .restored ∨ x.state = .awaitReset then .active else x.state }
         else x) ∧
     ((∀ x ∈ s.alarms.records, x.key ≠ k) → s.alarms.records.length < 64 →
       let fresh : AlarmRecord := ⟨k, .active, if s.clk.isSet then ⟨s.clk.date, s.clk.time⟩ else .zeros, 0⟩
       (s.raiseAlarm k).alarms.records = s.alarms.records ++ [fresh] ∧
         (s.raiseAlarm k).due = s.due ++ [.notice fresh.notice]) ∧
     (s.raiseAlarm k).bt = s.bt ∧ (s.raiseAlarm k).clk = s.clk ∧ (s.raiseAlarm k).roll = s.roll ∧
     (s.raiseAlarm k).doors = s.doors ∧ (s.raiseAlarm k).zones = s.zones ∧ (s.raiseAlarm k).bank = s.bank ∧
     (s.raiseAlarm k).loop = s.loop ∧ (s.raiseAlarm k).p1 = s.p1) ∧
  (∀ (s : State) (group : AlarmKey → Bool),
     let change (r : AlarmRecord) : Option AlarmRecord :=
       if group r.key then
         match r.state with
         | .active => some { r with state := .restored }
         | .acked => if r.key.kind.latching then some { r with state := .awaitReset } else none
         | .restored | .awaitReset => some r
       else some r
     (s.alarmsGone group).alarms.records = s.alarms.records.filterMap change ∧
     (s.alarmsGone group).due =
       s.due ++ s.alarms.records.flatMap fun r =>
         match change r with
         | none => [.notice (.alarm r.key .retired r.key.kind.priority 0 r.raisedAt)]
         | some r' => if r' = r then [] else [.notice r'.notice]) ∧
  (∀ (s : State) (k : AlarmKey), s.alarmGone k = s.alarmsGone fun x => x = k)

/-- R98: a raise on a full table evicts the first record found, class by class and nearest the head of the list: a FAULT record in ACKED or
AWAIT_RESET; for SECURITY and LIFE also an ACKED SECURITY record; for LIFE also a FAULT record in ACTIVE or RESTORED. The evicted record's
notice comes before the new record's. Where no class has a record, the raise is not stored and the Overflow mark is set. No LIFE record is
evicted. -/
def Obligations.EvictionTakesTheFirstOfItsClass : Prop :=
  ∀ (s : State) (k : AlarmKey), (∀ x ∈ s.alarms.records, x.key ≠ k) → s.alarms.records.length = 64 →
    let settledFault (x : AlarmRecord) : Prop := x.key.kind.priority = .fault ∧ (x.state = .acked ∨ x.state = .awaitReset)
    let ackedSecurity (x : AlarmRecord) : Prop := x.key.kind.priority = .security ∧ x.state = .acked
    let openFault (x : AlarmRecord) : Prop := x.key.kind.priority = .fault ∧ (x.state = .active ∨ x.state = .restored)
    let fresh : AlarmRecord := ⟨k, .active, if s.clk.isSet then ⟨s.clk.date, s.clk.time⟩ else .zeros, 0⟩
    let evicts (pre : List AlarmRecord) (v : AlarmRecord) (post : List AlarmRecord) : Prop :=
      (s.raiseAlarm k).alarms = { s.alarms with records := pre ++ post ++ [fresh] } ∧
        (s.raiseAlarm k).due =
          s.due ++ [.notice (.alarm v.key .evicted v.key.kind.priority 0 v.raisedAt), .notice fresh.notice]
    (∀ pre v post, s.alarms.records = pre ++ v :: post →
      (settledFault v → (∀ x ∈ pre, ¬settledFault x) → evicts pre v post) ∧
      ((∀ x ∈ s.alarms.records, ¬settledFault x) → k.kind.priority ≠ .fault → ackedSecurity v →
        (∀ x ∈ pre, ¬ackedSecurity x) → evicts pre v post) ∧
      ((∀ x ∈ s.alarms.records, ¬settledFault x ∧ ¬ackedSecurity x) → k.kind.priority = .life → openFault v →
        (∀ x ∈ pre, ¬openFault x) → evicts pre v post)) ∧
    ((∀ x ∈ s.alarms.records, ¬settledFault x ∧ (k.kind.priority ≠ .fault → ¬ackedSecurity x) ∧
        (k.kind.priority = .life → ¬openFault x)) →
      (s.raiseAlarm k).alarms = { s.alarms with overflow := true } ∧
        (s.raiseAlarm k).due = s.due ++ [.notice (.alarm k .notStored k.kind.priority 0 .zeros)]) ∧
    ∀ x ∈ s.alarms.records, x.key.kind.priority = .life → x ∈ (s.raiseAlarm k).alarms.records

/-- The table of ALARM ACK (R99); ALARM RESET retires a record in AWAIT_RESET and refuses one in any other state (R100); each change gives the
ALARM notice of the record (R102). -/
def Obligations.AlarmAckAndResetTables : Prop :=
  (∀ (s : State) (f : RequestFrame) (rest : List RequestFrame) (a : AlarmArgs) (k : AlarmKey), WaitsWith s f rest 0x50 →
     NamesKey a k →
     (s.alarms.records.find? (fun r => r.key = k) = none →
       exec (.alarmAck (some a)) s = .next (refused s f rest 0x50 .notFound)) ∧
     ∀ r, s.alarms.records.find? (fun r => r.key = k) = some r →
       let put (st : AlarmState) : State :=
         { taken s rest with
           alarms :=
             { s.alarms with
               records := s.alarms.records.map fun x => if x.key = k then { r with state := st } else x } }
       let retired : State :=
         { taken s rest with
           alarms := { s.alarms with records := s.alarms.records.filter (fun x => x.key ≠ k), overflow := false } }
       (s.isEventRecord r = false →
         (r.state = .active →
           AcceptedWithNotice (exec (.alarmAck (some a)) s) (put .acked) f 0x50 (.alarmAcked (.standing .acked))
            { r with state := .acked : AlarmRecord }.notice) ∧
         (r.state = .restored → r.key.kind.latching = true →
           AcceptedWithNotice (exec (.alarmAck (some a)) s) (put .awaitReset) f 0x50 (.alarmAcked (.standing .awaitReset))
            { r with state := .awaitReset : AlarmRecord }.notice) ∧
         (r.state = .restored → r.key.kind.latching = false →
           AcceptedWithNotice (exec (.alarmAck (some a)) s) retired f 0x50 (.alarmAcked .retired)
            (.alarm k .retired k.kind.priority 0 r.raisedAt)) ∧
         (r.state = .acked ∨ r.state = .awaitReset →
           exec (.alarmAck (some a)) s = .next (refused s f rest 0x50 .state))) ∧
       (s.isEventRecord r = true → r.state ≠ .awaitReset →
         AcceptedWithNotice (exec (.alarmAck (some a)) s) (put .awaitReset) f 0x50 (.alarmAcked (.standing .awaitReset))
           { r with state := .awaitReset : AlarmRecord }.notice) ∧
       (s.isEventRecord r = true → r.state = .awaitReset →
         exec (.alarmAck (some a)) s = .next (refused s f rest 0x50 .state)) ∧
       (s.isEventRecord r = true ↔
         k.kind = .tablesLost ∨ k.kind = .restarted ∨
           ((k.kind = .duress ∨ k.kind = .manDown) ∧ ∀ b, k.bearer = some b → s.entryOf b = none))) ∧
  (∀ (s : State) (f : RequestFrame) (rest : List RequestFrame) (a : AlarmArgs) (k : AlarmKey), WaitsWith s f rest 0x51 →
     NamesKey a k →
     (s.alarms.records.find? (fun r => r.key = k) = none →
       exec (.alarmReset (some a)) s = .next (refused s f rest 0x51 .notFound)) ∧
     ∀ r, s.alarms.records.find? (fun r => r.key = k) = some r →
       (r.state = .awaitReset →
         AcceptedWithNotice (exec (.alarmReset (some a)) s)
           { taken s rest with
             alarms := { s.alarms with records := s.alarms.records.filter (fun x => x.key ≠ k), overflow := false } }
           f 0x51 .nothing (.alarm k .retired k.kind.priority 0 r.raisedAt)) ∧
       (r.state ≠ .awaitReset → exec (.alarmReset (some a)) s = .next (refused s f rest 0x51 .state))) ∧
  (∀ (s : State) (f : RequestFrame) (rest : List RequestFrame) (a : AlarmArgs),
     a.kind = none ∨ (∃ n, a.room = some n ∧ (n = 0 ∨ 16 < n)) ∨ (∃ n, a.bearer = some n ∧ (n = 0 ∨ 4095 < n)) ∨
       (∃ n, a.station = some n ∧ 96 < n) ∨ (∃ n, a.point = some n ∧ (n = 0 ∨ 4 < n)) →
     (WaitsWith s f rest 0x50 → exec (.alarmAck (some a)) s = .next (refused s f rest 0x50 .format)) ∧
     (WaitsWith s f rest 0x51 → exec (.alarmReset (some a)) s = .next (refused s f rest 0x51 .format)))

/-! ### The Suppression Sequencer -/

/-- An accepted ZONE RESET brings the zone to NORMAL with its sequence cleared; from HELD its reservation is released (R127). (The premise
that the manual release is not Active holds by the test itself in HELD and VENT; in ALERT an Active one would have confirmed.) RELEASE
AUTHORISE takes Occupied from the hold reasons, and the reasons decide between HELD and COUNTDOWN (R120, R121). -/
def Obligations.ZoneResetAndReleaseAuthorise : Prop :=
  (∀ (s : State) (f : RequestFrame) (rest : List RequestFrame) (z : Room), WaitsWith s f rest 0x60 →
     (s.zones[z].resettable = true → s.zones[z].inputs.manual ≠ .active →
       TakenAndAnswered s (exec (.zoneReset (some (num z))) s) rest f 0x60 (.zoneState .normal) fun t =>
         t.zones = s.zones.set z
           { s.zones[z] with
             state := .normal, holds := holdsWith s z .noKind false s.lines.inhibit, kind := .noKind, remainder := 0
             accumulated := 0, authorise := false, envelopeOpen := false, flowSeen := false, unconfirmed := false } ∧
         (s.zones[z].state = .held →
           z ∉ t.bank.reservations ∧ ∀ p : Pos, t.bank.cylinders[p].reservedTo z = false) ∧
         (s.zones[z].state ≠ .held → t.bank.cylinders = s.bank.cylinders ∧ t.bank.reservations = s.bank.reservations) ∧
         t.bt = s.bt ∧ t.clk = s.clk ∧ t.roll = s.roll ∧ t.p2 = s.p2 ∧ t.lines = s.lines) ∧
     (s.zones[z].resettable = false → exec (.zoneReset (some (num z))) s = .next (refused s f rest 0x60 .state))) ∧
  (∀ (s : State) (f : RequestFrame) (rest : List RequestFrame) (z : Room), WaitsWith s f rest 0x63 →
     (s.zones[z].state = .held ∨ s.zones[z].state = .countdown →
       let h := holdsWith s z s.zones[z].kind true s.lines.inhibit
       TakenAndAnswered s (exec (.releaseAuthorise (some (num z))) s) rest f 0x63
         (.authorised (if h.any then .held else .countdown) h) fun t =>
         t.zones[z].state = (if h.any then .held else .countdown) ∧ t.zones[z].holds = h ∧ t.zones[z].authorise = true ∧
         t.zones[z].remainder =
           (if s.zones[z].state = .held ∧ h.any = false then max s.zones[z].remainder 10 else s.zones[z].remainder) ∧
         (∀ j : Room, j ≠ z → t.zones[j] = s.zones[j]) ∧ t.bank.cylinders = s.bank.cylinders ∧ t.bt = s.bt ∧
         t.clk = s.clk ∧ t.roll = s.roll ∧ t.p2 = s.p2 ∧ t.lines = s.lines) ∧
     (s.zones[z].state ≠ .held → s.zones[z].state ≠ .countdown →
       exec (.releaseAuthorise (some (num z))) s = .next (refused s f rest 0x63 .state)))

/-- ZONE DISABLE in every state; ZONE ENABLE tests the live inputs: with none Active the zone is NORMAL, one detector Active without a
confirmation brings ALERT, and a confirming input confirms it in the same event (R115, R117, R128). -/
def Obligations.ZoneDisableAndEnableByState : Prop :=
  (∀ (s : State) (f : RequestFrame) (rest : List RequestFrame) (z : Room), WaitsWith s f rest 0x61 →
     (s.zones[z].state = .normal ∨ s.zones[z].state = .alert →
       TakenAndAnswered s (exec (.zoneDisable (some (num z))) s) rest f 0x61 (.zoneState .disabled) fun t =>
         t.zones = s.zones.set z { s.zones[z] with state := .disabled, disableCause := .request } ∧
         t.bank.cylinders = s.bank.cylinders ∧ t.bank.coverage[z].basis = .noBasis ∧ t.bt = s.bt ∧ t.clk = s.clk ∧
         t.ctx = s.ctx ∧ t.roll = s.roll ∧ t.p2 = s.p2 ∧ t.lines = s.lines) ∧
     (s.zones[z].state = .disabled →
       exec (.zoneDisable (some (num z))) s = .next (answered (taken s rest) f 0x61 .ok (.zoneState .disabled) .nothing)) ∧
     (s.zones[z].state ≠ .normal → s.zones[z].state ≠ .alert → s.zones[z].state ≠ .disabled →
       exec (.zoneDisable (some (num z))) s = .next (refused s f rest 0x61 .state))) ∧
  (∀ (s : State) (f : RequestFrame) (rest : List RequestFrame) (z : Room), WaitsWith s f rest 0x62 →
     (s.zones[z].state = .disabled → s.zones[z].inputs.confirms s.sup.profiles[z].knock = none →
       s.zones[z].inputs.detectorActive = false →
       TakenAndAnswered s (exec (.zoneEnable (some (num z))) s) rest f 0x62 (.zoneState .normal) fun t =>
         t.zones = s.zones.set z { s.zones[z] with state := .normal } ∧ t.bank.cylinders = s.bank.cylinders ∧
         t.bt = s.bt ∧ t.clk = s.clk ∧ t.ctx = s.ctx ∧ t.roll = s.roll ∧ t.p2 = s.p2 ∧ t.lines = s.lines) ∧
     (s.zones[z].state = .disabled → s.zones[z].inputs.confirms s.sup.profiles[z].knock = none →
       s.zones[z].inputs.detectorActive = true →
       TakenAndAnswered s (exec (.zoneEnable (some (num z))) s) rest f 0x62 (.zoneState .alert) fun t =>
         t.zones = s.zones.set z { s.zones[z] with state := .alert } ∧ (Roomy s → Stands t (.forRoom .zoneAlert z)) ∧
         t.bank.cylinders = s.bank.cylinders ∧ t.bank.reservations = s.bank.reservations ∧ t.bt = s.bt ∧
         t.clk = s.clk ∧ t.ctx = s.ctx ∧ t.roll = s.roll ∧ t.p2 = s.p2 ∧ t.lines = s.lines) ∧
     (∀ k, s.zones[z].state = .disabled → s.zones[z].inputs.confirms s.sup.profiles[z].knock = some k →
       let h := holdsWith s z k s.zones[z].authorise s.lines.inhibit
       TakenAndAnswered s (exec (.zoneEnable (some (num z))) s) rest f 0x62 (.zoneState (if h.any then .held else .countdown))
         fun t =>
         t.zones[z].state = (if h.any then .held else .countdown) ∧ t.zones[z].kind = k ∧ t.zones[z].holds = h ∧
         t.zones[z].remainder = s.sup.profiles[z].delay ∧ t.zones[z].accumulated = 0 ∧
         t.bank.reservations = s.bank.reservations ++ [z] ∧ t.ctx[z] = .empty ∧ t.bt = s.bt ∧ t.clk = s.clk) ∧
     (s.zones[z].state ≠ .disabled → exec (.zoneEnable (some (num z))) s = .next (refused s f rest 0x62 .state)))

/-- At the countdown's end a free manifold that no zone waits for is granted at once; otherwise the zone waits at the tail of the queue
(R122, R143). A zone that the manifold is granted to, at once or as the head of the queue, hands its release unit the fire command with the
positions reserved to it, in position order, unless the unit is lost (R123). The discharge timer's expiry spends the zone's cylinders, the
flow-start timer's expiry makes them FAULT with ReleaseUnconfirmed set; either way the manifold passes to the head of the queue and the zone
enters SOAK, or VENT for a soak time of 0; the soak timer's expiry brings VENT (R124 to R126, R144). The countdown's end waits as the mark
`countdownDue` (assumption 9), and an expiry of the discharge timer spends the cylinders however FlowSeen stands (assumption 50): both are
the model's choice. -/
def Obligations.DischargeSequence : Prop :=
  let fires (s t : State) (z : Room) : Prop :=
    let positions := (fins 48).filter fun p => s.bank.cylinders[p].state = .reserved ∧ s.bank.cylinders[p].zone = some z
    ∀ a : Addr, s.stationOf .releaseUnit (num z) = some a → s.loop.stations[a].state ≠ .missing →
      s.loop.stations[a].state ≠ .wrongType → t.loop.stations[a].slots.fire = some ⟨positions, false⟩
  (∀ (s : State) (z : Room), Runs s → s.zones[z].state = .countdown → s.zones[z].countdownDue = true →
     (s.bank.manifold = none → s.bank.waitQueue = [] →
       ∃ t, exec (.countdownEnd z) s = .next t ∧ t.zones[z].state = .discharging ∧ t.zones[z].remainder = 0 ∧
         t.zones[z].flowStart = some 20 ∧ t.zones[z].discharge = some 120 ∧ t.zones[z].flowSeen = false ∧
         t.zones[z].envelopeOpen = (!s.zones[z].lastEnvelope) ∧ t.bank.manifold = some z ∧ t.bank.waitQueue = [] ∧
         fires s t z ∧
         (∀ j : Room, j ≠ z → t.zones[j] = s.zones[j]) ∧ t.bank.cylinders = s.bank.cylinders ∧ t.bt = s.bt ∧ t.clk = s.clk ∧
         t.roll = s.roll ∧ t.p2 = s.p2 ∧ t.lines = s.lines) ∧
     (s.bank.manifold ≠ none ∨ s.bank.waitQueue ≠ [] →
       ∃ t, exec (.countdownEnd z) s = .next t ∧ t.zones[z].state = .waitBank ∧ t.zones[z].remainder = 0 ∧
         t.bank.manifold = s.bank.manifold ∧ t.bank.waitQueue = s.bank.waitQueue ++ [z] ∧
         (∀ j : Room, j ≠ z → t.zones[j] = s.zones[j]) ∧ t.bank.cylinders = s.bank.cylinders ∧ t.bt = s.bt ∧ t.clk = s.clk ∧
         t.roll = s.roll ∧ t.p2 = s.p2 ∧ t.lines = s.lines)) ∧
  (∀ (s : State) (z : Room), Runs s →
     (∀ (i : Instr) (st : CylinderState),
       (i = .dischargeTimerExpiry z ∧ s.zones[z].discharge = some 0 ∧ st = .spent) ∨
         (i = .flowStartTimerExpiry z ∧ s.zones[z].flowStart = some 0 ∧ st = .fault) →
       s.zones[z].state = .discharging →
       ∃ t, exec i s = .next t ∧
         t.zones[z].state = (if s.sup.profiles[z].soak = 0 then .vent else .soak) ∧
         (s.sup.profiles[z].soak ≠ 0 → t.zones[z].soak = some (60 * s.sup.profiles[z].soak)) ∧
         (i = .flowStartTimerExpiry z → t.zones[z].unconfirmed = true) ∧
         (∀ p : Pos, t.bank.cylinders[p] =
           if s.bank.cylinders[p].reservedTo z then
             { s.bank.cylinders[p] with state := st, zone := none, deferredLow := false }
           else s.bank.cylinders[p]) ∧
         t.bank.reservations = s.bank.reservations.filter (· ≠ z) ∧ t.bank.manifold = s.bank.waitQueue.head? ∧
         t.bank.waitQueue = s.bank.waitQueue.tail ∧
         (∀ y : Room, s.bank.waitQueue.head? = some y → y ≠ z →
           t.zones[y].state = .discharging ∧ t.zones[y].flowStart = some 20 ∧ t.zones[y].discharge = some 120 ∧
             t.zones[y].flowSeen = false ∧ t.zones[y].envelopeOpen = (!s.zones[y].lastEnvelope) ∧ fires s t y) ∧ t.bt = s.bt ∧
         t.clk = s.clk ∧ t.roll = s.roll ∧ t.p2 = s.p2 ∧ t.lines = s.lines) ∧
     (s.zones[z].state = .soak → s.zones[z].soak = some 0 →
       ∃ t, exec (.soakTimerExpiry z) s = .next t ∧ t.zones[z].state = .vent ∧ t.zones[z].soak = none ∧
         t.doors[z].closeDemand = false ∧ (∀ j : Room, j ≠ z → t.zones[j] = s.zones[j]) ∧
         t.bank.cylinders = s.bank.cylinders ∧ t.bank.manifold = s.bank.manifold ∧ t.bt = s.bt ∧ t.clk = s.clk ∧
         t.roll = s.roll ∧ t.p2 = s.p2 ∧ t.lines = s.lines))

/-! ### The Agent Bank -/

/-- R134: the four actions of CYLINDER SET and their refusals, FORMAT out of range first. A cylinder that comes into service is FAULT while
its flag stands low. The answer carries the state the action gives the cylinder, although the top-up of the same event (`afterCylinder
true`) may have reserved it: the model's choice (assumption 38). -/
def Obligations.CylinderSetActions : Prop :=
  ∀ (s : State) (f : RequestFrame) (rest : List RequestFrame) (p : Pos), WaitsWith s f rest 0x70 →
    let c := s.bank.cylinders[p]
    let serviced : CylinderState := if s.bank.flags[p] = .low then .fault else .ready
    let becomes (o : Host.Outcome State Fault Refusal) (new : Cylinder) (offered : Bool) : Prop :=
      TakenAndAnswered s o rest f 0x70 (.cylinderState new.state) fun t =>
        t.bank = ((s.setCylinder p new).afterCylinder offered).bank ∧ t.bt = s.bt ∧ t.clk = s.clk ∧ t.ctx = s.ctx ∧
        t.roll = s.roll ∧ t.doors = s.doors ∧ t.zones = s.zones ∧ t.loop = s.loop ∧ t.p2 = s.p2 ∧ t.lines = s.lines
    (∀ position charge, position = 0 ∨ 48 < position ∨ charge = 0 ∨ 999 < charge →
      exec (.cylinderInstall (some ⟨position, charge⟩)) s = .next (refused s f rest 0x70 .format)) ∧
    (∀ position i, position = 0 ∨ 48 < position →
      i = .cylinderIsolate (some position) ∨ i = .cylinderReturn (some position) ∨ i = .cylinderRemove (some position) →
      exec i s = .next (refused s f rest 0x70 .format)) ∧
    (∀ charge, 1 ≤ charge → charge ≤ 999 →
      (c.state = .absent →
        becomes (exec (.cylinderInstall (some ⟨num p, charge⟩)) s) { c with state := serviced, charge := some charge }
          (serviced = .ready)) ∧
      (c.state ≠ .absent → exec (.cylinderInstall (some ⟨num p, charge⟩)) s = .next (refused s f rest 0x70 .state))) ∧
    (c.state = .ready → becomes (exec (.cylinderIsolate (some (num p))) s) { c with state := .isolated } false) ∧
    (∀ z, c.state = .reserved → c.zone = some z →
      (s.zones[z].state ≠ .discharging →
        becomes (exec (.cylinderIsolate (some (num p))) s) { c with state := .isolated, zone := none } true) ∧
      (s.zones[z].state = .discharging →
        exec (.cylinderIsolate (some (num p))) s = .next (refused s f rest 0x70 .state))) ∧
    (c.state ≠ .ready → c.state ≠ .reserved →
      exec (.cylinderIsolate (some (num p))) s = .next (refused s f rest 0x70 .state)) ∧
    (c.state = .isolated ∨ c.state = .fault →
      becomes (exec (.cylinderReturn (some (num p))) s) { c with state := serviced, deferredLow := false }
        (serviced = .ready)) ∧
    (c.state ≠ .isolated → c.state ≠ .fault →
      exec (.cylinderReturn (some (num p))) s = .next (refused s f rest 0x70 .state)) ∧
    (c.state ≠ .reserved → c.state ≠ .absent →
      becomes (exec (.cylinderRemove (some (num p))) s) { c with state := .absent, charge := none } false) ∧
    (c.state = .reserved → exec (.cylinderRemove (some (num p))) s = .next (refused s f rest 0x70 .state)) ∧
    (c.state = .absent →
      exec (.cylinderRemove (some (num p))) s =
        .next (answered (taken s rest) f 0x70 .ok (.cylinderState .absent) .nothing))

/-- The walk takes READY cylinders in position order, none skipped, until the sum reaches the required quantity or the zone has its limit
(R137 step 2). A top-up goes through the reservation list in order; for a zone that is neither DISCHARGING nor at its required quantity it
goes on with that walk from the zone's sum and count, and it changes no other cylinder (R133, R140). -/
def Obligations.WalkAndTopUpTakeReadyCylinders : Prop :=
  (∀ (cyls : Vector Cylinder 48) (required limit : Nat),
     let w := bankWalk cyls required limit (fins 48) ⟨0, 0, []⟩
     w.taken.Sublist (fins 48) ∧ (∀ p ∈ w.taken, cyls[p].state = .ready) ∧
     (∀ p q : Pos, q ∈ w.taken → p < q → cyls[p].state = .ready → p ∈ w.taken) ∧
     w.count = w.taken.length ∧ w.count ≤ limit ∧ w.sum = (w.taken.map fun p => cyls[p].charge.getD 0).sum ∧
     (required ≤ w.sum ∨ w.count = limit ∨ ∀ p : Pos, cyls[p].state = .ready → p ∈ w.taken) ∧
     (∀ ps p, w.taken = ps ++ [p] → (ps.map fun q => cyls[q].charge.getD 0).sum < required)) ∧
  (∀ (s : State) (z : Room),
     let charge (p : Pos) : Nat := s.bank.cylinders[p].charge.getD 0
     let held := s.bank.reservedPositions z
     let sum := (held.map charge).sum
     let required := s.sup.profiles[z].required
     let limit := s.sup.profiles[z].limit
     (s.zones[z].state = .discharging ∨ required ≤ sum → s.topUpZone z = s) ∧
     (s.zones[z].state ≠ .discharging → sum < required →
       ∃ new : List Pos, new.Sublist (fins 48) ∧ (∀ p ∈ new, s.bank.cylinders[p].state = .ready) ∧
         (∀ p q : Pos, q ∈ new → p < q → s.bank.cylinders[p].state = .ready → p ∈ new) ∧
         (required ≤ sum + (new.map charge).sum ∨ limit ≤ held.length + new.length ∨
           ∀ p : Pos, s.bank.cylinders[p].state = .ready → p ∈ new) ∧
         (∀ ps p, new = ps ++ [p] → sum + (ps.map charge).sum < required ∧ held.length + ps.length < limit) ∧
         s.topUpZone z =
           { s with
             bank :=
               { s.bank with
                 cylinders := vgen fun p =>
                   if p ∈ new then { s.bank.cylinders[p] with state := .reserved, zone := some z }
                   else s.bank.cylinders[p] } })) ∧
  (∀ (s : State) (p : Pos),
     s.topUp.bank.cylinders = (s.bank.reservations.foldl State.topUpZone s).bank.cylinders ∧
     (s.topUp.bank.cylinders[p] = s.bank.cylinders[p] ∨
       (s.bank.cylinders[p].state = .ready ∧
         ∃ z ∈ s.bank.reservations, s.zones[z].state ≠ .discharging ∧
           s.topUp.bank.cylinders[p] = { s.bank.cylinders[p] with state := .reserved, zone := some z })) ∧
     s.topUp.bank.reservations = s.bank.reservations ∧ s.topUp.bank.manifold = s.bank.manifold ∧
     s.topUp.bank.flags = s.bank.flags)

/-! ### The Access Decision Unit -/

/-- A decision that ends in stages 1 to 3, for want of validity, or at the chain walk, whose required rights are those of R44 under the rule
set of R49, denies with the reason of the stage and changes nothing (R38, R40 to R44); the reader's answer is the same for the duress form
as for the right PIN (R46). A REPORT with a presentation takes this decision and answers it in the answer poll (R157); the PIN stage there
awaits a PIN, denies a wrong one and counts it up to the lockout, and signals duress (R13, R45 to R47); a bearer inside is denied Passback
and a full strongroom CapacityFull, where two places are asked wherever custody applies (R48; assumption 42). -/
def Obligations.EntryDecisionsByStage : Prop :=
  (∀ (s : State) (a : Addr) (r : Room) (tok : Token) (digits : List Nat),
     let present := s.entryPresentation a r tok digits
     let door := s.doors[r]
     let stage1 : Prop := s.loop.stations[a].state = .online ∧ door.state ≠ .unknown
     (¬stage1 → present = (s, .deny .stationFault)) ∧
     (stage1 → door.lockdown = true → present = (s, .deny .lockdown)) ∧
     (stage1 → door.lockdown = false → door.timeLock = true → present = (s, .deny .timeLocked)) ∧
     (stage1 → door.lockdown = false → door.timeLock = false →
       let zone := s.zones[r].state
       (zone ≠ .normal → zone ≠ .alert → zone ≠ .disabled → zone ≠ .vent → present = (s, .deny .zoneActive)) ∧
       (zone = .normal ∨ zone = .alert ∨ zone = .disabled ∨ zone = .vent →
         (s.findToken tok = none → present = (s, .deny .unknown)) ∧
         ∀ b rec, s.findToken tok = some b → s.bt.bearers.get b = some rec →
           (rec.state = .retiring → present = (s, .deny .revoked)) ∧
           (rec.state = .suspended → present = (s, .deny .suspended)) ∧
           (rec.state = .active → s.inValidity rec = false → present = (s, .deny .outOfValidity)) ∧
           (rec.state = .active → s.inValidity rec = true →
             let night := s.nightRules r rec.cls
             let need : Rights := { enter := true, night := night, custody := false, escort := false, ventEntry := zone = .vent }
             let walk := s.chainWalk rec.cls r need 16 rec.chainHead false
             (walk = .named → present = (s, .deny .outsideSchedule)) ∧
             (walk = .nothing → present = (s, .deny .noPermission)) ∧
             (night = true ↔
               match s.ctx[r] with
               | .custody n _ _ _ => if rec.cls = .visitor then s.clk.siteState ≠ .openHours else n = true
               | .escort n _ _ _ => if rec.cls = .visitor then n = true else s.clk.siteState ≠ .openHours
               | .empty => s.clk.siteState ≠ .openHours))))) ∧
  (∀ (s : State) (a : Addr) (r : Room) (tok : Token) (digits : List Nat) (n : Nat),
     (s.entryPresentation a r tok digits).2 = .grant n →
     (s.zones[r].state = .normal ∨ s.zones[r].state = .alert ∨ s.zones[r].state = .disabled ∨ s.zones[r].state = .vent) ∧
     (s.zones[r].state = .vent →
       ∃ b rec e x, s.findToken tok = some b ∧ s.bt.bearers.get b = some rec ∧ rec.cls = .safetyOfficer ∧
         e ∈ s.bt.chainOf rec ∧ s.bt.entries.get e = some x ∧ x.content.rooms.getLsbD r.val = true ∧
         x.content.rights.ventEntry = true)) ∧
  (∀ (s : State) (a : Addr) (r : Room) (tok : Token) (b : Nat) (rec : Bearer) (pin : PinBcd),
     s.findToken tok = some b → s.bt.bearers.get b = some rec → rec.pin = some pin → pinValid pin = true →
     duressDigits pin ≠ pinDigits pin ∧
     (s.entryPresentation a r tok (duressDigits pin)).2 = (s.entryPresentation a r tok (pinDigits pin)).2) ∧
  (∀ (s : State) (a : Addr) (r : Room) (line : List Bool) (states : List PointState) (n : Nat) (side : Side) (tok : Token)
     (digits : List Nat),
     Presents s a r line states n → digits.length ≤ 12 → (∀ d ∈ digits, d ≤ 9) →
     let v := s.presentation a r ⟨side, tok, digits⟩
     AnswersWith (exec (.report ⟨line, some .doorUnit, states, n, .door [⟨side, tok, digits⟩]⟩) s) a n v.2 fun t =>
       t.bt = v.1.bt ∧ t.roll = v.1.roll ∧ t.ctx = v.1.ctx ∧ t.clk = v.1.clk ∧ t.bank.cylinders = v.1.bank.cylinders ∧
         (∀ j : Room, t.doors[j].state = v.1.doors[j].state ∧ t.doors[j].releaseKind = v.1.doors[j].releaseKind ∧
           t.doors[j].unlock = v.1.doors[j].unlock ∧ t.zones[j].state = v.1.zones[j].state)) ∧
  (∀ (s : State) (a : Addr) (r : Room) (line : List Bool) (states : List PointState) (n : Nat) (tok : Token)
     (digits : List Nat) (b : Nat) (rec : Bearer) (rights : Rights),
     Presents s a r line states n → ReachesPin s a r tok b rec rights → digits.length ≤ 12 → (∀ d ∈ digits, d ≤ 9) →
     let answers := AnswersWith (presented s line states n tok digits) a n
     let unmoved (t : State) : Prop := t.roll = s.roll ∧ t.doors[r].state = s.doors[r].state
     (demandsPin s r rec.cls = true → rec.pin = none →
       answers (.deny .pinWrong) fun t => t.bt = s.bt ∧ t.ctx = s.ctx ∧ unmoved t) ∧
     (∀ pin, demandsPin s r rec.cls = true → rec.pin = some pin →
       (digits = [] → answers (.await .pinRequired) fun t => t.bt = s.bt ∧ t.ctx = s.ctx ∧ unmoved t) ∧
       (digits ≠ [] → digits.take 4 ≠ pinDigits pin → digits.take 4 ≠ duressDigits pin →
         answers (.deny .pinWrong) fun t =>
           t.bt =
             { s.bt with
               bearers := s.bt.bearers.modify b fun x =>
                 { x with
                   failedPin := min 5 (rec.failedPin + 1)
                   state := if 4 ≤ rec.failedPin then .suspended else x.state } } ∧
           t.ctx = (if 4 ≤ rec.failedPin then withoutBearer s b else s.ctx) ∧
           (4 ≤ rec.failedPin → Roomy s → Stands t (.forBearer .pinLockout b)) ∧ unmoved t)) ∧
     (∀ pin, rec.pin = some pin → digits.take 4 = duressDigits pin → Roomy s →
       ∃ t, presented s line states n tok digits = .next t ∧ Stands t (.forRoomBearer .duress r b)) ∧
     (passesPin s r rec digits →
       ((s.entryOf b).isSome → answers (.deny .passback) fun t => t.ctx = s.ctx ∧ unmoved t) ∧
       (s.entryOf b = none →
         s.roomFor r (if s.custodyApplies r rec.cls (s.nightRules r rec.cls) then 2 else 1) = false →
         answers (.deny .capacityFull) fun t => t.ctx = s.ctx ∧ unmoved t)))

/-- A plain grant admits the bearer and opens an ESCORT context where R54 allows one (R50, R54). Where custody applies, a first custodian
waits, the same custodian waits on, and a second one completes the pair: both are admitted in order and one grant opens the door (R52, R53).
A visitor joins an open ESCORT context, linked to the escort's entry, until the escort's limit closes it, and is denied without one (R55).
An admission drops the other CUSTODY contexts in which the bearer waits (R57). Each is what a REPORT with that presentation answers (R157).
-/
def Obligations.PairingContextsAdmitTogether : Prop :=
  ∀ (s : State) (a : Addr) (r : Room) (line : List Bool) (states : List PointState) (n : Nat) (tok : Token)
    (digits : List Nat) (b : Nat) (rec : Bearer) (rights : Rights),
    Presents s a r line states n → ReachesPairing s a r tok digits b rec rights → OccupancyLaw s → digits.length ≤ 12 →
    (∀ d ∈ digits, d ≤ 9) →
    let night := s.nightRules r rec.cls
    let window := s.sup.profiles[r].window
    let answers := AnswersWith (presented s line states n tok digits) a n
    let grant : ReaderAnswer := .grant s.sup.profiles[r].unlock
    let unmoved (t : State) : Prop := t.roll = s.roll ∧ t.doors[r].state = s.doors[r].state
    let leads (x : Nat) (right : Bool) : Prop :=
      right = true ∧ s.zones[r].state ≠ .vent ∧ ∃ q, s.bt.bearers.get x = some q ∧ 0 < q.escortLimit
    let othersDropped (t : State) (xs : List Nat) : Prop :=
      ∀ j : Room, j ≠ r →
        t.ctx[j] = match s.ctx[j] with | .custody _ _ w _ => if w ∈ xs then .empty else s.ctx[j] | c => c
    (rec.cls ≠ .visitor → s.custodyApplies r rec.cls night = false →
      answers grant fun t =>
        DoorGranted s t a r ∧ AdmittedTo t r b none ∧ t.roll.rooms[r].list.length = s.headCount r + 1 ∧
        othersDropped t [b] ∧
        (s.ctx[r] = .empty → leads b rights.escort →
          ∃ e o, t.entryOf b = some (e, o) ∧ t.ctx[r] = .escort night window b e) ∧
        (s.ctx[r] ≠ .empty ∨ ¬leads b rights.escort → t.ctx[r] = s.ctx[r])) ∧
    (s.custodyApplies r rec.cls night = true → (∀ m w x g, s.ctx[r] ≠ .custody m w x g) →
      (rights.custody = true →
        answers (.await .secondCustodian) fun t => t.ctx = s.ctx.set r (.custody night window b rights) ∧ unmoved t) ∧
      (rights.custody = false → answers (.deny .custodyRequired) fun t => t.ctx = s.ctx ∧ unmoved t)) ∧
    (∀ m w first firstRights, rec.cls ≠ .visitor → s.ctx[r] = .custody m w first firstRights →
      (first = b → answers (.await .secondCustodian) fun t => t.ctx = s.ctx ∧ unmoved t) ∧
      (first ≠ b → rights.custody = false → answers (.deny .custodyRequired) fun t => t.ctx = s.ctx ∧ unmoved t) ∧
      (first ≠ b → rights.custody = true →
        answers grant fun t =>
          DoorGranted s t a r ∧ AdmittedTo t r first none ∧ AdmittedTo t r b none ∧ othersDropped t [first, b] ∧
          (∃ e o f p, t.entryOf first = some (e, o) ∧ t.entryOf b = some (f, p) ∧
            t.roll.rooms[r].list = s.roll.rooms[r].list ++ [e, f] ∧
            (t.ctx[r] = .escort m window first e ∨ t.ctx[r] = .empty)) ∧
          (leads first firstRights.escort ↔ t.ctx[r] ≠ .empty))) ∧
    (rec.cls = .visitor →
      ((∀ m w x e, s.ctx[r] ≠ .escort m w x e) →
        answers (.deny .escortRequired) fun t => t.ctx = s.ctx ∧ unmoved t) ∧
      ∀ m w escort e o q, s.ctx[r] = .escort m w escort e → s.roll.entries.get e = some o →
        s.bt.bearers.get escort = some q →
        (q.escortLimit ≤ o.escorted →
          answers (.deny .escortRequired) fun t => t.ctx = s.ctx.set r .empty ∧ unmoved t) ∧
        (o.escorted < q.escortLimit →
          answers grant fun t =>
            DoorGranted s t a r ∧ AdmittedTo t r b (some e) ∧ othersDropped t [b] ∧
            (∃ x, t.roll.entries.get e = some x ∧ x.bearer = o.bearer ∧ x.escorted = o.escorted + 1) ∧
            t.ctx[r] = (if o.escorted + 1 = q.escortLimit then .empty else .escort m window escort e)))

/-- An exit presentation is never refused: whatever the token, a release command waits at the door unit, a closed or released door is
RELEASED with kind Exit or Egress, an open one has its held-open timer loaded, and the answer is Grant, with the entry removed, for a bearer
whose entry names this strongroom, else Await NotInside with the roll as it was (R39, R77). An egress push releases a closed door with kind
Egress, takes an open one to OPEN, or leaves it FORCED, with cause Egress and the strongroom to Unreconciled, and places no command (R66,
R77, R83). -/
def Obligations.ExitAndEgressAreNeverRefused : Prop :=
  (∀ (s : State) (a : Addr) (r : Room) (tok : Token) (digits : List Nat),
     let t := (s.presentation a r ⟨.exit, tok, digits⟩).1
     let answer := (s.presentation a r ⟨.exit, tok, digits⟩).2
     (s.doors[r].state = .secured ∨ s.doors[r].state = .timeLocked →
       t.doors[r].state = .released ∧ t.doors[r].releaseKind = some .exit ∧
         t.doors[r].unlock = some s.sup.profiles[r].unlock) ∧
     (∀ k, s.doors[r].state = .released → s.doors[r].releaseKind = some k →
       t.doors[r].state = .released ∧ t.doors[r].releaseKind = some (if k = .egress then .egress else .exit) ∧
         t.doors[r].unlock = some s.sup.profiles[r].unlock) ∧
     (s.doors[r].state = .opened ∨ s.doors[r].state = .held ∨ s.doors[r].state = .forced →
       t.doors[r].state = (if s.doors[r].state = .forced then .forced else .opened) ∧
         t.doors[r].openCause = s.doors[r].openCause ∧
         (s.doors[r].hold = false → t.doors[r].heldOpen = .running s.sup.profiles[r].heldOpen)) ∧
     (s.doors[r].state = .unknown → t.doors[r].state = .unknown) ∧
     (∀ a : Addr, s.stationOf .doorUnit (num r) = some a → s.loop.stations[a].lost = false →
       t.loop.stations[a].slots.bolt = some ⟨.release s.sup.profiles[r].unlock, false⟩) ∧
     (∀ b e o, s.findToken tok = some b → s.entryOf b = some (e, o) → o.room = r →
       answer = .grant s.sup.profiles[r].unlock ∧ t.roll.entries.get e = none) ∧
     ((∀ b e o, s.findToken tok = some b → s.entryOf b = some (e, o) → o.room ≠ r) →
       answer = .await .notInside ∧ t.roll = s.roll)) ∧
  (∀ (s : State) (r : Room),
     let t := s.egressPressed r
     t.loop = s.loop ∧
     (s.doors[r].state = .secured ∨ s.doors[r].state = .timeLocked ∨ s.doors[r].state = .released →
       t.doors = s.doors.set r
         { s.doors[r] with state := .released, releaseKind := some .egress, unlock := some s.sup.profiles[r].unlock } ∧
       t.roll = s.roll) ∧
     (s.doors[r].state = .opened ∨ s.doors[r].state = .held ∨ s.doors[r].state = .forced →
       t.doors[r].state = (if s.doors[r].state = .forced then .forced else .opened) ∧
         t.doors[r].openCause = some .egress ∧ t.roll.rooms[r].unreconciled = true ∧
         (s.doors[r].hold = false → t.doors[r].heldOpen = .running s.sup.profiles[r].heldOpen)) ∧
     (s.doors[r].state = .unknown → t = s))

/-! ### The Loop Master -/

/-- R149: STATION CONFIGURE makes a fresh record, answers an identical request with the record as it stands, and is refused where the zone
bars it or the role is taken. STATE comes before CONFLICT and both before the comparison with an identical request, and a strongroom given
with type none is stored: the model's choice (assumption 40). -/
def Obligations.StationConfigureMakesAFreshRecord : Prop :=
  ∀ (s : State) (f : RequestFrame) (rest : List RequestFrame) (a : Addr) (ty : StationType) (room : Nat),
    WaitsWith s f rest 0x80 → room ≤ 16 →
    let old := s.loop.stations[a]
    let i := Instr.stationConfigure (some ⟨num a, some ty, room⟩)
    let barred := s.zoneBars old.type old.room || s.zoneBars ty room
    (barred = true → exec i s = .next (refused s f rest 0x80 .state)) ∧
    (barred = false → s.roleTaken a ty room = true → exec i s = .next (refused s f rest 0x80 .conflict)) ∧
    (barred = false → s.roleTaken a ty room = false → old.type = ty → old.room = room →
      exec i s = .next (answered (taken s rest) f 0x80 .ok (.station old.type old.room old.state) .nothing)) ∧
    (barred = false → s.roleTaken a ty room = false → ¬(old.type = ty ∧ old.room = room) →
      TakenAndAnswered s (exec i s) rest f 0x80
        (.station ty room (if ty = .unassigned then .unconfigured else .pending)) fun t =>
        t.loop.stations[a] =
          { type := ty, room := room, state := if ty = .unassigned then .unconfigured else .pending, misses := 0
            points := List.replicate ty.pointCount ⟨none, none, 0, false⟩, lastEvent := 0, slots := .clear
            lastAnswers := none } ∧
        (∀ j : Addr, j ≠ a → stationBase t j = stationBase s j) ∧ t.loop.scan = s.loop.scan ∧ t.bt = s.bt ∧
        t.clk = s.clk ∧ t.roll = s.roll ∧ t.p2 = s.p2 ∧ t.lines = s.lines)

/-- Every poll to a station carries the standing outputs of its type as they stand, the magnet demand of the door (R79, R87) or the sounder
pattern, selector valve and extraction of the zone's state (R114), with the commands that wait and the acknowledged event number (R151,
R157); a station of strongroom 0 is sent the outputs of no demand (the model's choice, assumption 56). The next poll of the scan, an answer
poll that is due, and the broadcast become the poll in progress; a broadcast lets one answer poll go first and then goes before the next
poll, and a port held OFF discards it (R151, R157, R158). A missed poll counts one up to three; the third makes the station MISSING and
clears its pending commands; a frame that the receiver is within is awaited (R152, R164). The phases of the poll in progress and the answer
poll that waits are the model's choice (assumptions 29 and 30). -/
def Obligations.PollsAndMissedPolls : Prop :=
  (∀ (s : State) (a : Addr),
     let st := s.loop.stations[a]
     s.pollContent a =
       .station (s.standing a) (st.slots.bolt.map fun x => x.command) (st.slots.answers.map fun x => x.command)
         (st.slots.tone.map fun x => x.command) (st.slots.fire.map fun x => x.command) st.lastEvent ∧
     (∀ r : Room, st.room = num r →
       (st.type = .doorUnit →
         s.standing a = .door
           (decide (s.doors[r].hold = true ∧
             (s.doors[r].state = .opened ∨ s.doors[r].state = .held ∨ s.doors[r].state = .forced)))) ∧
       (st.type = .releaseUnit →
         s.standing a =
           match s.zones[r].state with
           | .disabled | .normal => .releaseUnit .off false false
           | .alert => .releaseUnit .alert false false
           | .held | .countdown | .waitBank => .releaseUnit .countdown false false
           | .discharging => .releaseUnit .discharge true false
           | .soak => .releaseUnit .discharge false false
           | .vent => .releaseUnit .off false true)) ∧
     (st.room = 0 →
       (st.type = .doorUnit → s.standing a = .door false) ∧
       (st.type = .releaseUnit → s.standing a = .releaseUnit .off false false)) ∧
     (st.type ≠ .doorUnit → st.type ≠ .releaseUnit → s.standing a = .nothing)) ∧
  (∀ s : State, Runs s → s.loop.current = none → s.sup.linkTest = none → s.p2.newSettings = false →
     let carried (a : Addr) : Vector Station 96 :=
       s.loop.stations.set a { s.loop.stations[a] with slots := s.loop.stations[a].slots.carry }
     let built (a : Addr) : PollInProgress := ⟨some a, if s.p2.heldOff then .unsent else .ready, s.pollContent a⟩
     (∀ a, s.loop.answerDue = none → s.loop.broadcastDue = none ∨ s.p2.heldOff = true →
       s.firstConfigured 96 s.loop.scan = some a →
       exec .poll s =
         .next
           { s with loop := { s.loop with stations := carried a, scan := nextAddr a, current := some (built a) } }) ∧
     (∀ a, s.loop.answerDue = some a → s.loop.broadcastDue = none ∨ s.loop.yielded = false ∨ s.p2.heldOff = true →
       exec .poll s =
         .next
           { s with
             loop :=
               { s.loop with
                 stations := carried a, answerDue := none, yielded := s.loop.broadcastDue.isSome
                 current := some (built a) } }) ∧
     (∀ c, s.loop.broadcastDue = some c → s.loop.answerDue = none ∨ s.loop.yielded = true →
       (s.p2.heldOff = false → exec .poll s = .next s) ∧
       exec .broadcastPoll s =
         .next
           { s with
             loop :=
               { s.loop with
                 broadcastDue := none, yielded := false
                 current :=
                   if s.p2.heldOff then none else some ⟨none, .ready, .broadcast c.date c.time c.weekday⟩ } }) ∧
     (∀ a, s.loop.answerDue = some a → s.loop.yielded = false → exec .broadcastPoll s = .next s)) ∧
  (∀ (s : State) (a : Addr) (ph : PollPhase) (c : PollContent), Runs s → s.loop.current = some ⟨some a, ph, c⟩ →
     ph = .awaiting ∨ ph = .unsent → s.loop.stations[a].state ≠ .unconfigured →
     (s.p2.rx.inFrame = true → exec .pollMissed s = .next s) ∧
     (s.p2.rx.inFrame = false →
       (s.loop.stations[a].misses < 2 ∨ s.loop.stations[a].state = .missing →
         ∃ t, exec .pollMissed s = .next t ∧
           UpToNotices
             { s with
               loop :=
                 { s.loop with
                   current := none
                   stations := s.loop.stations.set a
                     { s.loop.stations[a] with misses := min 3 (s.loop.stations[a].misses + 1) } } } t) ∧
       (2 ≤ s.loop.stations[a].misses → s.loop.stations[a].state ≠ .missing →
         ∃ t, exec .pollMissed s = .next t ∧ t.loop.current = none ∧ t.loop.stations[a].state = .missing ∧
           t.loop.stations[a].misses = 3 ∧ t.loop.stations[a].slots = .clear ∧
           (∀ j : Addr, j ≠ a → stationBase t j = stationBase s j) ∧ t.bt = s.bt ∧ t.clk = s.clk ∧ t.roll = s.roll ∧
           t.p2 = s.p2 ∧ t.lines = s.lines ∧ (Roomy s → Stands t (.forStation .stationMissing a)))))

/-- A valid reply without events, from a station without points, completes the poll and makes the station ONLINE with no misses, and the
commands its poll carried are delivered (R152 to R154, R157); the 48 pressure flags of a bank monitor replace the flags held, and a READY
cylinder whose flag is newly low is FAULT (R136). A reply of another type makes the station WRONG_TYPE (R153). Line bits that complete no
such reply change the receiver alone, and leave the poll in progress (R152, R163; assumption 31). What the payload spells is the command's
operand (assumption 32). -/
def Obligations.ReportsCompleteThePoll : Prop :=
  (∀ (s : State) (a : Addr) (line : List Bool) (ty : StationType), Replies s a line → s.loop.stations[a].type = ty →
     ty = .checkIn ∨ ty = .pendantRx →
     ∃ t, exec (.report ⟨line, some ty, [], 0, .nothing⟩) s = .next t ∧
       UpToOutputs
         { s with
           p2 := { s.p2 with rx := .hunting }
           loop :=
             { s.loop with
               current := none
               stations := s.loop.stations.set a
                 { s.loop.stations[a] with
                   state := .online, misses := 0, points := [], slots := s.loop.stations[a].slots.delivered } }
           alarms :=
             if s.loop.stations[a].lost then (s.alarmGone (.forStation .stationMissing a)).alarms else s.alarms } t) ∧
  (∀ (s : State) (a : Addr) (line : List Bool) (low : List Bool), Replies s a line →
     s.loop.stations[a].type = .bankMonitor → low.length = 48 →
     ∃ t, exec (.report ⟨line, some .bankMonitor, [], 0, .pressure low⟩) s = .next t ∧
       t.loop.current = none ∧ t.loop.stations[a].state = .online ∧ t.loop.stations[a].misses = 0 ∧
       (∀ p : Pos, t.bank.flags[p] = if low.getD p.val false then .low else .normal) ∧
       (∀ p : Pos, s.bank.cylinders[p].state = .ready → low.getD p.val false = true → s.bank.flags[p] ≠ .low →
         t.bank.cylinders[p].state = .fault) ∧
       t.zones = s.zones ∧ t.doors = s.doors ∧ t.bt = s.bt ∧ t.clk = s.clk ∧ t.roll = s.roll ∧
       t.p2 = { s.p2 with rx := .hunting }) ∧
  (∀ (s : State) (a : Addr) (line : List Bool) (ty : StationType) (states : List PointState), Replies s a line →
     ty ≠ .unassigned → ty ≠ .bankMonitor → ty ≠ s.loop.stations[a].type → states.length = ty.pointCount →
     ∃ t, exec (.report ⟨line, some ty, states, 0, .nothing⟩) s = .next t ∧
       t.loop.current = none ∧ t.loop.stations[a].state = .wrongType ∧ t.loop.stations[a].misses = 0 ∧
       t.loop.stations[a].type = s.loop.stations[a].type ∧
       (s.loop.stations[a].state ≠ .wrongType →
         t.loop.stations[a].slots = .clear ∧ (Roomy s → Stands t (.forStation .stationMissing a))) ∧
       (∀ j : Addr, j ≠ a → stationBase t j = stationBase s j) ∧ t.bt = s.bt ∧ t.clk = s.clk ∧ t.roll = s.roll ∧
       t.p2 = { s.p2 with rx := .hunting } ∧ t.lines = s.lines) ∧
  (∀ (s : State) (r : ReportFrame) (p : RxPhase), Runs s → s.p2.rx = .on p →
     (∀ q, receive ⟨s.p2.usedPair, fun _ => true⟩ p r.line = .inl q →
       exec (.report r) s = .next { s with p2 := { s.p2 with rx := .on q } }) ∧
     (∀ e, receive ⟨s.p2.usedPair, fun _ => true⟩ p r.line = .inr e →
       (∀ f a c, e = .accepted f → s.loop.current = some ⟨some a, .awaiting, c⟩ →
         r.declared? = none ∨ f.address.toNat ≠ num a ∨ (f.kind &&& 0xE0#8) ≠ 0#8 ∨ (f.kind &&& 0x0F#8) ≠ 5#8) →
       exec (.report r) s = .next { s with p2 := { s.p2 with rx := .hunting } })) ∧
  (∀ (s : State) (r : ReportFrame), s.p2.rx = .off ∨ ¬Runs s → exec (.report r) s = .next s)

/-- R76, R78 to R80, R82, R83, R92, R93: what the accepted changes of a door unit's report make of its door. The egress push is taken before
the contact and withdraws a cancel that waits; an opening of a released door takes the release's cause, and any other is FORCED (a push held
pressed from an earlier report is no change: assumption 53); a closing ends HELD_OPEN and FORCED; a fault makes the door UNKNOWN, and the
next known contact brings it back. Egress openings make the strongroom Unreconciled (R66, R93). A tampered point raises POINT_FAULT also
when it goes from a fault to Active (R76, R156; assumption 35). -/
def Obligations.DoorReportsMoveTheDoor : Prop :=
  ∀ (s : State) (a : Addr) (r : Room) (line : List Bool) (states : List PointState), Replies s a line →
    s.loop.stations[a].type = .doorUnit → s.loop.stations[a].room = num r → states.length = 4 →
    let d := s.doors[r]
    let change (i : Nat) : Option PointState := (changes s a states).getD i none
    let contact := change 0
    let pressed : Prop := change 2 = some .active
    let openTimer : HeldTimer := if d.hold then .stopped else .running s.sup.profiles[r].heldOpen
    let lost : Prop := d.unknownCause = some .lost ∧ 0 < s.headCount r
    ∃ t, exec (.report ⟨line, some .doorUnit, states, 0, .nothing⟩) s = .next t ∧
      let e := t.doors[r]
      let unreconciled : Prop := t.roll.rooms[r].unreconciled = true
      let sameRoll : Prop := t.roll.rooms[r] = s.roll.rooms[r]
      -- what the report leaves alone, and what it always does
      (t.loop.current = none ∧ t.loop.stations[a].state = .online ∧ t.loop.stations[a].misses = 0 ∧ t.bt = s.bt ∧
        t.clk = s.clk ∧ t.bank.cylinders = s.bank.cylinders ∧ t.bank.reservations = s.bank.reservations ∧
        t.bank.manifold = s.bank.manifold ∧ t.roll.tick = s.roll.tick ∧ t.lines = s.lines ∧
        t.p2 = { s.p2 with rx := .hunting } ∧ OtherRoomsKept s t r ∧ t.roll.rooms[r].list = s.roll.rooms[r].list) ∧
      (e.contact = contact.or d.contact ∧ e.bolt = (change 1).or d.bolt ∧ e.egress = (change 2).or d.egress ∧
        e.tamper = (change 3).or d.tamper ∧ e.timeLock = d.timeLock ∧ e.lockdown = d.lockdown ∧
        e.envelopeClosed = (e.state ≠ .unknown ∧ e.contact = some .normal ∧ e.bolt = some .normal)) ∧
      (pressed → s.stationOf .doorUnit (num r) = some a →
        ∀ x, t.loop.stations[a].slots.bolt = some x → x.command ≠ .cancel) ∧
      (Roomy s → unreconciled → s.roll.rooms[r].unreconciled = false → Stands t (.forRoom .rollUnreconciled r)) ∧
      (∀ i, change i = some .openFault ∨ change i = some .shortFault → Roomy s → Stands t (.forPoint (num a) (i + 1))) ∧
      (change 3 = some .active → Roomy s → Stands t (.forPoint (num a) 4)) ∧
      -- no change of the contact
      (contact = none → pressed →
        (d.state = .secured ∨ d.state = .timeLocked ∨ d.state = .released →
          e.state = .released ∧ e.releaseKind = some .egress ∧ e.unlock = some s.sup.profiles[r].unlock ∧ sameRoll) ∧
        (d.state = .opened ∨ d.state = .held → e.state = .opened ∧ e.openCause = some .egress ∧ unreconciled) ∧
        (d.state = .forced → e.state = .forced ∧ e.openCause = some .egress ∧ unreconciled) ∧
        (d.state = .unknown → e.state = .unknown ∧ sameRoll)) ∧
      (contact = none → ¬pressed →
        e.state = d.state ∧ e.releaseKind = d.releaseKind ∧ e.openCause = d.openCause ∧ e.unlock = d.unlock ∧
          e.heldOpen = d.heldOpen ∧ e.hold = d.hold ∧ sameRoll) ∧
      -- the contact opens
      (contact = some .active →
        (d.state = .released ∨ (d.state = .secured ∨ d.state = .timeLocked) ∧ pressed →
          e.state = .opened ∧ e.releaseKind = none ∧ e.unlock = none ∧ (d.hold = false → e.heldOpen = openTimer) ∧
          (pressed ∨ d.state = .released ∧ d.releaseKind = some .egress → e.openCause = some .egress ∧ unreconciled) ∧
          (∀ k, ¬pressed → d.releaseKind = some k → k ≠ .egress →
            e.openCause = some (if k = .command then .command else .grant) ∧ e.heldOpen = openTimer ∧ sameRoll)) ∧
        (d.state = .secured ∨ d.state = .timeLocked → ¬pressed →
          e.state = .forced ∧ e.heldOpen = openTimer ∧ sameRoll ∧ (Roomy s → Stands t (.forRoom .forced r))) ∧
        (d.state = .opened ∨ d.state = .held ∨ d.state = .forced → ¬pressed → e.state = d.state ∧ sameRoll)) ∧
      -- the contact closes
      (contact = some .normal →
        (d.state = .opened ∨ d.state = .held ∨ d.state = .forced →
          e.state = d.closedState ∧ e.heldOpen = .stopped ∧ e.openCause = none ∧ e.hold = false ∧
          ConditionGone t (.forRoom .heldOpen r) ∧ (d.state = .forced → ConditionGone t (.forRoom .forced r)) ∧
          (pressed → unreconciled) ∧ (¬pressed → sameRoll)) ∧
        (d.state = .secured ∨ d.state = .timeLocked ∨ d.state = .released → ¬pressed → e.state = d.state ∧ sameRoll)) ∧
      -- the contact faults
      (contact = some .openFault ∨ contact = some .shortFault →
        e.state = .unknown ∧ e.unknownCause = some .lost ∧ e.releaseKind = none ∧ e.openCause = none ∧ e.unlock = none ∧
        e.heldOpen = .stopped ∧ e.hold = false ∧ t.ctx[r] = .empty ∧ ConditionGone t (.forRoom .heldOpen r) ∧
        ConditionGone t (.forRoom .forced r)) ∧
      -- a door that is UNKNOWN is known again
      (d.state = .unknown →
        (contact = some .normal → e.state = d.closedState ∧ e.unknownCause = none ∧ (lost → unreconciled) ∧ (¬lost → sameRoll)) ∧
        (contact = some .active → (change 2).or d.egress = some .active →
          e.state = .opened ∧ e.unknownCause = none ∧ e.openCause = some .egress ∧ unreconciled) ∧
        (contact = some .active → (change 2).or d.egress ≠ some .active →
          e.state = .forced ∧ e.unknownCause = none ∧ (Roomy s → Stands t (.forRoom .forced r)) ∧ (lost → unreconciled) ∧
          (¬lost → sameRoll)))

/-- What a detector interface's or release unit's report brings its zone: the inputs follow the accepted changes (R113); NORMAL and ALERT
test them for confirmation, with Manual over Automatic, and a single Active detector brings ALERT (R115 to R117); in HELD, COUNTDOWN and
WAIT_BANK the manual release overrides an Automatic sequence and the hold reasons move the zone (R118 to R120, R122); DISCHARGING follows
the flow switch (R124); the other states do not move. -/
def Obligations.ZoneReportsConfirmHoldAndFollow : Prop :=
  ∀ (s : State) (a : Addr) (z : Room) (line : List Bool) (ty : StationType) (states : List PointState) (new : ZoneInputs),
    Replies s a line → s.loop.stations[a].type = ty → s.loop.stations[a].room = num z → states.length = ty.pointCount →
    let zn := s.zones[z]
    let old := zn.inputs
    let change (i : Nat) : Option PointState := (changes s a states).getD i none
    (ty = .detectorIf ∧
        new = { old with detectorA := follows old.detectorA (change 0), detectorB := follows old.detectorB (change 1) } ∨
      ty = .releaseUnit ∧
        new =
          { old with
            manual := follows old.manual (change 0), abort := follows old.abort (change 1)
            lockout := follows old.lockout (change 2), flow := follows old.flow (change 3) }) →
    let tested : Prop :=
      old.detectorA ≠ new.detectorA ∨ old.detectorB ≠ new.detectorB ∨ old.manual ≠ new.manual
    let automatic : Prop :=
      new.detectorA = .active ∧ new.detectorB = .active ∨
        s.sup.profiles[z].knock = .singleOnFault ∧
          (new.detectorA = .active ∧ new.detectorB = .fault ∨ new.detectorA = .fault ∧ new.detectorB = .active)
    let confirms (k : SequenceKind) : Prop :=
      new.manual = .active ∧ k = .manual ∨ new.manual ≠ .active ∧ automatic ∧ k = .automatic
    let override : Prop := old.manual ≠ .active ∧ new.manual = .active ∧ zn.kind = .automatic
    let holds (k : SequenceKind) : Holds :=
      { abort := new.abort = .active, occupied := s.occupied z && k = .automatic && !zn.authorise
        lockout := new.lockout = .active, siteInhibit := s.lines.inhibit }
    ∃ t, exec (.report ⟨line, some ty, states, 0, .nothing⟩) s = .next t ∧
      let w := t.zones[z]
      (t.loop.current = none ∧ t.loop.stations[a].state = .online ∧ t.loop.stations[a].misses = 0 ∧ t.bt = s.bt ∧
        t.clk = s.clk ∧ t.roll = s.roll ∧ t.lines = s.lines ∧ t.p2 = { s.p2 with rx := .hunting } ∧ w.inputs = new) ∧
      (∀ i, change i = some .openFault ∨ change i = some .shortFault → Roomy s → Stands t (.forPoint (num a) (i + 1))) ∧
      (zn.state ≠ .discharging → OtherRoomsKept s t z) ∧
      (zn.state = .normal ∨ zn.state = .alert →
        (∀ k, tested → confirms k →
          w.state = (if (holds k).any then .held else .countdown) ∧ w.kind = k ∧ w.holds = holds k ∧
          w.remainder = s.sup.profiles[z].delay ∧ w.accumulated = 0 ∧
          t.bank.reservations = s.bank.reservations ++ [z] ∧ t.ctx[z] = .empty ∧ t.doors[z].closeDemand = true ∧
          (Roomy s → Stands t (.forRoom .zoneRelease z))) ∧
        (tested → (∀ k, ¬confirms k) → zn.state = .normal → new.detectorA = .active ∨ new.detectorB = .active →
          w.state = .alert ∧ (Roomy s → Stands t (.forRoom .zoneAlert z))) ∧
        ((∀ k, ¬(tested ∧ confirms k)) → (zn.state = .normal → ¬tested ∨ new.detectorActive = false) →
          w.state = zn.state)) ∧
      (zn.state = .held ∨ zn.state = .countdown ∨ zn.state = .waitBank →
        ∀ k, k = (if override then SequenceKind.manual else zn.kind) →
          w.kind = k ∧ w.holds = holds k ∧ w.state = heldState zn.state (holds k).any ∧
          w.remainder =
            (if zn.state = .held ∧ (holds k).any = false then max zn.remainder 10
            else if zn.state = .waitBank ∧ (holds k).any = true then 0 else zn.remainder) ∧
          w.accumulated = zn.accumulated ∧ t.bank.cylinders = s.bank.cylinders ∧
          t.bank.reservations = s.bank.reservations ∧
          (zn.state = .waitBank → (holds k).any = true → z ∉ t.bank.waitQueue) ∧
          (override → Roomy s → Stands t (.forRoom .zoneRelease z))) ∧
      (zn.state = .discharging →
        (old.flow ≠ .active → new.flow = .active →
          w.state = .discharging ∧ w.flowSeen = true ∧ w.flowStart = none ∧ w.discharge = zn.discharge) ∧
        (old.flow ≠ .normal → new.flow = .normal → zn.flowSeen = true →
          w.state = (if s.sup.profiles[z].soak = 0 then .vent else .soak) ∧
          (∀ p : Pos, t.bank.cylinders[p] =
            if s.bank.cylinders[p].reservedTo z then
              { s.bank.cylinders[p] with state := .spent, zone := none, deferredLow := false }
            else s.bank.cylinders[p]) ∧
          t.bank.reservations = s.bank.reservations.filter (· ≠ z) ∧ t.bank.manifold = s.bank.waitQueue.head?) ∧
        (new.flow = .fault ∨ new.flow = .normal ∧ zn.flowSeen = false ∨ new.flow = old.flow →
          w.state = .discharging ∧ w.flowSeen = zn.flowSeen ∧ w.flowStart = zn.flowStart ∧
          w.discharge = zn.discharge ∧ t.bank.cylinders = s.bank.cylinders)) ∧
      (zn.state = .disabled ∨ zn.state = .soak ∨ zn.state = .vent →
        w.state = zn.state ∧ t.bank.cylinders = s.bank.cylinders ∧ t.bank.reservations = s.bank.reservations)

/-- A call point's report raises PANIC for its station on each point that becomes Active, and ends it when the last has returned to Normal
(R105). A pendant's DURESS and TILT raise for the bearer of a known token, else for the receiver, and its CHECK_IN is a check-in (R106). A
check-in, there or at the bearer's own check-in station, reloads a running counter and ends OVERDUE, DURESS and MAN_DOWN; any other
presentation there is NotInside (R109). The reports with events are answered in the answer poll (R157). What counts as held is judged on the
points as the report leaves them (assumption 36), and a pendant's events give no reader answers (assumption 33). -/
def Obligations.CallPointPendantAndCheckInReports : Prop :=
  (∀ (s : State) (a : Addr) (line : List Bool) (states : List PointState), Replies s a line →
     s.loop.stations[a].type = .callPoint → states.length = 4 →
     let cs := changes s a states
     let panic : AlarmKey := .forStation .panic a
     ∃ t, exec (.report ⟨line, some .callPoint, states, 0, .nothing⟩) s = .next t ∧
       t.loop.current = none ∧ t.loop.stations[a].state = .online ∧
       (some .active ∈ cs → Roomy s → Stands t panic) ∧
       (some .active ∉ cs → some .normal ∈ cs → (∀ p ∈ t.loop.stations[a].points, p.held = false) → ConditionGone t panic) ∧
       (some .active ∉ cs → some .normal ∉ cs ∨ (∃ p ∈ t.loop.stations[a].points, p.held = true) →
         ∀ x ∈ s.alarms.records, x.key = panic → x ∈ t.alarms.records) ∧
       (∀ i, cs.getD i none = some .openFault ∨ cs.getD i none = some .shortFault → Roomy s →
         Stands t (.forPoint (num a) (i + 1))) ∧
       t.bt = s.bt ∧ t.clk = s.clk ∧ t.roll = s.roll ∧ t.doors = s.doors ∧ t.zones = s.zones ∧ t.bank = s.bank ∧
       t.p2 = { s.p2 with rx := .hunting }) ∧
  (∀ (s : State) (a : Addr) (line : List Bool) (n : Nat), Brings s a line n → OccupancyLaw s →
     let checkedIn (t : State) (b e : Nat) (o : OccEntry) : Prop :=
       t.roll.entries.get e =
           (if o.checkIn = .off then some o
           else some { o with counter := s.loneLoad o, checkIn := .running, promptDue := false }) ∧
         (∀ k, k ≠ e → t.roll.entries.get k = s.roll.entries.get k) ∧ t.roll.rooms = s.roll.rooms ∧
         ConditionGone t (.forRoomBearer .overdue o.room b) ∧
         ∀ x ∈ t.alarms.records, x.key.kind = .duress ∨ x.key.kind = .manDown → x.key.bearer = some b →
           x.state = .restored ∨ x.state = .awaitReset
     (∀ (r : Room) (tok : Token) (digits : List Nat), s.loop.stations[a].type = .checkIn →
       s.loop.stations[a].room = num r → (∀ d ∈ digits, d ≤ 9) →
       let o := exec (.report ⟨line, some .checkIn, [], n, .checkIn [⟨tok, digits⟩]⟩) s
       (∀ b e x, s.findToken tok = some b → s.entryOf b = some (e, x) → x.room = r →
         AnswersWith o a n .checkedIn fun t => checkedIn t b e x ∧ t.bt = s.bt) ∧
       ((∀ b e x, s.findToken tok = some b → s.entryOf b = some (e, x) → x.room ≠ r) →
         AnswersWith o a n .notInside fun t => t.roll = s.roll ∧ t.alarms.records = s.alarms.records ∧ t.bt = s.bt)) ∧
     (∀ (tok : Token) (button : Button), s.loop.stations[a].type = .pendantRx →
       ∃ t, exec (.report ⟨line, some .pendantRx, [], n, .pendant [⟨tok, button⟩]⟩) s = .next t ∧
         t.loop.stations[a].lastEvent = n ∧ t.loop.stations[a].lastAnswers = none ∧
         (∃ answers, AnswerPoll t a n answers) ∧ t.bt = s.bt ∧
         (button ≠ .checkIn → t.roll = s.roll) ∧
         (∀ b, s.findToken tok = some b →
           (button = .duress → Roomy s →
             (∀ e o, s.entryOf b = some (e, o) → Stands t (.forRoomBearer .duress o.room b)) ∧
             (s.entryOf b = none → Stands t (.forBearer .duress b))) ∧
           (button = .tilt → Roomy s → Stands t (.forBearer .manDown b)) ∧
           (button = .checkIn →
             (∀ e o, s.entryOf b = some (e, o) → checkedIn t b e o) ∧
             (s.entryOf b = none → t.roll = s.roll ∧ t.alarms.records = s.alarms.records))) ∧
         (s.findToken tok = none →
           (button = .duress → Roomy s → Stands t (.forStation .duress a)) ∧
           (button = .tilt → Roomy s → Stands t (.forStation .manDown a)) ∧
           (button = .checkIn → t.roll = s.roll ∧ t.alarms.records = s.alarms.records))))

/-- R155: every point state that a valid reply of the configured type carries is tested. One that differs from the candidate starts the
count again, and one that equals it raises the count, up to 4. A candidate whose count has reached the persistence is accepted where it
differs from the accepted state, also where that is not yet known, and does not act again; a count below it accepts nothing. -/
def Obligations.PersistenceFiltersPoints : Prop :=
  (∀ (s : State) (a : Addr) (line : List Bool) (states : List PointState) (ty : StationType), Replies s a line →
     s.loop.stations[a].type = ty → ty ≠ .unassigned → ty ≠ .bankMonitor → states.length = ty.pointCount →
     ∃ t, exec (.report ⟨line, some ty, states, 0, .nothing⟩) s = .next t ∧
       ∀ (i : Nat) (p : Point) (st : PointState), s.loop.stations[a].points[i]? = some p → states[i]? = some st →
         t.loop.stations[a].points[i]? = some (p.filter (ty.persistence i) st).1 ∧
           (changes s a states)[i]? = some (p.filter (ty.persistence i) st).2) ∧
  (∀ (p : Point) (persistence : Nat) (st : PointState), 1 ≤ persistence → persistence ≤ 4 →
     let q := p.filter persistence st
     q.1.candidate = some st ∧
     (p.candidate ≠ some st → q.1.count = 1) ∧ (p.candidate = some st → q.1.count = min 4 (p.count + 1)) ∧
     (q.1.count < persistence → q.2 = none ∧ q.1.accepted = p.accepted) ∧
     (persistence ≤ q.1.count → q.1.accepted = some st) ∧
     (q.2 = if persistence ≤ q.1.count ∧ p.accepted ≠ some st then some st else none) ∧
     (persistence ≤ q.1.count → (q.1.filter persistence st).2 = none)) ∧
  (∀ p : Point, p.accepted = some .normal → p.candidate = some .normal →
     let after (p : Point) (st : PointState) : Point := (p.filter 2 st).1
     (after (after (after p .active) .normal) .active).accepted = some .normal)

/-! ### The Link Engines -/

/-- R160 to R163, R169: what the transmitter sends, the receiver takes: after two or more sync pairs, the line bits of a frame whose kind
octet has its three highest bits clear bring exactly that frame to a receiver that hunts with the same valid sync pair and accepts its
address. -/
def Obligations.ReceiverTakesWhatTheTransmitterSends : Prop :=
  ∀ (pair : SyncPair) (accepts : Octet → Bool) (fr : LinkFrame) (n : Nat) (after : List Bool),
    pair.valid = true → accepts fr.address = true → (fr.kind &&& 0xE0#8) = 0#8 → fr.payload.length ≤ 120 → 2 ≤ n →
    receive ⟨pair, accepts⟩ (.hunt []) (pair.idle n ++ fr.line ++ after) = .inr (.accepted fr)

/-- R163, R164, R166: line bits run port 1's receiver from the phase it is in: without the end of a frame its phase alone changes, and an
OFF receiver takes none. A frame accepted joins the request queue if it is a REQUEST and the queue has room, and latches Overrun if it has
none; a dropped frame latches the error mark; a discarded one latches nothing. The receiver's pair follows the transmitter's at the end of a
frame (assumption 27), and a command holds no bits after that end (assumption 28). -/
def Obligations.SupervisorFrameEndsByItsOutcome : Prop :=
  (∀ (s : State) (line : List Bool) (p : RxPhase), Runs s → s.p1.rx = .on p →
     let heard := receive ⟨s.p1.rxPair, fun x => x = s.sup.unitAddress || x = 255#8⟩ p line
     (∀ q, heard = .inl q → exec (.supervisorFrameReceived line) s = .next { s with p1 := { s.p1 with rx := .on q } }) ∧
     (∀ e, heard = .inr e →
       exec (.supervisorFrameReceived line) s =
         .next
           { s with
             p1 :=
               let ended : PortOne := { s.p1 with rx := .hunting, rxPair := s.p1.txPair }
               match e with
               | .accepted fr =>
                 if (fr.kind &&& 0xE0#8) = 0#8 ∧ (fr.kind &&& 0x0F#8) = 1#8 then
                   if s.p1.requests.length < 8 then
                     { ended with requests := s.p1.requests ++ [⟨fr.address, fr.tag, fr.payload⟩] }
                   else { ended with overrun := true }
                 else ended
               | .dropped => { ended with errorMark := true }
               | .discarded => ended })) ∧
  (∀ (s : State) (line : List Bool), s.p1.rx = .off ∨ ¬Runs s → exec (.supervisorFrameReceived line) s = .next s)

/-- FRAME_TRANSMIT on port 1 begins the frame at the head of the queue, with the sync pairs before it and the Busy mark of that moment, and
serves the pending marks in order, each with a notice of its object as it stands, while two entries are free (R165, R167); a notice that is
queued replaces a waiting one of its object in place, joins the tail while two entries are free, or sets a mark, and a port held OFF takes
none (R167). A notice's payload is its kind code, its object and the contents that the owning rule lists, in that order, each in octets of
its own (R174; assumption 4). On port 2 the poll in progress begins (R165). FRAME_SENT returns the transmitter to IDLE and brings about what
the answer's end brings; on port 2 it opens the reply window of a station's poll and completes a broadcast (R162, R165, R171, R172). The
data outputs send the sync pairs and then the frame, whose payload holds at most 120 octets, sync pairs while idle, and ones outside the
turns of Shared mode and while looped (R159, R165, R168, R169). The count kept for a turn, the mark of a reset that is due and the phases of
a poll are the model's choice (assumptions 25, 26 and 29). -/
def Obligations.FramesBeginAndEnd : Prop :=
  (∀ s : State, Runs s →
     (∀ e rest, s.p1.heldOff = false → s.p1.tx = .idle → s.sup.restartDue = false →
       s.p1.txMode = .direct ∨ s.p1.turn.isSome = true → s.p1.queue = e :: rest →
       let served := 15 - rest.length
       exec (.frameTransmit .supervisor) s =
         .next
           { s with
             p1 :=
               { s.p1 with
                 queue := rest ++ (s.p1.marks.take served).map fun o => .notice (s.buildNotice o)
                 marks := s.p1.marks.drop served, tx := .sending
                 sending :=
                   some ⟨s.p1.txPair, if s.p1.txMode = .shared ∧ s.p1.turn = some 0 then 2 else 1, s.sup.sentAddress,
                     6 ≤ s.p1.requests.length, e⟩ } }) ∧
     (∀ a c, s.p2.heldOff = false → s.loop.current = some ⟨a, .ready, c⟩ →
       exec (.frameTransmit .fieldLoop) s =
         .next { s with loop := { s.loop with current := some ⟨a, .sending, c⟩ }, p2 := { s.p2 with tx := .sending } })) ∧
  (∀ s : State, Runs s →
     (∀ fr, s.p1.sending = some fr →
       let answerWaits : Bool := s.p1.queue.any TxEntry.isAnswer
       let turn : Option Nat :=
         match s.p1.turn with
         | none => none
         | some n => if answerWaits || (n + 1 < 4 && s.p1.queue ≠ []) then some (n + 1) else none
       let idle : PortOne := { s.p1 with tx := .idle, sending := none, turn := turn }
       (fr.entry.after = .nothing → exec (.frameSent .supervisor) s = .next { s with p1 := idle }) ∧
       (∀ a, fr.entry.after = .unitAddress a →
         exec (.frameSent .supervisor) s = .next { s with p1 := idle, sup := { s.sup with sentAddress := a } }) ∧
       (fr.entry.after = .restart →
         exec (.frameSent .supervisor) s = .next { s with p1 := idle, sup := { s.sup with restartDue := true } }) ∧
       (∀ pair mode, fr.entry.after = .linkSettings pair mode →
         exec (.frameSent .supervisor) s =
           .next
             { s with
               p1 :=
                 { idle with
                   txPair := pair, txMode := mode
                   turn :=
                     match mode, s.p1.txMode with
                     | .direct, _ => none
                     | .shared, .shared => turn
                     | .shared, .direct => if answerWaits then some 0 else none } })) ∧
     (∀ a c, s.loop.current = some ⟨some a, .sending, c⟩ →
       exec (.frameSent .fieldLoop) s =
         .next
           { s with loop := { s.loop with current := some ⟨some a, .awaiting, c⟩ }, p2 := { s.p2 with tx := .idle } }) ∧
     (∀ c, s.loop.current = some ⟨none, .sending, c⟩ →
       exec (.frameSent .fieldLoop) s =
         .next { s with loop := { s.loop with current := none }, p2 := { s.p2 with tx := .idle } })) ∧
  (∀ (p : PortOne) (fr : SentFrame), p.dataLow = false → p.tx = .sending → p.sending = some fr →
     let sent := fr.linkFrame
     p.output false = .bits (fr.pair.idle fr.lead ++ sent.line) ∧ sent.payload.length ≤ 120 ∧ sent.address = fr.address ∧
     (∀ ans after, fr.entry = .answer ans after →
       sent.kind = (if fr.busy then 18#8 else 2#8) ∧ sent.tag = ans.tag ∧
         sent.payload.take 2 = [ans.request, ans.code.octet] ∧ (ans.contents = .nothing → sent.payload.length = 2)) ∧
     (∀ note, fr.entry = .notice note →
       sent.kind = (if fr.busy then 19#8 else 3#8) ∧ sent.tag = 0 ∧
         sent.payload =
           ([note.code] ++ Config.objectOctets note.object ++ note.fields.flatMap Config.fieldOctets).take 120)) ∧
  (∀ (p : PortOne) (n : Notice),
     let none_ : Prop := ∀ e ∈ p.queue, e.isNoticeOf n.object = false
     (p.heldOff = true → p.queueNotice n = p) ∧
     (p.heldOff = false → ¬none_ →
       p.queueNotice n =
         { p with queue := p.queue.map fun e => if e.isNoticeOf n.object then TxEntry.notice n else e }) ∧
     (p.heldOff = false → none_ → n.object ∈ p.marks → p.queueNotice n = p) ∧
     (p.heldOff = false → none_ → n.object ∉ p.marks →
       p.queueNotice n =
         if p.queue.length ≤ 14 then { p with queue := p.queue ++ [.notice n] }
         else { p with marks := p.marks ++ [n.object] })) ∧
  (∀ s : State,
     (∀ o, (s.buildNotice o).object = o ∧ Tells s o (s.buildNotice o)) ∧
     (∀ k r, recordOf s k = some r →
       (s.buildNotice (.alarm k)).code = 1 ∧
       (s.buildNotice (.alarm k)).fields =
         [.alarmState (.standing r.state), .alarmPriority k.kind.priority, .alarmRepeats r.repeats, .alarmRaisedAt r.raisedAt]) ∧
     (∀ k, recordOf s k = none → (s.buildNotice (.alarm k)).fields.head? = some (.alarmState .retired)) ∧
     (∀ i : Room,
       let z := s.zones[i]
       let d := s.doors[i]
       let c := s.bank.coverage[i]
       (s.buildNotice (.zone i)).code = 2 ∧
       (s.buildNotice (.zone i)).fields =
         [.zoneState z.state, .zoneDisableCause z.disableCause, .zoneHolds z.holds, .zoneKind z.kind, .zoneAuthorise z.authorise,
          .zoneEnvelopeOpen z.envelopeOpen, .zoneUnconfirmed z.unconfirmed, .zoneRemainder z.remainder] ∧
       (s.buildNotice (.door i)).code = 3 ∧
       (s.buildNotice (.door i)).fields =
         [.doorState d.state, .doorReleaseKind d.releaseKind, .doorOpenCause d.openCause, .doorTimeLock d.timeLock,
          .doorCloseDemand d.closeDemand, .doorLockdown d.lockdown, .doorHold d.hold, .doorEnvelope d.envelopeClosed] ∧
       (s.buildNotice (.roll i)).code = 4 ∧
       (s.buildNotice (.roll i)).fields =
         [.rollHeadCount (s.headCount i), .rollUnreconciled s.roll.rooms[i].unreconciled,
          .rollLapsed ((s.entriesIn i).filter fun e => e.2.lapsed).length,
          .rollRevokedInside ((s.entriesIn i).filter fun e => e.2.revokedInside).length, .rollTick s.roll.tick] ∧
       (s.buildNotice (.coverage i)).code = 5 ∧
       (s.buildNotice (.coverage i)).fields =
         [.coverageBasis c.basis, .coverageRequired c.required, .coverageSum c.sum, .coverageAchieved c.achieved,
          .coverageGrade c.grade, .coverageCount c.count]) ∧
     (∀ p : Pos,
       let c := s.bank.cylinders[p]
       (s.buildNotice (.cylinder p)).code = 5 ∧
       (s.buildNotice (.cylinder p)).fields = [.cylinderState c.state, .cylinderCharge c.charge, .cylinderZone c.zone]) ∧
     (∀ a : Addr,
       let st := s.loop.stations[a]
       (s.buildNotice (.station a)).code = 6 ∧
       (s.buildNotice (.station a)).fields = [.stationType st.type, .stationRoom st.room, .stationState st.state]) ∧
     ((s.buildNotice .site).code = 7 ∧
       (s.buildNotice .site).fields =
         [.siteState s.clk.siteState, .siteOverride s.clk.override, .siteClockSet s.clk.isSet]) ∧
     (∀ n,
       (s.buildNotice (.bearer n)).code = 8 ∧
       (s.buildNotice (.bearer n)).fields =
         [.bearerState ((s.bt.bearers.get n).map fun b => b.state),
          .bearerFailedPin (((s.bt.bearers.get n).map fun b => b.failedPin).getD 0)])) ∧
  (∀ (p : PortOne) (s : State), p.output true = .one ∧ s.loopOutput true = .one ∧
     (p.dataLow = false → p.tx = .idle →
       p.output false = if p.txMode = .direct ∨ p.turn.isSome = true then .pairs p.txPair else .one) ∧
     (s.p2.dataLow = false → s.p2.tx = .idle → s.loopOutput false = .pairs s.p2.usedPair) ∧
     (∀ c, s.p2.dataLow = false → s.p2.tx = .sending → s.loop.current = some c →
       s.loopOutput false = .bits (s.p2.usedPair.idle 1 ++ c.linkFrame.line) ∧ c.linkFrame.payload.length ≤ 120 ∧
         c.linkFrame.kind = 4#8 ∧ c.linkFrame.tag = 0))

/-- LINK SET stores the pair with the mode of port 1 or the bit rate of port 2, refuses an invalid pair, and LINK_SETTINGS_APPLY brings port
2's settings into use between polls, its receiver's phase kept (R162; assumptions 29 and 66). LINK TEST is taken and waits for its run
(assumption 52), between polls (assumption 29); the run answers whether the receiver took the test frame by the end of the four sync pairs
after it, and the result holds port 2 OFF or brings it back into service (R168). -/
def Obligations.LinkSettingsAndLinkTest : Prop :=
  (∀ (s : State) (f : RequestFrame) (rest : List RequestFrame),
     (∀ (x y : Octet) (m : LinkMode), WaitsWith s f rest 0x90 → SyncPair.valid ⟨x, y⟩ = true →
       Accepted (exec (.linkSet (some ⟨1, x, y, .mode (some m)⟩)) s)
         { taken s rest with p1 := { (taken s rest).p1 with pair := ⟨x, y⟩, mode := m } } f 0x90 (.link1 ⟨x, y⟩ m)
         (.linkSettings ⟨x, y⟩ m)) ∧
     (∀ (x y : Octet) (r : Nat), WaitsWith s f rest 0x90 → SyncPair.valid ⟨x, y⟩ = true →
       (r ∈ [9600, 19200, 38400, 57600, 115200] →
         Accepted (exec (.linkSet (some ⟨2, x, y, .rate r⟩)) s)
           { taken s rest with p2 := { s.p2 with pair := ⟨x, y⟩, rate := r, newSettings := true } } f 0x90
           (.link2 ⟨x, y⟩ r) .nothing) ∧
       (r ∉ [9600, 19200, 38400, 57600, 115200] →
         exec (.linkSet (some ⟨2, x, y, .rate r⟩)) s = .next (refused s f rest 0x90 .format))) ∧
     (∀ a : LinkSetArgs, WaitsWith s f rest 0x90 → SyncPair.valid ⟨a.first, a.second⟩ = false →
       exec (.linkSet (some a)) s = .next (refused s f rest 0x90 .format)) ∧
     (Runs s → s.p2.newSettings = true → s.loop.current = none →
       exec .linkSettingsApply s =
         .next { s with p2 := { s.p2 with usedPair := s.p2.pair, usedRate := s.p2.rate, newSettings := false } })) ∧
  (∀ (s : State) (f : RequestFrame) (rest : List RequestFrame),
     (Waits s f rest 0x92 →
       (f.payload.length = 1 → exec .linkTest s = .next { taken s rest with sup := { s.sup with linkTest := some f } }) ∧
       (f.payload.length ≠ 1 → exec .linkTest s = .next (refused s f rest 0x92 .format))) ∧
     (∀ line : List Bool, Runs s → s.sup.linkTest = some f → s.loop.current = none → s.p2.newSettings = false →
       let pass := loopbackPasses s.p2.usedPair .fieldLoop line
       let inService : State := { s with sup := { s.sup with linkTest := none } }
       ∃ t,
         (f.address ≠ 255 → exec (.linkTestRun line) s = .next (answered t f 0x92 .ok (.testResult pass) .nothing)) ∧
         (f.address = 255 → exec (.linkTestRun line) s = .next t) ∧
         UpToOutputs
           (match s.p2.heldOff, pass with
             | false, false =>
               { inService with
                 p2 := { s.p2 with heldOff := true, rx := .off, tx := .off }
                 alarms := (s.raiseAlarm (.forPoint 0 2)).alarms }
             | true, true =>
               { inService with
                 p2 := { s.p2 with heldOff := false, rx := .hunting, tx := .idle }
                 alarms := (s.alarmGone (.forPoint 0 2)).alarms }
             | false, true => { inService with p2 := { s.p2 with rx := .hunting } }
             | true, false => inService) t)) ∧
  (∀ (pair : SyncPair) (p : Port) (n : Nat) (after : List Bool), pair.valid = true → 2 ≤ n →
     (loopbackPasses pair p (pair.idle n ++ (testFrame p).line ++ after) = true ↔ n ≤ 6))

/-! ### The Supervisor Request Handler -/

/-- R173: PROFILE LOAD is refused with STATE while the zone is in neither NORMAL nor DISABLED or a context is open, then with FORMAT, then
with STATE for a capacity below the head count; an accepted one stores the profile with its features octet cleared, and its answer carries
that one octet. An undefined value of an enumerated field is FORMAT at the second of these checks (assumption 39). -/
def Obligations.ProfileLoadStoresOrRefuses : Prop :=
  ∀ (s : State) (f : RequestFrame) (rest : List RequestFrame) (r : Room) (a : ProfileArgs),
    WaitsWith s f rest 0xA3 → a.room = num r →
    let barred : Prop := (s.zones[r].state ≠ .normal ∧ s.zones[r].state ≠ .disabled) ∨ s.ctx[r] ≠ .empty
    (barred → exec (.profileLoad (some a)) s = .next (refused s f rest 0xA3 .state)) ∧
    (¬barred → ¬ProfileInRange a ∨ (∀ p, ¬CarriesProfile a p) →
      exec (.profileLoad (some a)) s = .next (refused s f rest 0xA3 .format)) ∧
    (∀ p, ¬barred → ProfileInRange a → CarriesProfile a p → p.capacity < s.headCount r →
      exec (.profileLoad (some a)) s = .next (refused s f rest 0xA3 .state)) ∧
    (∀ p, ¬barred → ProfileInRange a → CarriesProfile a p → s.headCount r ≤ p.capacity →
      Contents.octets (.features 0) = [0] ∧
      TakenAndAnswered s (exec (.profileLoad (some a)) s) rest f 0xA3 (.features 0) fun t =>
        t.sup.profiles = s.sup.profiles.set r p ∧ t.doors[r].timeLock = t.timeLockOf r ∧
        t.bank.coverage[r].required = (a.volume * a.factor + 99) / 100 ∧
        t.sup.unitAddress = s.sup.unitAddress ∧ t.bt = s.bt ∧ t.clk = s.clk ∧ t.p2 = s.p2 ∧ t.lines = s.lines)

/-- A request whose payload is empty or begins with no known code is answered FORMAT with the code it begins with, or 0, echoed; one whose
payload does not spell its fields, or carries fields that its code has none of, is answered FORMAT, and an ENROL payload of another length
than 20 octets is; none has another effect (R170). That the operand `none` stands for a payload that does not spell its fields is the
model's choice (assumption 1). -/
def Obligations.MalformedRequestsAreFormat : Prop :=
  (∀ (s : State) (f : RequestFrame) (rest : List RequestFrame), s.p1.requests = f :: rest → s.canTake f = true →
     f.address ≠ 255 → Settled s → (∀ c, f.payload.head? = some c → c.toNat ∉ requestCodes) →
     exec .unknownRequest s = .next (refused s f rest (f.payload.headD 0) .format)) ∧
  (∀ (s : State) (f : RequestFrame) (rest : List RequestFrame) (i : Instr) (code : Octet), Waits s f rest code →
     (∀ spelled, fieldRequest i = some (code, spelled) → spelled = false ∨ f.payload.length = 1 →
       exec i s = .next (refused s f rest code .format)) ∧
     (bareRequest i = some code → f.payload.length ≠ 1 → exec i s = .next (refused s f rest code .format))) ∧
  (∀ (s : State) (f : RequestFrame) (rest : List RequestFrame), Waits s f rest 0x10 →
     (f.payload.length ≠ 20 → EnrolArgs.decode f.payload = none) ∧
     (EnrolArgs.decode f.payload = none → exec (.enrol none) s = .next (refused s f rest 0x10 .format)))

/-- R170: a request addressed to 255 is carried out as the same request addressed to the unit is, and nothing is answered; it needs no free
entry of the transmit queue, while another waits for one (R167). STATUS so read keeps the marks, since no answer goes. What an answer's end
would bring about on the address and the link settings follows at once, over what waits for an earlier answer (R162, R171; assumption 24).
-/
def Obligations.BroadcastRequestsAreNotAnswered : Prop :=
  (∀ (s : State) (f : RequestFrame) (rest : List RequestFrame) (i : Instr) (code : Octet), Waits s f rest code →
     let toAll : State := { s with p1 := { s.p1 with requests := { f with address := 255 } :: rest } }
     (∃ spelled, fieldRequest i = some (code, spelled) ∧ code ≠ 0x90 ∧ code ≠ 0xA2) ∨
       i = .enrol (EnrolArgs.decode f.payload) ∧ code = 0x10 ∨ i = .holidayRead ∧ code = 0x1E ∨ i = .clockRead ∧ code = 0x21 ∨ i = .bankRead ∧ code = 0x72 →
     ∃ t answer contents,
       exec i toAll = .next t ∧ exec i s = .next (answered t f code answer contents .nothing)) ∧
  (∀ (s : State) (f : RequestFrame) (rest : List RequestFrame), s.p1.requests = f :: rest → f.address = 255 →
     s.canTake f = true → Settled s →
     (f.payload = [0xA0] → exec .status s = .next (taken s rest)) ∧
     ((∀ c, f.payload.head? = some c → c.toNat ∉ requestCodes) → exec .unknownRequest s = .next (taken s rest)) ∧
     (∀ days, f.payload.head? = some 0x17 → 2 ≤ f.payload.length → days ≤ 90 →
       ∃ t, exec (.retentionSet (some days)) s = .next t ∧
         UpToNotices { taken s rest with bt := { s.bt with retention := days } } t) ∧
     (∀ n, f.payload.head? = some 0xA2 → 2 ≤ f.payload.length → 1 ≤ n → n ≤ 254 →
       ∃ t q sending v, exec (.addressSet (some n)) s = .next t ∧
         t =
           { taken s rest with
             p1 := { (taken s rest).p1 with queue := q, sending := sending }
             sup := { s.sup with unitAddress := BitVec.ofNat 8 n, sentAddress := BitVec.ofNat 8 n, checkValue := v } } ∧
         q.map place = s.p1.queue.map place ∧ (∀ e ∈ q, ∀ a, e.after ≠ .unitAddress a) ∧
         ∀ fr, sending = some fr → ∀ a, fr.entry.after ≠ .unitAddress a) ∧
     (∀ (x y : Octet) (m : LinkMode), f.payload.head? = some 0x90 → 2 ≤ f.payload.length → SyncPair.valid ⟨x, y⟩ = true →
       ∃ t, exec (.linkSet (some ⟨1, x, y, .mode (some m)⟩)) s = .next t ∧ t.p1.pair = ⟨x, y⟩ ∧ t.p1.mode = m ∧
         t.p1.txPair = ⟨x, y⟩ ∧ t.p1.txMode = m ∧ t.p1.requests = rest ∧ t.p1.queue.map place = s.p1.queue.map place ∧
         (∀ e ∈ t.p1.queue, ∀ pair mode, e.after ≠ .linkSettings pair mode) ∧ t.bt = s.bt ∧ t.clk = s.clk ∧
         t.loop = s.loop ∧ t.p2 = s.p2)) ∧
  (∀ (s : State) (f : RequestFrame) (rest : List RequestFrame) (i : Instr) (code : Octet) (spelled : Bool),
     s.p1.requests = f :: rest → f.address ≠ 255 → 16 ≤ s.p1.queue.length → fieldRequest i = some (code, spelled) →
     exec i s = .next s)

/-! ### Supplies, resets and start-up -/

/-- The main supply's failure and RESET_N low stop the ports and nothing else of the state (the model's choice, assumption 15): a frame cut
off leaves its data output at zero (assumption 19). A power-up under RESET_N low stays in reset with the alarm outputs inactive (R103;
assumption 14). The loss of the backup supply sets the latch (R175). RESTART is answered OK, and the reset waits for the answer's last line
bit (R172). A change of INHIBIT is handed to every zone, which derives its reasons and moves by them (R113, R119, R120, R122, R177); a
change of MAINS_OK raises MAINS_FAIL or ends its condition and changes nothing else (R177). In reset the level of INHIBIT is recorded alone
(the model's choice, assumption 13), and a level that repeats the one held is no change (assumption 8). -/
def Obligations.SuppliesAndLinesAct : Prop :=
  (∀ s : State,
     let stopped : State :=
       { s with
         p1 := { s.p1 with rx := .off, tx := .off, sending := none, dataLow := s.p1.dataLow || s.p1.tx = .sending }
         p2 := { s.p2 with rx := .off, tx := .off, dataLow := s.p2.dataLow || s.p2.tx = .sending } }
     (s.lines.mainOn = true →
       exec .mainSupplyFail s = .next { stopped with lines := { s.lines with mainOn := false } }) ∧
     (s.lines.resetHigh = true →
       exec .resetLineLow s = .next { stopped with lines := { s.lines with resetHigh := false } }) ∧
     (∀ line1 line2, s.lines.mainOn = false → s.lines.resetHigh = false →
       exec (.powerUp line1 line2) s =
         .next
           { s with
             lines := { s.lines with mainOn := true }
             alarms := { records := [], overflow := false, general := false, fault := false } }) ∧
     exec .backupLoss s = .next { s with lines := { s.lines with backupLost := true } }) ∧
  (∀ (s : State) (f : RequestFrame) (rest : List RequestFrame) (line1 line2 : List Bool), Waits s f rest 0xA1 →
     (f.payload.length = 1 →
       exec (.restart line1 line2) s = .next (answered (taken s rest) f 0xA1 .ok .nothing .restart)) ∧
     (f.payload.length ≠ 1 → exec (.restart line1 line2) s = .next (refused s f rest 0xA1 .format))) ∧
  (∀ (s : State) (a : Bool),
     (Runs s →
       ∃ t, exec (.inhibitChange a) s = .next t ∧ t.lines = { s.lines with inhibit := a } ∧
         (∀ z : Room, t.zones[z].holds = holdsWith s z s.zones[z].kind s.zones[z].authorise a ∧
           t.zones[z].state = heldState s.zones[z].state (holdsWith s z s.zones[z].kind s.zones[z].authorise a).any) ∧
         t.bank.cylinders = s.bank.cylinders ∧ t.bt = s.bt ∧ t.clk = s.clk ∧ t.roll = s.roll ∧ t.p2 = s.p2) ∧
     (¬Runs s → exec (.inhibitChange a) s = .next { s with lines := { s.lines with inhibit := a } })) ∧
  (∀ (s : State) (a : Bool), Runs s →
     (s.lines.mainsOk ≠ a →
       ∃ t, exec (.mainsOkChange a) s = .next t ∧
         UpToOutputs
           { s with
             lines := { s.lines with mainsOk := a }
             alarms := if a then (s.alarmGone (.bare .mainsFail)).alarms else (s.raiseAlarm (.bare .mainsFail)).alarms } t) ∧
     (s.lines.mainsOk = a → exec (.mainsOkChange a) s = .next s))

/-- R37, R74, R75, R131, R146, R147, R175, R176: while retained memory checks and the backup supply has held, each of the four ways to start
is a warm start with its restart cause: the tables, the roll's entries and the retained zone fields are kept, the lone-worker fields loaded
again (R111, R112). The model's choices in it are assumptions 12 (the clock goes on), 14 (the cause after a power-up), 16 (the self-test's
pair) and 18 (a RESERVED cylinder without a zone). -/
def Obligations.WarmStartKeepsRetainedMemory : Prop :=
  ∀ (s : State) (line1 line2 : List Bool), s.retained.check = s.sup.checkValue → s.lines.backupLost = false →
    (s.lines.mainOn = false → s.lines.resetHigh = true →
      ∃ t, exec (.powerUp line1 line2) s = .next t ∧ WarmStart s t .powerUp) ∧
    (s.lines.mainOn = true → s.lines.resetHigh = false →
      ∃ t, exec (.resetLineHigh line1 line2) s = .next t ∧ WarmStart s t .resetLine) ∧
    (Runs s → s.sup.restartDue = true →
      ∃ t, exec (.restartWarmReset line1 line2) s = .next t ∧ WarmStart s t .request) ∧
    (∀ f rest, Runs s → s.p1.requests = f :: rest → f.payload = [0xA1] → f.address = 255 → s.p1.heldOff = false →
      s.sup.linkTest = none → s.sup.restartDue = false →
      ∃ t, exec (.restart line1 line2) s = .next t ∧ WarmStart s t .request)

/-- A power-up after the backup supply was lost, with both self-tests passed, MAINS_OK good and INHIBIT inactive, leaves the state after
reset, whatever the state before (R175, R176); and values that the rules give after a cold start (R2, R14, R16, R24, R27, R59 to R61, R75,
R94, R131, R132, R146, R147, R162, R166, R171). The levels of the lines, the passed self-tests and the two notices that wait in the state
after reset are the model's choice (assumption 10). -/
def Obligations.ColdStartGivesTheResetState : Prop :=
  (∀ (s : State) (line1 line2 : List Bool), s.lines = ⟨false, true, true, true, false⟩ →
     loopbackPasses s.p1.pair .supervisor line1 = true → loopbackPasses s.p2.pair .fieldLoop line2 = true →
     exec (.powerUp line1 line2) s = .next { State.reset with pending := s.pending }) ∧
  (let s := State.reset
   s.bt.bearers = [] ∧ s.bt.freeCount = 8191 ∧ s.bt.freeList.head? = some 1 ∧ s.bt.retention = 0 ∧
   s.clk.date = ⟨0x00, 0x01, 0x01⟩ ∧ s.clk.time = ⟨0x00, 0x00, 0x00⟩ ∧ s.clk.isSet = false ∧ s.clk.siteState = .afterHours ∧
   s.roll.entries = [] ∧ s.roll.tick = 0 ∧ (∀ d : Room, s.doors[d].state = .unknown) ∧
   (∀ z : Room, s.zones[z].state = .disabled ∧ s.zones[z].disableCause = .start) ∧
   (∀ p : Pos, s.bank.cylinders[p].state = .absent ∧ s.bank.flags[p] = .unknown) ∧
   (∀ a : Addr, s.loop.stations[a].state = .unconfigured) ∧ s.p1.mode = .direct ∧ s.p1.requests = [] ∧
   s.sup.unitAddress = 1 ∧ s.sup.cause = .coldStart ∧ Stands s (.bare .tablesLost))

/-! ### The whole machine -/

/-- One step takes the command at the front of the queue and carries it out with the rest waiting; with no command the block idles. The
queue and the idling are the model's choice (assumption 5). Every command answers a next state from every state, and touches no command
that waits behind it. -/
def Obligations.StepTakesTheFrontCommand : Prop :=
  (∀ (c : Instr) (s : State) (rest : List Instr), s.pending = c :: rest → step s = exec c { s with pending := rest }) ∧
  (∀ s : State, s.pending = [] → step s = .next s) ∧
  (∀ (c : Instr) (s : State), ∃ t, exec c s = .next t) ∧
  (∀ (c : Instr) (s t : State), exec c s = .next t → t.pending = s.pending)

/-- R12, R36, R73, R90, R130, R145, R150, R167, R174: a command other than a start brings a notice, or a pending mark, of every object it
changes in a field whose change is reported, and every notice of the object that waits is the newest. It keeps the place of every frame that
waits and of every mark, queues the notices of its request before the one answer, and, where it is one event, queues no notice of an object
it has not changed. FRAME_TRANSMIT alone takes frames and marks from their lists. While port 1 is held OFF, nothing is queued or marked. -/
def Obligations.EveryChangeIsAnnounced : Prop :=
  ∀ (c : Instr) (s t : State), Settled s → startsAgain c = false → exec c s = .next t →
    (s.p1.heldOff = false →
      (∀ o, (∀ k, o ≠ .alarm k) → Changed s t o → Announced t o) ∧
      (∀ o, silentUnlessChanged c o = true → ¬Changed s t o →
        waiting t o = waiting s o ∧ (o ∈ t.p1.marks ↔ o ∈ s.p1.marks)) ∧
      (c ≠ .frameTransmit .supervisor →
        (∃ (objects : List NoticeObject) (answer : Option Answer),
          t.p1.queue.map place = s.p1.queue.map place ++ objects.map .inr ++ answer.toList.map .inl) ∧
        ∃ new, t.p1.marks = s.p1.marks ++ new)) ∧
    (s.p1.heldOff = true → s.sup.linkTest = none → t.p1.queue = s.p1.queue ∧ t.p1.marks = s.p1.marks)

/-- R102, R167: a command other than a start that changes, makes, evicts or retires an alarm record queues the ALARM notice of its
kind-and-key, with the record as the command leaves it, or sets its mark. -/
def Obligations.EveryAlarmChangeIsAnnounced : Prop :=
  ∀ (c : Instr) (s t : State), Settled s → AlarmLaw s → startsAgain c = false → s.p1.heldOff = false → exec c s = .next t →
    ∀ k, Changed s t (.alarm k) → Announced t (.alarm k)

/-- R94: every step keeps at most 64 records, no two of one kind-and-key. -/
def Obligations.EveryStepKeepsTheAlarmLaw : Prop :=
  ∀ s t : State, AlarmLaw s → step s = .next t → AlarmLaw t

/-- R166, R167: every step keeps the two queues of port 1 within their entries, with room for the answer a LINK TEST waits for. -/
def Obligations.EveryStepKeepsTheQueues : Prop :=
  ∀ s t : State, QueueLaw s → step s = .next t → QueueLaw t

/-- R123, R143: every step keeps the manifold with the zone that discharges, so no two zones discharge. -/
def Obligations.EveryStepKeepsTheManifold : Prop :=
  ∀ s t : State, ManifoldLaw s → step s = .next t →
    ManifoldLaw t ∧ ∀ y z : Room, t.zones[y].state = .discharging → t.zones[z].state = .discharging → y = z

/-- Every step ends its events: no notice is owed between commands (R174), and the general-alarm and fault outputs are as the table and the
Overflow mark make them (R103). -/
def Obligations.EveryStepEndsItsEvents : Prop :=
  (∀ s t : State, Settled s → step s = .next t → Settled t) ∧
  (∀ s t : State, OutputsLaw s → step s = .next t → OutputsLaw t)

/-- R4: every step keeps the token index in step with the live records, so no two live records hold the same token code. -/
def Obligations.EveryStepKeepsTheTokenLaw : Prop :=
  ∀ s t : State, TokenLaw s.bt → step s = .next t →
    TokenLaw t.bt ∧
    ∀ b c r q, t.bt.bearers.get b = some r → t.bt.bearers.get c = some q → r.token = q.token → b = c

/-- R16: every step keeps every permission entry on the free list or on exactly one chain of at most 16 entries. -/
def Obligations.EveryStepKeepsTheChainLaw : Prop :=
  ∀ s t : State, ChainLaw s.bt → step s = .next t → ChainLaw t.bt

/-- R72: every step keeps each occupancy list within its strongroom's capacity. -/
def Obligations.EveryStepKeepsTheCapacityLaw : Prop :=
  ∀ s t : State, CapacityLaw s → step s = .next t → CapacityLaw t

/-- R59: every step keeps a bearer in at most one occupancy entry, and each entry naming a live bearer. -/
def Obligations.EveryStepKeepsTheOccupancyLaw : Prop :=
  ∀ s t : State, OccupancyLaw s → step s = .next t → OccupancyLaw t

/-- R120: no zone enters DISCHARGING until it has accumulated at least as many ticks in COUNTDOWN as its pre-discharge delay. -/
def Obligations.NoZoneDischargesBeforeItsDelay : Prop :=
  ∀ s t : State, DelayLaw s → step s = .next t →
    DelayLaw t ∧
    ∀ z : Room, s.zones[z].state ≠ .discharging → t.zones[z].state = .discharging →
      t.sup.profiles[z].delay ≤ t.zones[z].accumulated

/-- R121: no zone whose release kind is Automatic enters DISCHARGING while its strongroom is Occupied, unless its Authorise flag is
set. -/
def Obligations.NoAutomaticDischargeWhileOccupied : Prop :=
  ∀ s t : State, HoldLaw s → step s = .next t →
    HoldLaw t ∧
    ∀ z : Room, s.zones[z].state ≠ .discharging → t.zones[z].state = .discharging → t.zones[z].kind = .automatic →
      t.zones[z].authorise = false → t.occupied z = false

/-- R133: every step keeps every RESERVED cylinder with a zone that is on the reservation list and in HELD, COUNTDOWN, WAIT_BANK or
DISCHARGING, and every zone within its cylinder limit. -/
def Obligations.EveryStepKeepsTheReservationLaw : Prop :=
  ∀ s t : State, ReservationLaw s → step s = .next t → ReservationLaw t

/-- R138: every step keeps the achieved factor of every zone at the smaller of 999 and the quotient of 100 × S by V. -/
def Obligations.EveryStepKeepsTheAchievedFactor : Prop :=
  ∀ s t : State, AchievedLaw s → step s = .next t → AchievedLaw t ∧ ∀ z : Room, t.bank.coverage[z].achieved ≤ 999

/-- The laws that every step keeps hold after reset. -/
def Obligations.ResetMeetsTheLaws : Prop :=
  AlarmLaw State.reset ∧ OutputsLaw State.reset ∧ QueueLaw State.reset ∧ ManifoldLaw State.reset ∧ Settled State.reset ∧
  TokenLaw State.reset.bt ∧ ChainLaw State.reset.bt ∧ CapacityLaw State.reset ∧ OccupancyLaw State.reset ∧
  DelayLaw State.reset ∧ HoldLaw State.reset ∧ ReservationLaw State.reset ∧ AchievedLaw State.reset

end Statements
end

