-- ==== Sys2Proof/Laws/State.lean ====
section
/-! SUPPORT. Laws/State.lean: the small laws of the updates of one record: each leaves every other field of the state as it was and stores
what it is given. -/
namespace Sys2Proof.Machine

open Sys2Proof

@[simp] theorem State.setDoor_pending (s : State) (r : Room) (d : Door) : (State.setDoor s r d).pending = s.pending := rfl
@[simp] theorem State.setDoor_bt (s : State) (r : Room) (d : Door) : (State.setDoor s r d).bt = s.bt := rfl
@[simp] theorem State.setDoor_clk (s : State) (r : Room) (d : Door) : (State.setDoor s r d).clk = s.clk := rfl
@[simp] theorem State.setDoor_ctx (s : State) (r : Room) (d : Door) : (State.setDoor s r d).ctx = s.ctx := rfl
@[simp] theorem State.setDoor_roll (s : State) (r : Room) (d : Door) : (State.setDoor s r d).roll = s.roll := rfl
@[simp] theorem State.setDoor_doors (s : State) (r : Room) (d : Door) : (State.setDoor s r d).doors = s.doors.set r d := rfl
@[simp] theorem State.setDoor_alarms (s : State) (r : Room) (d : Door) : (State.setDoor s r d).alarms = s.alarms := rfl
@[simp] theorem State.setDoor_zones (s : State) (r : Room) (d : Door) : (State.setDoor s r d).zones = s.zones := rfl
@[simp] theorem State.setDoor_bank (s : State) (r : Room) (d : Door) : (State.setDoor s r d).bank = s.bank := rfl
@[simp] theorem State.setDoor_loop (s : State) (r : Room) (d : Door) : (State.setDoor s r d).loop = s.loop := rfl
@[simp] theorem State.setDoor_p1 (s : State) (r : Room) (d : Door) : (State.setDoor s r d).p1 = s.p1 := rfl
@[simp] theorem State.setDoor_p2 (s : State) (r : Room) (d : Door) : (State.setDoor s r d).p2 = s.p2 := rfl
@[simp] theorem State.setDoor_sup (s : State) (r : Room) (d : Door) : (State.setDoor s r d).sup = s.sup := rfl
@[simp] theorem State.setDoor_lines (s : State) (r : Room) (d : Door) : (State.setDoor s r d).lines = s.lines := rfl
@[simp] theorem State.setDoor_due (s : State) (r : Room) (d : Door) : (State.setDoor s r d).due = s.due := rfl

@[simp] theorem State.setZone_pending (s : State) (r : Room) (z : Zone) : (State.setZone s r z).pending = s.pending := rfl
@[simp] theorem State.setZone_bt (s : State) (r : Room) (z : Zone) : (State.setZone s r z).bt = s.bt := rfl
@[simp] theorem State.setZone_clk (s : State) (r : Room) (z : Zone) : (State.setZone s r z).clk = s.clk := rfl
@[simp] theorem State.setZone_ctx (s : State) (r : Room) (z : Zone) : (State.setZone s r z).ctx = s.ctx := rfl
@[simp] theorem State.setZone_roll (s : State) (r : Room) (z : Zone) : (State.setZone s r z).roll = s.roll := rfl
@[simp] theorem State.setZone_doors (s : State) (r : Room) (z : Zone) : (State.setZone s r z).doors = s.doors := rfl
@[simp] theorem State.setZone_alarms (s : State) (r : Room) (z : Zone) : (State.setZone s r z).alarms = s.alarms := rfl
@[simp] theorem State.setZone_zones (s : State) (r : Room) (z : Zone) : (State.setZone s r z).zones = s.zones.set r z := rfl
@[simp] theorem State.setZone_bank (s : State) (r : Room) (z : Zone) : (State.setZone s r z).bank = s.bank := rfl
@[simp] theorem State.setZone_loop (s : State) (r : Room) (z : Zone) : (State.setZone s r z).loop = s.loop := rfl
@[simp] theorem State.setZone_p1 (s : State) (r : Room) (z : Zone) : (State.setZone s r z).p1 = s.p1 := rfl
@[simp] theorem State.setZone_p2 (s : State) (r : Room) (z : Zone) : (State.setZone s r z).p2 = s.p2 := rfl
@[simp] theorem State.setZone_sup (s : State) (r : Room) (z : Zone) : (State.setZone s r z).sup = s.sup := rfl
@[simp] theorem State.setZone_lines (s : State) (r : Room) (z : Zone) : (State.setZone s r z).lines = s.lines := rfl
@[simp] theorem State.setZone_due (s : State) (r : Room) (z : Zone) : (State.setZone s r z).due = s.due := rfl

@[simp] theorem State.setCtx_pending (s : State) (r : Room) (c : Context) : (State.setCtx s r c).pending = s.pending := rfl
@[simp] theorem State.setCtx_bt (s : State) (r : Room) (c : Context) : (State.setCtx s r c).bt = s.bt := rfl
@[simp] theorem State.setCtx_clk (s : State) (r : Room) (c : Context) : (State.setCtx s r c).clk = s.clk := rfl
@[simp] theorem State.setCtx_ctx (s : State) (r : Room) (c : Context) : (State.setCtx s r c).ctx = s.ctx.set r c := rfl
@[simp] theorem State.setCtx_roll (s : State) (r : Room) (c : Context) : (State.setCtx s r c).roll = s.roll := rfl
@[simp] theorem State.setCtx_doors (s : State) (r : Room) (c : Context) : (State.setCtx s r c).doors = s.doors := rfl
@[simp] theorem State.setCtx_alarms (s : State) (r : Room) (c : Context) : (State.setCtx s r c).alarms = s.alarms := rfl
@[simp] theorem State.setCtx_zones (s : State) (r : Room) (c : Context) : (State.setCtx s r c).zones = s.zones := rfl
@[simp] theorem State.setCtx_bank (s : State) (r : Room) (c : Context) : (State.setCtx s r c).bank = s.bank := rfl
@[simp] theorem State.setCtx_loop (s : State) (r : Room) (c : Context) : (State.setCtx s r c).loop = s.loop := rfl
@[simp] theorem State.setCtx_p1 (s : State) (r : Room) (c : Context) : (State.setCtx s r c).p1 = s.p1 := rfl
@[simp] theorem State.setCtx_p2 (s : State) (r : Room) (c : Context) : (State.setCtx s r c).p2 = s.p2 := rfl
@[simp] theorem State.setCtx_sup (s : State) (r : Room) (c : Context) : (State.setCtx s r c).sup = s.sup := rfl
@[simp] theorem State.setCtx_lines (s : State) (r : Room) (c : Context) : (State.setCtx s r c).lines = s.lines := rfl
@[simp] theorem State.setCtx_due (s : State) (r : Room) (c : Context) : (State.setCtx s r c).due = s.due := rfl

@[simp] theorem State.setStation_pending (s : State) (a : Addr) (st : Station) : (State.setStation s a st).pending = s.pending := rfl
@[simp] theorem State.setStation_bt (s : State) (a : Addr) (st : Station) : (State.setStation s a st).bt = s.bt := rfl
@[simp] theorem State.setStation_clk (s : State) (a : Addr) (st : Station) : (State.setStation s a st).clk = s.clk := rfl
@[simp] theorem State.setStation_ctx (s : State) (a : Addr) (st : Station) : (State.setStation s a st).ctx = s.ctx := rfl
@[simp] theorem State.setStation_roll (s : State) (a : Addr) (st : Station) : (State.setStation s a st).roll = s.roll := rfl
@[simp] theorem State.setStation_doors (s : State) (a : Addr) (st : Station) : (State.setStation s a st).doors = s.doors := rfl
@[simp] theorem State.setStation_alarms (s : State) (a : Addr) (st : Station) : (State.setStation s a st).alarms = s.alarms := rfl
@[simp] theorem State.setStation_zones (s : State) (a : Addr) (st : Station) : (State.setStation s a st).zones = s.zones := rfl
@[simp] theorem State.setStation_bank (s : State) (a : Addr) (st : Station) : (State.setStation s a st).bank = s.bank := rfl
@[simp] theorem State.setStation_loop (s : State) (a : Addr) (st : Station) : (State.setStation s a st).loop = { s.loop with stations := s.loop.stations.set a st } := rfl
@[simp] theorem State.setStation_p1 (s : State) (a : Addr) (st : Station) : (State.setStation s a st).p1 = s.p1 := rfl
@[simp] theorem State.setStation_p2 (s : State) (a : Addr) (st : Station) : (State.setStation s a st).p2 = s.p2 := rfl
@[simp] theorem State.setStation_sup (s : State) (a : Addr) (st : Station) : (State.setStation s a st).sup = s.sup := rfl
@[simp] theorem State.setStation_lines (s : State) (a : Addr) (st : Station) : (State.setStation s a st).lines = s.lines := rfl
@[simp] theorem State.setStation_due (s : State) (a : Addr) (st : Station) : (State.setStation s a st).due = s.due := rfl

@[simp] theorem State.setRoom_pending (s : State) (r : Room) (x : RoomRecord) : (State.setRoom s r x).pending = s.pending := rfl
@[simp] theorem State.setRoom_bt (s : State) (r : Room) (x : RoomRecord) : (State.setRoom s r x).bt = s.bt := rfl
@[simp] theorem State.setRoom_clk (s : State) (r : Room) (x : RoomRecord) : (State.setRoom s r x).clk = s.clk := rfl
@[simp] theorem State.setRoom_ctx (s : State) (r : Room) (x : RoomRecord) : (State.setRoom s r x).ctx = s.ctx := rfl
@[simp] theorem State.setRoom_roll (s : State) (r : Room) (x : RoomRecord) : (State.setRoom s r x).roll = { s.roll with rooms := s.roll.rooms.set r x } := rfl
@[simp] theorem State.setRoom_doors (s : State) (r : Room) (x : RoomRecord) : (State.setRoom s r x).doors = s.doors := rfl
@[simp] theorem State.setRoom_alarms (s : State) (r : Room) (x : RoomRecord) : (State.setRoom s r x).alarms = s.alarms := rfl
@[simp] theorem State.setRoom_zones (s : State) (r : Room) (x : RoomRecord) : (State.setRoom s r x).zones = s.zones := rfl
@[simp] theorem State.setRoom_bank (s : State) (r : Room) (x : RoomRecord) : (State.setRoom s r x).bank = s.bank := rfl
@[simp] theorem State.setRoom_loop (s : State) (r : Room) (x : RoomRecord) : (State.setRoom s r x).loop = s.loop := rfl
@[simp] theorem State.setRoom_p1 (s : State) (r : Room) (x : RoomRecord) : (State.setRoom s r x).p1 = s.p1 := rfl
@[simp] theorem State.setRoom_p2 (s : State) (r : Room) (x : RoomRecord) : (State.setRoom s r x).p2 = s.p2 := rfl
@[simp] theorem State.setRoom_sup (s : State) (r : Room) (x : RoomRecord) : (State.setRoom s r x).sup = s.sup := rfl
@[simp] theorem State.setRoom_lines (s : State) (r : Room) (x : RoomRecord) : (State.setRoom s r x).lines = s.lines := rfl
@[simp] theorem State.setRoom_due (s : State) (r : Room) (x : RoomRecord) : (State.setRoom s r x).due = s.due := rfl

@[simp] theorem State.setEntries_pending (s : State) (m : Table OccEntry) : (State.setEntries s m).pending = s.pending := rfl
@[simp] theorem State.setEntries_bt (s : State) (m : Table OccEntry) : (State.setEntries s m).bt = s.bt := rfl
@[simp] theorem State.setEntries_clk (s : State) (m : Table OccEntry) : (State.setEntries s m).clk = s.clk := rfl
@[simp] theorem State.setEntries_ctx (s : State) (m : Table OccEntry) : (State.setEntries s m).ctx = s.ctx := rfl
@[simp] theorem State.setEntries_roll (s : State) (m : Table OccEntry) : (State.setEntries s m).roll = { s.roll with entries := m } := rfl
@[simp] theorem State.setEntries_doors (s : State) (m : Table OccEntry) : (State.setEntries s m).doors = s.doors := rfl
@[simp] theorem State.setEntries_alarms (s : State) (m : Table OccEntry) : (State.setEntries s m).alarms = s.alarms := rfl
@[simp] theorem State.setEntries_zones (s : State) (m : Table OccEntry) : (State.setEntries s m).zones = s.zones := rfl
@[simp] theorem State.setEntries_bank (s : State) (m : Table OccEntry) : (State.setEntries s m).bank = s.bank := rfl
@[simp] theorem State.setEntries_loop (s : State) (m : Table OccEntry) : (State.setEntries s m).loop = s.loop := rfl
@[simp] theorem State.setEntries_p1 (s : State) (m : Table OccEntry) : (State.setEntries s m).p1 = s.p1 := rfl
@[simp] theorem State.setEntries_p2 (s : State) (m : Table OccEntry) : (State.setEntries s m).p2 = s.p2 := rfl
@[simp] theorem State.setEntries_sup (s : State) (m : Table OccEntry) : (State.setEntries s m).sup = s.sup := rfl
@[simp] theorem State.setEntries_lines (s : State) (m : Table OccEntry) : (State.setEntries s m).lines = s.lines := rfl
@[simp] theorem State.setEntries_due (s : State) (m : Table OccEntry) : (State.setEntries s m).due = s.due := rfl

@[simp] theorem State.setBearers_pending (s : State) (m : Table Bearer) : (State.setBearers s m).pending = s.pending := rfl
@[simp] theorem State.setBearers_bt (s : State) (m : Table Bearer) : (State.setBearers s m).bt = { s.bt with bearers := m } := rfl
@[simp] theorem State.setBearers_clk (s : State) (m : Table Bearer) : (State.setBearers s m).clk = s.clk := rfl
@[simp] theorem State.setBearers_ctx (s : State) (m : Table Bearer) : (State.setBearers s m).ctx = s.ctx := rfl
@[simp] theorem State.setBearers_roll (s : State) (m : Table Bearer) : (State.setBearers s m).roll = s.roll := rfl
@[simp] theorem State.setBearers_doors (s : State) (m : Table Bearer) : (State.setBearers s m).doors = s.doors := rfl
@[simp] theorem State.setBearers_alarms (s : State) (m : Table Bearer) : (State.setBearers s m).alarms = s.alarms := rfl
@[simp] theorem State.setBearers_zones (s : State) (m : Table Bearer) : (State.setBearers s m).zones = s.zones := rfl
@[simp] theorem State.setBearers_bank (s : State) (m : Table Bearer) : (State.setBearers s m).bank = s.bank := rfl
@[simp] theorem State.setBearers_loop (s : State) (m : Table Bearer) : (State.setBearers s m).loop = s.loop := rfl
@[simp] theorem State.setBearers_p1 (s : State) (m : Table Bearer) : (State.setBearers s m).p1 = s.p1 := rfl
@[simp] theorem State.setBearers_p2 (s : State) (m : Table Bearer) : (State.setBearers s m).p2 = s.p2 := rfl
@[simp] theorem State.setBearers_sup (s : State) (m : Table Bearer) : (State.setBearers s m).sup = s.sup := rfl
@[simp] theorem State.setBearers_lines (s : State) (m : Table Bearer) : (State.setBearers s m).lines = s.lines := rfl
@[simp] theorem State.setBearers_due (s : State) (m : Table Bearer) : (State.setBearers s m).due = s.due := rfl

@[simp] theorem State.setCylinder_pending (s : State) (p : Pos) (c : Cylinder) : (State.setCylinder s p c).pending = s.pending := rfl
@[simp] theorem State.setCylinder_bt (s : State) (p : Pos) (c : Cylinder) : (State.setCylinder s p c).bt = s.bt := rfl
@[simp] theorem State.setCylinder_clk (s : State) (p : Pos) (c : Cylinder) : (State.setCylinder s p c).clk = s.clk := rfl
@[simp] theorem State.setCylinder_ctx (s : State) (p : Pos) (c : Cylinder) : (State.setCylinder s p c).ctx = s.ctx := rfl
@[simp] theorem State.setCylinder_roll (s : State) (p : Pos) (c : Cylinder) : (State.setCylinder s p c).roll = s.roll := rfl
@[simp] theorem State.setCylinder_doors (s : State) (p : Pos) (c : Cylinder) : (State.setCylinder s p c).doors = s.doors := rfl
@[simp] theorem State.setCylinder_alarms (s : State) (p : Pos) (c : Cylinder) : (State.setCylinder s p c).alarms = s.alarms := rfl
@[simp] theorem State.setCylinder_zones (s : State) (p : Pos) (c : Cylinder) : (State.setCylinder s p c).zones = s.zones := rfl
@[simp] theorem State.setCylinder_bank (s : State) (p : Pos) (c : Cylinder) : (State.setCylinder s p c).bank = { s.bank with cylinders := s.bank.cylinders.set p c } := rfl
@[simp] theorem State.setCylinder_loop (s : State) (p : Pos) (c : Cylinder) : (State.setCylinder s p c).loop = s.loop := rfl
@[simp] theorem State.setCylinder_p1 (s : State) (p : Pos) (c : Cylinder) : (State.setCylinder s p c).p1 = s.p1 := rfl
@[simp] theorem State.setCylinder_p2 (s : State) (p : Pos) (c : Cylinder) : (State.setCylinder s p c).p2 = s.p2 := rfl
@[simp] theorem State.setCylinder_sup (s : State) (p : Pos) (c : Cylinder) : (State.setCylinder s p c).sup = s.sup := rfl
@[simp] theorem State.setCylinder_lines (s : State) (p : Pos) (c : Cylinder) : (State.setCylinder s p c).lines = s.lines := rfl
@[simp] theorem State.setCylinder_due (s : State) (p : Pos) (c : Cylinder) : (State.setCylinder s p c).due = s.due := rfl

@[simp] theorem State.setCoverage_pending (s : State) (z : Room) (c : Coverage) : (State.setCoverage s z c).pending = s.pending := rfl
@[simp] theorem State.setCoverage_bt (s : State) (z : Room) (c : Coverage) : (State.setCoverage s z c).bt = s.bt := rfl
@[simp] theorem State.setCoverage_clk (s : State) (z : Room) (c : Coverage) : (State.setCoverage s z c).clk = s.clk := rfl
@[simp] theorem State.setCoverage_ctx (s : State) (z : Room) (c : Coverage) : (State.setCoverage s z c).ctx = s.ctx := rfl
@[simp] theorem State.setCoverage_roll (s : State) (z : Room) (c : Coverage) : (State.setCoverage s z c).roll = s.roll := rfl
@[simp] theorem State.setCoverage_doors (s : State) (z : Room) (c : Coverage) : (State.setCoverage s z c).doors = s.doors := rfl
@[simp] theorem State.setCoverage_alarms (s : State) (z : Room) (c : Coverage) : (State.setCoverage s z c).alarms = s.alarms := rfl
@[simp] theorem State.setCoverage_zones (s : State) (z : Room) (c : Coverage) : (State.setCoverage s z c).zones = s.zones := rfl
@[simp] theorem State.setCoverage_bank (s : State) (z : Room) (c : Coverage) : (State.setCoverage s z c).bank = { s.bank with coverage := s.bank.coverage.set z c } := rfl
@[simp] theorem State.setCoverage_loop (s : State) (z : Room) (c : Coverage) : (State.setCoverage s z c).loop = s.loop := rfl
@[simp] theorem State.setCoverage_p1 (s : State) (z : Room) (c : Coverage) : (State.setCoverage s z c).p1 = s.p1 := rfl
@[simp] theorem State.setCoverage_p2 (s : State) (z : Room) (c : Coverage) : (State.setCoverage s z c).p2 = s.p2 := rfl
@[simp] theorem State.setCoverage_sup (s : State) (z : Room) (c : Coverage) : (State.setCoverage s z c).sup = s.sup := rfl
@[simp] theorem State.setCoverage_lines (s : State) (z : Room) (c : Coverage) : (State.setCoverage s z c).lines = s.lines := rfl
@[simp] theorem State.setCoverage_due (s : State) (z : Room) (c : Coverage) : (State.setCoverage s z c).due = s.due := rfl

@[simp] theorem State.setAlarms_pending (s : State) (t : AlarmTable) : (State.setAlarms s t).pending = s.pending := rfl
@[simp] theorem State.setAlarms_bt (s : State) (t : AlarmTable) : (State.setAlarms s t).bt = s.bt := rfl
@[simp] theorem State.setAlarms_clk (s : State) (t : AlarmTable) : (State.setAlarms s t).clk = s.clk := rfl
@[simp] theorem State.setAlarms_ctx (s : State) (t : AlarmTable) : (State.setAlarms s t).ctx = s.ctx := rfl
@[simp] theorem State.setAlarms_roll (s : State) (t : AlarmTable) : (State.setAlarms s t).roll = s.roll := rfl
@[simp] theorem State.setAlarms_doors (s : State) (t : AlarmTable) : (State.setAlarms s t).doors = s.doors := rfl
@[simp] theorem State.setAlarms_alarms (s : State) (t : AlarmTable) : (State.setAlarms s t).alarms = t := rfl
@[simp] theorem State.setAlarms_zones (s : State) (t : AlarmTable) : (State.setAlarms s t).zones = s.zones := rfl
@[simp] theorem State.setAlarms_bank (s : State) (t : AlarmTable) : (State.setAlarms s t).bank = s.bank := rfl
@[simp] theorem State.setAlarms_loop (s : State) (t : AlarmTable) : (State.setAlarms s t).loop = s.loop := rfl
@[simp] theorem State.setAlarms_p1 (s : State) (t : AlarmTable) : (State.setAlarms s t).p1 = s.p1 := rfl
@[simp] theorem State.setAlarms_p2 (s : State) (t : AlarmTable) : (State.setAlarms s t).p2 = s.p2 := rfl
@[simp] theorem State.setAlarms_sup (s : State) (t : AlarmTable) : (State.setAlarms s t).sup = s.sup := rfl
@[simp] theorem State.setAlarms_lines (s : State) (t : AlarmTable) : (State.setAlarms s t).lines = s.lines := rfl
@[simp] theorem State.setAlarms_due (s : State) (t : AlarmTable) : (State.setAlarms s t).due = s.due := rfl

@[simp] theorem State.setPortOne_pending (s : State) (p : PortOne) : (State.setPortOne s p).pending = s.pending := rfl
@[simp] theorem State.setPortOne_bt (s : State) (p : PortOne) : (State.setPortOne s p).bt = s.bt := rfl
@[simp] theorem State.setPortOne_clk (s : State) (p : PortOne) : (State.setPortOne s p).clk = s.clk := rfl
@[simp] theorem State.setPortOne_ctx (s : State) (p : PortOne) : (State.setPortOne s p).ctx = s.ctx := rfl
@[simp] theorem State.setPortOne_roll (s : State) (p : PortOne) : (State.setPortOne s p).roll = s.roll := rfl
@[simp] theorem State.setPortOne_doors (s : State) (p : PortOne) : (State.setPortOne s p).doors = s.doors := rfl
@[simp] theorem State.setPortOne_alarms (s : State) (p : PortOne) : (State.setPortOne s p).alarms = s.alarms := rfl
@[simp] theorem State.setPortOne_zones (s : State) (p : PortOne) : (State.setPortOne s p).zones = s.zones := rfl
@[simp] theorem State.setPortOne_bank (s : State) (p : PortOne) : (State.setPortOne s p).bank = s.bank := rfl
@[simp] theorem State.setPortOne_loop (s : State) (p : PortOne) : (State.setPortOne s p).loop = s.loop := rfl
@[simp] theorem State.setPortOne_p1 (s : State) (p : PortOne) : (State.setPortOne s p).p1 = p := rfl
@[simp] theorem State.setPortOne_p2 (s : State) (p : PortOne) : (State.setPortOne s p).p2 = s.p2 := rfl
@[simp] theorem State.setPortOne_sup (s : State) (p : PortOne) : (State.setPortOne s p).sup = s.sup := rfl
@[simp] theorem State.setPortOne_lines (s : State) (p : PortOne) : (State.setPortOne s p).lines = s.lines := rfl
@[simp] theorem State.setPortOne_due (s : State) (p : PortOne) : (State.setPortOne s p).due = s.due := rfl

@[simp] theorem State.owe_pending (s : State) (d : Due) : (State.owe s d).pending = s.pending := rfl
@[simp] theorem State.owe_bt (s : State) (d : Due) : (State.owe s d).bt = s.bt := rfl
@[simp] theorem State.owe_clk (s : State) (d : Due) : (State.owe s d).clk = s.clk := rfl
@[simp] theorem State.owe_ctx (s : State) (d : Due) : (State.owe s d).ctx = s.ctx := rfl
@[simp] theorem State.owe_roll (s : State) (d : Due) : (State.owe s d).roll = s.roll := rfl
@[simp] theorem State.owe_doors (s : State) (d : Due) : (State.owe s d).doors = s.doors := rfl
@[simp] theorem State.owe_alarms (s : State) (d : Due) : (State.owe s d).alarms = s.alarms := rfl
@[simp] theorem State.owe_zones (s : State) (d : Due) : (State.owe s d).zones = s.zones := rfl
@[simp] theorem State.owe_bank (s : State) (d : Due) : (State.owe s d).bank = s.bank := rfl
@[simp] theorem State.owe_loop (s : State) (d : Due) : (State.owe s d).loop = s.loop := rfl
@[simp] theorem State.owe_p1 (s : State) (d : Due) : (State.owe s d).p1 = s.p1 := rfl
@[simp] theorem State.owe_p2 (s : State) (d : Due) : (State.owe s d).p2 = s.p2 := rfl
@[simp] theorem State.owe_sup (s : State) (d : Due) : (State.owe s d).sup = s.sup := rfl
@[simp] theorem State.owe_lines (s : State) (d : Due) : (State.owe s d).lines = s.lines := rfl
@[simp] theorem State.owe_due (s : State) (d : Due) : (State.owe s d).due = s.due ++ [d] := rfl

/-! ### Folds and conditionals: a field that every step of a fold keeps is kept by the fold. -/

@[simp] theorem foldl_pending {α : Type} (f : State → α → State) (h : ∀ s a, (f s a).pending = s.pending) (l : List α) (s : State) :
    (l.foldl f s).pending = s.pending := by
  induction l generalizing s with
  | nil => rfl
  | cons a l ih => simp [ih, h]

@[simp] theorem foldl_bt {α : Type} (f : State → α → State) (h : ∀ s a, (f s a).bt = s.bt) (l : List α) (s : State) :
    (l.foldl f s).bt = s.bt := by
  induction l generalizing s with
  | nil => rfl
  | cons a l ih => simp [ih, h]

@[simp] theorem foldl_clk {α : Type} (f : State → α → State) (h : ∀ s a, (f s a).clk = s.clk) (l : List α) (s : State) :
    (l.foldl f s).clk = s.clk := by
  induction l generalizing s with
  | nil => rfl
  | cons a l ih => simp [ih, h]

@[simp] theorem foldl_ctx {α : Type} (f : State → α → State) (h : ∀ s a, (f s a).ctx = s.ctx) (l : List α) (s : State) :
    (l.foldl f s).ctx = s.ctx := by
  induction l generalizing s with
  | nil => rfl
  | cons a l ih => simp [ih, h]

@[simp] theorem foldl_roll {α : Type} (f : State → α → State) (h : ∀ s a, (f s a).roll = s.roll) (l : List α) (s : State) :
    (l.foldl f s).roll = s.roll := by
  induction l generalizing s with
  | nil => rfl
  | cons a l ih => simp [ih, h]

@[simp] theorem foldl_doors {α : Type} (f : State → α → State) (h : ∀ s a, (f s a).doors = s.doors) (l : List α) (s : State) :
    (l.foldl f s).doors = s.doors := by
  induction l generalizing s with
  | nil => rfl
  | cons a l ih => simp [ih, h]

@[simp] theorem foldl_alarms {α : Type} (f : State → α → State) (h : ∀ s a, (f s a).alarms = s.alarms) (l : List α) (s : State) :
    (l.foldl f s).alarms = s.alarms := by
  induction l generalizing s with
  | nil => rfl
  | cons a l ih => simp [ih, h]

@[simp] theorem foldl_zones {α : Type} (f : State → α → State) (h : ∀ s a, (f s a).zones = s.zones) (l : List α) (s : State) :
    (l.foldl f s).zones = s.zones := by
  induction l generalizing s with
  | nil => rfl
  | cons a l ih => simp [ih, h]

@[simp] theorem foldl_bank {α : Type} (f : State → α → State) (h : ∀ s a, (f s a).bank = s.bank) (l : List α) (s : State) :
    (l.foldl f s).bank = s.bank := by
  induction l generalizing s with
  | nil => rfl
  | cons a l ih => simp [ih, h]

@[simp] theorem foldl_loop {α : Type} (f : State → α → State) (h : ∀ s a, (f s a).loop = s.loop) (l : List α) (s : State) :
    (l.foldl f s).loop = s.loop := by
  induction l generalizing s with
  | nil => rfl
  | cons a l ih => simp [ih, h]

@[simp] theorem foldl_p1 {α : Type} (f : State → α → State) (h : ∀ s a, (f s a).p1 = s.p1) (l : List α) (s : State) :
    (l.foldl f s).p1 = s.p1 := by
  induction l generalizing s with
  | nil => rfl
  | cons a l ih => simp [ih, h]

@[simp] theorem foldl_p2 {α : Type} (f : State → α → State) (h : ∀ s a, (f s a).p2 = s.p2) (l : List α) (s : State) :
    (l.foldl f s).p2 = s.p2 := by
  induction l generalizing s with
  | nil => rfl
  | cons a l ih => simp [ih, h]

@[simp] theorem foldl_sup {α : Type} (f : State → α → State) (h : ∀ s a, (f s a).sup = s.sup) (l : List α) (s : State) :
    (l.foldl f s).sup = s.sup := by
  induction l generalizing s with
  | nil => rfl
  | cons a l ih => simp [ih, h]

@[simp] theorem foldl_lines {α : Type} (f : State → α → State) (h : ∀ s a, (f s a).lines = s.lines) (l : List α) (s : State) :
    (l.foldl f s).lines = s.lines := by
  induction l generalizing s with
  | nil => rfl
  | cons a l ih => simp [ih, h]

@[simp] theorem foldl_due {α : Type} (f : State → α → State) (h : ∀ s a, (f s a).due = s.due) (l : List α) (s : State) :
    (l.foldl f s).due = s.due := by
  induction l generalizing s with
  | nil => rfl
  | cons a l ih => simp [ih, h]

theorem ite_fields (c : Prop) [Decidable c] (a b : State) :
    (if c then a else b).pending = (if c then a.pending else b.pending) ∧
    (if c then a else b).bt = (if c then a.bt else b.bt) ∧
    (if c then a else b).clk = (if c then a.clk else b.clk) ∧
    (if c then a else b).ctx = (if c then a.ctx else b.ctx) ∧
    (if c then a else b).roll = (if c then a.roll else b.roll) ∧
    (if c then a else b).doors = (if c then a.doors else b.doors) ∧
    (if c then a else b).alarms = (if c then a.alarms else b.alarms) ∧
    (if c then a else b).zones = (if c then a.zones else b.zones) ∧
    (if c then a else b).bank = (if c then a.bank else b.bank) ∧
    (if c then a else b).loop = (if c then a.loop else b.loop) ∧
    (if c then a else b).p1 = (if c then a.p1 else b.p1) ∧
    (if c then a else b).p2 = (if c then a.p2 else b.p2) ∧
    (if c then a else b).sup = (if c then a.sup else b.sup) ∧
    (if c then a else b).lines = (if c then a.lines else b.lines) ∧
    (if c then a else b).due = (if c then a.due else b.due) := by
  split <;> simp

end Sys2Proof.Machine
end

