-- ==== Sys2Proof/Laws/Frames.lean ====
section
/-! SUPPORT. Laws/Frames.lean: what each shared operation leaves alone: one law per operation, naming every field of the state that it
never changes. -/
set_option linter.unusedSimpArgs false
set_option linter.unreachableTactic false
set_option linter.unusedTactic false

namespace Sys2Proof.Machine

open Sys2Proof

@[simp] theorem State.raiseAlarm_frame (s : State) (k : AlarmKey) :
    let t := (State.raiseAlarm s k)
    t.pending = s.pending ∧ t.lines = s.lines ∧ t.p2 = s.p2 ∧ t.p1 = s.p1 ∧ t.sup = s.sup ∧ t.bt = s.bt ∧ t.clk = s.clk ∧ t.ctx = s.ctx ∧ t.roll = s.roll ∧ t.doors = s.doors ∧ t.zones = s.zones ∧ t.bank = s.bank ∧ t.loop = s.loop := by
  unfold State.raiseAlarm; and_intros <;> ((repeat' split) <;> first | rfl | simp [ite_fields])

@[simp] theorem State.alarmsGone_frame (s : State) (group : AlarmKey → Bool) :
    let t := (State.alarmsGone s group)
    t.pending = s.pending ∧ t.lines = s.lines ∧ t.p2 = s.p2 ∧ t.p1 = s.p1 ∧ t.sup = s.sup ∧ t.bt = s.bt ∧ t.clk = s.clk ∧ t.ctx = s.ctx ∧ t.roll = s.roll ∧ t.doors = s.doors ∧ t.zones = s.zones ∧ t.bank = s.bank ∧ t.loop = s.loop := ⟨rfl, rfl, rfl, rfl, rfl, rfl, rfl, rfl, rfl, rfl, rfl, rfl, rfl⟩

@[simp] theorem State.alarmGone_frame (s : State) (k : AlarmKey) :
    let t := (State.alarmGone s k)
    t.pending = s.pending ∧ t.lines = s.lines ∧ t.p2 = s.p2 ∧ t.p1 = s.p1 ∧ t.sup = s.sup ∧ t.bt = s.bt ∧ t.clk = s.clk ∧ t.ctx = s.ctx ∧ t.roll = s.roll ∧ t.doors = s.doors ∧ t.zones = s.zones ∧ t.bank = s.bank ∧ t.loop = s.loop := ⟨rfl, rfl, rfl, rfl, rfl, rfl, rfl, rfl, rfl, rfl, rfl, rfl, rfl⟩

@[simp] theorem State.dropContext_frame (s : State) (r : Room) :
    let t := (State.dropContext s r)
    t.pending = s.pending ∧ t.lines = s.lines ∧ t.p2 = s.p2 ∧ t.p1 = s.p1 ∧ t.sup = s.sup ∧ t.bt = s.bt ∧ t.clk = s.clk ∧ t.roll = s.roll ∧ t.doors = s.doors ∧ t.alarms = s.alarms ∧ t.zones = s.zones ∧ t.bank = s.bank ∧ t.loop = s.loop ∧ t.due = s.due := ⟨rfl, rfl, rfl, rfl, rfl, rfl, rfl, rfl, rfl, rfl, rfl, rfl, rfl, rfl⟩

@[simp] theorem State.dropContexts_frame (s : State) (test : Room → Context → Bool) :
    let t := (State.dropContexts s test)
    t.pending = s.pending ∧ t.lines = s.lines ∧ t.p2 = s.p2 ∧ t.p1 = s.p1 ∧ t.sup = s.sup ∧ t.bt = s.bt ∧ t.clk = s.clk ∧ t.roll = s.roll ∧ t.doors = s.doors ∧ t.alarms = s.alarms ∧ t.zones = s.zones ∧ t.bank = s.bank ∧ t.loop = s.loop ∧ t.due = s.due := ⟨rfl, rfl, rfl, rfl, rfl, rfl, rfl, rfl, rfl, rfl, rfl, rfl, rfl, rfl⟩

@[simp] theorem State.dropBearerContexts_frame (s : State) (b : Nat) :
    let t := (State.dropBearerContexts s b)
    t.pending = s.pending ∧ t.lines = s.lines ∧ t.p2 = s.p2 ∧ t.p1 = s.p1 ∧ t.sup = s.sup ∧ t.bt = s.bt ∧ t.clk = s.clk ∧ t.roll = s.roll ∧ t.doors = s.doors ∧ t.alarms = s.alarms ∧ t.zones = s.zones ∧ t.bank = s.bank ∧ t.loop = s.loop ∧ t.due = s.due := ⟨rfl, rfl, rfl, rfl, rfl, rfl, rfl, rfl, rfl, rfl, rfl, rfl, rfl, rfl⟩

@[simp] theorem State.dropEscortContexts_frame (s : State) (e : Nat) :
    let t := (State.dropEscortContexts s e)
    t.pending = s.pending ∧ t.lines = s.lines ∧ t.p2 = s.p2 ∧ t.p1 = s.p1 ∧ t.sup = s.sup ∧ t.bt = s.bt ∧ t.clk = s.clk ∧ t.roll = s.roll ∧ t.doors = s.doors ∧ t.alarms = s.alarms ∧ t.zones = s.zones ∧ t.bank = s.bank ∧ t.loop = s.loop ∧ t.due = s.due := ⟨rfl, rfl, rfl, rfl, rfl, rfl, rfl, rfl, rfl, rfl, rfl, rfl, rfl, rfl⟩

@[simp] theorem State.placeAt_frame (s : State) (a : Option Addr) (f : Slots → Slots) :
    let t := (State.placeAt s a f)
    t.pending = s.pending ∧ t.lines = s.lines ∧ t.p2 = s.p2 ∧ t.p1 = s.p1 ∧ t.sup = s.sup ∧ t.bt = s.bt ∧ t.clk = s.clk ∧ t.ctx = s.ctx ∧ t.roll = s.roll ∧ t.doors = s.doors ∧ t.alarms = s.alarms ∧ t.zones = s.zones ∧ t.bank = s.bank ∧ t.due = s.due := by
  unfold State.placeAt; and_intros <;> (split <;> simp [ite_fields])

@[simp] theorem State.placeBolt_frame (s : State) (r : Room) (c : BoltCommand) :
    let t := (State.placeBolt s r c)
    t.pending = s.pending ∧ t.lines = s.lines ∧ t.p2 = s.p2 ∧ t.p1 = s.p1 ∧ t.sup = s.sup ∧ t.bt = s.bt ∧ t.clk = s.clk ∧ t.ctx = s.ctx ∧ t.roll = s.roll ∧ t.doors = s.doors ∧ t.alarms = s.alarms ∧ t.zones = s.zones ∧ t.bank = s.bank ∧ t.due = s.due := by
  unfold State.placeBolt; and_intros <;> simp [ite_fields]

@[simp] theorem State.dropCancel_frame (s : State) (r : Room) :
    let t := (State.dropCancel s r)
    t.pending = s.pending ∧ t.lines = s.lines ∧ t.p2 = s.p2 ∧ t.p1 = s.p1 ∧ t.sup = s.sup ∧ t.bt = s.bt ∧ t.clk = s.clk ∧ t.ctx = s.ctx ∧ t.roll = s.roll ∧ t.doors = s.doors ∧ t.alarms = s.alarms ∧ t.zones = s.zones ∧ t.bank = s.bank ∧ t.due = s.due := by
  unfold State.dropCancel; and_intros <;> simp [ite_fields]

@[simp] theorem State.placeTone_frame (s : State) (r : Room) (t : Tone) :
    let t := (State.placeTone s r t)
    t.pending = s.pending ∧ t.lines = s.lines ∧ t.p2 = s.p2 ∧ t.p1 = s.p1 ∧ t.sup = s.sup ∧ t.bt = s.bt ∧ t.clk = s.clk ∧ t.ctx = s.ctx ∧ t.doors = s.doors ∧ t.zones = s.zones ∧ t.bank = s.bank := by
  unfold State.placeTone; and_intros <;> simp [ite_fields]

@[simp] theorem State.placeFire_frame (s : State) (r : Room) (ps : List Pos) :
    let t := (State.placeFire s r ps)
    t.pending = s.pending ∧ t.lines = s.lines ∧ t.p2 = s.p2 ∧ t.p1 = s.p1 ∧ t.sup = s.sup ∧ t.bt = s.bt ∧ t.clk = s.clk ∧ t.ctx = s.ctx ∧ t.roll = s.roll ∧ t.doors = s.doors ∧ t.alarms = s.alarms ∧ t.zones = s.zones ∧ t.bank = s.bank ∧ t.due = s.due := by
  unfold State.placeFire; and_intros <;> simp [ite_fields]

@[simp] theorem State.queueNotice_frame (s : State) (n : Notice) :
    let t := (State.queueNotice s n)
    t.pending = s.pending ∧ t.lines = s.lines ∧ t.p2 = s.p2 ∧ t.sup = s.sup ∧ t.bt = s.bt ∧ t.clk = s.clk ∧ t.ctx = s.ctx ∧ t.roll = s.roll ∧ t.doors = s.doors ∧ t.alarms = s.alarms ∧ t.zones = s.zones ∧ t.bank = s.bank ∧ t.loop = s.loop ∧ t.due = s.due := ⟨rfl, rfl, rfl, rfl, rfl, rfl, rfl, rfl, rfl, rfl, rfl, rfl, rfl, rfl⟩

@[simp] theorem State.payDue_frame (s : State) (d : Due) :
    let t := (State.payDue s d)
    t.pending = s.pending ∧ t.lines = s.lines ∧ t.p2 = s.p2 ∧ t.sup = s.sup ∧ t.bt = s.bt ∧ t.clk = s.clk ∧ t.ctx = s.ctx ∧ t.roll = s.roll ∧ t.doors = s.doors ∧ t.alarms = s.alarms ∧ t.zones = s.zones ∧ t.bank = s.bank ∧ t.loop = s.loop ∧ t.due = s.due := by
  unfold State.payDue; and_intros <;> (split <;> simp [ite_fields])

@[simp] theorem State.serveMarks_frame (s : State) (os : List NoticeObject) :
    let t := (State.serveMarks s os)
    t.pending = s.pending ∧ t.lines = s.lines ∧ t.p2 = s.p2 ∧ t.sup = s.sup ∧ t.bt = s.bt ∧ t.clk = s.clk ∧ t.ctx = s.ctx ∧ t.roll = s.roll ∧ t.doors = s.doors ∧ t.alarms = s.alarms ∧ t.zones = s.zones ∧ t.bank = s.bank ∧ t.loop = s.loop ∧ t.due = s.due := by
  induction os generalizing s with
  | nil => simp [State.serveMarks]
  | cons o os ih =>
    unfold State.serveMarks
    split
    · simpa using ih _
    · simp

@[simp] theorem State.coverageAlarm_frame (s : State) (o : State) (z : Room) :
    let t := (State.coverageAlarm s o z)
    t.pending = s.pending ∧ t.lines = s.lines ∧ t.p2 = s.p2 ∧ t.p1 = s.p1 ∧ t.sup = s.sup ∧ t.bt = s.bt ∧ t.clk = s.clk ∧ t.ctx = s.ctx ∧ t.roll = s.roll ∧ t.doors = s.doors ∧ t.zones = s.zones ∧ t.bank = s.bank ∧ t.loop = s.loop := by
  unfold State.coverageAlarm; and_intros <;> (split <;> simp [ite_fields])

@[simp] theorem State.coverageAlarms_frame (s o : State) :
    let t := (State.coverageAlarms s o)
    t.pending = s.pending ∧ t.lines = s.lines ∧ t.p2 = s.p2 ∧ t.p1 = s.p1 ∧ t.sup = s.sup ∧ t.bt = s.bt ∧ t.clk = s.clk ∧ t.ctx = s.ctx ∧ t.roll = s.roll ∧ t.doors = s.doors ∧ t.zones = s.zones ∧ t.bank = s.bank ∧ t.loop = s.loop := by
  unfold State.coverageAlarms; and_intros <;> simp [ite_fields]

@[simp] theorem State.deriveOutputs_frame (s o : State) :
    let t := (State.deriveOutputs s o)
    t.pending = s.pending ∧ t.lines = s.lines ∧ t.p2 = s.p2 ∧ t.p1 = s.p1 ∧ t.sup = s.sup ∧ t.bt = s.bt ∧ t.clk = s.clk ∧ t.ctx = s.ctx ∧ t.roll = s.roll ∧ t.doors = s.doors ∧ t.zones = s.zones ∧ t.bank = s.bank ∧ t.loop = s.loop ∧ t.due = s.due := ⟨rfl, rfl, rfl, rfl, rfl, rfl, rfl, rfl, rfl, rfl, rfl, rfl, rfl, rfl⟩

@[simp] theorem State.flush_frame (s o : State) :
    let t := (State.flush s o)
    t.pending = s.pending ∧ t.lines = s.lines ∧ t.p2 = s.p2 ∧ t.sup = s.sup ∧ t.bt = s.bt ∧ t.clk = s.clk ∧ t.ctx = s.ctx ∧ t.roll = s.roll ∧ t.doors = s.doors ∧ t.alarms = s.alarms ∧ t.zones = s.zones ∧ t.bank = s.bank ∧ t.loop = s.loop := by
  unfold State.flush; and_intros <;> simp [ite_fields]

@[simp] theorem State.updateCheck_frame (s o : State) :
    let t := (State.updateCheck s o)
    t.pending = s.pending ∧ t.lines = s.lines ∧ t.p2 = s.p2 ∧ t.p1 = s.p1 ∧ t.bt = s.bt ∧ t.clk = s.clk ∧ t.ctx = s.ctx ∧ t.roll = s.roll ∧ t.doors = s.doors ∧ t.alarms = s.alarms ∧ t.zones = s.zones ∧ t.bank = s.bank ∧ t.loop = s.loop ∧ t.due = s.due := ⟨rfl, rfl, rfl, rfl, rfl, rfl, rfl, rfl, rfl, rfl, rfl, rfl, rfl, rfl⟩

@[simp] theorem State.applyAfter_frame (s : State) (a : AfterSent) :
    let t := (State.applyAfter s a)
    t.pending = s.pending ∧ t.lines = s.lines ∧ t.p2 = s.p2 ∧ t.bt = s.bt ∧ t.clk = s.clk ∧ t.ctx = s.ctx ∧ t.roll = s.roll ∧ t.doors = s.doors ∧ t.alarms = s.alarms ∧ t.zones = s.zones ∧ t.bank = s.bank ∧ t.loop = s.loop ∧ t.due = s.due := by
  unfold State.applyAfter; and_intros <;> (split <;> simp [ite_fields])

@[simp] theorem State.applyNow_frame (s : State) (a : AfterSent) :
    let t := (State.applyNow s a)
    t.pending = s.pending ∧ t.lines = s.lines ∧ t.p2 = s.p2 ∧ t.bt = s.bt ∧ t.clk = s.clk ∧ t.ctx = s.ctx ∧ t.roll = s.roll ∧ t.doors = s.doors ∧ t.alarms = s.alarms ∧ t.zones = s.zones ∧ t.bank = s.bank ∧ t.loop = s.loop ∧ t.due = s.due := by
  unfold State.applyNow; and_intros <;> simp

@[simp] theorem State.finish_frame (o s : State) :
    let t := (State.finish o s)
    t.pending = s.pending ∧ t.lines = s.lines ∧ t.p2 = s.p2 ∧ t.bt = s.bt ∧ t.clk = s.clk ∧ t.ctx = s.ctx ∧ t.roll = s.roll ∧ t.doors = s.doors ∧ t.zones = s.zones ∧ t.bank = s.bank ∧ t.loop = s.loop := by
  unfold State.finish; and_intros <;> simp [ite_fields]

@[simp] theorem State.refreshCoverage_frame (s : State) (z : Room) :
    let t := (State.refreshCoverage s z)
    t.pending = s.pending ∧ t.lines = s.lines ∧ t.p2 = s.p2 ∧ t.p1 = s.p1 ∧ t.sup = s.sup ∧ t.bt = s.bt ∧ t.clk = s.clk ∧ t.ctx = s.ctx ∧ t.roll = s.roll ∧ t.doors = s.doors ∧ t.alarms = s.alarms ∧ t.zones = s.zones ∧ t.loop = s.loop ∧ t.due = s.due := ⟨rfl, rfl, rfl, rfl, rfl, rfl, rfl, rfl, rfl, rfl, rfl, rfl, rfl, rfl⟩

@[simp] theorem State.refreshAll_frame (s : State) :
    let t := (State.refreshAll s)
    t.pending = s.pending ∧ t.lines = s.lines ∧ t.p2 = s.p2 ∧ t.p1 = s.p1 ∧ t.sup = s.sup ∧ t.bt = s.bt ∧ t.clk = s.clk ∧ t.ctx = s.ctx ∧ t.roll = s.roll ∧ t.doors = s.doors ∧ t.alarms = s.alarms ∧ t.zones = s.zones ∧ t.loop = s.loop ∧ t.due = s.due := ⟨rfl, rfl, rfl, rfl, rfl, rfl, rfl, rfl, rfl, rfl, rfl, rfl, rfl, rfl⟩

@[simp] theorem State.reserveAll_frame (s : State) (z : Room) (ps : List Pos) :
    let t := (State.reserveAll s z ps)
    t.pending = s.pending ∧ t.lines = s.lines ∧ t.p2 = s.p2 ∧ t.p1 = s.p1 ∧ t.sup = s.sup ∧ t.bt = s.bt ∧ t.clk = s.clk ∧ t.ctx = s.ctx ∧ t.roll = s.roll ∧ t.doors = s.doors ∧ t.alarms = s.alarms ∧ t.zones = s.zones ∧ t.loop = s.loop ∧ t.due = s.due := ⟨rfl, rfl, rfl, rfl, rfl, rfl, rfl, rfl, rfl, rfl, rfl, rfl, rfl, rfl⟩

@[simp] theorem State.topUpZone_frame (s : State) (z : Room) :
    let t := (State.topUpZone s z)
    t.pending = s.pending ∧ t.lines = s.lines ∧ t.p2 = s.p2 ∧ t.p1 = s.p1 ∧ t.sup = s.sup ∧ t.bt = s.bt ∧ t.clk = s.clk ∧ t.ctx = s.ctx ∧ t.roll = s.roll ∧ t.doors = s.doors ∧ t.alarms = s.alarms ∧ t.zones = s.zones ∧ t.loop = s.loop ∧ t.due = s.due := by
  unfold State.topUpZone; and_intros <;> simp [ite_fields]

@[simp] theorem State.topUp_frame (s : State) :
    let t := (State.topUp s)
    t.pending = s.pending ∧ t.lines = s.lines ∧ t.p2 = s.p2 ∧ t.p1 = s.p1 ∧ t.sup = s.sup ∧ t.bt = s.bt ∧ t.clk = s.clk ∧ t.ctx = s.ctx ∧ t.roll = s.roll ∧ t.doors = s.doors ∧ t.alarms = s.alarms ∧ t.zones = s.zones ∧ t.loop = s.loop ∧ t.due = s.due := by
  unfold State.topUp; and_intros <;> simp [ite_fields]

@[simp] theorem State.reserve_frame (s : State) (z : Room) :
    let t := (State.reserve s z)
    t.pending = s.pending ∧ t.lines = s.lines ∧ t.p2 = s.p2 ∧ t.p1 = s.p1 ∧ t.sup = s.sup ∧ t.bt = s.bt ∧ t.clk = s.clk ∧ t.ctx = s.ctx ∧ t.roll = s.roll ∧ t.doors = s.doors ∧ t.alarms = s.alarms ∧ t.zones = s.zones ∧ t.loop = s.loop ∧ t.due = s.due := ⟨rfl, rfl, rfl, rfl, rfl, rfl, rfl, rfl, rfl, rfl, rfl, rfl, rfl, rfl⟩

@[simp] theorem State.changeReserved_frame (s : State) (z : Room) (f : Cylinder → Cylinder) :
    let t := (State.changeReserved s z f)
    t.pending = s.pending ∧ t.lines = s.lines ∧ t.p2 = s.p2 ∧ t.p1 = s.p1 ∧ t.sup = s.sup ∧ t.bt = s.bt ∧ t.clk = s.clk ∧ t.ctx = s.ctx ∧ t.roll = s.roll ∧ t.doors = s.doors ∧ t.alarms = s.alarms ∧ t.zones = s.zones ∧ t.loop = s.loop ∧ t.due = s.due := ⟨rfl, rfl, rfl, rfl, rfl, rfl, rfl, rfl, rfl, rfl, rfl, rfl, rfl, rfl⟩

@[simp] theorem State.leaveReservations_frame (s : State) (z : Room) :
    let t := (State.leaveReservations s z)
    t.pending = s.pending ∧ t.lines = s.lines ∧ t.p2 = s.p2 ∧ t.p1 = s.p1 ∧ t.sup = s.sup ∧ t.bt = s.bt ∧ t.clk = s.clk ∧ t.ctx = s.ctx ∧ t.roll = s.roll ∧ t.doors = s.doors ∧ t.alarms = s.alarms ∧ t.zones = s.zones ∧ t.loop = s.loop ∧ t.due = s.due := ⟨rfl, rfl, rfl, rfl, rfl, rfl, rfl, rfl, rfl, rfl, rfl, rfl, rfl, rfl⟩

@[simp] theorem State.releaseReservation_frame (s : State) (z : Room) :
    let t := (State.releaseReservation s z)
    t.pending = s.pending ∧ t.lines = s.lines ∧ t.p2 = s.p2 ∧ t.p1 = s.p1 ∧ t.sup = s.sup ∧ t.bt = s.bt ∧ t.clk = s.clk ∧ t.ctx = s.ctx ∧ t.roll = s.roll ∧ t.doors = s.doors ∧ t.alarms = s.alarms ∧ t.zones = s.zones ∧ t.loop = s.loop ∧ t.due = s.due := by
  unfold State.releaseReservation; and_intros <;> simp [ite_fields]

@[simp] theorem State.account_frame (s : State) (z : Room) (complete : Bool) :
    let t := (State.account s z complete)
    t.pending = s.pending ∧ t.lines = s.lines ∧ t.p2 = s.p2 ∧ t.p1 = s.p1 ∧ t.sup = s.sup ∧ t.bt = s.bt ∧ t.clk = s.clk ∧ t.ctx = s.ctx ∧ t.roll = s.roll ∧ t.doors = s.doors ∧ t.alarms = s.alarms ∧ t.zones = s.zones ∧ t.loop = s.loop ∧ t.due = s.due := ⟨rfl, rfl, rfl, rfl, rfl, rfl, rfl, rfl, rfl, rfl, rfl, rfl, rfl, rfl⟩

@[simp] theorem State.takeFlags_frame (s : State) (low : List Bool) :
    let t := (State.takeFlags s low)
    t.pending = s.pending ∧ t.lines = s.lines ∧ t.p2 = s.p2 ∧ t.p1 = s.p1 ∧ t.sup = s.sup ∧ t.bt = s.bt ∧ t.clk = s.clk ∧ t.ctx = s.ctx ∧ t.roll = s.roll ∧ t.doors = s.doors ∧ t.alarms = s.alarms ∧ t.zones = s.zones ∧ t.loop = s.loop ∧ t.due = s.due := by
  unfold State.takeFlags; and_intros <;> simp [ite_fields]

@[simp] theorem State.flagsUnknown_frame (s : State) :
    let t := (State.flagsUnknown s)
    t.pending = s.pending ∧ t.lines = s.lines ∧ t.p2 = s.p2 ∧ t.p1 = s.p1 ∧ t.sup = s.sup ∧ t.bt = s.bt ∧ t.clk = s.clk ∧ t.ctx = s.ctx ∧ t.roll = s.roll ∧ t.doors = s.doors ∧ t.alarms = s.alarms ∧ t.zones = s.zones ∧ t.loop = s.loop ∧ t.due = s.due := ⟨rfl, rfl, rfl, rfl, rfl, rfl, rfl, rfl, rfl, rfl, rfl, rfl, rfl, rfl⟩

@[simp] theorem State.afterCylinder_frame (s : State) (offered : Bool) :
    let t := (State.afterCylinder s offered)
    t.pending = s.pending ∧ t.lines = s.lines ∧ t.p2 = s.p2 ∧ t.p1 = s.p1 ∧ t.sup = s.sup ∧ t.bt = s.bt ∧ t.clk = s.clk ∧ t.ctx = s.ctx ∧ t.roll = s.roll ∧ t.doors = s.doors ∧ t.alarms = s.alarms ∧ t.zones = s.zones ∧ t.loop = s.loop ∧ t.due = s.due := by
  unfold State.afterCylinder; and_intros <;> simp [ite_fields]

@[simp] theorem State.endExpired_frame (s : State) (r : Room) :
    let t := (State.endExpired s r)
    t.pending = s.pending ∧ t.lines = s.lines ∧ t.p2 = s.p2 ∧ t.p1 = s.p1 ∧ t.sup = s.sup ∧ t.bt = s.bt ∧ t.clk = s.clk ∧ t.ctx = s.ctx ∧ t.roll = s.roll ∧ t.zones = s.zones ∧ t.bank = s.bank ∧ t.loop = s.loop := by
  unfold State.endExpired; and_intros <;> simp [ite_fields]

@[simp] theorem State.resetHeld_frame (s : State) (r : Room) (t : HeldTimer) :
    let t := (State.resetHeld s r t)
    t.pending = s.pending ∧ t.lines = s.lines ∧ t.p2 = s.p2 ∧ t.p1 = s.p1 ∧ t.sup = s.sup ∧ t.bt = s.bt ∧ t.clk = s.clk ∧ t.ctx = s.ctx ∧ t.roll = s.roll ∧ t.zones = s.zones ∧ t.bank = s.bank ∧ t.loop = s.loop := by
  unfold State.resetHeld; and_intros <;> simp [ite_fields]

@[simp] theorem State.loadHeld_frame (s : State) (r : Room) :
    let t := (State.loadHeld s r)
    t.pending = s.pending ∧ t.lines = s.lines ∧ t.p2 = s.p2 ∧ t.p1 = s.p1 ∧ t.sup = s.sup ∧ t.bt = s.bt ∧ t.clk = s.clk ∧ t.ctx = s.ctx ∧ t.roll = s.roll ∧ t.zones = s.zones ∧ t.bank = s.bank ∧ t.loop = s.loop := by
  unfold State.loadHeld; and_intros <;> simp [ite_fields]

@[simp] theorem State.stopHeld_frame (s : State) (r : Room) :
    let t := (State.stopHeld s r)
    t.pending = s.pending ∧ t.lines = s.lines ∧ t.p2 = s.p2 ∧ t.p1 = s.p1 ∧ t.sup = s.sup ∧ t.bt = s.bt ∧ t.clk = s.clk ∧ t.ctx = s.ctx ∧ t.roll = s.roll ∧ t.zones = s.zones ∧ t.bank = s.bank ∧ t.loop = s.loop := by
  unfold State.stopHeld; and_intros <;> simp [ite_fields]

@[simp] theorem State.dropHold_frame (s : State) (r : Room) :
    let t := (State.dropHold s r)
    t.pending = s.pending ∧ t.lines = s.lines ∧ t.p2 = s.p2 ∧ t.p1 = s.p1 ∧ t.sup = s.sup ∧ t.bt = s.bt ∧ t.clk = s.clk ∧ t.ctx = s.ctx ∧ t.roll = s.roll ∧ t.zones = s.zones ∧ t.bank = s.bank ∧ t.loop = s.loop := by
  unfold State.dropHold; and_intros <;> simp [ite_fields]

@[simp] theorem State.reportEnvelope_frame (s : State) (r : Room) :
    let t := (State.reportEnvelope s r)
    t.pending = s.pending ∧ t.lines = s.lines ∧ t.p2 = s.p2 ∧ t.p1 = s.p1 ∧ t.sup = s.sup ∧ t.bt = s.bt ∧ t.clk = s.clk ∧ t.ctx = s.ctx ∧ t.roll = s.roll ∧ t.doors = s.doors ∧ t.alarms = s.alarms ∧ t.bank = s.bank ∧ t.loop = s.loop ∧ t.due = s.due := ⟨rfl, rfl, rfl, rfl, rfl, rfl, rfl, rfl, rfl, rfl, rfl, rfl, rfl, rfl⟩

@[simp] theorem State.deriveEnvelope_frame (s : State) (r : Room) :
    let t := (State.deriveEnvelope s r)
    t.pending = s.pending ∧ t.lines = s.lines ∧ t.p2 = s.p2 ∧ t.p1 = s.p1 ∧ t.sup = s.sup ∧ t.bt = s.bt ∧ t.clk = s.clk ∧ t.ctx = s.ctx ∧ t.roll = s.roll ∧ t.alarms = s.alarms ∧ t.bank = s.bank ∧ t.loop = s.loop ∧ t.due = s.due := by
  unfold State.deriveEnvelope; and_intros <;> simp [ite_fields]

@[simp] theorem State.cancelRelease_frame (s : State) (r : Room) :
    let t := (State.cancelRelease s r)
    t.pending = s.pending ∧ t.lines = s.lines ∧ t.p2 = s.p2 ∧ t.p1 = s.p1 ∧ t.sup = s.sup ∧ t.bt = s.bt ∧ t.clk = s.clk ∧ t.ctx = s.ctx ∧ t.roll = s.roll ∧ t.alarms = s.alarms ∧ t.zones = s.zones ∧ t.bank = s.bank ∧ t.due = s.due := by
  unfold State.cancelRelease; and_intros <;> simp [ite_fields]

@[simp] theorem State.setCloseDemand_frame (s : State) (r : Room) (demand : Bool) :
    let t := (State.setCloseDemand s r demand)
    t.pending = s.pending ∧ t.lines = s.lines ∧ t.p2 = s.p2 ∧ t.p1 = s.p1 ∧ t.sup = s.sup ∧ t.bt = s.bt ∧ t.clk = s.clk ∧ t.ctx = s.ctx ∧ t.roll = s.roll ∧ t.bank = s.bank := by
  unfold State.setCloseDemand; and_intros <;> simp [ite_fields]

@[simp] theorem State.doorUnknown_frame (s : State) (r : Room) (cause : UnknownCause) :
    let t := (State.doorUnknown s r cause)
    t.pending = s.pending ∧ t.lines = s.lines ∧ t.p2 = s.p2 ∧ t.p1 = s.p1 ∧ t.sup = s.sup ∧ t.bt = s.bt ∧ t.clk = s.clk ∧ t.roll = s.roll ∧ t.bank = s.bank ∧ t.loop = s.loop := by
  unfold State.doorUnknown; and_intros <;> simp [ite_fields]

@[simp] theorem State.doorPointsLost_frame (s : State) (r : Room) :
    let t := (State.doorPointsLost s r)
    t.pending = s.pending ∧ t.lines = s.lines ∧ t.p2 = s.p2 ∧ t.p1 = s.p1 ∧ t.sup = s.sup ∧ t.bt = s.bt ∧ t.clk = s.clk ∧ t.ctx = s.ctx ∧ t.roll = s.roll ∧ t.alarms = s.alarms ∧ t.zones = s.zones ∧ t.bank = s.bank ∧ t.loop = s.loop ∧ t.due = s.due := ⟨rfl, rfl, rfl, rfl, rfl, rfl, rfl, rfl, rfl, rfl, rfl, rfl, rfl, rfl⟩

@[simp] theorem State.enterZone_frame (s : State) (z : Room) (st : ZoneState) :
    let t := (State.enterZone s z st)
    t.pending = s.pending ∧ t.lines = s.lines ∧ t.p2 = s.p2 ∧ t.p1 = s.p1 ∧ t.sup = s.sup ∧ t.bt = s.bt ∧ t.clk = s.clk ∧ t.roll = s.roll := by
  unfold State.enterZone; and_intros <;> simp [ite_fields]

@[simp] theorem State.leaveQueue_frame (s : State) (z : Room) :
    let t := (State.leaveQueue s z)
    t.pending = s.pending ∧ t.lines = s.lines ∧ t.p2 = s.p2 ∧ t.p1 = s.p1 ∧ t.sup = s.sup ∧ t.bt = s.bt ∧ t.clk = s.clk ∧ t.ctx = s.ctx ∧ t.roll = s.roll ∧ t.doors = s.doors ∧ t.alarms = s.alarms ∧ t.zones = s.zones ∧ t.loop = s.loop ∧ t.due = s.due := ⟨rfl, rfl, rfl, rfl, rfl, rfl, rfl, rfl, rfl, rfl, rfl, rfl, rfl, rfl⟩

@[simp] theorem State.actOnHolds_frame (s : State) (z : Room) :
    let t := (State.actOnHolds s z)
    t.pending = s.pending ∧ t.lines = s.lines ∧ t.p2 = s.p2 ∧ t.p1 = s.p1 ∧ t.sup = s.sup ∧ t.bt = s.bt ∧ t.clk = s.clk ∧ t.roll = s.roll := by
  unfold State.actOnHolds; and_intros <;> (dsimp only; split <;> simp [ite_fields])

@[simp] theorem State.rederive_frame (s : State) (z : Room) :
    let t := (State.rederive s z)
    t.pending = s.pending ∧ t.lines = s.lines ∧ t.p2 = s.p2 ∧ t.p1 = s.p1 ∧ t.sup = s.sup ∧ t.bt = s.bt ∧ t.clk = s.clk ∧ t.roll = s.roll := by
  unfold State.rederive; and_intros <;> simp [ite_fields]

@[simp] theorem State.confirm_frame (s : State) (z : Room) (k : SequenceKind) :
    let t := (State.confirm s z k)
    t.pending = s.pending ∧ t.lines = s.lines ∧ t.p2 = s.p2 ∧ t.p1 = s.p1 ∧ t.sup = s.sup ∧ t.bt = s.bt ∧ t.clk = s.clk ∧ t.roll = s.roll := by
  unfold State.confirm; and_intros <;> simp [ite_fields]

@[simp] theorem State.testInputs_frame (s : State) (z : Room) :
    let t := (State.testInputs s z)
    t.pending = s.pending ∧ t.lines = s.lines ∧ t.p2 = s.p2 ∧ t.p1 = s.p1 ∧ t.sup = s.sup ∧ t.bt = s.bt ∧ t.clk = s.clk ∧ t.roll = s.roll := by
  unfold State.testInputs; and_intros <;> (dsimp only; split <;> (try split) <;> simp [ite_fields])

@[simp] theorem State.grant_frame (s : State) (z : Room) :
    let t := (State.grant s z)
    t.pending = s.pending ∧ t.lines = s.lines ∧ t.p2 = s.p2 ∧ t.p1 = s.p1 ∧ t.sup = s.sup ∧ t.bt = s.bt ∧ t.clk = s.clk ∧ t.roll = s.roll := by
  unfold State.grant; and_intros <;> simp [ite_fields]

@[simp] theorem State.askManifold_frame (s : State) (z : Room) :
    let t := (State.askManifold s z)
    t.pending = s.pending ∧ t.lines = s.lines ∧ t.p2 = s.p2 ∧ t.p1 = s.p1 ∧ t.sup = s.sup ∧ t.bt = s.bt ∧ t.clk = s.clk ∧ t.roll = s.roll := by
  unfold State.askManifold; and_intros <;> simp [ite_fields]

@[simp] theorem State.grantNext_frame (s : State) :
    let t := (State.grantNext s)
    t.pending = s.pending ∧ t.lines = s.lines ∧ t.p2 = s.p2 ∧ t.p1 = s.p1 ∧ t.sup = s.sup ∧ t.bt = s.bt ∧ t.clk = s.clk ∧ t.roll = s.roll := by
  unfold State.grantNext; and_intros <;> (split <;> simp [ite_fields])

@[simp] theorem State.endDischarge_frame (s : State) (z : Room) (complete : Bool) :
    let t := (State.endDischarge s z complete)
    t.pending = s.pending ∧ t.lines = s.lines ∧ t.p2 = s.p2 ∧ t.p1 = s.p1 ∧ t.sup = s.sup ∧ t.bt = s.bt ∧ t.clk = s.clk ∧ t.roll = s.roll := by
  unfold State.endDischarge; and_intros <;> simp [ite_fields]

@[simp] theorem State.completeDischarge_frame (s : State) (z : Room) :
    let t := (State.completeDischarge s z)
    t.pending = s.pending ∧ t.lines = s.lines ∧ t.p2 = s.p2 ∧ t.p1 = s.p1 ∧ t.sup = s.sup ∧ t.bt = s.bt ∧ t.clk = s.clk ∧ t.roll = s.roll := by
  unfold State.completeDischarge; and_intros <;> simp [ite_fields]

@[simp] theorem State.failDischarge_frame (s : State) (z : Room) :
    let t := (State.failDischarge s z)
    t.pending = s.pending ∧ t.lines = s.lines ∧ t.p2 = s.p2 ∧ t.p1 = s.p1 ∧ t.sup = s.sup ∧ t.bt = s.bt ∧ t.clk = s.clk ∧ t.roll = s.roll := by
  unfold State.failDischarge; and_intros <;> simp [ite_fields]

@[simp] theorem State.manualOverride_frame (s : State) (z : Room) :
    let t := (State.manualOverride s z)
    t.pending = s.pending ∧ t.lines = s.lines ∧ t.p2 = s.p2 ∧ t.p1 = s.p1 ∧ t.sup = s.sup ∧ t.bt = s.bt ∧ t.clk = s.clk ∧ t.ctx = s.ctx ∧ t.roll = s.roll ∧ t.doors = s.doors ∧ t.bank = s.bank ∧ t.loop = s.loop := by
  unfold State.manualOverride; and_intros <;> simp [ite_fields]

@[simp] theorem State.followFlow_frame (s : State) (z : Room) :
    let t := (State.followFlow s z)
    t.pending = s.pending ∧ t.lines = s.lines ∧ t.p2 = s.p2 ∧ t.p1 = s.p1 ∧ t.sup = s.sup ∧ t.bt = s.bt ∧ t.clk = s.clk ∧ t.roll = s.roll := by
  unfold State.followFlow; and_intros <;> (dsimp only; split <;> (try split) <;> simp [ite_fields])

@[simp] theorem State.zoneInputs_frame (s : State) (z : Room) (new : ZoneInputs) :
    let t := (State.zoneInputs s z new)
    t.pending = s.pending ∧ t.lines = s.lines ∧ t.p2 = s.p2 ∧ t.p1 = s.p1 ∧ t.sup = s.sup ∧ t.bt = s.bt ∧ t.clk = s.clk ∧ t.roll = s.roll := by
  unfold State.zoneInputs; and_intros <;> simp [ite_fields]

@[simp] theorem State.endCountdown_frame (s : State) (z : Room) :
    let t := (State.endCountdown s z)
    t.pending = s.pending ∧ t.lines = s.lines ∧ t.p2 = s.p2 ∧ t.p1 = s.p1 ∧ t.sup = s.sup ∧ t.bt = s.bt ∧ t.clk = s.clk ∧ t.roll = s.roll := by
  unfold State.endCountdown; and_intros <;> simp [ite_fields]

@[simp] theorem State.endSoak_frame (s : State) (z : Room) :
    let t := (State.endSoak s z)
    t.pending = s.pending ∧ t.lines = s.lines ∧ t.p2 = s.p2 ∧ t.p1 = s.p1 ∧ t.sup = s.sup ∧ t.bt = s.bt ∧ t.clk = s.clk ∧ t.roll = s.roll := by
  unfold State.endSoak; and_intros <;> simp [ite_fields]

@[simp] theorem State.takeCountdownEnd_frame (s : State) (z : Room) :
    let t := (State.takeCountdownEnd s z)
    t.pending = s.pending ∧ t.lines = s.lines ∧ t.p2 = s.p2 ∧ t.bt = s.bt ∧ t.clk = s.clk ∧ t.roll = s.roll := by
  unfold State.takeCountdownEnd expiry State.event; and_intros <;> simp [ite_fields]

@[simp] theorem State.takeDischargeExpiry_frame (s : State) (z : Room) :
    let t := (State.takeDischargeExpiry s z)
    t.pending = s.pending ∧ t.lines = s.lines ∧ t.p2 = s.p2 ∧ t.bt = s.bt ∧ t.clk = s.clk ∧ t.roll = s.roll := by
  unfold State.takeDischargeExpiry expiry State.event; and_intros <;> simp [ite_fields]

@[simp] theorem State.takeFlowStartExpiry_frame (s : State) (z : Room) :
    let t := (State.takeFlowStartExpiry s z)
    t.pending = s.pending ∧ t.lines = s.lines ∧ t.p2 = s.p2 ∧ t.bt = s.bt ∧ t.clk = s.clk ∧ t.roll = s.roll := by
  unfold State.takeFlowStartExpiry expiry State.event; and_intros <;> simp [ite_fields]

@[simp] theorem State.takeSoakExpiry_frame (s : State) (z : Room) :
    let t := (State.takeSoakExpiry s z)
    t.pending = s.pending ∧ t.lines = s.lines ∧ t.p2 = s.p2 ∧ t.bt = s.bt ∧ t.clk = s.clk ∧ t.roll = s.roll := by
  unfold State.takeSoakExpiry expiry State.event; and_intros <;> simp [ite_fields]

@[simp] theorem State.reachNormal_frame (s : State) (z : Room) :
    let t := (State.reachNormal s z)
    t.pending = s.pending ∧ t.lines = s.lines ∧ t.p2 = s.p2 ∧ t.p1 = s.p1 ∧ t.sup = s.sup ∧ t.bt = s.bt ∧ t.clk = s.clk ∧ t.roll = s.roll := by
  unfold State.reachNormal; and_intros <;> simp [ite_fields]

@[simp] theorem State.zoneReply_frame (s : State) (z : Room) :
    let t := (State.zoneReply s z).1
    t.pending = s.pending ∧ t.lines = s.lines ∧ t.p2 = s.p2 ∧ t.p1 = s.p1 ∧ t.sup = s.sup ∧ t.bt = s.bt ∧ t.clk = s.clk ∧ t.ctx = s.ctx ∧ t.roll = s.roll ∧ t.doors = s.doors ∧ t.alarms = s.alarms ∧ t.zones = s.zones ∧ t.bank = s.bank ∧ t.loop = s.loop ∧ t.due = s.due := ⟨rfl, rfl, rfl, rfl, rfl, rfl, rfl, rfl, rfl, rfl, rfl, rfl, rfl, rfl, rfl⟩

@[simp] theorem State.disableZone_frame (s : State) (z : Room) :
    let t := (State.disableZone s z)
    t.pending = s.pending ∧ t.lines = s.lines ∧ t.p2 = s.p2 ∧ t.p1 = s.p1 ∧ t.sup = s.sup ∧ t.bt = s.bt ∧ t.clk = s.clk ∧ t.roll = s.roll := by
  unfold State.disableZone; and_intros <;> simp [ite_fields]

@[simp] theorem State.modEntry_frame (s : State) (e : Nat) (f : OccEntry → OccEntry) :
    let t := (State.modEntry s e f)
    t.pending = s.pending ∧ t.lines = s.lines ∧ t.p2 = s.p2 ∧ t.p1 = s.p1 ∧ t.sup = s.sup ∧ t.bt = s.bt ∧ t.clk = s.clk ∧ t.ctx = s.ctx ∧ t.doors = s.doors ∧ t.alarms = s.alarms ∧ t.zones = s.zones ∧ t.bank = s.bank ∧ t.loop = s.loop ∧ t.due = s.due := ⟨rfl, rfl, rfl, rfl, rfl, rfl, rfl, rfl, rfl, rfl, rfl, rfl, rfl, rfl⟩

@[simp] theorem State.loadCounter_frame (s : State) (e : Nat) (o : OccEntry) :
    let t := (State.loadCounter s e o)
    t.pending = s.pending ∧ t.lines = s.lines ∧ t.p2 = s.p2 ∧ t.p1 = s.p1 ∧ t.sup = s.sup ∧ t.bt = s.bt ∧ t.clk = s.clk ∧ t.ctx = s.ctx ∧ t.doors = s.doors ∧ t.zones = s.zones ∧ t.bank = s.bank ∧ t.loop = s.loop := ⟨rfl, rfl, rfl, rfl, rfl, rfl, rfl, rfl, rfl, rfl, rfl, rfl⟩

@[simp] theorem State.retestEntry_frame (s : State) (e : Nat) :
    let t := (State.retestEntry s e)
    t.pending = s.pending ∧ t.lines = s.lines ∧ t.p2 = s.p2 ∧ t.p1 = s.p1 ∧ t.sup = s.sup ∧ t.bt = s.bt ∧ t.clk = s.clk ∧ t.ctx = s.ctx ∧ t.doors = s.doors ∧ t.zones = s.zones ∧ t.bank = s.bank ∧ t.loop = s.loop := by
  unfold State.retestEntry; and_intros <;> (split <;> (try split) <;> simp [ite_fields])

@[simp] theorem State.retest_frame (s : State) (r : Room) :
    let t := (State.retest s r)
    t.pending = s.pending ∧ t.lines = s.lines ∧ t.p2 = s.p2 ∧ t.p1 = s.p1 ∧ t.sup = s.sup ∧ t.bt = s.bt ∧ t.clk = s.clk ∧ t.ctx = s.ctx ∧ t.doors = s.doors ∧ t.zones = s.zones ∧ t.bank = s.bank ∧ t.loop = s.loop := by
  unfold State.retest; and_intros <;> simp [ite_fields]

@[simp] theorem State.prompt_frame (s : State) (e : Nat) :
    let t := (State.prompt s e)
    t.pending = s.pending ∧ t.lines = s.lines ∧ t.p2 = s.p2 ∧ t.p1 = s.p1 ∧ t.sup = s.sup ∧ t.bt = s.bt ∧ t.clk = s.clk ∧ t.ctx = s.ctx ∧ t.doors = s.doors ∧ t.zones = s.zones ∧ t.bank = s.bank := by
  unfold State.prompt; and_intros <;> (split <;> simp [ite_fields])

@[simp] theorem State.overdue_frame (s : State) (e : Nat) :
    let t := (State.overdue s e)
    t.pending = s.pending ∧ t.lines = s.lines ∧ t.p2 = s.p2 ∧ t.p1 = s.p1 ∧ t.sup = s.sup ∧ t.bt = s.bt ∧ t.clk = s.clk ∧ t.ctx = s.ctx ∧ t.doors = s.doors ∧ t.zones = s.zones ∧ t.bank = s.bank ∧ t.loop = s.loop := by
  unfold State.overdue; and_intros <;> (split <;> simp [ite_fields])

@[simp] theorem State.takePrompt_frame (s : State) (e : Nat) :
    let t := (State.takePrompt s e)
    t.pending = s.pending ∧ t.lines = s.lines ∧ t.p2 = s.p2 ∧ t.bt = s.bt ∧ t.clk = s.clk ∧ t.ctx = s.ctx ∧ t.doors = s.doors ∧ t.zones = s.zones ∧ t.bank = s.bank := by
  unfold State.takePrompt expiry State.event; and_intros <;> simp [ite_fields]

@[simp] theorem State.takeOverdue_frame (s : State) (e : Nat) :
    let t := (State.takeOverdue s e)
    t.pending = s.pending ∧ t.lines = s.lines ∧ t.p2 = s.p2 ∧ t.bt = s.bt ∧ t.clk = s.clk ∧ t.ctx = s.ctx ∧ t.doors = s.doors ∧ t.zones = s.zones ∧ t.bank = s.bank ∧ t.loop = s.loop := by
  unfold State.takeOverdue expiry State.event; and_intros <;> simp [ite_fields]

@[simp] theorem State.checkIn_frame (s : State) (e : Nat) (o : OccEntry) :
    let t := (State.checkIn s e o)
    t.pending = s.pending ∧ t.lines = s.lines ∧ t.p2 = s.p2 ∧ t.p1 = s.p1 ∧ t.sup = s.sup ∧ t.bt = s.bt ∧ t.clk = s.clk ∧ t.ctx = s.ctx ∧ t.doors = s.doors ∧ t.zones = s.zones ∧ t.bank = s.bank ∧ t.loop = s.loop := by
  unfold State.checkIn; and_intros <;> simp [ite_fields]

@[simp] theorem State.checkInPresentation_frame (s : State) (r : Room) (p : CheckInPresentation) :
    let t := (State.checkInPresentation s r p).1
    t.pending = s.pending ∧ t.lines = s.lines ∧ t.p2 = s.p2 ∧ t.p1 = s.p1 ∧ t.sup = s.sup ∧ t.bt = s.bt ∧ t.clk = s.clk ∧ t.ctx = s.ctx ∧ t.doors = s.doors ∧ t.zones = s.zones ∧ t.bank = s.bank ∧ t.loop = s.loop := by
  unfold State.checkInPresentation; and_intros <;> ((repeat' split) <;> first | rfl | simp [ite_fields])

@[simp] theorem State.pendant_frame (s : State) (a : Addr) (p : PendantReport) :
    let t := (State.pendant s a p)
    t.pending = s.pending ∧ t.lines = s.lines ∧ t.p2 = s.p2 ∧ t.p1 = s.p1 ∧ t.sup = s.sup ∧ t.bt = s.bt ∧ t.clk = s.clk ∧ t.ctx = s.ctx ∧ t.doors = s.doors ∧ t.zones = s.zones ∧ t.bank = s.bank ∧ t.loop = s.loop := by
  unfold State.pendant; and_intros <;> (split <;> (try split) <;> simp [ite_fields])

@[simp] theorem State.callPoint_frame (s : State) (a : Addr) (accepted : PointState) (anyHeld : Bool) :
    let t := (State.callPoint s a accepted anyHeld)
    t.pending = s.pending ∧ t.lines = s.lines ∧ t.p2 = s.p2 ∧ t.p1 = s.p1 ∧ t.sup = s.sup ∧ t.bt = s.bt ∧ t.clk = s.clk ∧ t.ctx = s.ctx ∧ t.roll = s.roll ∧ t.doors = s.doors ∧ t.zones = s.zones ∧ t.bank = s.bank ∧ t.loop = s.loop := by
  unfold State.callPoint; and_intros <;> (split <;> simp [ite_fields])

@[simp] theorem State.putAlarm_frame (s : State) (r : AlarmRecord) :
    let t := (State.putAlarm s r)
    t.pending = s.pending ∧ t.lines = s.lines ∧ t.p2 = s.p2 ∧ t.p1 = s.p1 ∧ t.sup = s.sup ∧ t.bt = s.bt ∧ t.clk = s.clk ∧ t.ctx = s.ctx ∧ t.roll = s.roll ∧ t.doors = s.doors ∧ t.zones = s.zones ∧ t.bank = s.bank ∧ t.loop = s.loop := ⟨rfl, rfl, rfl, rfl, rfl, rfl, rfl, rfl, rfl, rfl, rfl, rfl, rfl⟩

@[simp] theorem State.retireAlarm_frame (s : State) (r : AlarmRecord) :
    let t := (State.retireAlarm s r)
    t.pending = s.pending ∧ t.lines = s.lines ∧ t.p2 = s.p2 ∧ t.p1 = s.p1 ∧ t.sup = s.sup ∧ t.bt = s.bt ∧ t.clk = s.clk ∧ t.ctx = s.ctx ∧ t.roll = s.roll ∧ t.doors = s.doors ∧ t.zones = s.zones ∧ t.bank = s.bank ∧ t.loop = s.loop := ⟨rfl, rfl, rfl, rfl, rfl, rfl, rfl, rfl, rfl, rfl, rfl, rfl, rfl⟩

@[simp] theorem State.modBearer_frame (s : State) (b : Nat) (f : Bearer → Bearer) :
    let t := (State.modBearer s b f)
    t.pending = s.pending ∧ t.lines = s.lines ∧ t.p2 = s.p2 ∧ t.p1 = s.p1 ∧ t.sup = s.sup ∧ t.clk = s.clk ∧ t.ctx = s.ctx ∧ t.roll = s.roll ∧ t.doors = s.doors ∧ t.alarms = s.alarms ∧ t.zones = s.zones ∧ t.bank = s.bank ∧ t.loop = s.loop ∧ t.due = s.due := ⟨rfl, rfl, rfl, rfl, rfl, rfl, rfl, rfl, rfl, rfl, rfl, rfl, rfl, rfl⟩

@[simp] theorem State.completeRetirement_frame (s : State) (b : Nat) :
    let t := (State.completeRetirement s b)
    t.pending = s.pending ∧ t.lines = s.lines ∧ t.p2 = s.p2 ∧ t.p1 = s.p1 ∧ t.sup = s.sup ∧ t.clk = s.clk ∧ t.roll = s.roll ∧ t.doors = s.doors ∧ t.zones = s.zones ∧ t.bank = s.bank ∧ t.loop = s.loop := by
  unfold State.completeRetirement; and_intros <;> (split <;> simp [ite_fields])

@[simp] theorem State.retire_frame (s : State) (b : Nat) :
    let t := (State.retire s b)
    t.pending = s.pending ∧ t.lines = s.lines ∧ t.p2 = s.p2 ∧ t.p1 = s.p1 ∧ t.sup = s.sup ∧ t.clk = s.clk ∧ t.doors = s.doors ∧ t.zones = s.zones ∧ t.bank = s.bank ∧ t.loop = s.loop := by
  unfold State.retire; and_intros <;> (split <;> simp [ite_fields])

@[simp] theorem State.wrongPin_frame (s : State) (b : Nat) :
    let t := (State.wrongPin s b)
    t.pending = s.pending ∧ t.lines = s.lines ∧ t.p2 = s.p2 ∧ t.p1 = s.p1 ∧ t.sup = s.sup ∧ t.clk = s.clk ∧ t.roll = s.roll ∧ t.doors = s.doors ∧ t.zones = s.zones ∧ t.bank = s.bank ∧ t.loop = s.loop := by
  unfold State.wrongPin; and_intros <;> (split <;> simp [ite_fields])

@[simp] theorem State.pinCorrect_frame (s : State) (b : Nat) :
    let t := (State.pinCorrect s b)
    t.pending = s.pending ∧ t.lines = s.lines ∧ t.p2 = s.p2 ∧ t.p1 = s.p1 ∧ t.sup = s.sup ∧ t.clk = s.clk ∧ t.ctx = s.ctx ∧ t.roll = s.roll ∧ t.doors = s.doors ∧ t.alarms = s.alarms ∧ t.zones = s.zones ∧ t.bank = s.bank ∧ t.loop = s.loop ∧ t.due = s.due := ⟨rfl, rfl, rfl, rfl, rfl, rfl, rfl, rfl, rfl, rfl, rfl, rfl, rfl, rfl⟩

@[simp] theorem State.retention_frame (s : State) :
    let t := (State.retention s)
    t.pending = s.pending ∧ t.lines = s.lines ∧ t.p2 = s.p2 ∧ t.p1 = s.p1 ∧ t.sup = s.sup ∧ t.clk = s.clk ∧ t.doors = s.doors ∧ t.zones = s.zones ∧ t.bank = s.bank ∧ t.loop = s.loop := by
  unfold State.retention; and_intros <;> simp [ite_fields]

@[simp] theorem State.handOn_frame (s : State) (r : Room) :
    let t := (State.handOn s r)
    t.pending = s.pending ∧ t.lines = s.lines ∧ t.p2 = s.p2 ∧ t.p1 = s.p1 ∧ t.sup = s.sup ∧ t.bt = s.bt ∧ t.clk = s.clk := by
  unfold State.handOn; and_intros <;> simp [ite_fields]

@[simp] theorem State.admitOne_frame (r : Room) (s : State) (a : Admission) :
    let t := (State.admitOne r s a)
    t.pending = s.pending ∧ t.lines = s.lines ∧ t.p2 = s.p2 ∧ t.p1 = s.p1 ∧ t.sup = s.sup ∧ t.bt = s.bt ∧ t.clk = s.clk ∧ t.ctx = s.ctx ∧ t.doors = s.doors ∧ t.zones = s.zones ∧ t.bank = s.bank ∧ t.loop = s.loop := by
  unfold State.admitOne; and_intros <;> (split <;> (try split) <;> simp [ite_fields])

@[simp] theorem State.admit_frame (s : State) (r : Room) (as : List Admission) :
    let t := (State.admitAll s r as)
    t.pending = s.pending ∧ t.lines = s.lines ∧ t.p2 = s.p2 ∧ t.p1 = s.p1 ∧ t.sup = s.sup ∧ t.bt = s.bt ∧ t.clk = s.clk := by
  unfold State.admitAll; and_intros <;> simp [ite_fields]

@[simp] theorem State.lapseGone_frame (s : State) (r : Room) :
    let t := (State.lapseGone s r)
    t.pending = s.pending ∧ t.lines = s.lines ∧ t.p2 = s.p2 ∧ t.p1 = s.p1 ∧ t.sup = s.sup ∧ t.bt = s.bt ∧ t.clk = s.clk ∧ t.ctx = s.ctx ∧ t.roll = s.roll ∧ t.doors = s.doors ∧ t.zones = s.zones ∧ t.bank = s.bank ∧ t.loop = s.loop := ⟨rfl, rfl, rfl, rfl, rfl, rfl, rfl, rfl, rfl, rfl, rfl, rfl, rfl⟩

@[simp] theorem State.removeEntry_frame (s : State) (e : Nat) (o : OccEntry) :
    let t := (State.removeEntry s e o)
    t.pending = s.pending ∧ t.lines = s.lines ∧ t.p2 = s.p2 ∧ t.p1 = s.p1 ∧ t.sup = s.sup ∧ t.clk = s.clk := by
  unfold State.removeEntry; and_intros <;> (split <;> simp [ite_fields])

@[simp] theorem State.egressOpening_frame (s : State) (r : Room) :
    let t := (State.egressOpening s r)
    t.pending = s.pending ∧ t.lines = s.lines ∧ t.p2 = s.p2 ∧ t.p1 = s.p1 ∧ t.sup = s.sup ∧ t.bt = s.bt ∧ t.clk = s.clk := by
  unfold State.egressOpening; and_intros <;> simp [ite_fields]

@[simp] theorem State.reconcile_frame (s : State) (r : Room) :
    let t := (State.reconcile s r)
    t.pending = s.pending ∧ t.lines = s.lines ∧ t.p2 = s.p2 ∧ t.p1 = s.p1 ∧ t.sup = s.sup ∧ t.bt = s.bt ∧ t.clk = s.clk ∧ t.ctx = s.ctx ∧ t.doors = s.doors ∧ t.zones = s.zones ∧ t.bank = s.bank ∧ t.loop = s.loop := ⟨rfl, rfl, rfl, rfl, rfl, rfl, rfl, rfl, rfl, rfl, rfl, rfl⟩

@[simp] theorem State.sweepEntry_frame (s : State) (e : Nat) :
    let t := (State.sweepEntry s e)
    t.pending = s.pending ∧ t.lines = s.lines ∧ t.p2 = s.p2 ∧ t.p1 = s.p1 ∧ t.sup = s.sup ∧ t.clk = s.clk ∧ t.doors = s.doors ∧ t.zones = s.zones ∧ t.bank = s.bank ∧ t.loop = s.loop := by
  unfold State.sweepEntry; and_intros <;> (split <;> simp [ite_fields])

@[simp] theorem State.sweep_frame (s : State) (r : Room) :
    let t := (State.sweep s r)
    t.pending = s.pending ∧ t.lines = s.lines ∧ t.p2 = s.p2 ∧ t.p1 = s.p1 ∧ t.sup = s.sup ∧ t.clk = s.clk := by
  unfold State.sweep; and_intros <;> simp [ite_fields]

@[simp] theorem State.deriveTimeLock_frame (s : State) (r : Room) :
    let t := (State.deriveTimeLock s r)
    t.pending = s.pending ∧ t.lines = s.lines ∧ t.p2 = s.p2 ∧ t.p1 = s.p1 ∧ t.sup = s.sup ∧ t.bt = s.bt ∧ t.clk = s.clk ∧ t.ctx = s.ctx ∧ t.roll = s.roll ∧ t.alarms = s.alarms ∧ t.zones = s.zones ∧ t.bank = s.bank ∧ t.loop = s.loop ∧ t.due = s.due := ⟨rfl, rfl, rfl, rfl, rfl, rfl, rfl, rfl, rfl, rfl, rfl, rfl, rfl, rfl⟩

@[simp] theorem State.retestNight_frame (s : State) :
    let t := (State.retestNight s)
    t.pending = s.pending ∧ t.lines = s.lines ∧ t.p2 = s.p2 ∧ t.p1 = s.p1 ∧ t.sup = s.sup ∧ t.bt = s.bt ∧ t.clk = s.clk ∧ t.ctx = s.ctx ∧ t.doors = s.doors ∧ t.zones = s.zones ∧ t.bank = s.bank ∧ t.loop = s.loop := by
  unfold State.retestNight; and_intros <;> simp [ite_fields]

@[simp] theorem State.closingTones_frame (s : State) :
    let t := (State.closingTones s)
    t.pending = s.pending ∧ t.lines = s.lines ∧ t.p2 = s.p2 ∧ t.p1 = s.p1 ∧ t.sup = s.sup ∧ t.bt = s.bt ∧ t.clk = s.clk ∧ t.ctx = s.ctx ∧ t.doors = s.doors ∧ t.zones = s.zones ∧ t.bank = s.bank := by
  unfold State.closingTones; and_intros <;> simp [ite_fields]

@[simp] theorem State.enterSite_frame (s : State) (st : SiteState) :
    let t := (State.enterSite s st)
    t.pending = s.pending ∧ t.lines = s.lines ∧ t.p2 = s.p2 ∧ t.p1 = s.p1 ∧ t.sup = s.sup ∧ t.bt = s.bt ∧ t.ctx = s.ctx ∧ t.doors = s.doors ∧ t.zones = s.zones ∧ t.bank = s.bank := by
  unfold State.enterSite; and_intros <;> simp [ite_fields]

@[simp] theorem State.siteOpens_frame (s : State) :
    let t := (State.siteOpens s)
    t.pending = s.pending ∧ t.lines = s.lines ∧ t.p2 = s.p2 ∧ t.p1 = s.p1 ∧ t.sup = s.sup ∧ t.bt = s.bt ∧ t.ctx = s.ctx ∧ t.doors = s.doors ∧ t.zones = s.zones ∧ t.bank = s.bank := by
  unfold State.siteOpens; and_intros <;> (dsimp only; split <;> simp [ite_fields])

@[simp] theorem State.siteCloses_frame (s : State) :
    let t := (State.siteCloses s)
    t.pending = s.pending ∧ t.lines = s.lines ∧ t.p2 = s.p2 ∧ t.p1 = s.p1 ∧ t.sup = s.sup ∧ t.bt = s.bt ∧ t.ctx = s.ctx ∧ t.doors = s.doors ∧ t.zones = s.zones ∧ t.bank = s.bank := by
  unfold State.siteCloses; and_intros <;> simp [ite_fields]

@[simp] theorem State.siteFollows_frame (s : State) (before : Bool) :
    let t := (State.siteFollows s before)
    t.pending = s.pending ∧ t.lines = s.lines ∧ t.p2 = s.p2 ∧ t.p1 = s.p1 ∧ t.sup = s.sup ∧ t.bt = s.bt ∧ t.ctx = s.ctx ∧ t.doors = s.doors ∧ t.zones = s.zones ∧ t.bank = s.bank := by
  unfold State.siteFollows; and_intros <;> (split <;> simp [ite_fields])

@[simp] theorem State.takeHoliday_frame (s : State) :
    let t := (State.takeHoliday s)
    t.pending = s.pending ∧ t.lines = s.lines ∧ t.p2 = s.p2 ∧ t.p1 = s.p1 ∧ t.sup = s.sup ∧ t.bt = s.bt ∧ t.ctx = s.ctx ∧ t.roll = s.roll ∧ t.doors = s.doors ∧ t.alarms = s.alarms ∧ t.zones = s.zones ∧ t.bank = s.bank ∧ t.loop = s.loop ∧ t.due = s.due := ⟨rfl, rfl, rfl, rfl, rfl, rfl, rfl, rfl, rfl, rfl, rfl, rfl, rfl, rfl⟩

@[simp] theorem State.evaluate_frame (s : State) (before : Bool) :
    let t := (State.evaluate s before)
    t.pending = s.pending ∧ t.lines = s.lines ∧ t.p2 = s.p2 ∧ t.p1 = s.p1 ∧ t.sup = s.sup ∧ t.bt = s.bt ∧ t.ctx = s.ctx ∧ t.zones = s.zones ∧ t.bank = s.bank := by
  unfold State.evaluate; and_intros <;> simp [ite_fields]

@[simp] theorem State.handTime_frame (s : State) :
    let t := (State.handTime s)
    t.pending = s.pending ∧ t.lines = s.lines ∧ t.p2 = s.p2 ∧ t.p1 = s.p1 ∧ t.sup = s.sup ∧ t.bt = s.bt ∧ t.clk = s.clk ∧ t.ctx = s.ctx ∧ t.roll = s.roll ∧ t.doors = s.doors ∧ t.alarms = s.alarms ∧ t.zones = s.zones ∧ t.bank = s.bank ∧ t.due = s.due := ⟨rfl, rfl, rfl, rfl, rfl, rfl, rfl, rfl, rfl, rfl, rfl, rfl, rfl, rfl⟩

@[simp] theorem State.advanceClock_frame (s : State) :
    let t := (State.advanceClock s)
    t.pending = s.pending ∧ t.lines = s.lines ∧ t.p2 = s.p2 ∧ t.p1 = s.p1 ∧ t.sup = s.sup ∧ t.zones = s.zones ∧ t.bank = s.bank := by
  unfold State.advanceClock; and_intros <;> simp [ite_fields]

@[simp] theorem State.takeGraceExpiry_frame (s : State) :
    let t := (State.takeGraceExpiry s)
    t.pending = s.pending ∧ t.lines = s.lines ∧ t.p2 = s.p2 ∧ t.bt = s.bt ∧ t.ctx = s.ctx ∧ t.doors = s.doors ∧ t.zones = s.zones ∧ t.bank = s.bank := by
  unfold State.takeGraceExpiry expiry State.event; and_intros <;> simp [ite_fields]

@[simp] theorem State.applyOverride_frame (s : State) (o : Override) :
    let t := (State.applyOverride s o)
    t.pending = s.pending ∧ t.lines = s.lines ∧ t.p2 = s.p2 ∧ t.p1 = s.p1 ∧ t.sup = s.sup ∧ t.bt = s.bt ∧ t.ctx = s.ctx ∧ t.doors = s.doors ∧ t.zones = s.zones ∧ t.bank = s.bank := by
  unfold State.applyOverride; and_intros <;> (split <;> simp [ite_fields])

@[simp] theorem State.reevaluate_frame (s : State) :
    let t := (State.reevaluate s)
    t.pending = s.pending ∧ t.lines = s.lines ∧ t.p2 = s.p2 ∧ t.p1 = s.p1 ∧ t.sup = s.sup ∧ t.bt = s.bt ∧ t.ctx = s.ctx ∧ t.zones = s.zones ∧ t.bank = s.bank := by
  unfold State.reevaluate; and_intros <;> simp [ite_fields]

@[simp] theorem State.putHolidays_frame (s : State) (hs : List Holiday) :
    let t := (State.putHolidays s hs)
    t.pending = s.pending ∧ t.lines = s.lines ∧ t.p2 = s.p2 ∧ t.p1 = s.p1 ∧ t.sup = s.sup ∧ t.ctx = s.ctx ∧ t.zones = s.zones ∧ t.bank = s.bank := by
  unfold State.putHolidays; and_intros <;> simp [ite_fields]

@[simp] theorem State.reloadHeld_frame (s : State) (r : Room) :
    let t := (State.reloadHeld s r)
    t.pending = s.pending ∧ t.lines = s.lines ∧ t.p2 = s.p2 ∧ t.p1 = s.p1 ∧ t.sup = s.sup ∧ t.bt = s.bt ∧ t.clk = s.clk ∧ t.ctx = s.ctx ∧ t.roll = s.roll ∧ t.zones = s.zones ∧ t.bank = s.bank ∧ t.loop = s.loop := by
  unfold State.reloadHeld; and_intros <;> simp [ite_fields]

@[simp] theorem State.release_frame (s : State) (r : Room) (k : ReleaseKind) :
    let t := (State.release s r k)
    t.pending = s.pending ∧ t.lines = s.lines ∧ t.p2 = s.p2 ∧ t.p1 = s.p1 ∧ t.sup = s.sup ∧ t.bt = s.bt ∧ t.clk = s.clk ∧ t.ctx = s.ctx ∧ t.roll = s.roll ∧ t.zones = s.zones ∧ t.bank = s.bank := by
  unfold State.release; and_intros <;> (dsimp only; split <;> simp [ite_fields])

@[simp] theorem State.egressPressed_frame (s : State) (r : Room) :
    let t := (State.egressPressed s r)
    t.pending = s.pending ∧ t.lines = s.lines ∧ t.p2 = s.p2 ∧ t.p1 = s.p1 ∧ t.sup = s.sup ∧ t.bt = s.bt ∧ t.clk = s.clk := by
  unfold State.egressPressed; and_intros <;> simp [ite_fields]

@[simp] theorem State.contactOpened_frame (s : State) (r : Room) :
    let t := (State.contactOpened s r)
    t.pending = s.pending ∧ t.lines = s.lines ∧ t.p2 = s.p2 ∧ t.p1 = s.p1 ∧ t.sup = s.sup ∧ t.bt = s.bt ∧ t.clk = s.clk := by
  unfold State.contactOpened; and_intros <;> (dsimp only; split <;> simp [ite_fields])

@[simp] theorem State.contactClosed_frame (s : State) (r : Room) :
    let t := (State.contactClosed s r)
    t.pending = s.pending ∧ t.lines = s.lines ∧ t.p2 = s.p2 ∧ t.p1 = s.p1 ∧ t.sup = s.sup ∧ t.bt = s.bt ∧ t.clk = s.clk ∧ t.ctx = s.ctx ∧ t.roll = s.roll ∧ t.zones = s.zones ∧ t.bank = s.bank ∧ t.loop = s.loop := by
  unfold State.contactClosed; and_intros <;> simp [ite_fields]

@[simp] theorem State.doorRecovers_frame (s : State) (r : Room) :
    let t := (State.doorRecovers s r)
    t.pending = s.pending ∧ t.lines = s.lines ∧ t.p2 = s.p2 ∧ t.p1 = s.p1 ∧ t.sup = s.sup ∧ t.bt = s.bt ∧ t.clk = s.clk := by
  unfold State.doorRecovers; and_intros <;> simp [ite_fields]

@[simp] theorem State.tamperChanged_frame (s : State) (a : Addr) (old : Option PointState) (new : PointState) :
    let t := (State.tamperChanged s a old new)
    t.pending = s.pending ∧ t.lines = s.lines ∧ t.p2 = s.p2 ∧ t.p1 = s.p1 ∧ t.sup = s.sup ∧ t.bt = s.bt ∧ t.clk = s.clk ∧ t.ctx = s.ctx ∧ t.roll = s.roll ∧ t.doors = s.doors ∧ t.zones = s.zones ∧ t.bank = s.bank ∧ t.loop = s.loop := by
  unfold State.tamperChanged; and_intros <;> (split <;> simp [ite_fields])

@[simp] theorem State.contactChanged_frame (s : State) (r : Room) (new : PointState) :
    let t := (State.contactChanged s r new)
    t.pending = s.pending ∧ t.lines = s.lines ∧ t.p2 = s.p2 ∧ t.p1 = s.p1 ∧ t.sup = s.sup ∧ t.bt = s.bt ∧ t.clk = s.clk := by
  unfold State.contactChanged; and_intros <;> (split <;> simp [ite_fields])

@[simp] theorem State.doorFollows_frame (s : State) (r : Room) (ch : DoorChanges) :
    let t := (State.doorFollows s r ch)
    t.pending = s.pending ∧ t.lines = s.lines ∧ t.p2 = s.p2 ∧ t.p1 = s.p1 ∧ t.sup = s.sup ∧ t.bt = s.bt ∧ t.clk = s.clk := by
  unfold State.doorFollows; dsimp only; (repeat' split) <;> simp

@[simp] theorem State.doorPoints_frame (s : State) (a : Addr) (r : Room) (ch : DoorChanges) :
    let t := (State.doorPoints s a r ch)
    t.pending = s.pending ∧ t.lines = s.lines ∧ t.p2 = s.p2 ∧ t.p1 = s.p1 ∧ t.sup = s.sup ∧ t.bt = s.bt ∧ t.clk = s.clk := by
  unfold State.doorPoints; and_intros <;> (split <;> simp [ite_fields])

@[simp] theorem State.endRelease_frame (s : State) (r : Room) :
    let t := (State.endRelease s r)
    t.pending = s.pending ∧ t.lines = s.lines ∧ t.p2 = s.p2 ∧ t.p1 = s.p1 ∧ t.sup = s.sup ∧ t.bt = s.bt ∧ t.clk = s.clk ∧ t.ctx = s.ctx ∧ t.roll = s.roll ∧ t.alarms = s.alarms ∧ t.zones = s.zones ∧ t.bank = s.bank ∧ t.loop = s.loop ∧ t.due = s.due := ⟨rfl, rfl, rfl, rfl, rfl, rfl, rfl, rfl, rfl, rfl, rfl, rfl, rfl, rfl⟩

@[simp] theorem State.expireHeld_frame (s : State) (r : Room) :
    let t := (State.expireHeld s r)
    t.pending = s.pending ∧ t.lines = s.lines ∧ t.p2 = s.p2 ∧ t.p1 = s.p1 ∧ t.sup = s.sup ∧ t.bt = s.bt ∧ t.clk = s.clk ∧ t.ctx = s.ctx ∧ t.roll = s.roll ∧ t.zones = s.zones ∧ t.bank = s.bank ∧ t.loop = s.loop := by
  unfold State.expireHeld; and_intros <;> simp [ite_fields]

@[simp] theorem State.takeUnlockExpiry_frame (s : State) (r : Room) :
    let t := (State.takeUnlockExpiry s r)
    t.pending = s.pending ∧ t.lines = s.lines ∧ t.p2 = s.p2 ∧ t.bt = s.bt ∧ t.clk = s.clk ∧ t.ctx = s.ctx ∧ t.roll = s.roll ∧ t.zones = s.zones ∧ t.bank = s.bank ∧ t.loop = s.loop := by
  unfold State.takeUnlockExpiry expiry State.event; and_intros <;> simp [ite_fields]

@[simp] theorem State.takeHeldOpenExpiry_frame (s : State) (r : Room) :
    let t := (State.takeHeldOpenExpiry s r)
    t.pending = s.pending ∧ t.lines = s.lines ∧ t.p2 = s.p2 ∧ t.bt = s.bt ∧ t.clk = s.clk ∧ t.ctx = s.ctx ∧ t.roll = s.roll ∧ t.zones = s.zones ∧ t.bank = s.bank ∧ t.loop = s.loop := by
  unfold State.takeHeldOpenExpiry expiry State.event; and_intros <;> simp [ite_fields]

@[simp] theorem State.applyHold_frame (s : State) (r : Room) (hold : Bool) :
    let t := (State.applyHold s r hold)
    t.pending = s.pending ∧ t.lines = s.lines ∧ t.p2 = s.p2 ∧ t.p1 = s.p1 ∧ t.sup = s.sup ∧ t.bt = s.bt ∧ t.clk = s.clk ∧ t.ctx = s.ctx ∧ t.roll = s.roll ∧ t.zones = s.zones ∧ t.bank = s.bank ∧ t.loop = s.loop := by
  unfold State.applyHold; and_intros <;> simp [ite_fields]

@[simp] theorem State.exitPresentation_frame (s : State) (r : Room) (t : Token) :
    let t := (State.exitPresentation s r t).1
    t.pending = s.pending ∧ t.lines = s.lines ∧ t.p2 = s.p2 ∧ t.p1 = s.p1 ∧ t.sup = s.sup ∧ t.clk = s.clk := by
  unfold State.exitPresentation; and_intros <;> (dsimp only; split <;> (try split) <;> simp [ite_fields])

@[simp] theorem State.duressPin_frame (s : State) (r : Room) (b : Nat) :
    let t := (State.duressPin s r b)
    t.pending = s.pending ∧ t.lines = s.lines ∧ t.p2 = s.p2 ∧ t.p1 = s.p1 ∧ t.sup = s.sup ∧ t.clk = s.clk ∧ t.ctx = s.ctx ∧ t.roll = s.roll ∧ t.doors = s.doors ∧ t.zones = s.zones ∧ t.bank = s.bank ∧ t.loop = s.loop := by
  unfold State.duressPin; and_intros <;> simp [ite_fields]

@[simp] theorem State.pinStage_frame (s : State) (r : Room) (b : Nat) (rec : Bearer) (night : Bool) (digits : List Nat) :
    let t := (State.pinStage s r b rec night digits).1
    t.pending = s.pending ∧ t.lines = s.lines ∧ t.p2 = s.p2 ∧ t.p1 = s.p1 ∧ t.sup = s.sup ∧ t.clk = s.clk ∧ t.roll = s.roll ∧ t.doors = s.doors ∧ t.zones = s.zones ∧ t.bank = s.bank ∧ t.loop = s.loop := by
  unfold State.pinStage; and_intros <;> ((repeat' split) <;> first | rfl | simp [ite_fields])

@[simp] theorem State.dropWaiting_frame (s : State) (r : Room) (b : Nat) :
    let t := (State.dropWaiting s r b)
    t.pending = s.pending ∧ t.lines = s.lines ∧ t.p2 = s.p2 ∧ t.p1 = s.p1 ∧ t.sup = s.sup ∧ t.bt = s.bt ∧ t.clk = s.clk ∧ t.roll = s.roll ∧ t.doors = s.doors ∧ t.alarms = s.alarms ∧ t.zones = s.zones ∧ t.bank = s.bank ∧ t.loop = s.loop ∧ t.due = s.due := ⟨rfl, rfl, rfl, rfl, rfl, rfl, rfl, rfl, rfl, rfl, rfl, rfl, rfl, rfl⟩

@[simp] theorem State.grantEntry_frame (s : State) (r : Room) (as : List Admission) :
    let t := (State.grantEntry s r as)
    t.pending = s.pending ∧ t.lines = s.lines ∧ t.p2 = s.p2 ∧ t.p1 = s.p1 ∧ t.sup = s.sup ∧ t.bt = s.bt ∧ t.clk = s.clk := by
  unfold State.grantEntry; and_intros <;> simp [ite_fields]

@[simp] theorem State.openGroup_frame (s : State) (r : Room) (night : Bool) (b : Nat) (rights : Rights) :
    let t := (State.openGroup s r night b rights)
    t.pending = s.pending ∧ t.lines = s.lines ∧ t.p2 = s.p2 ∧ t.p1 = s.p1 ∧ t.sup = s.sup ∧ t.bt = s.bt ∧ t.clk = s.clk ∧ t.roll = s.roll ∧ t.doors = s.doors ∧ t.alarms = s.alarms ∧ t.zones = s.zones ∧ t.bank = s.bank ∧ t.loop = s.loop ∧ t.due = s.due := by
  unfold State.openGroup; and_intros <;> (split <;> (try split) <;> simp [ite_fields])

@[simp] theorem State.plainGrant_frame (s : State) (r : Room) (b : Nat) (night : Bool) (rights : Rights) :
    let t := (State.plainGrant s r b night rights).1
    t.pending = s.pending ∧ t.lines = s.lines ∧ t.p2 = s.p2 ∧ t.p1 = s.p1 ∧ t.sup = s.sup ∧ t.bt = s.bt ∧ t.clk = s.clk := by
  unfold State.plainGrant; and_intros <;> simp [ite_fields]

@[simp] theorem State.completePair_frame (s : State) (r : Room) (first : Nat) (firstRights : Rights) (night : Bool) (second : Nat) :
    let t := (State.completePair s r first firstRights night second).1
    t.pending = s.pending ∧ t.lines = s.lines ∧ t.p2 = s.p2 ∧ t.p1 = s.p1 ∧ t.sup = s.sup ∧ t.bt = s.bt ∧ t.clk = s.clk := by
  unfold State.completePair; and_intros <;> simp [ite_fields]

@[simp] theorem State.custodyStage_frame (s : State) (r : Room) (b : Nat) (night : Bool) (rights : Rights) :
    let t := (State.custodyStage s r b night rights).1
    t.pending = s.pending ∧ t.lines = s.lines ∧ t.p2 = s.p2 ∧ t.p1 = s.p1 ∧ t.sup = s.sup ∧ t.bt = s.bt ∧ t.clk = s.clk := by
  unfold State.custodyStage; and_intros <;> ((repeat' split) <;> first | rfl | simp [ite_fields])

@[simp] theorem State.visitorStage_frame (s : State) (r : Room) (b : Nat) :
    let t := (State.visitorStage s r b).1
    t.pending = s.pending ∧ t.lines = s.lines ∧ t.p2 = s.p2 ∧ t.p1 = s.p1 ∧ t.sup = s.sup ∧ t.bt = s.bt ∧ t.clk = s.clk := by
  unfold State.visitorStage
  split
  · dsimp only
    split <;> (try dsimp only) <;> split <;> simp
  · simp

@[simp] theorem State.pairingStage_frame (s : State) (r : Room) (b : Nat) (cls : Class) (night : Bool) (rights : Rights) :
    let t := (State.pairingStage s r b cls night rights).1
    t.pending = s.pending ∧ t.lines = s.lines ∧ t.p2 = s.p2 ∧ t.p1 = s.p1 ∧ t.sup = s.sup ∧ t.bt = s.bt ∧ t.clk = s.clk := by
  unfold State.pairingStage; and_intros <;> (split <;> (try split) <;> simp [ite_fields])

@[simp] theorem State.lastStages_frame (s : State) (r : Room) (b : Nat) (cls : Class) (night : Bool) (rights : Rights) :
    let t := (State.lastStages s r b cls night rights).1
    t.pending = s.pending ∧ t.lines = s.lines ∧ t.p2 = s.p2 ∧ t.p1 = s.p1 ∧ t.sup = s.sup ∧ t.bt = s.bt ∧ t.clk = s.clk := by
  unfold State.lastStages; and_intros <;> ((repeat' split) <;> first | rfl | simp [ite_fields])

@[simp] theorem State.decideBearer_frame (s : State) (r : Room) (b : Nat) (rec : Bearer) (digits : List Nat) :
    let t := (State.decideBearer s r b rec digits).1
    t.pending = s.pending ∧ t.lines = s.lines ∧ t.p2 = s.p2 ∧ t.p1 = s.p1 ∧ t.sup = s.sup ∧ t.clk = s.clk := by
  unfold State.decideBearer
  dsimp only
  split
  · simp
  · split
    · simp
    · simp
    · have hp := State.pinStage_frame s r b rec (s.nightRules r rec.cls) digits
      split <;> simp_all

@[simp] theorem State.decideToken_frame (s : State) (r : Room) (t : Token) (digits : List Nat) :
    let t := (State.decideToken s r t digits).1
    t.pending = s.pending ∧ t.lines = s.lines ∧ t.p2 = s.p2 ∧ t.p1 = s.p1 ∧ t.sup = s.sup ∧ t.clk = s.clk := by
  unfold State.decideToken; and_intros <;> ((repeat' split) <;> first | rfl | simp [ite_fields])

@[simp] theorem State.entryPresentation_frame (s : State) (a : Addr) (r : Room) (t : Token) (digits : List Nat) :
    let t := (State.entryPresentation s a r t digits).1
    t.pending = s.pending ∧ t.lines = s.lines ∧ t.p2 = s.p2 ∧ t.p1 = s.p1 ∧ t.sup = s.sup ∧ t.clk = s.clk := by
  unfold State.entryPresentation; and_intros <;> (split <;> (try split) <;> simp [ite_fields])

@[simp] theorem State.presentation_frame (s : State) (a : Addr) (r : Room) (p : DoorPresentation) :
    let t := (State.presentation s a r p).1
    t.pending = s.pending ∧ t.lines = s.lines ∧ t.p2 = s.p2 ∧ t.p1 = s.p1 ∧ t.sup = s.sup ∧ t.clk = s.clk := by
  unfold State.presentation; and_intros <;> (split <;> simp [ite_fields])

@[simp] theorem State.takeWindowExpiry_frame (s : State) (r : Room) :
    let t := (State.takeWindowExpiry s r)
    t.pending = s.pending ∧ t.lines = s.lines ∧ t.p2 = s.p2 ∧ t.bt = s.bt ∧ t.clk = s.clk ∧ t.roll = s.roll ∧ t.doors = s.doors ∧ t.zones = s.zones ∧ t.bank = s.bank ∧ t.loop = s.loop := by
  unfold State.takeWindowExpiry expiry State.event; and_intros <;> simp [ite_fields]

@[simp] theorem State.pointFault_frame (s : State) (a : Addr) (i : Nat) (st : PointState) :
    let t := (State.pointFault s a i st)
    t.pending = s.pending ∧ t.lines = s.lines ∧ t.p2 = s.p2 ∧ t.p1 = s.p1 ∧ t.sup = s.sup ∧ t.bt = s.bt ∧ t.clk = s.clk ∧ t.ctx = s.ctx ∧ t.roll = s.roll ∧ t.doors = s.doors ∧ t.zones = s.zones ∧ t.bank = s.bank ∧ t.loop = s.loop := by
  unfold State.pointFault; and_intros <;> (split <;> simp [ite_fields])

@[simp] theorem State.pointFaults_frame (s : State) (a : Addr) (i : Nat) (cs : List (Option PointState)) :
    let t := (State.pointFaults s a i cs)
    t.pending = s.pending ∧ t.lines = s.lines ∧ t.p2 = s.p2 ∧ t.p1 = s.p1 ∧ t.sup = s.sup ∧ t.bt = s.bt ∧ t.clk = s.clk ∧ t.ctx = s.ctx ∧ t.roll = s.roll ∧ t.doors = s.doors ∧ t.zones = s.zones ∧ t.bank = s.bank ∧ t.loop = s.loop := by
  induction cs generalizing s i with
  | nil => simp [State.pointFaults]
  | cons c cs ih =>
    cases c with
    | none => simpa only [State.pointFaults] using ih s (i + 1)
    | some st => simpa [State.pointFaults] using ih (s.pointFault a i st) (i + 1)

@[simp] theorem State.callPoints_frame (s : State) (a : Addr) (cs : List (Option PointState)) :
    let t := (State.callPoints s a cs)
    t.pending = s.pending ∧ t.lines = s.lines ∧ t.p2 = s.p2 ∧ t.p1 = s.p1 ∧ t.sup = s.sup ∧ t.bt = s.bt ∧ t.clk = s.clk ∧ t.ctx = s.ctx ∧ t.roll = s.roll ∧ t.doors = s.doors ∧ t.zones = s.zones ∧ t.bank = s.bank ∧ t.loop = s.loop := by
  unfold State.callPoints; and_intros
  · apply foldl_pending; intro s c; cases c <;> simp
  · apply foldl_lines; intro s c; cases c <;> simp
  · apply foldl_p2; intro s c; cases c <;> simp
  · apply foldl_p1; intro s c; cases c <;> simp
  · apply foldl_sup; intro s c; cases c <;> simp
  · apply foldl_bt; intro s c; cases c <;> simp
  · apply foldl_clk; intro s c; cases c <;> simp
  · apply foldl_ctx; intro s c; cases c <;> simp
  · apply foldl_roll; intro s c; cases c <;> simp
  · apply foldl_doors; intro s c; cases c <;> simp
  · apply foldl_zones; intro s c; cases c <;> simp
  · apply foldl_bank; intro s c; cases c <;> simp
  · apply foldl_loop; intro s c; cases c <;> simp

@[simp] theorem State.ownerTakes_frame (s : State) (a : Addr) (cs : List (Option PointState)) :
    let t := (State.ownerTakes s a cs)
    t.pending = s.pending ∧ t.lines = s.lines ∧ t.p2 = s.p2 ∧ t.p1 = s.p1 ∧ t.sup = s.sup ∧ t.bt = s.bt ∧ t.clk = s.clk := by
  unfold State.ownerTakes; and_intros <;> (dsimp only; split <;> simp [ite_fields])

@[simp] theorem State.monitorLost_frame (s : State) (a : Addr) :
    let t := (State.monitorLost s a)
    t.pending = s.pending ∧ t.lines = s.lines ∧ t.p2 = s.p2 ∧ t.p1 = s.p1 ∧ t.sup = s.sup ∧ t.bt = s.bt ∧ t.clk = s.clk ∧ t.ctx = s.ctx ∧ t.roll = s.roll ∧ t.doors = s.doors ∧ t.alarms = s.alarms ∧ t.zones = s.zones ∧ t.loop = s.loop ∧ t.due = s.due := by
  unfold State.monitorLost; and_intros <;> simp [ite_fields]

@[simp] theorem State.missingMeaning_frame (s : State) (a : Addr) :
    let t := (State.missingMeaning s a)
    t.pending = s.pending ∧ t.lines = s.lines ∧ t.p2 = s.p2 ∧ t.p1 = s.p1 ∧ t.sup = s.sup ∧ t.bt = s.bt ∧ t.clk = s.clk ∧ t.roll = s.roll := by
  unfold State.missingMeaning; and_intros <;> (dsimp only; split <;> simp [ite_fields])

@[simp] theorem State.loseStation_frame (s : State) (a : Addr) (state : StationState) :
    let t := (State.loseStation s a state)
    t.pending = s.pending ∧ t.lines = s.lines ∧ t.p2 = s.p2 ∧ t.p1 = s.p1 ∧ t.sup = s.sup ∧ t.bt = s.bt ∧ t.clk = s.clk ∧ t.roll = s.roll := by
  unfold State.loseStation; and_intros <;> simp [ite_fields]

@[simp] theorem State.miss_frame (s : State) (a : Addr) :
    let t := (State.miss s a)
    t.pending = s.pending ∧ t.lines = s.lines ∧ t.p2 = s.p2 ∧ t.p1 = s.p1 ∧ t.sup = s.sup ∧ t.bt = s.bt ∧ t.clk = s.clk ∧ t.roll = s.roll := by
  unfold State.miss; and_intros <;> simp [ite_fields]

@[simp] theorem State.startPoll_frame (s : State) (a : Addr) :
    let t := (State.startPoll s a)
    t.pending = s.pending ∧ t.lines = s.lines ∧ t.p2 = s.p2 ∧ t.p1 = s.p1 ∧ t.sup = s.sup ∧ t.bt = s.bt ∧ t.clk = s.clk ∧ t.ctx = s.ctx ∧ t.roll = s.roll ∧ t.doors = s.doors ∧ t.alarms = s.alarms ∧ t.zones = s.zones ∧ t.bank = s.bank ∧ t.due = s.due := ⟨rfl, rfl, rfl, rfl, rfl, rfl, rfl, rfl, rfl, rfl, rfl, rfl, rfl, rfl⟩

@[simp] theorem State.startAnswerPoll_frame (s : State) (a : Addr) :
    let t := (State.startAnswerPoll s a)
    t.pending = s.pending ∧ t.lines = s.lines ∧ t.p2 = s.p2 ∧ t.p1 = s.p1 ∧ t.sup = s.sup ∧ t.bt = s.bt ∧ t.clk = s.clk ∧ t.ctx = s.ctx ∧ t.roll = s.roll ∧ t.doors = s.doors ∧ t.alarms = s.alarms ∧ t.zones = s.zones ∧ t.bank = s.bank ∧ t.due = s.due := ⟨rfl, rfl, rfl, rfl, rfl, rfl, rfl, rfl, rfl, rfl, rfl, rfl, rfl, rfl⟩

@[simp] theorem State.startScanPoll_frame (s : State) :
    let t := (State.startScanPoll s)
    t.pending = s.pending ∧ t.lines = s.lines ∧ t.p2 = s.p2 ∧ t.p1 = s.p1 ∧ t.sup = s.sup ∧ t.bt = s.bt ∧ t.clk = s.clk ∧ t.ctx = s.ctx ∧ t.roll = s.roll ∧ t.doors = s.doors ∧ t.alarms = s.alarms ∧ t.zones = s.zones ∧ t.bank = s.bank ∧ t.due = s.due := by
  unfold State.startScanPoll; and_intros <;> (split <;> simp [ite_fields])

@[simp] theorem State.callAnswerPoll_frame (s : State) (a : Addr) :
    let t := (State.callAnswerPoll s a)
    t.pending = s.pending ∧ t.lines = s.lines ∧ t.p2 = s.p2 ∧ t.p1 = s.p1 ∧ t.sup = s.sup ∧ t.bt = s.bt ∧ t.clk = s.clk ∧ t.ctx = s.ctx ∧ t.roll = s.roll ∧ t.doors = s.doors ∧ t.alarms = s.alarms ∧ t.zones = s.zones ∧ t.bank = s.bank ∧ t.due = s.due := by
  unfold State.callAnswerPoll; and_intros <;> simp [ite_fields]

@[simp] theorem State.dropAnswerPoll_frame (s : State) (a : Addr) :
    let t := (State.dropAnswerPoll s a)
    t.pending = s.pending ∧ t.lines = s.lines ∧ t.p2 = s.p2 ∧ t.p1 = s.p1 ∧ t.sup = s.sup ∧ t.bt = s.bt ∧ t.clk = s.clk ∧ t.ctx = s.ctx ∧ t.roll = s.roll ∧ t.doors = s.doors ∧ t.alarms = s.alarms ∧ t.zones = s.zones ∧ t.bank = s.bank ∧ t.due = s.due := ⟨rfl, rfl, rfl, rfl, rfl, rfl, rfl, rfl, rfl, rfl, rfl, rfl, rfl, rfl⟩

@[simp] theorem State.hearLoop_frame (s : State) (line : List Bool) :
    let t := (State.hearLoop s line).1
    t.pending = s.pending ∧ t.lines = s.lines ∧ t.p1 = s.p1 ∧ t.sup = s.sup ∧ t.bt = s.bt ∧ t.clk = s.clk ∧ t.ctx = s.ctx ∧ t.roll = s.roll ∧ t.doors = s.doors ∧ t.alarms = s.alarms ∧ t.zones = s.zones ∧ t.bank = s.bank ∧ t.due = s.due ∧ t.loop = s.loop := ⟨rfl, rfl, rfl, rfl, rfl, rfl, rfl, rfl, rfl, rfl, rfl, rfl, rfl, rfl⟩

@[simp] theorem State.hear_frame (s : State) (line : List Bool) :
    let t := (State.hear s line)
    t.pending = s.pending ∧ t.lines = s.lines ∧ t.p2 = s.p2 ∧ t.sup = s.sup ∧ t.bt = s.bt ∧ t.clk = s.clk ∧ t.ctx = s.ctx ∧ t.roll = s.roll ∧ t.doors = s.doors ∧ t.alarms = s.alarms ∧ t.zones = s.zones ∧ t.bank = s.bank ∧ t.due = s.due ∧ t.loop = s.loop := ⟨rfl, rfl, rfl, rfl, rfl, rfl, rfl, rfl, rfl, rfl, rfl, rfl, rfl, rfl⟩

@[simp] theorem State.wrongType_frame (s : State) (a : Addr) :
    let t := (State.wrongType s a)
    t.pending = s.pending ∧ t.lines = s.lines ∧ t.p2 = s.p2 ∧ t.p1 = s.p1 ∧ t.sup = s.sup ∧ t.bt = s.bt ∧ t.clk = s.clk ∧ t.roll = s.roll := by
  unfold State.wrongType; and_intros <;> simp [ite_fields]

@[simp] theorem State.stationReturns_frame (s : State) (a : Addr) :
    let t := (State.stationReturns s a)
    t.pending = s.pending ∧ t.lines = s.lines ∧ t.p2 = s.p2 ∧ t.p1 = s.p1 ∧ t.sup = s.sup ∧ t.bt = s.bt ∧ t.clk = s.clk ∧ t.ctx = s.ctx ∧ t.roll = s.roll ∧ t.doors = s.doors ∧ t.zones = s.zones ∧ t.bank = s.bank := by
  unfold State.stationReturns; and_intros <;> simp [ite_fields]

@[simp] theorem State.takePoints_frame (s : State) (a : Addr) (states : List PointState) :
    let t := (State.takePoints s a states)
    t.pending = s.pending ∧ t.lines = s.lines ∧ t.p2 = s.p2 ∧ t.p1 = s.p1 ∧ t.sup = s.sup ∧ t.bt = s.bt ∧ t.clk = s.clk := by
  unfold State.takePoints; and_intros <;> simp [ite_fields]

@[simp] theorem State.takeReportFlags_frame (s : State) (e : Events) :
    let t := (State.takeReportFlags s e)
    t.pending = s.pending ∧ t.lines = s.lines ∧ t.p2 = s.p2 ∧ t.p1 = s.p1 ∧ t.sup = s.sup ∧ t.bt = s.bt ∧ t.clk = s.clk ∧ t.ctx = s.ctx ∧ t.roll = s.roll ∧ t.doors = s.doors ∧ t.alarms = s.alarms ∧ t.zones = s.zones ∧ t.loop = s.loop ∧ t.due = s.due := by
  unfold State.takeReportFlags; and_intros <;> (split <;> simp [ite_fields])

@[simp] theorem State.takeReport_frame (s : State) (a : Addr) (r : ReportFrame) :
    let t := (State.takeReport s a r)
    t.pending = s.pending ∧ t.lines = s.lines ∧ t.p2 = s.p2 ∧ t.p1 = s.p1 ∧ t.sup = s.sup ∧ t.bt = s.bt ∧ t.clk = s.clk := by
  unfold State.takeReport; and_intros <;> simp [ite_fields]

/-- A field that every decision keeps is kept through a report's presentations. -/
@[simp] theorem takePresentations_pending {α : Type} (d : State → α → State × ReaderAnswer)
    (h : ∀ s p, (d s p).1.pending = s.pending) (s : State) (ps : List α) : (takePresentations d s ps).1.pending = s.pending := by
  induction ps generalizing s with
  | nil => rfl
  | cons p ps ih => simp [takePresentations, ih, h]

@[simp] theorem takePresentations_lines {α : Type} (d : State → α → State × ReaderAnswer)
    (h : ∀ s p, (d s p).1.lines = s.lines) (s : State) (ps : List α) : (takePresentations d s ps).1.lines = s.lines := by
  induction ps generalizing s with
  | nil => rfl
  | cons p ps ih => simp [takePresentations, ih, h]

@[simp] theorem takePresentations_p2 {α : Type} (d : State → α → State × ReaderAnswer)
    (h : ∀ s p, (d s p).1.p2 = s.p2) (s : State) (ps : List α) : (takePresentations d s ps).1.p2 = s.p2 := by
  induction ps generalizing s with
  | nil => rfl
  | cons p ps ih => simp [takePresentations, ih, h]

@[simp] theorem takePresentations_clk {α : Type} (d : State → α → State × ReaderAnswer)
    (h : ∀ s p, (d s p).1.clk = s.clk) (s : State) (ps : List α) : (takePresentations d s ps).1.clk = s.clk := by
  induction ps generalizing s with
  | nil => rfl
  | cons p ps ih => simp [takePresentations, ih, h]

@[simp] theorem State.takeEvents_frame (s : State) (a : Addr) (e : Events) :
    let t := (State.takeEvents s a e).1
    t.pending = s.pending ∧ t.lines = s.lines ∧ t.p2 = s.p2 ∧ t.clk = s.clk := by
  unfold State.takeEvents; and_intros <;> split <;> simp [State.event]

@[simp] theorem State.keepAnswers_frame (s : State) (a : Addr) (n : Nat) (answers : Option (List ReaderAnswer)) :
    let t := (State.keepAnswers s a n answers)
    t.pending = s.pending ∧ t.lines = s.lines ∧ t.p2 = s.p2 ∧ t.p1 = s.p1 ∧ t.sup = s.sup ∧ t.bt = s.bt ∧ t.clk = s.clk ∧ t.ctx = s.ctx ∧ t.roll = s.roll ∧ t.doors = s.doors ∧ t.alarms = s.alarms ∧ t.zones = s.zones ∧ t.bank = s.bank ∧ t.due = s.due := ⟨rfl, rfl, rfl, rfl, rfl, rfl, rfl, rfl, rfl, rfl, rfl, rfl, rfl, rfl⟩

@[simp] theorem State.rebuildAnswers_frame (s : State) (a : Addr) :
    let t := (State.rebuildAnswers s a)
    t.pending = s.pending ∧ t.lines = s.lines ∧ t.p2 = s.p2 ∧ t.p1 = s.p1 ∧ t.sup = s.sup ∧ t.bt = s.bt ∧ t.clk = s.clk ∧ t.ctx = s.ctx ∧ t.roll = s.roll ∧ t.doors = s.doors ∧ t.alarms = s.alarms ∧ t.zones = s.zones ∧ t.bank = s.bank ∧ t.due = s.due := by
  unfold State.rebuildAnswers; and_intros <;> (dsimp only; split <;> simp [ite_fields])

@[simp] theorem State.reportEvents_frame (s : State) (a : Addr) (r : ReportFrame) :
    let t := (State.reportEvents s a r)
    t.pending = s.pending ∧ t.lines = s.lines ∧ t.p2 = s.p2 ∧ t.clk = s.clk := by
  unfold State.reportEvents; and_intros <;> ((repeat' split) <;> first | rfl | simp [ite_fields])

@[simp] theorem State.endPoll_frame (s : State) (a : Addr) :
    let t := (State.endPoll s a)
    t.pending = s.pending ∧ t.lines = s.lines ∧ t.p2 = s.p2 ∧ t.p1 = s.p1 ∧ t.sup = s.sup ∧ t.bt = s.bt ∧ t.clk = s.clk ∧ t.ctx = s.ctx ∧ t.roll = s.roll ∧ t.doors = s.doors ∧ t.alarms = s.alarms ∧ t.zones = s.zones ∧ t.bank = s.bank ∧ t.due = s.due := ⟨rfl, rfl, rfl, rfl, rfl, rfl, rfl, rfl, rfl, rfl, rfl, rfl, rfl, rfl⟩

@[simp] theorem State.validReply_frame (s : State) (a : Addr) (t : StationType) (r : ReportFrame) :
    let t := (State.validReply s a t r)
    t.pending = s.pending ∧ t.lines = s.lines ∧ t.p2 = s.p2 ∧ t.clk = s.clk := by
  unfold State.validReply; and_intros <;> simp [ite_fields]

@[simp] theorem State.takeReply_frame (s : State) (r : ReportFrame) (f : LinkFrame) :
    let t := (State.takeReply s r f)
    t.pending = s.pending ∧ t.lines = s.lines ∧ t.p2 = s.p2 ∧ t.clk = s.clk := by
  unfold State.takeReply; and_intros <;> ((repeat' split) <;> first | rfl | simp [ite_fields])

@[simp] theorem State.endRole_frame (s : State) (a : Addr) :
    let t := (State.endRole s a)
    t.pending = s.pending ∧ t.lines = s.lines ∧ t.p2 = s.p2 ∧ t.p1 = s.p1 ∧ t.sup = s.sup ∧ t.bt = s.bt ∧ t.clk = s.clk ∧ t.roll = s.roll := by
  unfold State.endRole; and_intros <;> (dsimp only; split <;> simp [ite_fields])

@[simp] theorem State.stationAlarmsGone_frame (s : State) (a : Addr) :
    let t := (State.stationAlarmsGone s a)
    t.pending = s.pending ∧ t.lines = s.lines ∧ t.p2 = s.p2 ∧ t.p1 = s.p1 ∧ t.sup = s.sup ∧ t.bt = s.bt ∧ t.clk = s.clk ∧ t.ctx = s.ctx ∧ t.roll = s.roll ∧ t.doors = s.doors ∧ t.zones = s.zones ∧ t.bank = s.bank ∧ t.loop = s.loop := ⟨rfl, rfl, rfl, rfl, rfl, rfl, rfl, rfl, rfl, rfl, rfl, rfl, rfl⟩

@[simp] theorem State.beginFrame_frame (s : State) :
    let t := (State.beginFrame s)
    t.pending = s.pending ∧ t.lines = s.lines ∧ t.p2 = s.p2 ∧ t.sup = s.sup ∧ t.bt = s.bt ∧ t.clk = s.clk ∧ t.ctx = s.ctx ∧ t.roll = s.roll ∧ t.doors = s.doors ∧ t.alarms = s.alarms ∧ t.zones = s.zones ∧ t.bank = s.bank ∧ t.loop = s.loop ∧ t.due = s.due := by
  unfold State.beginFrame; and_intros <;> (split <;> simp [ite_fields])

@[simp] theorem State.beginPoll_frame (s : State) :
    let t := (State.beginPoll s)
    t.pending = s.pending ∧ t.lines = s.lines ∧ t.p1 = s.p1 ∧ t.sup = s.sup ∧ t.bt = s.bt ∧ t.clk = s.clk ∧ t.ctx = s.ctx ∧ t.roll = s.roll ∧ t.doors = s.doors ∧ t.alarms = s.alarms ∧ t.zones = s.zones ∧ t.bank = s.bank ∧ t.due = s.due := by
  unfold State.beginPoll; and_intros <;> (split <;> simp [ite_fields])

@[simp] theorem State.frameDone_frame (s : State) :
    let t := (State.frameDone s)
    t.pending = s.pending ∧ t.lines = s.lines ∧ t.p2 = s.p2 ∧ t.bt = s.bt ∧ t.clk = s.clk ∧ t.ctx = s.ctx ∧ t.roll = s.roll ∧ t.doors = s.doors ∧ t.alarms = s.alarms ∧ t.zones = s.zones ∧ t.bank = s.bank ∧ t.loop = s.loop ∧ t.due = s.due := by
  unfold State.frameDone; and_intros <;> (split <;> simp [ite_fields])

@[simp] theorem State.pollSent_frame (s : State) :
    let t := (State.pollSent s)
    t.pending = s.pending ∧ t.lines = s.lines ∧ t.p1 = s.p1 ∧ t.sup = s.sup ∧ t.bt = s.bt ∧ t.clk = s.clk ∧ t.ctx = s.ctx ∧ t.roll = s.roll ∧ t.doors = s.doors ∧ t.alarms = s.alarms ∧ t.zones = s.zones ∧ t.bank = s.bank ∧ t.due = s.due := by
  unfold State.pollSent; and_intros <;> (split <;> simp [ite_fields])

@[simp] theorem State.linkTested_frame (s : State) (pass : Bool) :
    let t := (State.linkTested s pass)
    t.pending = s.pending ∧ t.lines = s.lines ∧ t.p1 = s.p1 ∧ t.sup = s.sup ∧ t.bt = s.bt ∧ t.clk = s.clk ∧ t.ctx = s.ctx ∧ t.roll = s.roll ∧ t.doors = s.doors ∧ t.zones = s.zones ∧ t.bank = s.bank ∧ t.loop = s.loop := by
  unfold State.linkTested; and_intros <;> (split <;> simp [ite_fields])

@[simp] theorem State.loadProfile_frame (s : State) (r : Room) (p : Profile) :
    let t := (State.loadProfile s r p)
    t.pending = s.pending ∧ t.lines = s.lines ∧ t.p2 = s.p2 ∧ t.p1 = s.p1 ∧ t.bt = s.bt ∧ t.clk = s.clk := by
  unfold State.loadProfile; and_intros <;> simp [ite_fields]

@[simp] theorem State.mainsChanged_frame (s : State) :
    let t := (State.mainsChanged s)
    t.pending = s.pending ∧ t.lines = s.lines ∧ t.p2 = s.p2 ∧ t.p1 = s.p1 ∧ t.sup = s.sup ∧ t.bt = s.bt ∧ t.clk = s.clk ∧ t.ctx = s.ctx ∧ t.roll = s.roll ∧ t.doors = s.doors ∧ t.zones = s.zones ∧ t.bank = s.bank ∧ t.loop = s.loop := by
  unfold State.mainsChanged; and_intros <;> simp [ite_fields]

@[simp] theorem State.kept_frame (s : State) (cause : RestartCause) : (State.kept s cause).pending = s.pending := rfl

@[simp] theorem State.lost_frame (s : State) : (State.lost s).pending = s.pending := rfl

@[simp] theorem State.startClock_frame (s : State) :
    let t := (State.startClock s)
    t.pending = s.pending ∧ t.lines = s.lines ∧ t.p2 = s.p2 ∧ t.p1 = s.p1 ∧ t.sup = s.sup ∧ t.bt = s.bt ∧ t.ctx = s.ctx ∧ t.roll = s.roll ∧ t.doors = s.doors ∧ t.alarms = s.alarms ∧ t.zones = s.zones ∧ t.bank = s.bank ∧ t.loop = s.loop := ⟨rfl, rfl, rfl, rfl, rfl, rfl, rfl, rfl, rfl, rfl, rfl, rfl, rfl⟩

@[simp] theorem State.startBearers_frame (s : State) :
    let t := (State.startBearers s)
    t.pending = s.pending ∧ t.lines = s.lines ∧ t.p2 = s.p2 ∧ t.p1 = s.p1 ∧ t.sup = s.sup ∧ t.bt = s.bt ∧ t.clk = s.clk ∧ t.ctx = s.ctx ∧ t.roll = s.roll ∧ t.doors = s.doors ∧ t.zones = s.zones ∧ t.bank = s.bank ∧ t.loop = s.loop := by
  unfold State.startBearers; and_intros <;> simp [ite_fields]

@[simp] theorem State.startRoll_frame (s : State) :
    let t := (State.startRoll s)
    t.pending = s.pending ∧ t.lines = s.lines ∧ t.p2 = s.p2 ∧ t.p1 = s.p1 ∧ t.sup = s.sup ∧ t.bt = s.bt ∧ t.clk = s.clk ∧ t.ctx = s.ctx ∧ t.doors = s.doors ∧ t.zones = s.zones ∧ t.bank = s.bank ∧ t.loop = s.loop := by
  unfold State.startRoll; dsimp only; and_intros
  · rw [foldl_pending _ (by simp), foldl_pending _ (by simp), foldl_pending _ (by simp)]
  · rw [foldl_lines _ (by simp), foldl_lines _ (by simp), foldl_lines _ (by simp)]
  · rw [foldl_p2 _ (by simp), foldl_p2 _ (by simp), foldl_p2 _ (by simp)]
  · rw [foldl_p1 _ (by simp), foldl_p1 _ (by simp), foldl_p1 _ (by simp)]
  · rw [foldl_sup _ (by simp), foldl_sup _ (by simp), foldl_sup _ (by simp)]
  · rw [foldl_bt _ (by simp), foldl_bt _ (by simp), foldl_bt _ (by simp)]
  · rw [foldl_clk _ (by simp), foldl_clk _ (by simp), foldl_clk _ (by simp)]
  · rw [foldl_ctx _ (by simp), foldl_ctx _ (by simp), foldl_ctx _ (by simp)]
  · rw [foldl_doors _ (by simp), foldl_doors _ (by simp), foldl_doors _ (by simp)]
  · rw [foldl_zones _ (by simp), foldl_zones _ (by simp), foldl_zones _ (by simp)]
  · rw [foldl_bank _ (by simp), foldl_bank _ (by simp), foldl_bank _ (by simp)]
  · rw [foldl_loop _ (by simp), foldl_loop _ (by simp), foldl_loop _ (by simp)]

@[simp] theorem State.zoneConditions_frame (s : State) (z : Room) :
    let t := (State.zoneConditions s z)
    t.pending = s.pending ∧ t.lines = s.lines ∧ t.p2 = s.p2 ∧ t.p1 = s.p1 ∧ t.sup = s.sup ∧ t.bt = s.bt ∧ t.clk = s.clk ∧ t.ctx = s.ctx ∧ t.roll = s.roll ∧ t.doors = s.doors ∧ t.zones = s.zones ∧ t.bank = s.bank ∧ t.loop = s.loop := by
  unfold State.zoneConditions; and_intros <;> (dsimp only; split <;> simp [ite_fields])

@[simp] theorem State.startZones_frame (s : State) (warm : Bool) :
    let t := (State.startZones s warm)
    t.pending = s.pending ∧ t.lines = s.lines ∧ t.p2 = s.p2 ∧ t.p1 = s.p1 ∧ t.sup = s.sup ∧ t.bt = s.bt ∧ t.clk = s.clk ∧ t.ctx = s.ctx ∧ t.roll = s.roll ∧ t.doors = s.doors ∧ t.bank = s.bank ∧ t.loop = s.loop := by
  unfold State.startZones; dsimp only; and_intros <;> split
  · rw [foldl_pending _ (by simp), foldl_pending _ (by simp)]
  · rw [foldl_pending _ (by simp)]
  · rw [foldl_lines _ (by simp), foldl_lines _ (by simp)]
  · rw [foldl_lines _ (by simp)]
  · rw [foldl_p2 _ (by simp), foldl_p2 _ (by simp)]
  · rw [foldl_p2 _ (by simp)]
  · rw [foldl_p1 _ (by simp), foldl_p1 _ (by simp)]
  · rw [foldl_p1 _ (by simp)]
  · rw [foldl_sup _ (by simp), foldl_sup _ (by simp)]
  · rw [foldl_sup _ (by simp)]
  · rw [foldl_bt _ (by simp), foldl_bt _ (by simp)]
  · rw [foldl_bt _ (by simp)]
  · rw [foldl_clk _ (by simp), foldl_clk _ (by simp)]
  · rw [foldl_clk _ (by simp)]
  · rw [foldl_ctx _ (by simp), foldl_ctx _ (by simp)]
  · rw [foldl_ctx _ (by simp)]
  · rw [foldl_roll _ (by simp), foldl_roll _ (by simp)]
  · rw [foldl_roll _ (by simp)]
  · rw [foldl_doors _ (by simp), foldl_doors _ (by simp)]
  · rw [foldl_doors _ (by simp)]
  · rw [foldl_bank _ (by simp), foldl_bank _ (by simp)]
  · rw [foldl_bank _ (by simp)]
  · rw [foldl_loop _ (by simp), foldl_loop _ (by simp)]
  · rw [foldl_loop _ (by simp)]

@[simp] theorem State.startBank_frame (s : State) (warm : Bool) (changed : List Pos) :
    let t := (State.startBank s warm changed)
    t.pending = s.pending ∧ t.lines = s.lines ∧ t.p2 = s.p2 ∧ t.p1 = s.p1 ∧ t.sup = s.sup ∧ t.bt = s.bt ∧ t.clk = s.clk ∧ t.ctx = s.ctx ∧ t.roll = s.roll ∧ t.doors = s.doors ∧ t.zones = s.zones ∧ t.loop = s.loop := by
  unfold State.startBank; dsimp only; and_intros <;> split
  · rw [foldl_pending _ (by simp), foldl_pending _ (by simp), foldl_pending _ (by simp)]; simp
  · rw [foldl_pending _ (by simp), foldl_pending _ (by simp)]; simp
  · rw [foldl_lines _ (by simp), foldl_lines _ (by simp), foldl_lines _ (by simp)]; simp
  · rw [foldl_lines _ (by simp), foldl_lines _ (by simp)]; simp
  · rw [foldl_p2 _ (by simp), foldl_p2 _ (by simp), foldl_p2 _ (by simp)]; simp
  · rw [foldl_p2 _ (by simp), foldl_p2 _ (by simp)]; simp
  · rw [foldl_p1 _ (by simp), foldl_p1 _ (by simp), foldl_p1 _ (by simp)]; simp
  · rw [foldl_p1 _ (by simp), foldl_p1 _ (by simp)]; simp
  · rw [foldl_sup _ (by simp), foldl_sup _ (by simp), foldl_sup _ (by simp)]; simp
  · rw [foldl_sup _ (by simp), foldl_sup _ (by simp)]; simp
  · rw [foldl_bt _ (by simp), foldl_bt _ (by simp), foldl_bt _ (by simp)]; simp
  · rw [foldl_bt _ (by simp), foldl_bt _ (by simp)]; simp
  · rw [foldl_clk _ (by simp), foldl_clk _ (by simp), foldl_clk _ (by simp)]; simp
  · rw [foldl_clk _ (by simp), foldl_clk _ (by simp)]; simp
  · rw [foldl_ctx _ (by simp), foldl_ctx _ (by simp), foldl_ctx _ (by simp)]; simp
  · rw [foldl_ctx _ (by simp), foldl_ctx _ (by simp)]; simp
  · rw [foldl_roll _ (by simp), foldl_roll _ (by simp), foldl_roll _ (by simp)]; simp
  · rw [foldl_roll _ (by simp), foldl_roll _ (by simp)]; simp
  · rw [foldl_doors _ (by simp), foldl_doors _ (by simp), foldl_doors _ (by simp)]; simp
  · rw [foldl_doors _ (by simp), foldl_doors _ (by simp)]; simp
  · rw [foldl_zones _ (by simp), foldl_zones _ (by simp), foldl_zones _ (by simp)]; simp
  · rw [foldl_zones _ (by simp), foldl_zones _ (by simp)]; simp
  · rw [foldl_loop _ (by simp), foldl_loop _ (by simp), foldl_loop _ (by simp)]; simp
  · rw [foldl_loop _ (by simp), foldl_loop _ (by simp)]; simp

@[simp] theorem State.startDoors_frame (s : State) :
    let t := (State.startDoors s)
    t.pending = s.pending ∧ t.lines = s.lines ∧ t.p2 = s.p2 ∧ t.p1 = s.p1 ∧ t.sup = s.sup ∧ t.bt = s.bt ∧ t.clk = s.clk ∧ t.ctx = s.ctx ∧ t.roll = s.roll ∧ t.alarms = s.alarms ∧ t.zones = s.zones ∧ t.bank = s.bank ∧ t.loop = s.loop ∧ t.due = s.due := ⟨rfl, rfl, rfl, rfl, rfl, rfl, rfl, rfl, rfl, rfl, rfl, rfl, rfl, rfl⟩

@[simp] theorem State.startLone_frame (s : State) :
    let t := (State.startLone s)
    t.pending = s.pending ∧ t.lines = s.lines ∧ t.p2 = s.p2 ∧ t.p1 = s.p1 ∧ t.sup = s.sup ∧ t.bt = s.bt ∧ t.clk = s.clk ∧ t.ctx = s.ctx ∧ t.doors = s.doors ∧ t.zones = s.zones ∧ t.bank = s.bank ∧ t.loop = s.loop := ⟨rfl, rfl, rfl, rfl, rfl, rfl, rfl, rfl, rfl, rfl, rfl, rfl⟩

@[simp] theorem State.startPorts_frame (s : State) (pass1 pass2 : Bool) :
    let t := (State.startPorts s pass1 pass2)
    t.pending = s.pending ∧ t.lines = s.lines ∧ t.sup = s.sup ∧ t.bt = s.bt ∧ t.clk = s.clk ∧ t.ctx = s.ctx ∧ t.roll = s.roll ∧ t.doors = s.doors ∧ t.alarms = s.alarms ∧ t.zones = s.zones ∧ t.bank = s.bank ∧ t.loop = s.loop ∧ t.due = s.due := ⟨rfl, rfl, rfl, rfl, rfl, rfl, rfl, rfl, rfl, rfl, rfl, rfl, rfl⟩

@[simp] theorem State.startBlocks_frame (s : State) (warm pass1 pass2 : Bool) (changed : List Pos) :
    let t := (State.startBlocks s warm pass1 pass2 changed)
    t.pending = s.pending ∧ t.lines = s.lines ∧ t.p2 = s.p2 ∧ t.p1 = s.p1 ∧ t.sup = s.sup ∧ t.bt = s.bt ∧ t.ctx = s.ctx ∧ t.loop = s.loop := by
  unfold State.startBlocks; and_intros <;> simp [ite_fields]

@[simp] theorem State.startEnds_frame (s : State) :
    let t := (State.startEnds s)
    t.pending = s.pending ∧ t.lines = s.lines ∧ t.p2 = s.p2 ∧ t.bt = s.bt ∧ t.clk = s.clk ∧ t.ctx = s.ctx ∧ t.roll = s.roll ∧ t.doors = s.doors ∧ t.zones = s.zones ∧ t.bank = s.bank ∧ t.loop = s.loop := by
  unfold State.startEnds; and_intros <;> simp [ite_fields]

@[simp] theorem State.startUp_frame (s : State) (cause : RestartCause) (line1 line2 : List Bool) : (State.startUp s cause line1 line2).pending = s.pending := by
  unfold State.startUp; and_intros <;> simp [ite_fields]

@[simp] theorem State.portsOff_frame (s : State) :
    let t := (State.portsOff s)
    t.pending = s.pending ∧ t.lines = s.lines ∧ t.sup = s.sup ∧ t.bt = s.bt ∧ t.clk = s.clk ∧ t.ctx = s.ctx ∧ t.roll = s.roll ∧ t.doors = s.doors ∧ t.alarms = s.alarms ∧ t.zones = s.zones ∧ t.bank = s.bank ∧ t.loop = s.loop ∧ t.due = s.due := ⟨rfl, rfl, rfl, rfl, rfl, rfl, rfl, rfl, rfl, rfl, rfl, rfl, rfl⟩

@[simp] theorem State.countDown_frame (s : State) :
    let t := (State.countDown s)
    t.pending = s.pending ∧ t.lines = s.lines ∧ t.p2 = s.p2 ∧ t.p1 = s.p1 ∧ t.sup = s.sup ∧ t.bt = s.bt ∧ t.alarms = s.alarms ∧ t.bank = s.bank ∧ t.loop = s.loop ∧ t.due = s.due := ⟨rfl, rfl, rfl, rfl, rfl, rfl, rfl, rfl, rfl, rfl⟩

@[simp] theorem State.settle_frame (s : State) :
    let t := (State.settle s)
    t.pending = s.pending ∧ t.lines = s.lines ∧ t.p2 = s.p2 ∧ t.bt = s.bt := by
  unfold State.settle; dsimp only; and_intros
  · rw [foldl_pending State.takeOverdue (by simp), foldl_pending State.takePrompt (by simp), foldl_pending State.takeCountdownEnd (by simp), foldl_pending State.takeSoakExpiry (by simp), foldl_pending State.takeFlowStartExpiry (by simp), foldl_pending State.takeDischargeExpiry (by simp), foldl_pending State.takeWindowExpiry (by simp), foldl_pending State.takeHeldOpenExpiry (by simp), foldl_pending State.takeUnlockExpiry (by simp)]; simp
  · rw [foldl_lines State.takeOverdue (by simp), foldl_lines State.takePrompt (by simp), foldl_lines State.takeCountdownEnd (by simp), foldl_lines State.takeSoakExpiry (by simp), foldl_lines State.takeFlowStartExpiry (by simp), foldl_lines State.takeDischargeExpiry (by simp), foldl_lines State.takeWindowExpiry (by simp), foldl_lines State.takeHeldOpenExpiry (by simp), foldl_lines State.takeUnlockExpiry (by simp)]; simp
  · rw [foldl_p2 State.takeOverdue (by simp), foldl_p2 State.takePrompt (by simp), foldl_p2 State.takeCountdownEnd (by simp), foldl_p2 State.takeSoakExpiry (by simp), foldl_p2 State.takeFlowStartExpiry (by simp), foldl_p2 State.takeDischargeExpiry (by simp), foldl_p2 State.takeWindowExpiry (by simp), foldl_p2 State.takeHeldOpenExpiry (by simp), foldl_p2 State.takeUnlockExpiry (by simp)]; simp
  · rw [foldl_bt State.takeOverdue (by simp), foldl_bt State.takePrompt (by simp), foldl_bt State.takeCountdownEnd (by simp), foldl_bt State.takeSoakExpiry (by simp), foldl_bt State.takeFlowStartExpiry (by simp), foldl_bt State.takeDischargeExpiry (by simp), foldl_bt State.takeWindowExpiry (by simp), foldl_bt State.takeHeldOpenExpiry (by simp), foldl_bt State.takeUnlockExpiry (by simp)]; simp

end Sys2Proof.Machine
end

