-- ==== Sys2Proof/Laws/Tables.lean ====
section
/-! SUPPORT. Laws/Tables.lean: the laws of tables by number and of the fixed tables: what a read gives after each change. -/
namespace Sys2Proof

open Sys2Proof.Machine

variable {α : Type}

/-! ### Tables by number -/

@[simp] theorem Table.get_nil (n : Nat) : Table.get ([] : Table α) n = none := rfl

/-- A record stored is read back, and every other number reads as before. -/
theorem Table.get_set (m : Table α) (n k : Nat) (a : α) :
    (Table.set m n a).get k = if k = n then some a else Table.get m k := by
  induction m with
  | nil => simp [Table.set, Table.get, eq_comm]
  | cons p m ih =>
    obtain ⟨x, b⟩ := p
    unfold Table.set
    split
    · by_cases h : k = n
      · subst h
        simp [Table.get]
      · have : n ≠ k := fun e => h e.symm
        simp [Table.get, h, this]
    · split
      · subst_vars
        by_cases h : k = x
        · subst h
          simp [Table.get]
        · have : x ≠ k := fun e => h e.symm
          simp [Table.get, h, this]
      · by_cases h : x = k
        · subst h
          have : x ≠ n := by omega
          simp [Table.get, this]
        · simp [Table.get, h, ih]

@[simp] theorem Table.get_set_same (m : Table α) (n : Nat) (a : α) : (Table.set m n a).get n = some a := by
  simp [Table.get_set]

theorem Table.get_set_other (m : Table α) {n k : Nat} (a : α) (h : k ≠ n) : (Table.set m n a).get k = Table.get m k := by
  simp [Table.get_set, h]

/-- A record erased reads as none, and every other number reads as before. -/
theorem Table.get_erase (m : Table α) (n k : Nat) : (Table.erase m n).get k = if k = n then none else Table.get m k := by
  induction m with
  | nil => simp [Table.erase, Table.get]
  | cons p m ih =>
    obtain ⟨x, b⟩ := p
    unfold Table.erase at ih ⊢
    by_cases hx : x = n
    · subst hx
      by_cases hk : k = x
      · subst hk
        simpa using ih
      · have : x ≠ k := fun e => hk e.symm
        simpa [Table.get, hk, this] using ih
    · by_cases hk : x = k
      · subst hk
        simp [Table.get, hx]
      · simpa [List.filter_cons, Table.get, hx, hk] using ih

/-- A record changed reads as the change makes it, and every other number reads as before. -/
theorem Table.get_modify (m : Table α) (n k : Nat) (f : α → α) :
    (Table.modify m n f).get k = if k = n then (Table.get m k).map f else Table.get m k := by
  induction m with
  | nil => simp [Table.modify, Table.get]
  | cons p m ih =>
    obtain ⟨x, b⟩ := p
    unfold Table.modify at ih ⊢
    by_cases hk : x = k
    · subst hk
      by_cases hx : x = n <;> simp [Table.get, hx]
    · by_cases hx : x = n
      · simpa [Table.get, hx, hx ▸ hk] using ih
      · simpa [Table.get, hx, hk] using ih

/-- Every record changed. -/
theorem Table.get_mapAll (m : Table α) (k : Nat) (f : α → α) : (Table.mapAll m f).get k = (Table.get m k).map f := by
  induction m with
  | nil => rfl
  | cons p m ih =>
    unfold Table.mapAll at ih ⊢
    by_cases hk : p.1 = k <;> simp_all [Table.get]

/-- A number that a table lists is one of its keys. -/
theorem Table.mem_of_get {m : Table α} {n : Nat} {a : α} (h : Table.get m n = some a) : (n, a) ∈ m := by
  induction m with
  | nil => simp [Table.get] at h
  | cons p m ih =>
    obtain ⟨x, b⟩ := p
    by_cases hx : x = n <;> simp_all [Table.get]

/-- Rising numbers stay rising when a record is stored. -/
theorem Table.wf_set (m : Table α) (n : Nat) (a : α) (h : Table.wf m = true) : (Table.set m n a).wf = true := by
  simp only [Table.wf, decide_eq_true_eq] at h ⊢
  have keys : ∀ m : Table α, ∀ x ∈ (Table.set m n a).map Prod.fst, x = n ∨ x ∈ m.map Prod.fst := by
    intro m
    induction m with
    | nil => simp [Table.set]
    | cons p m ih =>
      obtain ⟨y, b⟩ := p
      intro x hx
      unfold Table.set at hx
      split at hx
      · simp at hx ⊢
        tauto
      · split at hx
        · simp at hx ⊢
          tauto
        · simp only [List.map_cons, List.mem_cons] at hx ⊢
          rcases hx with h | h
          · exact .inr (.inl h)
          · rcases ih x h with h | h
            · exact .inl h
            · exact .inr (.inr h)
  induction m with
  | nil => simp [Table.set]
  | cons p m ih =>
    obtain ⟨y, b⟩ := p
    simp only [List.map_cons, List.pairwise_cons] at h
    unfold Table.set
    split
    · rename_i hn
      simp only [List.map_cons, List.pairwise_cons]
      refine ⟨?_, h⟩
      intro z hz
      simp only [List.mem_cons] at hz
      rcases hz with rfl | hz
      · exact hn
      · exact Nat.lt_trans hn (h.1 z hz)
    · split
      · subst_vars
        simp only [List.map_cons, List.pairwise_cons]
        exact h
      · simp only [List.map_cons, List.pairwise_cons]
        refine ⟨?_, ih h.2⟩
        intro z hz
        rcases keys m z hz with rfl | hz
        · omega
        · exact h.1 z hz

/-- Rising numbers stay rising when records are taken out. -/
theorem Table.wf_filter (m : Table α) (test : Nat × α → Bool) (h : Table.wf m = true) : Table.wf (m.filter test) = true := by
  simp only [Table.wf, decide_eq_true_eq] at h ⊢
  exact h.sublist (List.filter_sublist.map Prod.fst)

/-- Rising numbers stay rising when a record is erased. -/
theorem Table.wf_erase (m : Table α) (n : Nat) (h : Table.wf m = true) : (Table.erase m n).wf = true :=
  Table.wf_filter m _ h

/-- Rising numbers stay rising when every record is changed. -/
theorem Table.wf_mapAll (m : Table α) (f : α → α) (h : Table.wf m = true) : (Table.mapAll m f).wf = true := by
  simp only [Table.wf, Table.mapAll, List.map_map, decide_eq_true_eq] at h ⊢
  exact h

/-- Rising numbers stay rising when one record is changed. -/
theorem Table.wf_modify (m : Table α) (n : Nat) (f : α → α) (h : Table.wf m = true) : (Table.modify m n f).wf = true := by
  have keys : (Table.modify m n f).map Prod.fst = m.map Prod.fst := by
    simp only [Table.modify, List.map_map]
    refine List.map_congr_left fun p _ => ?_
    by_cases hp : p.1 = n <;> simp [hp]
  simpa [Table.wf, keys] using h

/-! ### Fixed tables -/

theorem fins_get (n : Nat) (i : Nat) (h : i < (fins n).length) : (fins n)[i] = ⟨i, by simpa [fins_length] using h⟩ := by
  induction n generalizing i with
  | zero => simp [fins] at h
  | succ n ih =>
    cases i with
    | zero => rfl
    | succ i => simp [fins, ih]

@[simp] theorem mem_fins {n : Nat} (i : Fin n) : i ∈ fins n := by
  have h : i.val < (fins n).length := by simp [fins_length]
  have := List.getElem_mem h
  rwa [fins_get] at this

@[simp] theorem mem_rooms (r : Room) : r ∈ rooms := mem_fins r

/-- The record of a fixed table made from a function. -/
@[simp] theorem vgen_get {n : Nat} (f : Fin n → α) (i : Nat) (h : i < n) : (vgen f)[i] = f ⟨i, h⟩ := by
  simp [vgen, fins_get]

theorem vset_same {n : Nat} (v : Vector α n) (i : Fin n) (a : α) : (v.set i a)[i] = a := by simp

theorem vset_other {n : Nat} (v : Vector α n) {i j : Fin n} (a : α) (h : i ≠ j) : (v.set i a)[j] = v[j] := by
  have : i.val ≠ j.val := fun e => h (Fin.ext e)
  simp [this]

/-! ### Numbers of objects -/

@[simp] theorem room?_num (r : Room) : room? (num r) = some r := by
  have := r.isLt
  simp [room?, num]

@[simp] theorem pos?_num (p : Pos) : pos? (num p) = some p := by
  have := p.isLt
  simp [pos?, num]

@[simp] theorem addr?_num (a : Addr) : addr? (num a) = some a := by
  have := a.isLt
  simp [addr?, num]

@[simp] theorem sched?_val (i : Sched) : sched? i.val = some i := by
  have := i.isLt
  simp [sched?]

theorem room?_none {n : Nat} (h : n = 0 ∨ 16 < n) : room? n = none := by
  unfold room?
  rw [dif_neg (by omega)]

theorem pos?_none {n : Nat} (h : n = 0 ∨ 48 < n) : pos? n = none := by
  unfold pos?
  rw [dif_neg (by omega)]

theorem addr?_none {n : Nat} (h : n = 0 ∨ 96 < n) : addr? n = none := by
  unfold addr?
  rw [dif_neg (by omega)]

theorem num_inj {n : Nat} {i j : Fin n} : num i = num j ↔ i = j := by simp [num, Fin.ext_iff]

end Sys2Proof
end

