-- ==== Sys2Proof/Laws/Events.lean ====
section
/-! SUPPORT. Laws/Events.lean: what the shared operations of an event do, each said once: a raise, a condition that is gone, the queueing of
notices, the end of an event, and the taking and answering of a request. -/
namespace Sys2Proof.Machine

open Sys2Proof Sys2Proof.Safety

/-! ### The Alarm Table -/

/-- After a raise the table holds the kind-and-key, unless the table was full and the raise was NotStored. -/
theorem State.raiseAlarm_stands (s : State) (k : AlarmKey) (h : s.alarms.records.length < 64) :
    ∃ r ∈ (s.raiseAlarm k).alarms.records, r.key = k := by
  unfold State.raiseAlarm
  split
  · rename_i r hr
    have hm := List.mem_of_find?_eq_some hr
    have hk : r.key = k := by simpa using List.find?_some hr
    refine ⟨r.raisedAgain, ?_, hk⟩
    simp only [List.mem_map]
    exact ⟨r, hm, by simp [hk]⟩
  · simp [Config.maxAlarms, h]

/-- A raise changes the records, the Overflow mark and the owed notices, and nothing else of the state. -/
theorem State.raiseAlarm_eq (s : State) (k : AlarmKey) :
    ∃ rs o d, s.raiseAlarm k =
      { s with alarms := { s.alarms with records := rs, overflow := o }, due := s.due ++ d } := by
  unfold State.raiseAlarm
  split
  · exact ⟨_, _, _, rfl⟩
  · dsimp only
    split
    · exact ⟨_, _, _, rfl⟩
    · split <;> exact ⟨_, _, _, rfl⟩

/-- A raise of a kind-and-key that no record has, in a table that is not full: a new ACTIVE record at the tail. -/
theorem State.raiseAlarm_new (s : State) (k : AlarmKey) (hk : ∀ r ∈ s.alarms.records, r.key ≠ k)
    (hl : s.alarms.records.length < 64) :
    s.raiseAlarm k =
      { s with
        alarms := { s.alarms with records := s.alarms.records ++ [⟨k, .active, s.clk.stamp, 0⟩] }
        due := s.due ++ [.notice (AlarmRecord.notice ⟨k, .active, s.clk.stamp, 0⟩)] } := by
  have hf : s.alarms.records.find? (fun r => r.key = k) = none := by
    simp only [List.find?_eq_none, decide_eq_true_eq]
    exact hk
  simp [State.raiseAlarm, hf, Config.maxAlarms, hl]

/-- Conditions that are gone change no record whose key the group does not pick. -/
theorem State.alarmsGone_other (s : State) (g : AlarmKey → Bool) {r : AlarmRecord} (hr : r ∈ s.alarms.records)
    (hg : g r.key = false) : r ∈ (s.alarmsGone g).alarms.records := by
  simp only [State.alarmsGone, List.mem_filterMap]
  exact ⟨r, hr, by simp [hg]⟩

/-- A condition that no record stands for changes nothing. -/
theorem State.alarmsGone_none (s : State) (g : AlarmKey → Bool) (h : ∀ r ∈ s.alarms.records, g r.key = false) :
    s.alarmsGone g = s := by
  have h1 : s.alarms.records.filterMap (fun r => if g r.key then r.conditionGone else some r) = s.alarms.records := by
    have : ∀ l : List AlarmRecord, (∀ r ∈ l, g r.key = false) →
        l.filterMap (fun r => if g r.key then r.conditionGone else some r) = l := by
      intro l
      induction l with
      | nil => simp
      | cons a l ih =>
        intro hl
        have ha := hl a (by simp)
        simp only [List.filterMap_cons, ha, Bool.false_eq_true, if_false]
        rw [ih fun r hr => hl r (by simp [hr])]
    exact this _ h
  have h2 : s.alarms.records.flatMap (fun r => r.changeNotice (if g r.key then r.conditionGone else some r)) = [] := by
    simp only [List.flatMap_eq_nil_iff]
    intro r hr
    simp [h r hr, AlarmRecord.changeNotice]
  have h3 : (s.alarms.records.all fun r => (if g r.key then r.conditionGone else some r).isSome) = true := by
    simp only [List.all_eq_true]
    intro r hr
    simp [h r hr]
  simp [State.alarmsGone, h1, h2, h3]

/-! ### Notices -/

theorem grown_refl (p : PortOne) : Grown p p.queue p.marks := ⟨⟨[], by simp⟩, ⟨[], by simp⟩⟩

/-- One growth of the queue after another is a growth. -/
theorem grown_trans {p : PortOne} {q q' : List TxEntry} {m m' : List NoticeObject} (h : Grown p q m)
    (h' : Grown { p with queue := q, marks := m } q' m') : Grown p q' m' := by
  obtain ⟨⟨a, ha⟩, ⟨b, hb⟩⟩ := h
  obtain ⟨⟨c, hc⟩, ⟨d, hd⟩⟩ := h'
  exact ⟨⟨a ++ c, by rw [hc, ha]; simp⟩, ⟨b ++ d, by rw [hd, hb]; simp⟩⟩

/-- The answers of a queue that has grown are those of the old, in order (R167). -/
theorem grown_answers {p : PortOne} {q : List TxEntry} {m : List NoticeObject} (h : Grown p q m) :
    q.filter TxEntry.isAnswer = p.queue.filter TxEntry.isAnswer := by
  obtain ⟨⟨a, ha⟩, -⟩ := h
  let entry (x : (Answer ⊕ NoticeObject) × AfterSent) : Option TxEntry :=
    match x with
    | (.inl a, after) => some (.answer a after)
    | (.inr _, _) => none
  have key : ∀ l : List TxEntry,
      l.filter TxEntry.isAnswer = (l.map fun e => (place e, e.after)).filterMap entry := by
    intro l
    induction l with
    | nil => rfl
    | cons e l ih => cases e <;> simp [TxEntry.isAnswer, place, TxEntry.after, entry, ih, List.filter_cons]
  have none_ : (a.map fun o => ((.inr o, .nothing) : (Answer ⊕ NoticeObject) × AfterSent)).filterMap entry = [] := by
    simp [entry]
  rw [key, ha, List.filterMap_append, none_, List.append_nil, ← key]

/-- The queueing of a notice changes the transmit queue and the pending marks of port 1, and every entry keeps its place (R167). -/
theorem PortOne.queueNotice_eq (p : PortOne) (n : Notice) :
    ∃ q m, Grown p q m ∧ p.queueNotice n = { p with queue := q, marks := m } := by
  unfold PortOne.queueNotice
  split
  · exact ⟨_, _, grown_refl p, rfl⟩
  · split
    · refine ⟨_, _, ⟨⟨[], ?_⟩, ⟨[], by simp⟩⟩, rfl⟩
      simp only [List.map_map, List.map_nil, List.append_nil]
      refine List.map_congr_left fun e _ => ?_
      cases e with
      | answer => simp [TxEntry.isNoticeOf]
      | notice x =>
        by_cases h : x.object = n.object <;> simp [TxEntry.isNoticeOf, place, TxEntry.after, h]
    · split
      · exact ⟨_, _, grown_refl p, rfl⟩
      · split
        · exact ⟨_, _, ⟨⟨[n.object], by simp [place, TxEntry.after]⟩, ⟨[], by simp⟩⟩, rfl⟩
        · exact ⟨_, _, ⟨⟨[], by simp⟩, ⟨[n.object], rfl⟩⟩, rfl⟩

/-- A notice takes a transmit entry only while two are free, so it leaves one free (R167). -/
theorem PortOne.queueNotice_leaves_one (p : PortOne) (n : Notice) (h : p.queue.length ≤ 15) :
    (p.queueNotice n).queue.length ≤ 15 := by
  unfold PortOne.queueNotice
  split
  · exact h
  · split
    · simpa using h
    · split
      · exact h
      · split
        · rename_i hf
          simp only [PortOne.free, Config.transmitQueueSize] at hf
          simp
          omega
        · exact h

theorem State.payDue_eq (s : State) (d : Due) :
    ∃ q m, Grown s.p1 q m ∧ s.payDue d = { s with p1 := { s.p1 with queue := q, marks := m } } := by
  cases d with
  | notice n =>
    obtain ⟨q, m, g, h⟩ := s.p1.queueNotice_eq n
    exact ⟨q, m, g, by simp [State.payDue, State.queueNotice, h]⟩
  | object o =>
    obtain ⟨q, m, g, h⟩ := s.p1.queueNotice_eq (s.buildNotice o)
    exact ⟨q, m, g, by simp [State.payDue, State.queueNotice, h]⟩

theorem State.payDues_eq (ds : List Due) (s : State) :
    ∃ q m, Grown s.p1 q m ∧ ds.foldl State.payDue s = { s with p1 := { s.p1 with queue := q, marks := m } } := by
  induction ds generalizing s with
  | nil => exact ⟨s.p1.queue, s.p1.marks, grown_refl _, rfl⟩
  | cons d ds ih =>
    obtain ⟨q, m, g, h⟩ := s.payDue_eq d
    obtain ⟨q', m', g', h'⟩ := ih (s.payDue d)
    exact ⟨q', m', grown_trans g (by rw [h] at g'; exact g'), by rw [List.foldl_cons, h', h]⟩

/-- Owed notices leave one transmit entry free when one was free (R167). -/
theorem State.payDues_leave_one (ds : List Due) (s : State) (h : s.p1.queue.length ≤ 15) :
    (ds.foldl State.payDue s).p1.queue.length ≤ 15 := by
  induction ds generalizing s with
  | nil => exact h
  | cons d ds ih =>
    refine ih _ ?_
    cases d <;> exact PortOne.queueNotice_leaves_one _ _ h

/-- The notice of an object does not read port 1. -/
theorem State.buildNotice_of_portOne (s : State) (p : PortOne) (o : NoticeObject) :
    ({ s with p1 := p } : State).buildNotice o = s.buildNotice o := by
  cases o <;> rfl

/-- The marks served are the first ones, in order, while two entries are free (R167). -/
theorem State.serveMarks_eq (s : State) (ms : List NoticeObject) :
    s.serveMarks ms =
      { s with
        p1 :=
          { s.p1 with
            queue := s.p1.queue ++ (ms.take (15 - s.p1.queue.length)).map fun o => .notice (s.buildNotice o)
            marks := ms.drop (15 - s.p1.queue.length) } } := by
  induction ms generalizing s with
  | nil => simp [State.serveMarks]
  | cons o ms ih =>
    unfold State.serveMarks
    split
    · rename_i h
      simp only [PortOne.free, Config.transmitQueueSize] at h
      have e : 15 - s.p1.queue.length = 15 - (s.p1.queue.length + 1) + 1 := by omega
      rw [ih]
      simp [State.buildNotice_of_portOne, e]
    · rename_i h
      simp only [PortOne.free, Config.transmitQueueSize] at h
      have e : 15 - s.p1.queue.length = 0 := by omega
      simp [e]

/-! ### The end of an event -/

theorem State.deriveOutputs_eq (s o : State) :
    ∃ g f, s.deriveOutputs o = { s with alarms := { s.alarms with general := g, fault := f } } := ⟨_, _, rfl⟩

theorem State.flush_eq (s o : State) :
    ∃ q m, Grown s.p1 q m ∧ s.flush o = { s with due := [], p1 := { s.p1 with queue := q, marks := m } } :=
  State.payDues_eq (s.due ++ (changedObjects o s).map Due.object) { s with due := [] }

theorem State.updateCheck_eq (s o : State) :
    ∃ v, s.updateCheck o = { s with sup := { s.sup with checkValue := v } } := ⟨_, rfl⟩

theorem State.coverageAlarms_eq (s o : State) :
    ∃ d, s.coverageAlarms o = { s with alarms := (s.coverageAlarms o).alarms, due := d } := by
  have h := State.coverageAlarms_frame s o
  refine ⟨(s.coverageAlarms o).due, ?_⟩
  generalize s.coverageAlarms o = t at h ⊢
  obtain ⟨⟩ := t
  simp_all

/-- The end of an event: beside the notices, the outputs and the check value, only COVERAGE_SHORT moves in the Alarm Table. -/
theorem State.finish_eq (o s : State) :
    ∃ g f q m v, Grown s.p1 q m ∧ State.finish o s =
      { s with
        due := []
        alarms := { (s.coverageAlarms o).alarms with general := g, fault := f }
        p1 := { s.p1 with queue := q, marks := m }
        sup := { s.sup with checkValue := v } } := by
  obtain ⟨d, hc⟩ := s.coverageAlarms_eq o
  obtain ⟨g, f, hd⟩ := (s.coverageAlarms o).deriveOutputs_eq o
  obtain ⟨q, m, grown, hp⟩ := ((s.coverageAlarms o).deriveOutputs o).flush_eq o
  obtain ⟨v, hv⟩ := (((s.coverageAlarms o).deriveOutputs o).flush o).updateCheck_eq o
  refine ⟨g, f, q, m, v, by rw [hd, hc] at grown; exact grown, ?_⟩
  show ((((s.coverageAlarms o).deriveOutputs o).flush o).updateCheck o) = _
  rw [hv, hp, hd]
  generalize hA : (s.coverageAlarms o).alarms = A at hc ⊢
  rw [hc]

theorem State.coverageAlarms_same (s o : State) (h : s.bank.coverage = o.bank.coverage) : s.coverageAlarms o = s := by
  have step : ∀ z, s.coverageAlarm o z = s := by
    intro z
    unfold State.coverageAlarm
    rw [h]
    cases hc : o.bank.coverage[z].isShort <;> simp
  unfold State.coverageAlarms
  induction rooms with
  | nil => rfl
  | cons z zs ih => simp [step, ih]

/-- The end of an event that has changed no coverage record: the records and the Overflow mark are the event's own. -/
theorem State.finish_eq_of_coverage (o s : State) (h : s.bank.coverage = o.bank.coverage) :
    ∃ g f q m v, Grown s.p1 q m ∧ State.finish o s =
      { s with
        due := []
        alarms := { s.alarms with general := g, fault := f }
        p1 := { s.p1 with queue := q, marks := m }
        sup := { s.sup with checkValue := v } } := by
  have := State.finish_eq o s
  rwa [State.coverageAlarms_same s o h] at this

/-- The end of an event that has changed neither a coverage record nor the Alarm Table. -/
theorem State.finish_quiet (o s : State) (h : s.bank.coverage = o.bank.coverage) (ha : s.alarms = o.alarms) :
    ∃ q m v, Grown s.p1 q m ∧ State.finish o s =
      { s with due := [], p1 := { s.p1 with queue := q, marks := m }, sup := { s.sup with checkValue := v } } := by
  have hd : s.deriveOutputs o = s := by
    have : s.sameTable o = true := by simp [State.sameTable, ha]
    simp [State.deriveOutputs, this]
  obtain ⟨q, m, grown, hp⟩ := s.flush_eq o
  obtain ⟨v, hv⟩ := (s.flush o).updateCheck_eq o
  refine ⟨q, m, v, grown, ?_⟩
  show ((((s.coverageAlarms o).deriveOutputs o).flush o).updateCheck o) = _
  rw [State.coverageAlarms_same s o h, hd, hv, hp]

/-- The end of an event leaves one transmit entry free when one was free. -/
theorem State.finish_leaves_one (o s : State) (h : s.p1.queue.length ≤ 15) : (State.finish o s).p1.queue.length ≤ 15 := by
  unfold State.finish State.flush State.updateCheck
  dsimp only
  refine State.payDues_leave_one _ _ ?_
  have := State.coverageAlarms_frame s o
  simp_all [State.deriveOutputs]

@[simp] theorem changedObjects_self (s : State) : changedObjects s s = [] := by
  simp [changedObjects, changedBearers]

/-- An event that has changed nothing ends with nothing changed. -/
theorem State.finish_self (s : State) (h : s.due = []) : State.finish s s = s := by
  have hd : s.deriveOutputs s = s := by simp [State.deriveOutputs, State.sameTable]
  unfold State.finish
  dsimp only
  rw [State.coverageAlarms_same s s rfl, hd]
  simp only [State.flush, h, changedObjects_self, List.map_nil, List.append_nil, List.foldl_nil]
  obtain ⟨⟩ := s
  simp_all [State.updateCheck, State.retained]

/-- Every event ends with no notice owed. -/
@[simp] theorem State.finish_due (o s : State) : (State.finish o s).due = [] := by
  obtain ⟨_, _, _, _, _, _, h⟩ := State.finish_eq o s
  rw [h]

/-! ### Requests -/

/-- The handler takes the request at the head of the queue when the test picks it and it can take one. -/
theorem serveWhen_taken (test : List Octet → Bool) (body : RequestFrame → State → State × Reply) (s : State)
    (f : RequestFrame) (rest : List RequestFrame) (h : s.p1.requests = f :: rest) (ht : test f.payload = true)
    (hc : s.canTake f = true) :
    serveWhen test body s =
      .next (State.carryOut { s with p1 := { s.p1 with requests := rest } } f (f.payload.headD 0) body) := by
  simp [serveWhen, State.takeRequest, h, ht, hc]

/-- Every request command answers a next state. -/
theorem serveWhen_next (test : List Octet → Bool) (body : RequestFrame → State → State × Reply) (s : State) :
    ∃ t, serveWhen test body s = .next t := by
  unfold serveWhen
  split <;> exact ⟨_, rfl⟩

end Sys2Proof.Machine
end

