-- ==== Sys2Proof/Laws/Requests.lean ====
section
/-! SUPPORT. Laws/Requests.lean: what a request that waits brings about, by the kind of its body: one that changes nothing, one that refuses,
and one whose effect leaves the Alarm Table and the coverage records alone. -/
namespace Sys2Proof.Laws

open Sys2Proof Sys2Proof.Machine Sys2Proof.Safety

variable {s : State} {f : RequestFrame} {rest : List RequestFrame} {code : Octet} {n : Nat}

theorem broadcast_of_waits (w : Waits s f rest code) : f.broadcast = false := by
  have h := w.addressed
  simpa [RequestFrame.broadcast] using h

/-- The handler can take a request that waits. -/
theorem canTake_of_waits (w : Waits s f rest code) : s.canTake f = true := by
  have hb := broadcast_of_waits w
  have he : 1 ≤ s.p1.free := by
    have := w.entryFree
    simp only [PortOne.free, Config.transmitQueueSize]
    omega
  simp [State.canTake, State.running, w.runs.1, w.runs.2, w.inService, w.noTest, w.noRestart, hb, he]

theorem takeRequest_of_waits (w : Waits s f rest code) (hn : code = BitVec.ofNat 8 n) :
    s.takeRequest (hasCode n) = some (f, taken s rest) := by
  simp [State.takeRequest, w.head, hasCode, w.code, hn, canTake_of_waits w, taken]

/-- A request that waits is taken and carried out. -/
theorem serve_of_waits (w : Waits s f rest code) (hn : code = BitVec.ofNat 8 n)
    (body : RequestFrame → State → State × Reply) : serve n body s = .next ((taken s rest).carryOut f code body) := by
  have hc := w.code
  have hd : f.payload.headD 0 = code := by
    cases hp : f.payload <;> simp_all
  unfold serve
  rw [serveWhen_taken _ _ _ f rest w.head (by simp [hasCode, hc, hn]) (canTake_of_waits w), hd]
  rfl

/-- A request that waits with fields after its code is carried out with the operand that they spell. -/
theorem serveFields_of_waits {α : Type} (w : WaitsWith s f rest code) (hn : code = BitVec.ofNat 8 n) (a : α)
    (body : α → State → State × Reply) :
    serveFields n (some a) body s = .next ((taken s rest).carryOut f code fun _ t => body a t) := by
  unfold serveFields
  rw [serve_of_waits w.toWaits hn]
  unfold State.carryOut
  simp [w.fields]

/-- A request to this unit alone is answered at the tail of the transmit queue. -/
theorem answer_eq (u : State) (r : Reply) (h : f.address ≠ 255) :
    u.answer f code r = answered u f code r.code r.contents r.after := by
  have hb : f.broadcast = false := by simpa [RequestFrame.broadcast] using h
  simp [State.answer, hb, answered]

/-- A request whose body changes nothing is answered and nothing else. -/
theorem serve_unchanged (w : Waits s f rest code) (hn : code = BitVec.ofNat 8 n)
    (body : RequestFrame → State → State × Reply) (r : Reply) (hb : body f (taken s rest) = (taken s rest, r)) :
    serve n body s = .next (answered (taken s rest) f code r.code r.contents r.after) := by
  rw [serve_of_waits w hn]
  unfold State.carryOut
  rw [hb]
  simp only
  rw [State.finish_self (taken s rest) w.settled, answer_eq _ _ w.addressed]

/-- A request whose body leaves the coverage records and the Alarm Table alone brings about its effect, up to notices. -/
theorem serve_accepted (w : Waits s f rest code) (hn : code = BitVec.ofNat 8 n)
    (body : RequestFrame → State → State × Reply) (u : State) (r : Reply) (hb : body f (taken s rest) = (u, r))
    (hok : r.code = .ok) (hc : u.bank.coverage = s.bank.coverage) (ha : u.alarms = s.alarms) :
    Accepted (serve n body s) u f code r.contents r.after := by
  rw [serve_of_waits w hn]
  unfold State.carryOut
  rw [hb]
  simp only
  obtain ⟨q, m, v, grown, h⟩ := State.finish_quiet (taken s rest) u (by simpa [taken] using hc) (by simpa [taken] using ha)
  exact ⟨_, ⟨q, m, v, grown, rfl⟩, by rw [h, answer_eq _ _ w.addressed, hok]⟩

/-- A request whose body leaves the coverage records alone brings about its effect, up to notices and outputs. -/
theorem serve_accepted_with_alarms (w : Waits s f rest code) (hn : code = BitVec.ofNat 8 n)
    (body : RequestFrame → State → State × Reply) (u : State) (x : Contents) (hb : body f (taken s rest) = (u, .ok x))
    (hc : u.bank.coverage = s.bank.coverage) : AcceptedWithAlarms (serve n body s) u f code x := by
  rw [serve_of_waits w hn]
  unfold State.carryOut
  rw [hb]
  simp only
  obtain ⟨g, h, q, m, v, grown, hf⟩ := State.finish_eq_of_coverage (taken s rest) u (by simpa [taken] using hc)
  exact ⟨_, ⟨g, h, q, m, v, grown, rfl⟩, by rw [hf, answer_eq _ _ w.addressed]; rfl⟩

/-- A request that is refused is answered with the code and changes nothing else. -/
theorem serve_refused (w : Waits s f rest code) (hn : code = BitVec.ofNat 8 n)
    (body : RequestFrame → State → State × Reply) (c : AnswerCode) (hb : body f (taken s rest) = refuse c (taken s rest)) :
    serve n body s = .next (refused s f rest code c) :=
  serve_unchanged w hn body ⟨c, .nothing, .nothing⟩ hb

theorem withBearer_live {b : Nat} {r : Bearer} (t : State) (body : Bearer → State × Reply) (h1 : 1 ≤ b) (h2 : b ≤ 4095)
    (hr : t.bt.bearers.get b = some r) : withBearer b t body = body r := by
  have hv : bearerValid b = true := by simp [bearerValid, Config.maxBearers, h1, h2]
  simp [withBearer, hv, hr]

theorem withRoom_num (z : Room) (t : State) (body : Room → State × Reply) : withRoom (num z) t body = body z := by
  simp [withRoom]

theorem withRoom_none {k : Nat} (h : k = 0 ∨ 16 < k) (t : State) (body : Room → State × Reply) :
    withRoom k t body = refuse .format t := by
  simp [withRoom, room?_none h]

/-- `UpToNotices` and `UpToOutputs` look past the owed notices. -/
theorem upToOutputs_due {u u' t : State} (h : UpToOutputs u t) (hu : u = { u' with due := u.due }) : UpToOutputs u' t := by
  obtain ⟨g, k, q, m, v, grown, rfl⟩ := h
  refine ⟨g, k, q, m, v, by rw [hu] at grown; exact grown, ?_⟩
  rw [hu]

end Sys2Proof.Laws
end

