-- ==== Sys2Proof/Laws/Clock.lean ====
section
/-! SUPPORT. Laws/Clock.lean: what entering a site state, following the site schedule and evaluating the schedules do to the clock. -/
namespace Sys2Proof.Machine

open Sys2Proof Sys2Proof.Safety

/-- Entering a site state sets the state and the grace timer, and nothing else of the clock (R34). -/
theorem State.enterSite_clk (s : State) (st : SiteState) :
    (s.enterSite st).clk =
      { s.clk with
        siteState := st
        graceTimer :=
          if s.clk.siteState = st then (if st = SiteState.closing then s.clk.graceTimer else none)
          else if st = SiteState.closing then some (60 * s.clk.grace) else none } := by
  unfold State.enterSite
  split
  · rename_i h
    simp only [h]
  · rename_i h
    split <;> simp_all

/-- Following the site schedule moves the site state, the override and the grace timer as the tables of R34 and R35 say. -/
theorem State.siteFollows_site (s : State) (b : Bool) :
    ((s.siteFollows b).clk.siteState, (s.siteFollows b).clk.override, (s.siteFollows b).clk.graceTimer) =
      followed s.clk b s.siteInForce := by
  unfold State.siteFollows followed
  cases b <;> cases s.siteInForce
  · rfl
  · cases hs : s.clk.siteState <;> cases ho : s.clk.override <;>
      simp [State.siteOpens, State.enterSite_clk, hs, ho]
  · cases hs : s.clk.siteState <;> cases ho : s.clk.override <;> by_cases hg : s.clk.grace = 0 <;>
      simp [State.siteCloses, State.enterSite_clk, hs, ho, hg]
  · rfl

/-- The time is handed to the broadcast that has not begun, or to the next one (R158). -/
theorem State.handTime_hands (s : State) : HandedOver s s.handTime ⟨s.clk.date, s.clk.time, s.clk.weekday⟩ := by
  unfold HandedOver State.handTime LoopMaster.takeReading
  constructor
  · intro c hc
    simp [hc]
  · intro hc
    split
    · rename_i c h
      exact absurd h (hc c)
    · exact ⟨rfl, rfl⟩

/-- Following the site schedule changes only the site state, the override and the grace timer of the clock. -/
theorem State.siteFollows_clk (s : State) (b : Bool) :
    ∃ st o g, (s.siteFollows b).clk = { s.clk with siteState := st, override := o, graceTimer := g } := by
  unfold State.siteFollows
  split
  · unfold State.siteOpens
    dsimp only
    split <;> split
    all_goals first
      | exact ⟨_, _, _, rfl⟩
      | (rw [State.enterSite_clk]; exact ⟨_, _, _, rfl⟩)
      | (split
         · exact ⟨_, _, _, rfl⟩
         · rw [State.enterSite_clk]; exact ⟨_, _, _, rfl⟩)
  · unfold State.siteCloses
    split
    · rw [State.enterSite_clk]
      exact ⟨_, _, _, rfl⟩
    · exact ⟨_, _, _, rfl⟩
  · exact ⟨_, _, _, rfl⟩

/-- An evaluation fills the in-force table and lets the site state follow; the reading of the clock stays. -/
theorem State.evaluate_clk (s : State) (b : Bool) :
    ∃ st o g, (s.evaluate b).clk =
      { s.clk with inForce := vgen s.evaluateSchedule, siteState := st, override := o, graceTimer := g } := by
  obtain ⟨st, o, g, h⟩ :=
    State.siteFollows_clk ({ s with clk := { s.clk with inForce := vgen s.evaluateSchedule } } : State) b
  refine ⟨st, o, g, ?_⟩
  unfold State.evaluate
  dsimp only
  rw [foldl_clk _ (by simp), h]

/-- What an evaluation gives a schedule depends on the schedules, the holidays and the reading of the clock alone. -/
theorem State.evaluateSchedule_congr (s t : State) (hb : t.bt = s.bt)
    (hc : ∃ i ss g st o gt, t.clk =
      { s.clk with inForce := i, siteSchedule := ss, grace := g, siteState := st, override := o, graceTimer := gt }) :
    t.evaluateSchedule = s.evaluateSchedule := by
  obtain ⟨i, ss, g, st, o, gt, hc⟩ := hc
  funext j
  simp [State.evaluateSchedule, hb, hc]

end Sys2Proof.Machine
end

