-- ==== Sys2Proof/Laws/Formats.lean ====
section
/-! SUPPORT. Laws/Formats.lean: the FORMAT checks of the operands, each said as what it accepts, and the order of dates and times that the
octets give. -/
namespace Sys2Proof.Laws

open Sys2Proof Sys2Proof.Machine Sys2Proof.Safety

theorem bcdValid_iff (o : Octet) : bcdValid o = true ↔ IsBcd o := by
  revert o
  unfold bcdValid IsBcd hiDigit loDigit
  decide +kernel

theorem bcdVal_eq (o : Octet) : bcdVal o = twoDigits o := by
  revert o
  unfold bcdVal twoDigits hiDigit loDigit
  decide +kernel

theorem lastDayVal_eq (y m : Nat) : lastDayVal y m = daysIn y m := by
  unfold lastDayVal daysIn leapYear
  by_cases h : m = 2 <;> simp [h, or_assoc]

theorem date_valid_iff (d : Date) : d.valid = true ↔ RealDate d := by
  simp only [Date.valid, RealDate, Bool.and_eq_true, decide_eq_true_eq, bcdValid_iff, bcdVal_eq, lastDayVal_eq, and_assoc]

theorem hhMm_valid_iff (t : HhMm) : t.valid = true ↔ RealTime t := by
  simp only [HhMm.valid, RealTime, Bool.and_eq_true, decide_eq_true_eq, bcdValid_iff, bcdVal_eq, and_assoc]

theorem tokenValid_iff (t : Token) : tokenValid t = true ↔ RealToken t := by simp [tokenValid, RealToken]

theorem class?_isSome_iff (o : Octet) : (class? o).isSome = true ↔ o.toNat ≤ 4 := by
  revert o
  decide +kernel

theorem pinValid_iff (p : PinBcd) : pinValid p = true ↔ RealPin p := by
  have low : ∀ k : Nat, k &&& 15 = k % 16 := fun k => Nat.and_two_pow_sub_one_eq_mod k 4
  have hp := p.isLt
  simp only [pinValid, pinDigits, RealPin, List.all_cons, List.all_nil, Bool.and_true, Bool.and_eq_true, decide_eq_true_eq,
    BitVec.toNat_and, BitVec.toNat_ushiftRight, Nat.shiftRight_eq_div_pow, BitVec.toNat_ofNat]
  norm_num [low]

/-- Packed-BCD octets stand in the order of their digits. -/
theorem octet_lt_iff {a b : Octet} (ha : IsBcd a) (hb : IsBcd b) : a.toNat < b.toNat ↔ twoDigits a < twoDigits b := by
  obtain ⟨h1, h2⟩ := ha
  obtain ⟨h3, h4⟩ := hb
  unfold twoDigits
  omega

theorem octet_eq_iff {a b : Octet} (ha : IsBcd a) (hb : IsBcd b) : a.toNat = b.toNat ↔ twoDigits a = twoDigits b := by
  obtain ⟨h1, h2⟩ := ha
  obtain ⟨h3, h4⟩ := hb
  unfold twoDigits
  omega

theorem twoDigits_lt {a : Octet} (ha : IsBcd a) : twoDigits a < 100 := by
  obtain ⟨h1, h2⟩ := ha
  unfold twoDigits
  omega

/-- Times of day stand in the order of the numbers hhmm (R31). -/
theorem hhMm_number_lt {a b : HhMm} (ha : RealTime a) (hb : RealTime b) : a.number < b.number ↔ hhmm a < hhmm b := by
  have h1 := octet_lt_iff ha.1 hb.1
  have h2 := octet_eq_iff ha.1 hb.1
  have h3 := octet_lt_iff ha.2.1 hb.2.1
  have h4 := twoDigits_lt ha.2.1
  have h5 := twoDigits_lt hb.2.1
  have h6 := a.minute.isLt
  have h7 := b.minute.isLt
  unfold HhMm.number hhmm
  omega

/-- Three numbers below 256 as octets of one value are compared one after another. -/
theorem octets_lt_iff {y m d y' m' d' : Nat} (hm : m < 256) (hd : d < 256) (hm' : m' < 256) (hd' : d' < 256) :
    y * 65536 + m * 256 + d < y' * 65536 + m' * 256 + d' ↔ y < y' ∨ y = y' ∧ (m < m' ∨ m = m' ∧ d < d') := by omega

/-- The same of three two-digit numbers. -/
theorem digits_lt_iff {y m d y' m' d' : Nat} (hm : m < 100) (hd : d < 100) (hm' : m' < 100) (hd' : d' < 100) :
    y * 10000 + m * 100 + d < y' * 10000 + m' * 100 + d' ↔ y < y' ∨ y = y' ∧ (m < m' ∨ m = m' ∧ d < d') := by omega

/-- Dates stand in the order of the numbers yymmdd (R3). -/
theorem date_number_lt {a b : Date} (ha : RealDate a) (hb : RealDate b) : a.number < b.number ↔ yymmdd a < yymmdd b := by
  obtain ⟨hy, hm, hd, -⟩ := ha
  obtain ⟨ky, km, kd, -⟩ := hb
  unfold Date.number yymmdd
  rw [octets_lt_iff a.month.isLt a.day.isLt b.month.isLt b.day.isLt,
    digits_lt_iff (twoDigits_lt hm) (twoDigits_lt hd) (twoDigits_lt km) (twoDigits_lt kd), octet_lt_iff hy ky, octet_eq_iff hy ky,
    octet_lt_iff hm km, octet_eq_iff hm km, octet_lt_iff hd kd]

theorem date_number_le {a b : Date} (ha : RealDate a) (hb : RealDate b) : a.number ≤ b.number ↔ yymmdd a ≤ yymmdd b := by
  rw [← Nat.not_lt, ← Nat.not_lt, date_number_lt hb ha]

/-! ### The checks of composed operands -/

theorem enrol_formatOk_iff (a : EnrolArgs) : a.formatOk = true ↔ EnrolInRange a := by
  have h : ∀ d, (RealDate a.validFrom ∧ RealDate d ∧ a.validFrom.number ≤ d.number) ↔
      (RealDate a.validFrom ∧ RealDate d ∧ yymmdd a.validFrom ≤ yymmdd d) := fun d =>
    ⟨fun ⟨h, k, l⟩ => ⟨h, k, (date_number_le h k).mp l⟩, fun ⟨h, k, l⟩ => ⟨h, k, (date_number_le h k).mpr l⟩⟩
  unfold EnrolArgs.formatOk EnrolInRange
  cases hp : a.pin <;> cases hu : a.validUntil <;>
    simp only [Bool.and_eq_true, decide_eq_true_eq, class?_isSome_iff, tokenValid_iff, date_valid_iff, Config.maxBearers, pinValid_iff,
      reduceCtorEq, false_implies, implies_true, Option.some.injEq, forall_eq', and_true, true_and] <;>
    grind

theorem window_formatOk_iff (w : Window) : w.formatOk = true ↔ WindowInRange w := by
  simp [Window.formatOk, WindowInRange, hhMm_valid_iff, and_assoc]

theorem holiday_formatOk_iff (h : Holiday) : h.formatOk = true ↔ RealHoliday h := by
  cases h <;>
    simp only [Holiday.formatOk, RealHoliday, date_valid_iff, Bool.and_eq_true, decide_eq_true_eq, bcdValid_iff, bcdVal_eq, lastDayVal_eq, and_assoc]

theorem clockSet_formatOk_iff (a : ClockSetArgs) : a.formatOk = true ↔ ClockInRange a := by
  simp only [ClockSetArgs.formatOk, Time.valid, ClockInRange, date_valid_iff, Bool.and_eq_true, decide_eq_true_eq, bcdValid_iff, bcdVal_eq, and_assoc]

theorem bearerValid_iff (n : Nat) : bearerValid n = true ↔ 1 ≤ n ∧ n ≤ 4095 := by
  simp only [bearerValid, Bool.and_eq_true, decide_eq_true_eq]
  exact Iff.rfl

theorem chainWrite_formatOk_iff (a : ChainWriteArgs) : ChainWriteArgs.formatOk a = true ↔ ChainInRange a := by
  simp only [ChainWriteArgs.formatOk, ChainInRange, bearerValid_iff, PermContent.formatOk, Bool.and_eq_true, decide_eq_true_eq,
    List.all_eq_true, bne_iff_ne, and_assoc]
  exact Iff.rfl

theorem amend_formatOk_iff (a : AmendArgs) : a.formatOk = true ↔ AmendInRange a := by
  have h : ∀ d u, (RealDate d ∧ RealDate u ∧ d.number ≤ u.number) ↔ (RealDate d ∧ RealDate u ∧ yymmdd d ≤ yymmdd u) := fun d u =>
    ⟨fun ⟨h, k, l⟩ => ⟨h, k, (date_number_le h k).mp l⟩, fun ⟨h, k, l⟩ => ⟨h, k, (date_number_le h k).mpr l⟩⟩
  simp only [AmendArgs.formatOk, AmendInRange, AmendArgs.namedDatesInOrder, bearerValid_iff, Bool.and_eq_true]
  rcases a.validFrom with _ | d <;> rcases a.validUntil with _ | _ | u <;>
    simp only [date_valid_iff, reduceCtorEq, false_implies, implies_true, Option.some.injEq, forall_eq', and_true, true_and,
      decide_eq_true_eq] <;>
    grind [tokenValid_iff, class?_isSome_iff, pinValid_iff]

theorem key_formatOk_iff (k : AlarmKey) :
    k.formatOk = true ↔
      (∀ n, k.room = some n → 1 ≤ n ∧ n ≤ 16) ∧ (∀ n, k.bearer = some n → 1 ≤ n ∧ n ≤ 4095) ∧
        (∀ n, k.station = some n → n ≤ 96) ∧ ∀ n, k.point = some n → 1 ≤ n ∧ n ≤ 4 := by
  obtain ⟨kind, room, bearer, station, point⟩ := k
  rcases room with _ | r <;> rcases bearer with _ | b <;> rcases station with _ | t <;> rcases point with _ | p <;>
    simp [AlarmKey.formatOk, bearerValid_iff, and_assoc]

theorem alarm_key?_iff (a : AlarmArgs) (k : AlarmKey) : a.key? = some k ↔ NamesKey a k := by
  obtain ⟨kind, room, bearer, station, point⟩ := a
  rcases kind with _ | kind
  · simp [AlarmArgs.key?, NamesKey]
  · simp only [AlarmArgs.key?, key_formatOk_iff, Option.ite_none_right_eq_some, Option.some.injEq, NamesKey, AlarmArgs.mk.injEq]
    constructor
    · rintro ⟨h, rfl⟩
      exact ⟨⟨rfl, rfl, rfl, rfl, rfl⟩, h⟩
    · rintro ⟨⟨rfl, rfl, rfl, rfl, rfl⟩, h⟩
      exact ⟨h, rfl⟩

theorem profile?_iff (a : ProfileArgs) (p : Profile) : a.profile? = some p ↔ ProfileInRange a ∧ CarriesProfile a p := by
  unfold ProfileArgs.profile? ProfileInRange CarriesProfile sched?
  obtain ⟨v, f, l, d, so, kn, c, u, h, w, cu, ⟨tl, ht⟩, pa, lo, i, fe⟩ := p
  by_cases hl : a.timeLock < 64
  · cases hk : a.knock <;> cases hc : a.custody <;> cases hp : a.pinAlways <;> cases hw : a.lone <;>
      simp only [hl, dif_pos, reduceCtorEq, false_and, and_false, Option.ite_none_right_eq_some, Option.some.injEq, Profile.mk.injEq,
        Fin.mk.injEq, Prod.mk.injEq]
    grind
  · simp only [hl, dif_neg, not_false_eq_true]
    grind

end Sys2Proof.Laws
end

