-- ==== Sys2Proof/WellFormed.lean ====
section
/-! DEFINITION. WellFormed.lean: which commands the outside world can spell, and the request code of each request (R170). A number a request
carries fits the one or two octets it is sent in, or three for a bit rate; a list fits a payload of at most 120 octets; an event
names an object the part has (DESIGN CHOICE, assumption 49). exec answers a next state for an ill-formed command as well: this file rules nothing out there. -/
namespace Sys2Proof

/-! ### Sizes -/

/-- A number sent in one octet. -/
def inOctet (n : Nat) : Bool := n ≤ 255

/-- A number sent in two octets. -/
def inTwoOctets (n : Nat) : Bool := n ≤ 65535

/-- A test on a value that may be absent. -/
def absentOr {α : Type} (o : Option α) (test : α → Bool) : Bool :=
  match o with
  | none => true
  | some a => test a

/-- The digits of a presentation are 0 to 9 and at most 12 (R157). -/
def digitsOk (ds : List Nat) : Bool := ds.length ≤ 12 && ds.all (· ≤ 9)

/-! ### Operands -/

/-- The number sizes of R170's layout. -/
def EnrolArgs.sized (a : EnrolArgs) : Bool := inTwoOctets a.bearer && inOctet a.escortLimit && inOctet a.interval

def AmendArgs.sized (a : AmendArgs) : Bool :=
  inTwoOctets a.bearer && absentOr a.escortLimit inOctet && absentOr a.interval inOctet

/-- A chain content takes at least four octets of the payload. -/
def ChainWriteArgs.sized (a : ChainWriteArgs) : Bool :=
  inTwoOctets a.bearer && a.contents.length ≤ 29 && a.contents.all fun c => inOctet c.schedule

/-- A window takes five octets. -/
def ScheduleWriteArgs.sized (a : ScheduleWriteArgs) : Bool := inOctet a.schedule && a.windows.length ≤ 23

def AlarmArgs.sized (a : AlarmArgs) : Bool :=
  absentOr a.room inOctet && absentOr a.bearer inTwoOctets && absentOr a.station inOctet && absentOr a.point inOctet

def LinkSetArgs.sized (a : LinkSetArgs) : Bool :=
  inOctet a.port && (match a.setting with | .mode _ => true | .rate r => r < 16777216)

def ProfileArgs.sized (a : ProfileArgs) : Bool :=
  inOctet a.room && inTwoOctets a.volume && inTwoOctets a.factor && inOctet a.limit && inOctet a.delay && inOctet a.soak &&
    inOctet a.capacity && inOctet a.unlock && inTwoOctets a.heldOpen && inOctet a.window && inOctet a.timeLock &&
    inOctet a.interval

/-- At most 4 presentations or pendant reports, or 48 pressure flags (R157). -/
def Events.sized : Events → Bool
  | .nothing => true
  | .door ps => ps.length ≤ 4 && ps.all fun p => digitsOk p.digits
  | .checkIn ps => ps.length ≤ 4 && ps.all fun p => digitsOk p.digits
  | .pendant ps => ps.length ≤ 4
  | .pressure low => low.length = 48

/-- At most 4 points, the event number in one octet (R148, R157). -/
def ReportFrame.sized (r : ReportFrame) : Bool :=
  r.points.length ≤ 4 && inOctet r.eventNumber && r.events.sized

/-! ### Commands -/

/-- The command is one the outside world can spell. -/
def Instr.wf : Instr → Bool
  | .enrol a => absentOr a EnrolArgs.sized
  | .amend a => absentOr a AmendArgs.sized
  | .suspend n | .reinstate n | .revoke n | .readBearer n | .chainRead n | .rollRemove n => absentOr n inTwoOctets
  | .findToken _ => true
  | .retentionSet n | .scheduleRead n => absentOr n inOctet
  | .chainWrite a => absentOr a ChainWriteArgs.sized
  | .scheduleWrite a => absentOr a ScheduleWriteArgs.sized
  | .holidayAdd _ | .holidayRemove _ | .holidayRead => true
  | .clockSet a => absentOr a fun x => inOctet x.weekday
  | .clockRead => true
  | .siteSet a => absentOr a fun x => inOctet x.schedule && inOctet x.grace
  | .siteOverride _ => true
  | .rollConfirm n | .rollSweep n => absentOr n inOctet
  | .rollRead a => absentOr a fun x => inOctet x.room && inOctet x.start
  | .doorRelease a => absentOr a fun x => inOctet x.door
  | .doorLockdown n | .doorRestore n | .doorRead n => absentOr n inOctet
  | .alarmAck a | .alarmReset a => absentOr a AlarmArgs.sized
  | .alarmRead n => absentOr n inOctet
  | .zoneReset n | .zoneDisable n | .zoneEnable n | .releaseAuthorise n | .zoneRead n => absentOr n inOctet
  | .cylinderInstall a => absentOr a fun x => inOctet x.position && inTwoOctets x.charge
  | .cylinderIsolate n | .cylinderReturn n | .cylinderRemove n | .cylinderRead n => absentOr n inOctet
  | .bankRead => true
  | .stationConfigure a => absentOr a fun x => inOctet x.address && inOctet x.room
  | .stationRead n => absentOr n inOctet
  | .linkSet a => absentOr a LinkSetArgs.sized
  | .linkRead n => absentOr n inOctet
  | .linkTest | .status | .restart _ _ => true
  | .addressSet n => absentOr n inOctet
  | .profileLoad a => absentOr a ProfileArgs.sized
  | .profileRead n => absentOr n inOctet
  | .unknownRequest => true
  | .supervisorFrameReceived _ | .frameTransmit _ | .linkSettingsApply | .linkTestRun _ => true
  | .poll | .broadcastPoll | .pollMissed => true
  | .report r => r.sized
  | .secondTick _ | .graceTimerExpiry | .unlockTimerExpiry _ | .heldOpenTimerExpiry _ | .pairingWindowExpiry _ => true
  | .countdownEnd _ | .dischargeTimerExpiry _ | .flowStartTimerExpiry _ | .soakTimerExpiry _ => true
  | .loneWorkerPrompt e | .loneWorkerExpiry e => 1 ≤ e && e ≤ 256
  | .mainsOkChange _ | .inhibitChange _ | .powerUp _ _ | .mainSupplyFail | .backupLoss => true
  | .resetLineLow | .resetLineHigh _ _ | .restartWarmReset _ _ | .frameSent _ => true

/-- The request code of a request (R170); none for an event or expiry, and for a request of no known code. -/
def Instr.requestCode : Instr → Option Nat
  | .enrol _ => some 0x10
  | .amend _ => some 0x11
  | .suspend _ => some 0x12
  | .reinstate _ => some 0x13
  | .revoke _ => some 0x14
  | .readBearer _ => some 0x15
  | .findToken _ => some 0x16
  | .retentionSet _ => some 0x17
  | .chainWrite _ => some 0x18
  | .chainRead _ => some 0x19
  | .scheduleWrite _ => some 0x1A
  | .scheduleRead _ => some 0x1B
  | .holidayAdd _ => some 0x1C
  | .holidayRemove _ => some 0x1D
  | .holidayRead => some 0x1E
  | .clockSet _ => some 0x20
  | .clockRead => some 0x21
  | .siteSet _ => some 0x22
  | .siteOverride _ => some 0x23
  | .rollConfirm _ => some 0x30
  | .rollSweep _ => some 0x31
  | .rollRemove _ => some 0x32
  | .rollRead _ => some 0x33
  | .doorRelease _ => some 0x40
  | .doorLockdown _ => some 0x41
  | .doorRestore _ => some 0x42
  | .doorRead _ => some 0x43
  | .alarmAck _ => some 0x50
  | .alarmReset _ => some 0x51
  | .alarmRead _ => some 0x52
  | .zoneReset _ => some 0x60
  | .zoneDisable _ => some 0x61
  | .zoneEnable _ => some 0x62
  | .releaseAuthorise _ => some 0x63
  | .zoneRead _ => some 0x64
  | .cylinderInstall _ | .cylinderIsolate _ | .cylinderReturn _ | .cylinderRemove _ => some 0x70
  | .cylinderRead _ => some 0x71
  | .bankRead => some 0x72
  | .stationConfigure _ => some 0x80
  | .stationRead _ => some 0x81
  | .linkSet _ => some 0x90
  | .linkRead _ => some 0x91
  | .linkTest => some 0x92
  | .status => some 0xA0
  | .restart _ _ => some 0xA1
  | .addressSet _ => some 0xA2
  | .profileLoad _ => some 0xA3
  | .profileRead _ => some 0xA4
  | .unknownRequest | .supervisorFrameReceived _ | .frameTransmit _ | .linkSettingsApply | .linkTestRun _ | .poll
  | .broadcastPoll | .pollMissed | .report _ | .secondTick _ | .graceTimerExpiry | .unlockTimerExpiry _
  | .heldOpenTimerExpiry _ | .pairingWindowExpiry _ | .countdownEnd _ | .dischargeTimerExpiry _ | .flowStartTimerExpiry _
  | .soakTimerExpiry _ | .loneWorkerPrompt _ | .loneWorkerExpiry _ | .mainsOkChange _ | .inhibitChange _ | .powerUp _ _
  | .mainSupplyFail | .backupLoss | .resetLineLow | .resetLineHigh _ _ | .restartWarmReset _ _ | .frameSent _ => none

end Sys2Proof
end

