-- ==== Sys2Proof/Laws/PerInstr.lean ====
section
/-! SUPPORT. Laws/PerInstr.lean: statements about every command as syntax, one lemma per constructor of `Instr`. -/
namespace Sys2Proof.Laws.Coded

/-- A command's request code, where it has one, is one of the codes of R170. -/
def Statement (i : Instr) : Prop := ∀ c, i.requestCode = some c → c ∈ requestCodes

theorem of_code {i : Instr} {k : Nat} (hi : i.requestCode = some k) (hk : requestCodes.contains k = true) : Statement i := by
  intro c h
  rw [hi] at h
  cases h
  simpa using hk

theorem of_none {i : Instr} (hi : i.requestCode = none) : Statement i := by
  intro c h
  rw [hi] at h
  cases h

theorem enrol (a : Option EnrolArgs) : Statement (Instr.enrol a) := of_code rfl rfl
theorem amend (a : Option AmendArgs) : Statement (Instr.amend a) := of_code rfl rfl
theorem suspend (bearer : Option Nat) : Statement (Instr.suspend bearer) := of_code rfl rfl
theorem reinstate (bearer : Option Nat) : Statement (Instr.reinstate bearer) := of_code rfl rfl
theorem revoke (bearer : Option Nat) : Statement (Instr.revoke bearer) := of_code rfl rfl
theorem readBearer (bearer : Option Nat) : Statement (Instr.readBearer bearer) := of_code rfl rfl
theorem findToken (token : Option Token) : Statement (Instr.findToken token) := of_code rfl rfl
theorem retentionSet (days : Option Nat) : Statement (Instr.retentionSet days) := of_code rfl rfl
theorem chainWrite (a : Option ChainWriteArgs) : Statement (Instr.chainWrite a) := of_code rfl rfl
theorem chainRead (bearer : Option Nat) : Statement (Instr.chainRead bearer) := of_code rfl rfl
theorem scheduleWrite (a : Option ScheduleWriteArgs) : Statement (Instr.scheduleWrite a) := of_code rfl rfl
theorem scheduleRead (schedule : Option Nat) : Statement (Instr.scheduleRead schedule) := of_code rfl rfl
theorem holidayAdd (h : Option Holiday) : Statement (Instr.holidayAdd h) := of_code rfl rfl
theorem holidayRemove (h : Option Holiday) : Statement (Instr.holidayRemove h) := of_code rfl rfl
theorem holidayRead : Statement Instr.holidayRead := of_code rfl rfl
theorem clockSet (a : Option ClockSetArgs) : Statement (Instr.clockSet a) := of_code rfl rfl
theorem clockRead : Statement Instr.clockRead := of_code rfl rfl
theorem siteSet (a : Option SiteSetArgs) : Statement (Instr.siteSet a) := of_code rfl rfl
theorem siteOverride (o : Option Override) : Statement (Instr.siteOverride o) := of_code rfl rfl
theorem rollConfirm (room : Option Nat) : Statement (Instr.rollConfirm room) := of_code rfl rfl
theorem rollSweep (room : Option Nat) : Statement (Instr.rollSweep room) := of_code rfl rfl
theorem rollRemove (bearer : Option Nat) : Statement (Instr.rollRemove bearer) := of_code rfl rfl
theorem rollRead (a : Option RollReadArgs) : Statement (Instr.rollRead a) := of_code rfl rfl
theorem doorRelease (a : Option DoorReleaseArgs) : Statement (Instr.doorRelease a) := of_code rfl rfl
theorem doorLockdown (door : Option Nat) : Statement (Instr.doorLockdown door) := of_code rfl rfl
theorem doorRestore (door : Option Nat) : Statement (Instr.doorRestore door) := of_code rfl rfl
theorem doorRead (door : Option Nat) : Statement (Instr.doorRead door) := of_code rfl rfl
theorem alarmAck (a : Option AlarmArgs) : Statement (Instr.alarmAck a) := of_code rfl rfl
theorem alarmReset (a : Option AlarmArgs) : Statement (Instr.alarmReset a) := of_code rfl rfl
theorem alarmRead (start : Option Nat) : Statement (Instr.alarmRead start) := of_code rfl rfl
theorem zoneReset (zone : Option Nat) : Statement (Instr.zoneReset zone) := of_code rfl rfl
theorem zoneDisable (zone : Option Nat) : Statement (Instr.zoneDisable zone) := of_code rfl rfl
theorem zoneEnable (zone : Option Nat) : Statement (Instr.zoneEnable zone) := of_code rfl rfl
theorem releaseAuthorise (zone : Option Nat) : Statement (Instr.releaseAuthorise zone) := of_code rfl rfl
theorem zoneRead (zone : Option Nat) : Statement (Instr.zoneRead zone) := of_code rfl rfl
theorem cylinderInstall (a : Option InstallArgs) : Statement (Instr.cylinderInstall a) := of_code rfl rfl
theorem cylinderIsolate (position : Option Nat) : Statement (Instr.cylinderIsolate position) := of_code rfl rfl
theorem cylinderReturn (position : Option Nat) : Statement (Instr.cylinderReturn position) := of_code rfl rfl
theorem cylinderRemove (position : Option Nat) : Statement (Instr.cylinderRemove position) := of_code rfl rfl
theorem cylinderRead (position : Option Nat) : Statement (Instr.cylinderRead position) := of_code rfl rfl
theorem bankRead : Statement Instr.bankRead := of_code rfl rfl
theorem stationConfigure (a : Option ConfigureArgs) : Statement (Instr.stationConfigure a) := of_code rfl rfl
theorem stationRead (address : Option Nat) : Statement (Instr.stationRead address) := of_code rfl rfl
theorem linkSet (a : Option LinkSetArgs) : Statement (Instr.linkSet a) := of_code rfl rfl
theorem linkRead (port : Option Nat) : Statement (Instr.linkRead port) := of_code rfl rfl
theorem linkTest : Statement Instr.linkTest := of_code rfl rfl
theorem status : Statement Instr.status := of_code rfl rfl
theorem restart (line1 line2 : List Bool) : Statement (Instr.restart line1 line2) := of_code rfl rfl
theorem addressSet (address : Option Nat) : Statement (Instr.addressSet address) := of_code rfl rfl
theorem profileLoad (a : Option ProfileArgs) : Statement (Instr.profileLoad a) := of_code rfl rfl
theorem profileRead (room : Option Nat) : Statement (Instr.profileRead room) := of_code rfl rfl
theorem unknownRequest : Statement Instr.unknownRequest := of_none rfl
theorem supervisorFrameReceived (line : List Bool) : Statement (Instr.supervisorFrameReceived line) := of_none rfl
theorem frameTransmit (port : Port) : Statement (Instr.frameTransmit port) := of_none rfl
theorem linkSettingsApply : Statement Instr.linkSettingsApply := of_none rfl
theorem linkTestRun (line : List Bool) : Statement (Instr.linkTestRun line) := of_none rfl
theorem poll : Statement Instr.poll := of_none rfl
theorem broadcastPoll : Statement Instr.broadcastPoll := of_none rfl
theorem pollMissed : Statement Instr.pollMissed := of_none rfl
theorem report (frame : ReportFrame) : Statement (Instr.report frame) := of_none rfl
theorem secondTick (expiriesFirst : Bool) : Statement (Instr.secondTick expiriesFirst) := of_none rfl
theorem graceTimerExpiry : Statement Instr.graceTimerExpiry := of_none rfl
theorem unlockTimerExpiry (door : Room) : Statement (Instr.unlockTimerExpiry door) := of_none rfl
theorem heldOpenTimerExpiry (door : Room) : Statement (Instr.heldOpenTimerExpiry door) := of_none rfl
theorem pairingWindowExpiry (door : Room) : Statement (Instr.pairingWindowExpiry door) := of_none rfl
theorem countdownEnd (zone : Room) : Statement (Instr.countdownEnd zone) := of_none rfl
theorem dischargeTimerExpiry (zone : Room) : Statement (Instr.dischargeTimerExpiry zone) := of_none rfl
theorem flowStartTimerExpiry (zone : Room) : Statement (Instr.flowStartTimerExpiry zone) := of_none rfl
theorem soakTimerExpiry (zone : Room) : Statement (Instr.soakTimerExpiry zone) := of_none rfl
theorem loneWorkerPrompt (entry : Nat) : Statement (Instr.loneWorkerPrompt entry) := of_none rfl
theorem loneWorkerExpiry (entry : Nat) : Statement (Instr.loneWorkerExpiry entry) := of_none rfl
theorem mainsOkChange (active : Bool) : Statement (Instr.mainsOkChange active) := of_none rfl
theorem inhibitChange (active : Bool) : Statement (Instr.inhibitChange active) := of_none rfl
theorem powerUp (line1 line2 : List Bool) : Statement (Instr.powerUp line1 line2) := of_none rfl
theorem mainSupplyFail : Statement Instr.mainSupplyFail := of_none rfl
theorem backupLoss : Statement Instr.backupLoss := of_none rfl
theorem resetLineLow : Statement Instr.resetLineLow := of_none rfl
theorem resetLineHigh (line1 line2 : List Bool) : Statement (Instr.resetLineHigh line1 line2) := of_none rfl
theorem restartWarmReset (line1 line2 : List Bool) : Statement (Instr.restartWarmReset line1 line2) := of_none rfl
theorem frameSent (port : Port) : Statement (Instr.frameSent port) := of_none rfl

end Sys2Proof.Laws.Coded
end

