-- ==== Sys2Proof/Tests/Slice0.lean ====
section
/-! SUPPORT. Tests/Slice0.lean: the model's own tests. Part 1 takes the manual's worked examples and tables; part 2 is one step of every
command; part 3 refuses ill-formed commands; part 4 shows, for each statement with hypotheses, a state and operands that meet them
together, with boundary values. -/
set_option Elab.async false

namespace Sys2Proof.Tests

open Sys2Proof Sys2Proof.Machine Sys2Proof.Safety

/-! ### Helpers -/

/-- The state after a command. -/
def after (i : Instr) (s : State) : State :=
  match exec i s with
  | .next t => t
  | .fault _ => s
  | .refused _ => s

/-- A request with a payload, tag 7, addressed to unit 1. -/
def request (payload : List Octet) : RequestFrame := ⟨1, 7, payload⟩

/-- The state with that request alone in its queue. -/
def with_ (payload : List Octet) (s : State) : State := { s with p1 := { s.p1 with requests := [request payload], queue := [] } }

/-- The state with a request of a code alone in its queue. -/
def bare (code : Octet) (s : State) : State := with_ [code] s

/-- The state with a request of a code and one octet of fields in its queue: what they spell is the command's operand. -/
def asked (code : Octet) (s : State) : State := with_ [code, 0] s

/-- The last entry of the transmit queue is the answer to `request`. -/
def answersWith (s : State) (code : Octet) (c : AnswerCode) (x : Contents) : Bool :=
  s.p1.queue.getLast? = some (.answer ⟨7, code, c, x⟩ .nothing)

/-- A request in the queue of a state that runs and has nothing outstanding can be served. -/
theorem waits_asked {s : State} {code : Octet} (cs : List Octet) (runs : Runs s) (inService : s.p1.heldOff = false)
    (noTest : s.sup.linkTest = none) (noRestart : s.sup.restartDue = false) (settled : Settled s) :
    Waits (with_ (code :: cs) s) (request (code :: cs)) [] code :=
  ⟨rfl, rfl, runs, inService, noTest, noRestart, Nat.zero_le _, by simp [request], settled⟩

/-- The same with an octet of fields. -/
theorem asked_waits {s : State} {code : Octet} (runs : Runs s) (inService : s.p1.heldOff = false) (noTest : s.sup.linkTest = none)
    (noRestart : s.sup.restartDue = false) (settled : Settled s) : WaitsWith (asked code s) (request [code, 0]) [] code :=
  ⟨waits_asked [0] runs inService noTest noRestart settled, by simp [request]⟩

/-! ### A state with every kind of record -/

def allRights : Rights := ⟨true, true, true, true, false⟩

def custodian : Bearer := ⟨0x105#40, .custodian, some 0x1239#16, ⟨0x25, 0x01, 0x01⟩, some ⟨0x25, 0x12, 0x31⟩, 1, 2, 0, 1, .active⟩
def suspended : Bearer := ⟨0x106#40, .staff, none, ⟨0x25, 0x01, 0x01⟩, none, 0, 0, 0, 5, .suspended⟩
def retiring : Bearer := ⟨0x107#40, .staff, none, ⟨0x25, 0x01, 0x01⟩, none, 0, 0, 0, 0, .retiring⟩
def inside : Bearer := ⟨0x108#40, .staff, none, ⟨0x25, 0x01, 0x01⟩, none, 0, 3, 5, 0, .active⟩
def visitor : Bearer := ⟨0x109#40, .visitor, none, ⟨0x25, 0x01, 0x01⟩, none, 0, 0, 0, 0, .active⟩

/-- Bearers 5 to 9; bearer 5 holds the chain 1, 2. -/
def table : BearerTable :=
  { BearerTable.cold with
    bearers := [(5, custodian), (6, suspended), (7, retiring), (8, inside), (9, visitor)]
    index := [(0x105, 5), (0x106, 6), (0x107, 7), (0x108, 8), (0x109, 9)]
    entries := [(1, ⟨⟨0xFFFF, 0, allRights⟩, 2⟩), (2, ⟨⟨0x0001, 1, allRights⟩, 0⟩)]
    freeList := [3, 4, 5], freeCount := 3, holidays := [.everyYear 0x12 0x25, .dated 0x25 0x12 0x31], retention := 3 }

def entry (b : Nat) (r : Room) (c : CheckInState) (counter : Int) (prompt : Bool) : OccEntry :=
  ⟨b, r, 40, none, 0, false, false, counter, c, prompt⟩

/-- Bearer 7 in strongroom 2, bearers 8 and 9 (escorted by 8) in strongroom 1. -/
def roll : Roll :=
  { entries :=
      [(3, { entry 7 1 .running 60 true with revokedInside := true }), (4, { entry 8 0 .running 0 false with escorted := 1 }),
       (5, { entry 9 0 .off 0 false with link := some 4 })]
    rooms := ((Vector.replicate 16 ⟨[], false⟩).set 0 ⟨[4, 5], false⟩).set 1 ⟨[3], true⟩
    tick := 99 }

def door (st : DoorState) : Door := { Door.cold with state := st, unknownCause := none, contact := some .normal, bolt := some .normal }

/-- Doors 1 SECURED, 2 RELEASED for entry, 3 OPEN, 4 under lockdown, 5 RELEASED by the egress push, 6 TIME_LOCKED. -/
def doors : Vector Door 16 :=
  ((((((Vector.replicate 16 Door.cold).set 0 (door .secured)).set 1
    { door .released with releaseKind := some .entry, unlock := some 0 }).set 2
    { door .opened with openCause := some .grant, heldOpen := .running 0, contact := some .active }).set 3
    { door .secured with lockdown := true }).set 4 { door .released with releaseKind := some .egress, unlock := some 4 }).set 5
    { door .timeLocked with timeLock := true }

def zone (st : ZoneState) : Zone := { Zone.cold with state := st }

def bothActive : ZoneInputs := { ZoneInputs.allNormal with detectorA := .active, detectorB := .active }

/-- One zone in each state, from zone 1: NORMAL, ALERT, HELD, COUNTDOWN at its end, DISCHARGING at both its ends, SOAK at its
end, VENT, DISABLED by request, DISABLED with both detectors Active, WAIT_BANK. -/
def zones : Vector Zone 16 :=
  ((((((((((Vector.replicate 16 (zone .disabled)).set 0 (zone .normal)).set 1 (zone .alert)).set 2
    { zone .held with
      kind := .automatic, remainder := 30, inputs := { ZoneInputs.allNormal with abort := .active }
      holds := ⟨true, false, false, false⟩ }).set 3
    { zone .countdown with kind := .manual, remainder := 1, accumulated := 29, countdownDue := true }).set 4
    { zone .discharging with kind := .manual, accumulated := 30, flowStart := some 0, discharge := some 0 }).set 5
    { zone .soak with soak := some 0 }).set 6 (zone .vent)).set 7 { zone .disabled with disableCause := .request }).set 8
    { zone .disabled with inputs := bothActive }).set 9 { zone .waitBank with kind := .manual, accumulated := 30 }

def full (st : CylinderState) : Cylinder := ⟨st, some 400, none, false⟩

/-- Cylinders 1 READY, 2 RESERVED to zone 3, 3 ABSENT, 4 ISOLATED, 5 FAULT, 6 SPENT, 7 RESERVED to zone 5. -/
def bank : AgentBank :=
  { AgentBank.cold with
    cylinders :=
      ((((((Vector.replicate 48 Cylinder.cold).set 0 (full .ready)).set 1 { full .reserved with zone := some 2 }).set 3
        (full .isolated)).set 4 (full .fault)).set 5 (full .spent)).set 6 { full .reserved with zone := some 4 }
    flags := (Vector.replicate 48 Flag.unknown).set 4 .low
    reservations := [2, 3, 4, 9], manifold := some 4, waitQueue := [9] }

/-- Stations 1 a door unit, 2 a check-in station, 3 a bank monitor, 4 a pendant receiver that has missed two polls. -/
def stations : Vector Station 96 :=
  ((((Vector.replicate 96 Station.cold).set 0 { Station.configured .doorUnit 1 with state := .online }).set 1
    { Station.configured .checkIn 1 with state := .online }).set 2 { Station.configured .bankMonitor 0 with state := .online }).set 3
    { Station.configured .pendantRx 0 with misses := 2 }

def rec (k : AlarmKey) (st : AlarmState) : AlarmRecord := ⟨k, st, .zeros, 0⟩

/-- One record for each row of the tables of ALARM ACK and ALARM RESET. -/
def alarms : AlarmTable :=
  { records :=
      [rec (.forRoom .heldOpen 2) .active, rec (.forRoom .forced 5) .restored, rec (.forRoom .heldOpen 6) .restored,
       rec (.forBearer .pinLockout 6) .acked, rec (.bare .tablesLost) .active, rec (.bare .restarted) .awaitReset,
       rec (.forRoom .rollUnreconciled 1) .active]
    overflow := false, general := true, fault := true }

/-- The clock SET at noon less one second on Tuesday 10 June 2025, the site in CLOSING with its grace timer at its end. -/
def clock : SiteClock :=
  { SiteClock.cold with
    date := ⟨0x25, 0x06, 0x10⟩, time := ⟨0x11, 0x59, 0x58⟩, weekday := 2, isSet := true, siteState := .closing
    graceTimer := some 0 }

/-- The state with all of it: every record of a kind that a statement names. -/
def sample : State :=
  { State.reset with
    bt := table, clk := clock, ctx := (Vector.replicate 16 Context.empty).set 0 (.custody true 0 5 allRights), roll := roll
    doors := doors, alarms := alarms, zones := zones, bank := bank
    loop := { LoopMaster.cold with stations := stations, broadcastDue := some ⟨⟨0x25, 0x06, 0x10⟩, ⟨0x12, 0, 0⟩, 2⟩ }
    sup := { State.reset.sup with profiles := (State.reset.sup.profiles).set 1 { Profile.default with lone := .always } } }

theorem sample_runs : Runs sample := ⟨rfl, rfl⟩

theorem sample_waits (code : Octet) : Waits (bare code sample) (request [code]) [] code :=
  waits_asked [] sample_runs rfl rfl rfl rfl

theorem sample_asked (code : Octet) : WaitsWith (asked code sample) (request [code, 0]) [] code :=
  asked_waits sample_runs rfl rfl rfl rfl

/-! ## Part 1: the manual's worked examples and tables -/

/-- The clock SET at a date, time and weekday. -/
def clockAt (d : Date) (t : Time) (w : Nat) : SiteClock := { SiteClock.cold with isSet := true, date := d, time := t, weekday := w }

/-- Chapter 2, the year-end carry. -/
theorem test_year_end_carry :
    (clockAt ⟨0x25, 0x12, 0x31⟩ ⟨0x23, 0x59, 0x59⟩ 3).advance =
      ⟨clockAt ⟨0x26, 0x01, 0x01⟩ ⟨0x00, 0x00, 0x00⟩ 4, true, true⟩ := by decide +kernel

/-- Chapter 2: 29 February follows in year 28 and not in year 27. -/
theorem test_leap_carry :
    (clockAt ⟨0x28, 0x02, 0x28⟩ ⟨0x23, 0x59, 0x59⟩ 1).advance.clk.date = ⟨0x28, 0x02, 0x29⟩ ∧
    (clockAt ⟨0x27, 0x02, 0x28⟩ ⟨0x23, 0x59, 0x59⟩ 7).advance.clk.date = ⟨0x27, 0x03, 0x01⟩ := by decide +kernel

/-- The state whose clock stands at a date and time of December 2025 with one every-year holiday, 25 December, and schedule 12
of the night window (Friday and Holiday, 22:00 to 06:00). -/
def nightWindow (day hour minute : Octet) (weekday : Nat) : State :=
  { State.reset with
    bt := { State.reset.bt with
            schedules := State.reset.bt.schedules.set 12 [⟨0x90, ⟨0x22, 0x00⟩, ⟨0x06, 0x00⟩⟩], holidays := [.everyYear 0x12 0x25] }
    clk := { clockAt ⟨0x25, 0x12, day⟩ ⟨hour, minute, 0x00⟩ weekday with
             holidayToday := isHoliday [.everyYear 0x12 0x25] ⟨0x25, 0x12, day⟩ } }

/-- Chapter 2, a night window over a holiday. -/
theorem test_night_window :
    ((nightWindow 0x24 0x23 0x00 3).evaluateSchedule 12, (nightWindow 0x25 0x05 0x59 4).evaluateSchedule 12,
      (nightWindow 0x25 0x22 0x00 4).evaluateSchedule 12, (nightWindow 0x26 0x05 0x59 5).evaluateSchedule 12,
      (nightWindow 0x26 0x06 0x00 5).evaluateSchedule 12, (nightWindow 0x26 0x22 0x00 5).evaluateSchedule 12) =
      (false, false, true, true, false, true) := by decide +kernel

/-- Chapter 1, retention at the end of February: the days past. -/
theorem test_days_past :
    daysPast ⟨0x25, 0x02, 0x26⟩ ⟨0x25, 0x03, 0x02⟩ = 4 ∧ daysPast ⟨0x25, 0x02, 0x27⟩ ⟨0x25, 0x03, 0x02⟩ = 3 ∧
    daysPast ⟨0x25, 0x01, 0x10⟩ ⟨0x25, 0x03, 0x02⟩ = 51 ∧ daysPast ⟨0x28, 0x02, 0x26⟩ ⟨0x28, 0x03, 0x01⟩ = 4 := by
  decide +kernel

/-- Chapter 1, rewriting a chain: the table before. -/
def chainTable : BearerTable :=
  { BearerTable.cold with
    bearers := [(301, { custodian with cls := .staff, chainHead := 5 })]
    entries := [(5, ⟨⟨0x0003, 4, ⟨true, false, false, false, false⟩⟩, 9⟩), (9, ⟨⟨0x0004, 0, ⟨true, true, false, false, false⟩⟩, 12⟩),
                (12, ⟨⟨0x0040, 4, ⟨true, false, false, true, false⟩⟩, 0⟩)]
    freeList := [40, 41], freeCount := 2 }

def newContents : List PermContent :=
  [⟨0x0007, 4, ⟨true, false, false, false, false⟩⟩, ⟨0x0040, 0, ⟨true, false, false, true, false⟩⟩]

theorem test_chain_rewrite :
    let s := after (.chainWrite (some ⟨301, newContents⟩)) (asked 0x18 { State.reset with bt := chainTable })
    s.bt.freeList = [5, 40, 41] ∧ s.bt.chain 16 12 = [12, 9] ∧
      (s.bt.bearers.get 301).map (·.chainHead) = some 12 ∧ answersWith s 0x18 .ok (.chainTaken [12, 9]) = true := by
  decide +kernel

theorem test_chain_full :
    let s := after (.chainWrite (some ⟨301, List.replicate 6 ⟨0x0001, 0, allRights⟩⟩)) (asked 0x18 { State.reset with bt := chainTable })
    s.bt = chainTable ∧ answersWith s 0x18 .full .nothing = true := by decide +kernel

/-- Chapter 6, eviction in a full table: the records that matter, by position, among 64. -/
def fullTable : State :=
  let security (n : Nat) : AlarmRecord := rec ⟨.revokedInside, none, some n, none, none⟩ .active
  { State.reset with
    alarms :=
      { AlarmTable.empty with
        records :=
          [security 1, security 2, rec ⟨.stationMissing, none, none, some 41, none⟩ .active] ++
            ((List.range 3).map fun n => security (n + 4)) ++ [rec (.forRoom .heldOpen 1) .acked, security 8,
            rec (.forRoom .coverageShort 4) .acked] ++ (List.range 55).map fun n => security (n + 10) } }

def pointFault12 : AlarmKey := .forPoint 12 2

theorem test_eviction_steps :
    fullTable.alarms.records.length = 64 ∧
    (victim? fullTable.alarms.records .fault).map (·.key) = some (.forRoom .coverageShort 4) ∧
    let t := fullTable.raiseAlarm pointFault12
    (victim? t.alarms.records .security).map (·.key) = some (.forRoom .heldOpen 1) ∧
    let u := t.raiseAlarm (.forBearer .pinLockout 77)
    (u.raiseAlarm (.forRoom .rollUnreconciled 2)).alarms.overflow = true ∧
    (victim? u.alarms.records .life).map (·.key) = some ⟨.stationMissing, none, none, some 41, none⟩ := by decide +kernel

/-- Chapter 8, the walk and its limits: the 48 cylinders. -/
def walkCylinders : Vector Cylinder 48 :=
  vgen fun p =>
    if p.val = 1 then ⟨.isolated, some 215, none, false⟩
    else if p.val = 3 then ⟨.reserved, some 215, some 6, false⟩
    else if p.val = 5 then ⟨.ready, some 198, none, false⟩
    else if p.val < 14 then ⟨.ready, some 215, none, false⟩
    else .cold

theorem test_walk :
    bankWalk walkCylinders 1974 12 (fins 48) ⟨0, 0, []⟩ = ⟨2133, 10, [0, 2, 4, 5, 6, 7, 8, 9, 10, 11]⟩ ∧
    bankWalk walkCylinders 1974 8 (fins 48) ⟨0, 0, []⟩ = ⟨1703, 8, [0, 2, 4, 5, 6, 7, 8, 9]⟩ := by decide +kernel

/-- Chapters 7 and 8: required quantities and achieved factors. -/
theorem test_quantities :
    let p (v f : Nat) : Profile := { Profile.default with volume := v, factor := f }
    ((p 420 470).required, (p 300 500).required, (p 500 600).required) = (1974, 1500, 3000) ∧
    ((p 420 470).achieved 2133, (p 420 470).achieved 1703, (p 10 400).achieved 999, (p 500 600).achieved 2800) =
      (507, 405, 999, 560) := by decide +kernel

/-- Chapter 10: the 32 data bits of the header take 35 line bits. -/
theorem test_header_line_bits : (stuff 0 (octetBits [0x01, 0x01, 0x00, 0x02])).length = 35 := by decide +kernel

/-- Chapter 10: two sync pairs and a REQUEST frame bring the frame to the receiver. -/
theorem test_frame_received :
    receive ⟨.default, fun a => a = 1⟩ (.hunt []) (SyncPair.default.idle 2 ++ (LinkFrame.mk 1 1 0 [0x21]).line) =
      .inr (.accepted ⟨1, 1, 0, [0x21]⟩) := by decide +kernel

/-- Chapter 9, a detector interface through loss and return: polls 1 and 2 (persistence 2). -/
theorem test_persistence :
    let p : Point := ⟨some .normal, some .normal, 1, false⟩
    let q := (p.filter 2 .active).1
    p.filter 2 .active = (⟨some .normal, some .active, 1, false⟩, none) ∧
    q.filter 2 .active = (⟨some .active, some .active, 2, true⟩, some .active) := by decide +kernel

/-- R46: the duress form of 1239 is 1230. -/
theorem test_duress_form : pinDigits 0x1239 = [1, 2, 3, 9] ∧ duressDigits 0x1239 = [1, 2, 3, 0] := by decide +kernel

/-- R162: the default pair is valid; a pair that the search meets elsewhere in its own repetition, and one whose second octet has
bits 5 to 7 clear, are not. -/
theorem test_sync_pairs :
    SyncPair.default.valid = true ∧ SyncPair.valid ⟨0x55, 0x55⟩ = false ∧ SyncPair.valid ⟨0xB4, 0x1B⟩ = false := by decide +kernel

/-- The ENROL payload of R170, octet by octet. -/
def enrolPayload : List Octet :=
  [0x10, 0x2C, 0x01, 0x55, 0x44, 0x33, 0x22, 0x11, 0x03, 0x03, 0x12, 0x39, 0x25, 0x01, 0x02, 0x26, 0x12, 0x31, 0x02, 0x1E]

def enrolArgs : EnrolArgs := ⟨300, 0x1122334455, 3, some 0x1239, ⟨0x25, 0x01, 0x02⟩, some ⟨0x26, 0x12, 0x31⟩, 2, 30⟩

theorem test_enrol_payload : EnrolArgs.decode enrolPayload = some enrolArgs ∧ enrolArgs.encode = enrolPayload := by decide +kernel

/-! ## Part 2: one step of every command

The expected results are what the rule named says of `sample`; for a read, the reply is compared. -/

/-! ### Chapter 1 -/

/-- R6: the record of the payload, with the interval kept at 30, and the index. -/
theorem test_enrol :
    let s := after (.enrol (some enrolArgs)) (with_ enrolPayload sample)
    s.bt.bearers.get 300 =
        some ⟨0x1122334455, .custodian, some 0x1239, ⟨0x25, 0x01, 0x02⟩, some ⟨0x26, 0x12, 0x31⟩, 0, 2, 30, 0, .active⟩ ∧
      s.bt.index.get 0x1122334455 = some 300 ∧ answersWith s 0x10 .ok (.enrolled 300 30) = true := by decide +kernel

/-- R7: escort limit and interval named; an interval of 2 is stored as 5. -/
theorem test_amend :
    (after (.amend (some ⟨6, none, none, none, none, none, some 3, some 2⟩)) (asked 0x11 sample)).bt.bearers.get 6 =
      some { suspended with escortLimit := 3, interval := 5 } := by decide +kernel

/-- R5, R7: two named dates out of order are FORMAT before NOT_FOUND, where bearer 4095 is FREE; one date alone is NOT_FOUND. -/
theorem test_amend_dates_before_not_found :
    let a : AmendArgs := ⟨4095, none, none, none, some ⟨0x25, 0x06, 0x02⟩, some (some ⟨0x25, 0x06, 0x01⟩), none, none⟩
    (amendBody a sample).2.code = .format ∧ (amendBody { a with validFrom := none } sample).2.code = .notFound := by
  decide +kernel

/-- R8, R12: bearer 5 waits at door 1. -/
theorem test_suspend :
    let s := after (.suspend (some 5)) (asked 0x12 sample)
    s.bt.bearers.get 5 = some { custodian with state := .suspended } ∧ s.ctx[(0 : Room)] = .empty := by decide +kernel

/-- R8, R13, R97: an ACKED PIN_LOCKOUT is retired. -/
theorem test_reinstate :
    let s := after (.reinstate (some 6)) (asked 0x13 sample)
    s.bt.bearers.get 6 = some { suspended with state := .active, failedPin := 0 } ∧
      s.alarms.records.any (fun r => r.key = .forBearer .pinLockout 6) = false := by decide +kernel

/-- R9: bearer 8 is inside, bearer 5 is not. -/
theorem test_revoke :
    let s := after (.revoke (some 8)) (asked 0x14 sample)
    let t := after (.revoke (some 5)) (asked 0x14 sample)
    (s.bt.bearers.get 8).map (·.state) = some .retiring ∧ (s.roll.entries.get 4).map (·.revokedInside) = some true ∧
      t.bt.bearers.get 5 = none ∧ t.bt.freeList = [2, 1, 3, 4, 5] ∧ t.bt.freeCount = 5 := by decide +kernel

/-- R11: never the PIN itself. -/
theorem test_read_bearer :
    (readBearerBody 5 sample).2 = .ok
      (.bearer 5 (some ⟨.active, 0x105, .custodian, true, ⟨0x25, 0x01, 0x01⟩, some ⟨0x25, 0x12, 0x31⟩, 1, 2, 0, 1, none⟩)) := by
  decide +kernel

theorem test_find_token :
    (findTokenBody 0x108 sample).2 = .ok
      (.bearer 8 (some ⟨.active, 0x108, .staff, false, ⟨0x25, 0x01, 0x01⟩, none, 0, 3, 5, 0, some 0⟩)) ∧
    (findTokenBody 0x10A sample).2.code = .notFound := by decide +kernel

theorem test_retention_set :
    (after (.retentionSet (some 90)) (asked 0x17 sample)).bt.retention = 90 ∧
    answersWith (after (.retentionSet (some 91)) (asked 0x17 sample)) 0x17 .format .nothing = true := by decide +kernel

theorem test_chain_read :
    (chainReadBody 5 sample).2 = .ok (.chain [(1, ⟨0xFFFF, 0, allRights⟩), (2, ⟨0x0001, 1, allRights⟩)]) := by decide +kernel

/-- R21, R32: a window of every day and hour is in force at once. -/
theorem test_schedule_write :
    let w : Window := ⟨0x7F, ⟨0x00, 0x00⟩, ⟨0x23, 0x59⟩⟩
    let s := after (.scheduleWrite (some ⟨12, [w]⟩)) (asked 0x1A sample)
    s.bt.schedules[(12 : Sched)] = [w] ∧ s.clk.inForce[(12 : Sched)] = true := by decide +kernel

theorem test_schedule_read :
    (scheduleReadBody 0 sample).2 = .ok (.schedule true []) ∧ (scheduleReadBody 64 sample).2.code = .format := by decide +kernel

/-- R22: in date order. -/
theorem test_holiday_add :
    (after (.holidayAdd (some (.everyYear 0x12 0x26))) (asked 0x1C sample)).bt.holidays =
      [.everyYear 0x12 0x25, .everyYear 0x12 0x26, .dated 0x25 0x12 0x31] := by decide +kernel

theorem test_holiday_remove :
    (after (.holidayRemove (some (.everyYear 0x12 0x25))) (asked 0x1D sample)).bt.holidays = [.dated 0x25 0x12 0x31] := by
  decide +kernel

theorem test_holiday_read :
    (holidayReadBody (request [0x1E]) sample).2 = .ok (.holidays [.everyYear 0x12 0x25, .dated 0x25 0x12 0x31]) := by
  decide +kernel

/-! ### Chapter 2 -/

/-- R28: the holiday test of the new date, and the time handed on. -/
theorem test_clock_set :
    let s := after (.clockSet (some ⟨⟨0x25, 0x12, 0x25⟩, ⟨0x08, 0x30, 0x00⟩, 4⟩)) (asked 0x20 sample)
    reading s.clk = (⟨0x25, 0x12, 0x25⟩, ⟨0x08, 0x30, 0x00⟩, 4, true) ∧ s.clk.holidayToday = true ∧
      s.loop.broadcastDue = some ⟨⟨0x25, 0x12, 0x25⟩, ⟨0x08, 0x30, 0x00⟩, 4⟩ := by decide +kernel

theorem test_clock_read :
    (clockReadBody (request [0x21]) sample).2 = .ok
      (.clockRead ⟨0x25, 0x06, 0x10⟩ ⟨0x11, 0x59, 0x58⟩ 2 true false .closing .noOverride 1 15 0) := by decide +kernel

/-- R33, R34: schedule 0 is always in force, so a site in CLOSING opens. -/
theorem test_site_set :
    let s := after (.siteSet (some ⟨0, 60⟩)) (asked 0x22 sample)
    (s.clk.siteSchedule, s.clk.grace, s.clk.siteState, s.clk.graceTimer) = (0, 60, .openHours, none) := by decide +kernel

/-- R35. -/
theorem test_site_override :
    let s := after (.siteOverride (some .forceAfterHours)) (asked 0x23 sample)
    (s.clk.override, s.clk.siteState, s.clk.graceTimer) = (.forceAfterHours, .afterHours, none) := by decide +kernel

/-! ### Chapter 4 -/

/-- R67: strongroom 2 is Unreconciled. -/
theorem test_roll_confirm :
    let s := after (.rollConfirm (some 2)) (asked 0x30 sample)
    s.roll.rooms[(1 : Room)] = ⟨[3], false⟩ ∧ answersWith s 0x30 .ok (.rollConfirmed 1 false) = true := by decide +kernel

/-- R67, R70: the sweep completes the retirement of bearer 7. -/
theorem test_roll_sweep :
    let s := after (.rollSweep (some 2)) (asked 0x31 sample)
    s.roll.rooms[(1 : Room)] = ⟨[], false⟩ ∧ s.roll.entries.get 3 = none ∧ s.bt.bearers.get 7 = none ∧
      answersWith s 0x31 .ok (.rollSwept 1) = true := by decide +kernel

/-- R64, R68: the escort leaves; its visitor is Lapsed. -/
theorem test_roll_remove :
    let s := after (.rollRemove (some 8)) (asked 0x32 sample)
    s.roll.entries.get 4 = none ∧ (s.roll.entries.get 5).map (fun o => (o.link, o.lapsed)) = some (none, true) ∧
      s.alarms.records.any (fun r => r.key = .forRoomBearer .escortLapse 0 8) = true ∧
      answersWith s 0x32 .ok (.rollRemoved 0 1) = true := by decide +kernel

theorem test_roll_read :
    (rollReadBody ⟨1, 2⟩ sample).2 = .ok (.roll 2 8 false 0 99 [⟨5, 9, 40, some 4, 0, false, false, .off⟩]) := by decide +kernel

/-! ### Chapter 5 -/

/-- R77, R87: the bolt release waits at the door unit. -/
theorem test_door_release :
    let s := after (.doorRelease (some ⟨1, false⟩)) (asked 0x40 sample)
    (s.doors[(0 : Room)].state, s.doors[(0 : Room)].releaseKind, s.doors[(0 : Room)].unlock) = (.released, some .command, some 5) ∧
      s.loop.stations[(0 : Addr)].slots.bolt = some ⟨.release 5, false⟩ := by decide +kernel

/-- R88: an Entry release is cancelled, an Egress release kept. -/
theorem test_door_lockdown :
    let s := after (.doorLockdown (some 2)) (asked 0x41 sample)
    let t := after (.doorLockdown (some 5)) (asked 0x41 sample)
    (s.doors[(1 : Room)].state, s.doors[(1 : Room)].lockdown) = (.secured, true) ∧
      (t.doors[(4 : Room)].state, t.doors[(4 : Room)].releaseKind) = (.released, some .egress) := by decide +kernel

theorem test_door_restore :
    let s := after (.doorRestore (some 4)) (asked 0x42 sample)
    s.doors[(3 : Room)] = { doors[(3 : Room)] with lockdown := false } := by decide +kernel

theorem test_door_read : (doorReadBody 1 sample).2 = .ok (.door doors[(0 : Room)] 1 (.custody 5 0)) := by decide +kernel

/-! ### Chapter 6 -/

/-- R99: ACTIVE becomes ACKED; a RESTORED HELD_OPEN, which does not latch, is retired. -/
theorem test_alarm_ack :
    answersWith (after (.alarmAck (some ⟨some .heldOpen, some 3, none, none, none⟩)) (asked 0x50 sample)) 0x50 .ok
      (.alarmAcked (.standing .acked)) = true ∧
    answersWith (after (.alarmAck (some ⟨some .heldOpen, some 7, none, none, none⟩)) (asked 0x50 sample)) 0x50 .ok
      (.alarmAcked .retired) = true := by decide +kernel

theorem test_alarm_reset :
    let s := after (.alarmReset (some ⟨some .restarted, none, none, none, none⟩)) (asked 0x51 sample)
    s.alarms.records.length = 6 ∧ answersWith s 0x51 .ok .nothing = true := by decide +kernel

theorem test_alarm_read :
    (alarmReadBody 7 sample).2 = .ok (.alarms 7 false true true [rec (.forRoom .rollUnreconciled 1) .active]) := by decide +kernel

/-- R108: entry 3's counter stands at 60. -/
theorem test_lone_worker_prompt :
    ((after (.loneWorkerPrompt 3) sample).roll.entries.get 3).map (·.checkIn) = some .prompted := by decide +kernel

/-- R108: entry 4's counter stands at 0; bearer 8's interval of 5 minutes is loaded again. -/
theorem test_lone_worker_expiry :
    let s := after (.loneWorkerExpiry 4) sample
    (s.roll.entries.get 4).map (fun o => (o.checkIn, o.counter)) = some (.overdue, 300) ∧
      s.alarms.records.any (fun r => r.key = .forRoomBearer .overdue 0 8) = true := by decide +kernel

/-! ### Chapter 7 -/

/-- R127. -/
theorem test_zone_reset :
    (after (.zoneReset (some 7)) (asked 0x60 sample)).zones[(6 : Room)].state = .normal ∧
    answersWith (after (.zoneReset (some 3)) (asked 0x60 sample)) 0x60 .ok (.zoneState .normal) = true := by decide +kernel

/-- R128. -/
theorem test_zone_disable :
    let s := after (.zoneDisable (some 1)) (asked 0x61 sample)
    (s.zones[(0 : Room)].state, s.zones[(0 : Room)].disableCause) = (.disabled, .request) ∧
      s.alarms.records.any (fun r => r.key = .forRoom .zoneDisabled 0) = true := by decide +kernel

/-- R116, R128: zone 9 has both detectors Active, so it confirms in the same event and its countdown starts at 30. -/
theorem test_zone_enable :
    let s := after (.zoneEnable (some 9)) (asked 0x62 sample)
    (s.zones[(8 : Room)].state, s.zones[(8 : Room)].kind, s.zones[(8 : Room)].remainder) = (.countdown, .automatic, 30) ∧
      s.bank.reservations = [2, 3, 4, 9, 8] ∧ s.alarms.records.any (fun r => r.key = .forRoom .zoneRelease 8) = true := by
  decide +kernel

/-- R121: Authorise does not take the Abort reason away. -/
theorem test_release_authorise :
    answersWith (after (.releaseAuthorise (some 3)) (asked 0x63 sample)) 0x63 .ok
      (.authorised .held ⟨true, false, false, false⟩) = true := by decide +kernel

theorem test_zone_read : (zoneReadBody 10 sample).2 = .ok (.zone zones[(9 : Room)].view 1 .cold) := by decide +kernel

/-- R122: the manifold is held, so zone 4 joins the queue behind zone 10. -/
theorem test_countdown_end :
    let s := after (.countdownEnd 3) sample
    (s.zones[(3 : Room)].state, s.zones[(3 : Room)].accumulated) = (.waitBank, 30) ∧ s.bank.waitQueue = [9, 3] := by decide +kernel

/-- R124, R143, R144: zone 5 has spent its cylinder, soaks for 10 minutes, and zone 10 discharges. -/
theorem test_discharge_timer_expiry :
    let s := after (.dischargeTimerExpiry 4) sample
    (s.zones[(4 : Room)].state, s.zones[(4 : Room)].soak, s.zones[(9 : Room)].state) = (.soak, some 600, .discharging) ∧
      s.bank.cylinders[(6 : Pos)].state = .spent ∧ s.bank.manifold = some 9 ∧ s.bank.reservations = [2, 3, 9] := by
  decide +kernel

/-- R125. -/
theorem test_flow_start_timer_expiry :
    let s := after (.flowStartTimerExpiry 4) sample
    s.zones[(4 : Room)].unconfirmed = true ∧ s.bank.cylinders[(6 : Pos)].state = .fault ∧
      s.alarms.records.any (fun r => r.key = .forRoom .releaseFailed 4) = true := by decide +kernel

theorem test_soak_timer_expiry : (after (.soakTimerExpiry 5) sample).zones[(5 : Room)].state = .vent := by decide +kernel

/-! ### Chapter 8 -/

/-- R134, R140: the cylinder is READY, and the top-up gives cylinders 1 and 3 to zones 4 and 10, which hold none; zone 3 is FULL
and zone 5 discharges. -/
theorem test_cylinder_install :
    let s := after (.cylinderInstall (some ⟨3, 400⟩)) (asked 0x70 sample)
    answersWith s 0x70 .ok (.cylinderState .ready) = true ∧ s.bank.cylinders[(0 : Pos)] = { full .reserved with zone := some 3 } ∧
      s.bank.cylinders[(2 : Pos)] = { full .reserved with zone := some 9 } := by decide +kernel

/-- R134, R140: zone 3 loses cylinder 2 and takes cylinder 1. -/
theorem test_cylinder_isolate :
    let s := after (.cylinderIsolate (some 2)) (asked 0x70 sample)
    s.bank.cylinders[(1 : Pos)] = full .isolated ∧ s.bank.cylinders[(0 : Pos)] = { full .reserved with zone := some 2 } := by
  decide +kernel

/-- R134: the flag of position 5 stands low. -/
theorem test_cylinder_return :
    answersWith (after (.cylinderReturn (some 5)) (asked 0x70 sample)) 0x70 .ok (.cylinderState .fault) = true ∧
    answersWith (after (.cylinderReturn (some 4)) (asked 0x70 sample)) 0x70 .ok (.cylinderState .ready) = true := by decide +kernel

theorem test_cylinder_remove :
    (after (.cylinderRemove (some 6)) (asked 0x70 sample)).bank.cylinders[(5 : Pos)] = .cold ∧
    answersWith (after (.cylinderRemove (some 2)) (asked 0x70 sample)) 0x70 .state .nothing = true := by decide +kernel

theorem test_cylinder_read :
    (cylinderReadBody 2 sample).2 = .ok (.cylinder ⟨.reserved, some 400, some 2, false⟩ (some .held) .unknown) := by decide +kernel

theorem test_bank_read :
    (bankReadBody (request [0x72]) sample).2 = .ok
      (.bank (some 4) [9] [(2, 1, none), (3, 0, none), (4, 1, none), (9, 0, none)]
        [(.ready, 1), (.reserved, 2), (.spent, 1), (.isolated, 1), (.fault, 1), (.absent, 42)] 400) := by decide +kernel

/-! ### Chapter 9 -/

theorem test_station_configure :
    let s := after (.stationConfigure (some ⟨96, some .callPoint, 0⟩)) (asked 0x80 sample)
    (s.loop.stations[(95 : Addr)].state, s.loop.stations[(95 : Addr)].points.length) = (.pending, 4) ∧
    answersWith (after (.stationConfigure (some ⟨5, some .doorUnit, 1⟩)) (asked 0x80 sample)) 0x80 .conflict .nothing = true := by
  decide +kernel

theorem test_station_read :
    (stationReadBody 4 sample).2 = .ok (.stationRead .pendantRx 0 .pending 2 [] 0 ⟨false, false, false, false⟩) := by decide +kernel

/-- The line bits of a REPORT of a station with an empty payload. -/
def replyLine (a : Addr) : List Bool := SyncPair.default.idle 2 ++ (LinkFrame.mk (BitVec.ofNat 8 (num a)) 5 0 []).line

/-- `sample` with a poll of a station in progress. -/
def polled (a : Addr) (ph : PollPhase) : State :=
  { sample with loop := { sample.loop with current := some ⟨some a, ph, sample.pollContent a⟩ } }

/-- R151: with no broadcast due, the first station of the scan is polled. -/
theorem test_poll :
    let s := after .poll { sample with loop := { sample.loop with broadcastDue := none } }
    s.loop.current.map (fun p => (p.address, p.phase)) = some (some 0, .ready) ∧ s.loop.scan = 1 := by decide +kernel

theorem test_broadcast_poll :
    (after .broadcastPoll sample).loop.current =
      some ⟨none, .ready, .broadcast ⟨0x25, 0x06, 0x10⟩ ⟨0x12, 0x00, 0x00⟩ 2⟩ := by decide +kernel

/-- R152: the third miss. -/
theorem test_poll_missed :
    let s := after .pollMissed (polled 3 .awaiting)
    s.loop.stations[(3 : Addr)].state = .missing ∧ s.alarms.records.any (fun r => r.key = .forStation .stationMissing 3) = true := by
  decide +kernel

/-- R76, R79, R153 to R157: the contact opens. -/
def contactOpens : ReportFrame := ⟨replyLine 0, some .doorUnit, [.active, .normal, .normal, .normal], 0, .nothing⟩

theorem test_report_contact :
    (after (.report contactOpens) (polled 0 .awaiting)).doors[(0 : Room)].state = .forced := by decide +kernel

/-- R39, R64, R157: the exit presentation of bearer 8 at door 1. -/
theorem test_report_exit :
    let s := after
      (.report ⟨replyLine 0, some .doorUnit, [.normal, .normal, .normal, .normal], 1, .door [⟨.exit, 0x108, []⟩]⟩) (polled 0 .awaiting)
    s.doors[(0 : Room)].releaseKind = some .exit ∧ s.roll.entries.get 4 = none ∧
      s.loop.stations[(0 : Addr)].slots.answers = some ⟨⟨1, [.grant 5]⟩, true⟩ := by decide +kernel

/-! ### Chapter 10 -/

/-- A frame that asks for CLOCK READ, as the host sends it. -/
def hostLine (address : Octet) : List Bool := SyncPair.default.idle 2 ++ (LinkFrame.mk address 1 9 [0x21]).line

theorem test_supervisor_frame_received :
    (after (.supervisorFrameReceived (hostLine 1)) sample).p1.requests = [⟨1, 9, [0x21]⟩] ∧
    (after (.supervisorFrameReceived (hostLine 2)) sample).p1.requests = [] := by decide +kernel

/-- R165, R167: the head of the queue is being sent. -/
theorem test_frame_transmit :
    let s := after (.frameTransmit .supervisor) State.reset
    s.p1.tx = .sending ∧ s.p1.queue.length = 1 ∧ s.p1.sending.map (·.busy) = some false := by decide +kernel

theorem test_frame_sent :
    let s := after (.frameSent .supervisor) (after (.frameTransmit .supervisor) State.reset)
    s.p1.tx = .idle ∧ s.p1.sending = none := by decide +kernel

/-- R162. -/
theorem test_link_set :
    let s := after (.linkSet (some ⟨2, 0x4B, 0xB4, .rate 57600⟩)) (asked 0x90 sample)
    (s.p2.pair, s.p2.rate, s.p2.newSettings, s.p2.usedRate) = (⟨0x4B, 0xB4⟩, 57600, true, 38400) := by decide +kernel

theorem test_link_settings_apply :
    (after .linkSettingsApply { sample with p2 := { sample.p2 with rate := 9600, newSettings := true } }).p2.usedRate = 9600 := by
  decide +kernel

theorem test_link_read : (linkReadBody 1 sample).2 = .ok (.linkRead1 ⟨0xB4, 0x4B⟩ .direct .hunt .idle) := by decide +kernel

theorem test_link_test :
    (after .linkTest (bare 0x92 sample)).sup.linkTest = some (request [0x92]) := by decide +kernel

/-- `sample` with a LINK TEST that waits for its run. -/
def testing : State := { sample with sup := { sample.sup with linkTest := some (request [0x92]) } }

/-- R168: a line without bits fails and holds the port OFF. -/
theorem test_link_test_run :
    let s := after (.linkTestRun []) testing
    answersWith s 0x92 .ok (.testResult false) = true ∧ s.p2.heldOff = true ∧
      s.alarms.records.any (fun r => r.key = .forPoint 0 2) = true := by
  have h1 : testing.sup.linkTest = some (request [0x92]) := rfl
  have h2 : (testing.running && testing.loop.current.isNone && !testing.p2.newSettings) = true := by decide +kernel
  have hp : loopbackPasses testing.p2.usedPair .fieldLoop [] = false := by simp [loopbackPasses, receive]
  have h : after (.linkTestRun []) testing =
      ({ testing with sup := { testing.sup with linkTest := none } } : State).carryOut (request [0x92]) 0x92 fun _ t =>
        (t.linkTested false, .ok (.testResult false)) := by
    simp only [after, exec, execLinkTestRun, h1, h2, hp, if_true]
  rw [h]
  decide +kernel

/-! ### Chapter 11 -/

/-- R171: identity 0E16h, revision 1. -/
theorem test_status :
    let s := after .status (bare 0xA0 { sample with p1 := { sample.p1 with overrun := true } })
    s.p1.overrun = false ∧
    answersWith s 0xA0 .ok
      (.status 0x0E16 1 .coldStart true .closing .noOverride 3 1 false false true
        [.normal, .alert, .held, .countdown, .discharging, .soak, .vent, .disabled, .disabled, .waitBank, .disabled, .disabled,
         .disabled, .disabled, .disabled, .disabled]
        [.secured, .released, .opened, .secured, .released, .timeLocked, .unknown, .unknown, .unknown, .unknown, .unknown,
         .unknown, .unknown, .unknown, .unknown, .unknown]) = true := by decide +kernel

/-- R171: frames are sent from the old address until the answer has been sent. -/
theorem test_address_set :
    let s := after (.addressSet (some 254)) (asked 0xA2 sample)
    (s.sup.unitAddress, s.sup.sentAddress) = (254, 1) ∧
      s.p1.queue.getLast? = some (.answer ⟨7, 0xA2, .ok, .nothing⟩ (.unitAddress 254)) := by decide +kernel

/-- R172. -/
theorem test_restart :
    (after (.restart [] []) (bare 0xA1 sample)).p1.queue.getLast? = some (.answer ⟨7, 0xA1, .ok, .nothing⟩ .restart) := by
  decide +kernel

/-- The default profile of a strongroom as PROFILE LOAD sends it, with a given capacity. -/
def profileOf (room capacity : Nat) : ProfileArgs :=
  ⟨room, 300, 500, 8, 30, 10, some .double, capacity, 5, 30, 20, some .never, 0, some false, some .off, 30, 0xFF⟩

/-- R173: every feature bit is cleared, and the capacity may not fall below the head count of 2. -/
theorem test_profile_load :
    let s := after (.profileLoad (some (profileOf 12 8))) (asked 0xA3 sample)
    answersWith s 0xA3 .ok (.features 0) = true ∧ s.bank.coverage[(11 : Room)].required = 1500 ∧
    answersWith (after (.profileLoad (some (profileOf 2 8))) (asked 0xA3 sample)) 0xA3 .state .nothing = true := by decide +kernel

theorem test_profile_read : (profileReadBody 1 sample).2 = .ok (.profile .default) := by decide +kernel

theorem test_unknown_request :
    answersWith (after .unknownRequest (bare 0xFF sample)) 0xFF .format .nothing = true ∧
    answersWith (after .unknownRequest (with_ [] sample)) 0x00 .format .nothing = true := by decide +kernel

/-- `sample` without expiries that are due, one second before a minute ends. -/
def quiet : State :=
  { sample with
    clk := { clock with siteState := .openHours, graceTimer := none, time := ⟨0x11, 0x59, 0x59⟩ }
    ctx := Vector.replicate 16 .empty, doors := Vector.replicate 16 { door .released with unlock := some 4, releaseKind := some .egress }
    zones := Vector.replicate 16 { zone .countdown with remainder := 30 }
    roll := { roll with entries := [(3, { entry 7 1 .running 61 false with revokedInside := true })] } }

/-- R25, R26, R61, R78, R108, R120. -/
theorem test_second_tick :
    let s := after (.secondTick false) quiet
    s.clk.time = ⟨0x12, 0x00, 0x00⟩ ∧ s.loop.broadcastDue = some ⟨⟨0x25, 0x06, 0x10⟩, ⟨0x12, 0x00, 0x00⟩, 2⟩ ∧ s.roll.tick = 100 ∧
      s.doors[(0 : Room)].unlock = some 3 ∧ (s.zones[(0 : Room)].remainder, s.zones[(0 : Room)].accumulated) = (29, 1) ∧
      (s.roll.entries.get 3).map (fun o => (o.counter, o.promptDue)) = some (60, true) := by decide +kernel

theorem test_grace_timer_expiry : (after .graceTimerExpiry sample).clk.siteState = .afterHours := by decide +kernel

theorem test_unlock_timer_expiry :
    let d := (after (.unlockTimerExpiry 1) sample).doors[(1 : Room)]
    (d.state, d.releaseKind, d.unlock) = (.secured, none, none) := by decide +kernel

theorem test_held_open_timer_expiry :
    let d := (after (.heldOpenTimerExpiry 2) sample).doors[(2 : Room)]
    (d.state, d.heldOpen) = (.held, .expired) := by decide +kernel

theorem test_pairing_window_expiry : (after (.pairingWindowExpiry 0) sample).ctx[(0 : Room)] = .empty := by decide +kernel

theorem test_mains_ok_change :
    let s := after (.mainsOkChange false) sample
    s.lines.mainsOk = false ∧ s.alarms.records.any (fun r => r.key = .bare .mainsFail) = true := by decide +kernel

/-- R119, R120: the inhibit line holds zone 4 in its countdown. -/
theorem test_inhibit_change :
    let s := after (.inhibitChange true) sample
    (s.zones[(3 : Room)].state, s.zones[(3 : Room)].holds.siteInhibit) = (.held, true) := by decide +kernel

/-- A part without its main supply, whose retained memory checks. -/
def unpowered : State :=
  { sample with lines := { sample.lines with mainOn := false }, sup := { sample.sup with checkValue := sample.retained.check } }

/-- A part held in reset, whose retained memory checks. -/
def inReset : State :=
  { sample with lines := { sample.lines with resetHigh := false }, sup := { sample.sup with checkValue := sample.retained.check } }

/-- A part whose RESTART has been answered, whose retained memory checks. -/
def restarting : State :=
  { sample with sup := { sample.sup with restartDue := true, checkValue := sample.retained.check } }

/-- A warm start's state, with both self-tests failed. -/
def warm (s : State) (cause : RestartCause) : State :=
  (((s.kept cause).startPorts false false).startBlocks true false false s.resetCylinders).startEnds

theorem startUp_warm (s : State) (cause : RestartCause) (h : s.startsCold = false) : s.startUp cause [] [] = warm s cause := by
  simp [State.startUp, h, warm, loopbackPasses, receive]

/-- R131, R146, R175: a discharge cut off before flow was seen leaves its cylinder FAULT and its zone in VENT. -/
theorem test_power_up :
    after (.powerUp [] []) unpowered = warm { unpowered with lines := sample.lines } .powerUp ∧
    let t := warm { unpowered with lines := sample.lines } .powerUp
    t.bank.cylinders[(6 : Pos)].state = .fault ∧ (t.zones[(4 : Room)].state, t.zones[(4 : Room)].unconfirmed) = (.vent, true) ∧
      t.bank.cylinders[(1 : Pos)] = full .ready := by
  refine ⟨?_, by decide +kernel⟩
  rw [← startUp_warm _ _ (by simp [State.startsCold, unpowered, State.retained, sample, State.reset, State.cold])]
  rfl

theorem test_reset_line_high :
    after (.resetLineHigh [] []) inReset = warm { inReset with lines := sample.lines } .resetLine := by
  rw [← startUp_warm _ _ (by simp [State.startsCold, inReset, State.retained, sample, State.reset, State.cold])]
  rfl

theorem test_restart_warm_reset : after (.restartWarmReset [] []) restarting = warm restarting .request := by
  rw [← startUp_warm _ _ (by simp [State.startsCold, restarting, State.retained, sample, State.reset, State.cold])]
  rfl

theorem test_main_supply_fail :
    let s := after .mainSupplyFail sample
    s.lines.mainOn = false ∧ s.p1.rx = .off ∧ s.p2.tx = .off ∧ s.alarms = sample.alarms := by decide +kernel

theorem test_backup_loss : (after .backupLoss sample).lines.backupLost = true := by decide +kernel

/-- R161: a frame cut off leaves the data output at zero. -/
theorem test_reset_line_low :
    let s := after .resetLineLow (after (.frameTransmit .supervisor) State.reset)
    s.lines.resetHigh = false ∧ s.p1.tx = .off ∧ s.p1.dataLow = true := by decide +kernel

/-! ## Part 3: ill-formed commands are refused -/

def amendArgs : AmendArgs := ⟨5, none, none, none, none, none, none, none⟩
def profileArgs : ProfileArgs := profileOf 1 8
def ack (room bearer station point : Option Nat) : Instr := .alarmAck (some ⟨some .panic, room, bearer, station, point⟩)
def reportArgs : ReportFrame := ⟨[], some .doorUnit, [.normal, .normal, .normal, .normal], 0, .nothing⟩

/-- One term for each check of the operands of a bearer, chain or schedule request. -/
theorem test_wf_refuses_tables :
    ([.enrol (some { enrolArgs with bearer := 65536 }), .enrol (some { enrolArgs with escortLimit := 256 }),
      .enrol (some { enrolArgs with interval := 256 }), .amend (some { amendArgs with bearer := 65536 }),
      .amend (some { amendArgs with escortLimit := some 256 }), .amend (some { amendArgs with interval := some 256 }),
      .suspend (some 65536), .reinstate (some 65536), .revoke (some 65536), .readBearer (some 65536), .chainRead (some 65536),
      .rollRemove (some 65536), .retentionSet (some 256), .scheduleRead (some 256), .chainWrite (some ⟨65536, []⟩),
      .chainWrite (some ⟨5, List.replicate 30 ⟨0x0001, 0, allRights⟩⟩), .chainWrite (some ⟨5, [⟨0x0001, 256, allRights⟩]⟩),
      .scheduleWrite (some ⟨256, []⟩), .scheduleWrite (some ⟨1, List.replicate 24 ⟨0x7F, ⟨0, 0⟩, ⟨0, 0⟩⟩⟩)] :
      List Instr).all (fun i => !i.wf) = true := by decide +kernel

/-- The same for the other requests. -/
theorem test_wf_refuses_requests :
    ([.clockSet (some ⟨⟨0, 1, 1⟩, ⟨0, 0, 0⟩, 256⟩), .siteSet (some ⟨256, 0⟩), .siteSet (some ⟨1, 256⟩), .rollConfirm (some 256),
      .rollSweep (some 256), .rollRead (some ⟨256, 1⟩), .rollRead (some ⟨1, 256⟩), .doorRelease (some ⟨256, false⟩),
      .doorLockdown (some 256), .doorRestore (some 256), .doorRead (some 256), ack (some 256) none none none,
      ack none (some 65536) none none, ack none none (some 256) none, ack none none none (some 256), .alarmRead (some 256),
      .zoneReset (some 256), .zoneDisable (some 256), .zoneEnable (some 256), .releaseAuthorise (some 256), .zoneRead (some 256),
      .cylinderInstall (some ⟨256, 1⟩), .cylinderInstall (some ⟨1, 65536⟩), .cylinderIsolate (some 256), .cylinderReturn (some 256),
      .cylinderRemove (some 256), .cylinderRead (some 256), .stationConfigure (some ⟨256, none, 0⟩),
      .stationConfigure (some ⟨1, none, 256⟩), .stationRead (some 256), .linkSet (some ⟨256, 0, 0, .rate 9600⟩),
      .linkSet (some ⟨2, 0, 0, .rate 16777216⟩), .linkRead (some 256), .addressSet (some 256), .profileRead (some 256)] :
      List Instr).all (fun i => !i.wf) = true := by decide +kernel

/-- The same for PROFILE LOAD, the reports and the entries of the roll. -/
theorem test_wf_refuses_others :
    ([.profileLoad (some { profileArgs with room := 256 }), .profileLoad (some { profileArgs with volume := 65536 }),
      .profileLoad (some { profileArgs with factor := 65536 }), .profileLoad (some { profileArgs with limit := 256 }),
      .profileLoad (some { profileArgs with delay := 256 }), .profileLoad (some { profileArgs with soak := 256 }),
      .profileLoad (some { profileArgs with capacity := 256 }), .profileLoad (some { profileArgs with unlock := 256 }),
      .profileLoad (some { profileArgs with heldOpen := 65536 }), .profileLoad (some { profileArgs with window := 256 }),
      .profileLoad (some { profileArgs with timeLock := 256 }), .profileLoad (some { profileArgs with interval := 256 }),
      .report { reportArgs with points := List.replicate 5 .normal }, .report { reportArgs with eventNumber := 256 },
      .report { reportArgs with events := .door (List.replicate 5 ⟨.entry, 1, []⟩) },
      .report { reportArgs with events := .door [⟨.entry, 1, [10]⟩] },
      .report { reportArgs with events := .checkIn [⟨1, List.replicate 13 0⟩] },
      .report { reportArgs with events := .checkIn (List.replicate 5 ⟨1, []⟩) },
      .report { reportArgs with events := .pendant (List.replicate 5 ⟨1, .tilt⟩) },
      .report { reportArgs with events := .pressure [] }, .loneWorkerPrompt 0, .loneWorkerExpiry 257] :
      List Instr).all (fun i => !i.wf) = true := by decide +kernel

/-- Boundary values that are well formed. -/
theorem test_wf_accepts :
    ([.enrol (some enrolArgs), .enrol none, .amend (some amendArgs), .suspend (some 65535), .retentionSet (some 255),
      .chainWrite (some ⟨301, newContents⟩), ack (some 255) (some 65535) (some 255) (some 255), .profileLoad (some profileArgs), .report reportArgs,
      .report { reportArgs with events := .pressure (List.replicate 48 true) }, .loneWorkerPrompt 1, .loneWorkerExpiry 256,
      .secondTick true, .frameSent .fieldLoop] : List Instr).all Instr.wf = true := by decide +kernel

/-! ## Part 4: the hypotheses of the statements can be met

`witness_<statement>` gives a state and operands that meet the hypotheses of each of its clauses together. `Serving code test` says
that a request of a code with fields waits in `sample` and can be served, and that its state passes a test. -/

def Serving (code : Octet) (test : State → Prop) : Prop :=
  WaitsWith (asked code sample) (request [code, 0]) [] code ∧ test (asked code sample)

theorem serving {code : Octet} {test : State → Prop} (h : test (asked code sample)) : Serving code test := ⟨sample_asked code, h⟩

/-- The same for a request of the code alone. -/
def ServingBare (code : Octet) (test : State → Prop) : Prop :=
  Waits (bare code sample) (request [code]) [] code ∧ (request [code]).payload.length = 1 ∧ test (bare code sample)

theorem servingBare {code : Octet} {test : State → Prop} (h : test (bare code sample)) : ServingBare code test :=
  ⟨sample_waits code, rfl, h⟩

/-- The clauses of the reads, with the operands at the ends of their ranges. -/
theorem witness_RecordReadsAnswerAndChangeNothing :
    ServingBare 0x21 (fun _ => True) ∧
    Serving 0x43 (fun s => num (0 : Room) = 1 ∧ num (15 : Room) = 16 ∧ s.ctx[(0 : Room)] ≠ .empty) ∧
    Serving 0x52 (fun s => s.alarms.records ≠ [] ∧ (1 ≤ 64 ∧ 64 ≤ 64) ∧ ¬(1 ≤ 0 ∧ 0 ≤ 64) ∧ ¬(1 ≤ 65 ∧ 65 ≤ 64)) ∧
    Serving 0x71 (fun s => s.bank.cylinders[(0 : Pos)].state ≠ .reserved ∧ s.bank.cylinders[(47 : Pos)].state ≠ .reserved ∧
      s.bank.cylinders[(1 : Pos)].state = .reserved ∧ s.bank.cylinders[(1 : Pos)].zone = some 2) ∧
    ServingBare 0x72 (fun s => s.bank.manifold = some 4) :=
  ⟨servingBare trivial, serving (by decide +kernel), serving (by decide +kernel), serving (by decide +kernel),
    servingBare (by decide +kernel)⟩

theorem witness_TableReadsAndStatus :
    Serving 0x15 (fun s => s.bt.bearers.get 5 = some custodian ∧ s.bt.bearers.get 4095 = none) ∧
    Serving 0x16 (fun s => (0x105 : Token) ≠ 0 ∧ (0x105 : Token) ≠ BitVec.allOnes 40 ∧ s.bt.index.get 0x105 = some 5 ∧
      (0x10A : Token) ≠ 0 ∧ (0x10A : Token) ≠ BitVec.allOnes 40 ∧ s.bt.index.get 0x10A = none) ∧
    Serving 0x19 (fun s => s.bt.bearers.get 5 = some custodian ∧ s.bt.chainOf custodian = [1, 2]) ∧
    Serving 0x1B (fun _ => True) ∧ ServingBare 0x1E (fun _ => True) ∧
    Serving 0x33 (fun s => (s.entriesIn 0).length = 2 ∧ 1 ≤ 32 ∧ 32 ≤ 32) ∧ Serving 0x64 (fun s => s.bank.place 9 = 1) ∧
    Serving 0x81 (fun s => s.loop.stations[(3 : Addr)].misses = 2) ∧ Serving 0x91 (fun _ => 3 ≠ 1 ∧ 3 ≠ 2) ∧
    Serving 0xA4 (fun s => s.sup.profiles[(1 : Room)].lone = .always) ∧
    ServingBare 0xA0 (fun s => s.p1.errorMark = false) :=
  ⟨serving (by decide +kernel), serving (by decide +kernel), serving (by decide +kernel), serving trivial, servingBare trivial,
    serving (by decide +kernel), serving (by decide +kernel), serving (by decide +kernel), serving (by decide),
    serving (by decide +kernel), servingBare (by decide +kernel)⟩

/-! ### The Bearer Table -/

/-- A table with every bearer number in use. -/
def everyBearer : Table Bearer := (List.range' 1 4095).map fun n => (n, visitor)

theorem get_map_key {α : Type} (l : List Nat) (a : α) (n : Nat) (h : n ∈ l) : (Table.get (l.map fun k => (k, a)) n).isSome = true := by
  induction l with
  | nil => simp at h
  | cons k l ih =>
    simp only [List.map, Table.get]
    split
    · rfl
    · rename_i hk
      simp only [List.mem_cons] at h
      exact ih (h.resolve_left fun e => hk e.symm)

/-- The request that enrols a bearer, alone in the queue. -/
def enrolling (a : EnrolArgs) (s : State) : State := with_ (EnrolArgs.encode a) s

theorem enrolling_waits (a : EnrolArgs) (s : State) (runs : Runs s) (h : s.p1.heldOff = false) (h2 : s.sup.linkTest = none)
    (h3 : s.sup.restartDue = false) (h4 : Settled s) : Waits (enrolling a s) (request (EnrolArgs.encode a)) [] 0x10 :=
  waits_asked _ runs h h2 h3 h4

theorem witness_EnrolFillsAFreeSlotOrRefuses :
    (∀ a : EnrolArgs, a.formatOk = true ↔ EnrolInRange a) ∧
    (∀ a, a = enrolArgs ∨ a = { enrolArgs with bearer := 0 } ∨ a = { enrolArgs with token := 0 } ∨
        a = { enrolArgs with bearer := 5 } ∨ a = { enrolArgs with token := 0x105 } →
      Waits (enrolling a sample) (request (EnrolArgs.encode a)) [] 0x10 ∧ EnrolArgs.decode (EnrolArgs.encode a) = some a) ∧
    (enrolArgs.formatOk = true ∧ class? enrolArgs.cls = some .custodian ∧ enrolArgs.bearer = 300 ∧ table.bearers.get 300 = none ∧
      table.index.get enrolArgs.token.toNat = none) ∧
    ({ enrolArgs with bearer := 0 }.formatOk = true ∧ table.bearers.get 1 = none) ∧
    (enrolArgs.bearer < 65536 ∧ enrolArgs.escortLimit < 256 ∧ enrolArgs.interval < 256 ∧ 65535 < 65536 ∧ 255 < 256) ∧
    EnrolArgs.formatOk { enrolArgs with token := 0 } = false ∧ (table.bearers.get 5).isSome = true ∧
    (table.index.get 0x105).isSome = true ∧
    (let s : State := { sample with bt := { table with bearers := everyBearer } }
     Waits (enrolling { enrolArgs with bearer := 0 } s) (request (EnrolArgs.encode { enrolArgs with bearer := 0 })) [] 0x10 ∧
       ∀ m, 1 ≤ m → m ≤ 4095 → (s.bt.bearers.get m).isSome = true) := by
  refine ⟨Laws.enrol_formatOk_iff, fun a h => ⟨enrolling_waits a sample sample_runs rfl rfl rfl rfl, ?_⟩, by decide +kernel, by decide +kernel,
    by decide, by decide +kernel, by decide +kernel, by decide +kernel, enrolling_waits _ _ sample_runs rfl rfl rfl rfl, fun m h1 h2 => ?_⟩
  · rcases h with rfl | rfl | rfl | rfl | rfl <;> decide +kernel
  · exact get_map_key _ _ _ (List.mem_range'_1.mpr ⟨h1, by omega⟩)

theorem witness_AmendSuspendAndReinstate :
    (∀ a : AmendArgs, a.formatOk = true ↔ AmendInRange a) ∧
    Serving 0x11 (fun s =>
      let a : AmendArgs := ⟨5, some 0x10A, some 4, some none, none, some none, some 7, some 255⟩
      a.formatOk = true ∧ s.bt.bearers.get 5 = some custodian ∧ custodian.state ≠ .retiring ∧
        (AmendArgs.apply a custodian).datesInOrder = true ∧ s.bt.index.get (AmendArgs.apply a custodian).token.toNat = none) ∧
    Serving 0x11 (fun s =>
      let a : AmendArgs := ⟨6, none, none, none, some ⟨0x24, 0x02, 0x29⟩, none, none, some 1⟩
      a.formatOk = true ∧ s.bt.bearers.get 6 = some suspended ∧ suspended.state ≠ .retiring ∧
        (AmendArgs.apply a suspended).datesInOrder = true ∧ (AmendArgs.apply a suspended).token = suspended.token) ∧
    Serving 0x11 (fun s =>
      (AmendArgs.formatOk ⟨0, none, none, none, none, none, none, none⟩ = false) ∧
      (AmendArgs.formatOk ⟨8, none, none, none, some ⟨0x24, 0x02, 0x29⟩, some (some ⟨0x24, 0x02, 0x28⟩), none, none⟩ = false) ∧
      ((⟨4095, none, none, none, some ⟨0x24, 0x02, 0x29⟩, some (some ⟨0x24, 0x02, 0x29⟩), none, none⟩ : AmendArgs).formatOk = true ∧
        s.bt.bearers.get 4095 = none) ∧
      (let a : AmendArgs := ⟨8, none, none, none, none, some (some ⟨0x20, 0x02, 0x29⟩), none, none⟩
       a.formatOk = true ∧ s.bt.bearers.get 8 = some inside ∧ (AmendArgs.apply a inside).datesInOrder = false) ∧
      (let a : AmendArgs := ⟨7, none, none, none, none, none, none, none⟩
       a.formatOk = true ∧ s.bt.bearers.get 7 = some retiring ∧ (AmendArgs.apply a retiring).datesInOrder = true ∧
         retiring.state = .retiring) ∧
      (let a : AmendArgs := ⟨5, some 0x106, none, none, none, none, none, none⟩
       a.formatOk = true ∧ s.bt.bearers.get 5 = some custodian ∧ (AmendArgs.apply a custodian).datesInOrder = true ∧
         custodian.state ≠ .retiring ∧ (AmendArgs.apply a custodian).token ≠ custodian.token ∧
         (s.bt.index.get (AmendArgs.apply a custodian).token.toNat).isSome)) ∧
    Serving 0x12 (fun s => s.bt.bearers.get 5 = some custodian ∧ custodian.state = .active ∧
      s.bt.bearers.get 6 = some suspended ∧ suspended.state ≠ .active) ∧
    Serving 0x13 (fun s => s.bt.bearers.get 6 = some suspended ∧ suspended.state = .suspended ∧
      s.bt.bearers.get 5 = some custodian ∧ custodian.state ≠ .suspended) :=
  ⟨Laws.amend_formatOk_iff, serving (by decide +kernel), serving (by decide +kernel), serving (by decide +kernel), serving (by decide +kernel),
    serving (by decide +kernel)⟩

theorem witness_RevokeCompletesOrRetires :
    Serving 0x14 (fun s => s.bt.bearers.get 5 = some custodian ∧ s.entryOf 5 = none ∧ s.bt.bearers.get 8 = some inside ∧
      s.entryOf 8 = some (4, { entry 8 0 .running 0 false with escorted := 1 }) ∧
      s.bt.bearers.get 7 = some retiring ∧ retiring.state = .retiring) :=
  serving (by decide +kernel)

theorem witness_RetentionAndAddressAreStored :
    Serving 0x17 (fun _ => 0 ≤ 90 ∧ 90 ≤ 90 ∧ 90 < 91) ∧ Serving 0xA2 (fun _ => 1 ≤ 254 ∧ 254 ≤ 254 ∧ 255 ≤ 255) :=
  ⟨serving (by decide), serving (by decide)⟩

theorem witness_ChainWriteReplacesTheChain :
    (∀ a : ChainWriteArgs, ChainWriteArgs.formatOk a = true ↔ ChainInRange a) ∧
    Serving 0x18 (fun s =>
      let sixteen : List PermContent := List.replicate 16 ⟨0x8000, 63, allRights⟩
      ChainWriteArgs.formatOk ⟨5, newContents⟩ = true ∧ s.bt.bearers.get 5 = some custodian ∧
        newContents.length ≤ s.bt.freeCount + (s.bt.chainOf custodian).length ∧
        ChainWriteArgs.formatOk ⟨5, sixteen⟩ = true ∧ s.bt.freeCount + (s.bt.chainOf custodian).length < sixteen.length ∧
        ChainWriteArgs.formatOk ⟨7, []⟩ = true ∧ s.bt.bearers.get 7 = some retiring ∧ retiring.state = .retiring ∧
        ChainWriteArgs.formatOk ⟨4095, newContents⟩ = true ∧ s.bt.bearers.get 4095 = none ∧
        ([⟨4096, []⟩, ⟨5, List.replicate 17 ⟨0x8000, 63, allRights⟩⟩, ⟨5, [⟨0x0000, 63, allRights⟩]⟩, ⟨5, [⟨0x8000, 64, allRights⟩]⟩,
          ⟨5, [⟨0x8000, 63, { allRights with enter := false }⟩]⟩] : List ChainWriteArgs).all (fun a => !ChainWriteArgs.formatOk a) = true) ∧
    (let contents : List PermContent := newContents ++ [⟨0x8000, 63, allRights⟩]
     contents.length ≤ 16 ∧ contents.length = table.freeList.length ∧ table.freeList.Nodup ∧ 0 ∉ table.freeList ∧
       table.entries.get 0 = none) :=
  ⟨Laws.chainWrite_formatOk_iff, serving (by decide +kernel), by decide +kernel⟩

/-! ### The Site Clock -/

theorem witness_ClockAdvancesOneSecond :
    SiteClock.cold.isSet = false ∧
    (let c := clockAt ⟨0x99, 0x12, 0x31⟩ ⟨0x23, 0x59, 0x59⟩ 7
     c.isSet = true ∧ c.date.valid = true ∧ c.time.valid = true ∧ 1 ≤ c.weekday ∧ c.weekday ≤ 7 ∧
       secondOfCentury c = 36525 * 86400 + 86399) ∧
    (let c := clockAt ⟨0x28, 0x02, 0x29⟩ ⟨0x00, 0x00, 0x00⟩ 1
     c.isSet = true ∧ c.date.valid = true ∧ c.time.valid = true ∧ 1 ≤ c.weekday ∧ c.weekday ≤ 7) := by decide +kernel

/-- `quiet` two seconds before its minute ends. -/
def calm : State := { quiet with clk := { quiet.clk with time := ⟨0x11, 0x59, 0x58⟩ } }

theorem calm_nothing_due : NothingDue calm := by
  refine ⟨by decide +kernel, by decide +kernel, fun e => ?_⟩
  simp only [State.promptIsDue, State.overdueIsDue, calm, quiet, Table.get]
  by_cases h : 3 = e <;> simp [h, entry]

/-- The custodian a context names as waiting. -/
def waitingIn : Context → Option Nat
  | .custody _ _ b _ => some b
  | _ => none

theorem occupancy_of {s : State} (wf : s.roll.entries.wf = true) (one : (s.roll.entries.map fun p => p.2.bearer).Nodup)
    (live : ∀ p ∈ s.roll.entries, (s.bt.bearers.get p.2.bearer).isSome)
    (waiting : ∀ r : Room, (waitingIn s.ctx[r]).all fun b => (s.entryOf b).isNone && (s.bt.bearers.get b).isSome) :
    OccupancyLaw s := by
  refine ⟨wf, one, live, fun r n w b g h => ?_⟩
  have hw := waiting r
  rw [h] at hw
  simpa [waitingIn] using hw

/-- `table` with bearer 8 valid until 31 December, and a roll with bearer 8 alone inside. -/
def lapsing : BearerTable := { table with bearers := table.bearers.set 8 { inside with validUntil := some ⟨0x25, 0x12, 0x31⟩ } }
def oneInside : Roll := { roll with entries := [(4, entry 8 0 .off 0 false)] }

/-- `calm` with them, at the last second of a day of January 2026. -/
def rolling (day : Octet) : State :=
  { calm with
    clk := { calm.clk with date := ⟨0x26, 0x01, day⟩, time := ⟨0x23, 0x59, 0x59⟩ }, bt := lapsing, roll := oneInside }

theorem rolling_nothing_due (day : Octet) : NothingDue (rolling day) := by
  refine ⟨rfl, calm_nothing_due.2.1, fun e => ?_⟩
  simp only [State.promptIsDue, State.overdueIsDue, rolling, oneInside, Table.get]
  by_cases h : 4 = e <;> simp [h, entry]

theorem quiet_nothing_due : NothingDue quiet := ⟨rfl, calm_nothing_due.2.1, calm_nothing_due.2.2⟩

theorem token_law_of {t : BearerTable} (wf : t.bearers.wf = true)
    (indexed : ∀ p ∈ t.bearers, t.index.get p.2.token.toNat = some p.1)
    (live : ∀ p ∈ t.index, ∃ r ∈ t.bearers.get p.2, r.token.toNat = p.1) : TokenLaw t :=
  ⟨wf, fun _ _ h => indexed _ (Table.mem_of_get h), fun _ _ h => live _ (Table.mem_of_get h)⟩

theorem lapsing_tokens : TokenLaw lapsing := token_law_of (by decide +kernel) (by decide +kernel) (by decide +kernel)

theorem rolling_roll (day : Octet) : OccupancyLaw (rolling day) :=
  occupancy_of (show oneInside.entries.wf = true by decide +kernel)
    (show (oneInside.entries.map fun p => p.2.bearer).Nodup by decide +kernel)
    (show ∀ p ∈ oneInside.entries, (lapsing.bearers.get p.2.bearer).isSome by decide +kernel)
    fun r => by rw [show (rolling day).ctx[r] = .empty from by simp [rolling, calm, quiet]]; rfl

/-- A state whose broadcast is built and has not begun. -/
def announcing (s : State) : State :=
  { s with loop := { s.loop with current := some ⟨none, .ready, .broadcast ⟨0x25, 0x06, 0x10⟩ ⟨0x11, 0x58, 0x00⟩ 2⟩ } }

/-- Bearers 5 and 8 are past their 3 days at the rollover to 4 January, and not at the one before; bearer 6 has no valid-until and bearer 7 is RETIRING. -/
theorem witness_SecondTickCountsEveryTimerDown :
    ¬Runs { sample with lines := { sample.lines with mainOn := false } } ∧
    (Runs calm ∧ Settled calm ∧ NothingDue calm ∧ calm.clk.advance.minute = false) ∧
    (let s : State :=
       { calm with
         doors := calm.doors.set 0 { door .released with unlock := some 1, releaseKind := some .entry }
         ctx := calm.ctx.set 0 (.custody true 1 5 allRights) }
     Runs s ∧ Settled s ∧ NothingDue s ∧ s.clk.advance.minute = false ∧ s.doors[(0 : Room)].state = .released ∧
       s.doors[(0 : Room)].unlock = some 1 ∧ s.ctx[(0 : Room)].window? = some 1) ∧
    (∀ s, s = quiet ∨ s = { quiet with loop := (announcing quiet).loop } →
      Runs s ∧ Settled s ∧ NothingDue s ∧ s.clk.advance.minute = true ∧ s.clk.advance.day = false) ∧
    ∀ day, day = 0x02 ∨ day = 0x03 →
      let s := rolling day
      (Runs s ∧ Settled s ∧ NothingDue s ∧ TokenLaw s.bt ∧ OccupancyLaw s ∧ s.clk.advance.day = true) ∧
      s.bt.retention = 3 ∧ s.bt.bearers.get 5 = some custodian ∧ custodian.state ≠ .retiring ∧ s.entryOf 5 = none ∧
      custodian.validUntil = some ⟨0x25, 0x12, 0x31⟩ ∧ s.entryOf 8 = some (4, entry 8 0 .off 0 false) ∧
      s.clk.advance.clk.date.dayNumber - (Date.mk 0x25 0x12 0x31).dayNumber = (if day = 0x03 then 4 else 3) ∧
      s.bt.bearers.get 6 = some suspended ∧ s.bt.bearers.get 7 = some retiring := by
  refine ⟨by simp [Runs], ⟨sample_runs, rfl, calm_nothing_due, by decide +kernel⟩,
    ⟨sample_runs, rfl, ⟨by decide +kernel, by decide +kernel, calm_nothing_due.2.2⟩, by decide +kernel⟩,
    fun s h => by rcases h with rfl | rfl <;> exact ⟨sample_runs, rfl, quiet_nothing_due, by decide +kernel⟩, fun day h => ?_⟩
  refine ⟨⟨sample_runs, rfl, rolling_nothing_due day, lapsing_tokens, rolling_roll day, ?_⟩, ?_⟩ <;>
    rcases h with rfl | rfl <;> decide +kernel

/-- R158: a reading replaces the one in a broadcast that has not begun; with no poll in progress it is due. -/
theorem test_reading_replaced :
    let a : ClockSetArgs := ⟨⟨0x25, 0x12, 0x25⟩, ⟨0x08, 0x30, 0x00⟩, 4⟩
    (after (.clockSet (some a)) (asked 0x20 (announcing sample))).loop.current = some ⟨none, .ready, .broadcast a.date a.time 4⟩ ∧
    (after (.clockSet (some a)) (asked 0x20 sample)).loop.broadcastDue = some ⟨a.date, a.time, 4⟩ := by decide +kernel

/-- `quiet` open under schedule 1, which is in force until the minute ends; the check-in station of strongroom 1 is ONLINE, and bearers
are inside. -/
def closingTime : State :=
  { quiet with clk := { quiet.clk with siteSchedule := 1, inForce := quiet.clk.inForce.set 1 true, grace := 15 } }

/-- R34, R36: the site closes, and the station of the Occupied strongroom is given the closing tone. -/
theorem test_closing_tone :
    let s := after (.secondTick false) closingTime
    (s.clk.siteState, s.clk.graceTimer) = (.closing, some 900) ∧
      s.loop.stations[(1 : Addr)].slots.tone = some ⟨.closing, false⟩ ∧ s.loop.stations[(0 : Addr)].slots.tone = none := by decide +kernel

theorem witness_ClockSetAndSiteSetEvaluate :
    (∀ a : ClockSetArgs, a.formatOk = true ↔ ClockInRange a) ∧
    Serving 0x20 (fun s =>
      ClockSetArgs.formatOk ⟨⟨0x99, 0x12, 0x31⟩, ⟨0x23, 0x59, 0x59⟩, 7⟩ = true ∧
      ClockSetArgs.formatOk ⟨⟨0x28, 0x02, 0x29⟩, ⟨0x00, 0x00, 0x00⟩, 1⟩ = true ∧
      ([⟨⟨0x25, 0x02, 0x29⟩, ⟨0x00, 0x00, 0x00⟩, 6⟩, ⟨⟨0x25, 0x01, 0x01⟩, ⟨0x24, 0x00, 0x00⟩, 3⟩,
        ⟨⟨0x25, 0x01, 0x01⟩, ⟨0x00, 0x00, 0x00⟩, 0⟩, ⟨⟨0x25, 0x01, 0x01⟩, ⟨0x00, 0x00, 0x00⟩, 8⟩] : List ClockSetArgs).all
          (fun a => !a.formatOk) = true ∧
      s.loop.current = none) ∧
    (WaitsWith (asked 0x20 (announcing sample)) (request [0x20, 0]) [] 0x20 ∧
      (announcing sample).loop.current = some ⟨none, .ready, .broadcast ⟨0x25, 0x06, 0x10⟩ ⟨0x11, 0x58, 0x00⟩ 2⟩) ∧
    Serving 0x22 (fun _ => 60 ≤ 60 ∧ 63 < 64 ∧ 60 < 61) :=
  ⟨Laws.clockSet_formatOk_iff, serving (by decide +kernel), ⟨asked_waits sample_runs rfl rfl rfl rfl, rfl⟩, serving (by decide)⟩

/-- R20: chains of two entries for strongroom 1 alone, of schedules `first` and `second`; schedule 0 alone is in force. -/
def twoEntries (first second : Nat) : State :=
  { sample with
    bt := { table with entries := [(1, ⟨⟨0x0001, first, allRights⟩, 2⟩), (2, ⟨⟨0x0001, second, { allRights with night := false }⟩, 0⟩)] } }

def contentsOf (s : State) : List PermContent :=
  (s.bt.chainOf custodian).filterMap fun e => (s.bt.entries.get e).map fun x => x.content

/-- The manual's night window at its boundaries, an ordinary window and one of the whole day, on the first and the last weekday; a date of
each length of month; and a chain that matches at its first entry, at its second, is Named, and names nothing. -/
theorem witness_WindowsAndTheChainWalk :
    ((∀ t : HhMm, t.valid = true ↔ RealTime t) ∧
      ∀ p ∈ ([(0x25, 0x22, 0x00, 1), (0x26, 0x06, 0x00, 7)] : List (Octet × Octet × Octet × Nat)),
        let s := nightWindow p.1 p.2.1 p.2.2.1 p.2.2.2
        s.clk.isSet = true ∧ HhMm.valid ⟨s.clk.time.hour, s.clk.time.minute⟩ = true ∧ 1 ≤ s.clk.weekday ∧ s.clk.weekday ≤ 7 ∧
          (∀ w ∈ s.bt.schedules[(12 : Sched)], w.start.valid = true ∧ w.stop.valid = true) ∧ (12 : Sched) ≠ 0) ∧
    SiteClock.cold.isSet = false ∧
    ((∀ d : Date, d.valid = true ↔ RealDate d) ∧
      ∀ d ∈ [(⟨0x00, 0x01, 0x01⟩ : Date), ⟨0x28, 0x03, 0x01⟩, ⟨0x25, 0x03, 0x01⟩, ⟨0x99, 0x12, 0x31⟩], d.valid = true) ∧
    (let need : Rights := ⟨true, true, false, false, false⟩
     let c (schedule : Nat) (night : Bool) : PermContent := ⟨0x0001, schedule, { allRights with night := night }⟩
     (contentsOf (twoEntries 0 0) = [] ++ c 0 true :: [c 0 false] ∧ FitsNow (twoEntries 0 0) .custodian 0 need (c 0 true)) ∧
     (contentsOf (twoEntries 5 0) = [c 5 true] ++ c 0 false :: [] ∧ ¬FitsNow (twoEntries 5 0) .custodian 0 { need with night := false } (c 5 true) ∧
       FitsNow (twoEntries 5 0) .custodian 0 { need with night := false } (c 0 false)) ∧
     (∀ x ∈ contentsOf (twoEntries 5 0), ¬FitsNow (twoEntries 5 0) .custodian 0 need x) ∧
     (∃ x ∈ contentsOf (twoEntries 5 0), NamesRoom .custodian 0 need x) ∧
     ∀ x ∈ contentsOf (twoEntries 5 0), ¬NamesRoom .custodian 15 need x) := by
  refine ⟨⟨Laws.hhMm_valid_iff, by decide +kernel⟩, rfl, ⟨Laws.date_valid_iff, by decide +kernel⟩, ⟨?_, ?_⟩, ⟨?_, ?_, ?_⟩, ?_, ?_, ?_⟩
  all_goals (try unfold FitsNow); (try unfold NamesRoom Covers); decide +kernel

/-- R31: an ordinary window opens at its start and shuts at its end; one whose times are equal runs from its start for 24 hours. -/
theorem test_window_edges :
    let at_ (w : Window) (hour minute : Octet) (weekday : Nat) : Bool :=
      let s := nightWindow 0x10 hour minute weekday
      { s with bt := { s.bt with schedules := s.bt.schedules.set 12 [w] } }.evaluateSchedule 12
    let day : Window := ⟨0x01, ⟨0x08, 0x00⟩, ⟨0x17, 0x00⟩⟩
    let whole : Window := ⟨0x01, ⟨0x08, 0x00⟩, ⟨0x08, 0x00⟩⟩
    (at_ day 0x07 0x59 1, at_ day 0x08 0x00 1, at_ day 0x16 0x59 1, at_ day 0x17 0x00 1, at_ day 0x08 0x00 2) =
      (false, true, true, false, false) ∧
    (at_ whole 0x07 0x59 1, at_ whole 0x08 0x00 1, at_ whole 0x07 0x59 2, at_ whole 0x08 0x00 2) = (false, true, true, false) := by
  decide +kernel

/-- `sample` with a site schedule, site state, override and closing grace. -/
def siteAt (i : Sched) (st : SiteState) (o : Override) (grace : Nat) : State :=
  { sample with clk := { clock with siteSchedule := i, siteState := st, override := o, grace := grace, graceTimer := none } }

theorem witness_SiteStateFollowsScheduleAndOverride :
    ((siteAt 0 .closing .noOverride 15).siteInForce = true ∧ (siteAt 0 .afterHours .forceAfterHours 15).siteInForce = true ∧
    (siteAt 0 .afterHours .noOverride 15).siteInForce = true ∧ (siteAt 0 .openHours .holdOpen 15).siteInForce = true ∧
    (siteAt 1 .openHours .noOverride 0).siteInForce = false ∧ (siteAt 1 .openHours .noOverride 1).siteInForce = false ∧
    (siteAt 1 .openHours .holdOpen 15).siteInForce = false) ∧
    Serving 0x23 (fun s => ¬(Override.holdOpen = .holdOpen ∧ s.clk.isSet = false)) ∧
    (let s : State := { sample with clk := SiteClock.cold }
     WaitsWith (asked 0x23 s) (request [0x23, 0]) [] 0x23 ∧ s.clk.isSet = false) :=
  ⟨by decide +kernel, serving (by decide +kernel), asked_waits sample_runs rfl rfl rfl rfl, rfl⟩

/-- A list of 32 holidays. -/
def fullHolidays : List Holiday := (List.range 31).map (fun n => .everyYear 0x01 (toBcd (n + 1))) ++ [.everyYear 0x02 0x01]

theorem witness_ScheduleAndHolidayWritesEvaluate :
    ((∀ w : Window, w.formatOk = true ↔ WindowInRange w) ∧ ∀ h : Holiday, h.formatOk = true ↔ RealHoliday h) ∧
    Serving 0x1A (fun _ => (63 : Sched) ≠ 0 ∧ (List.replicate 4 (Window.mk 0x80 ⟨0x23, 0x59⟩ ⟨0x00, 0x00⟩)).length ≤ 4 ∧
      (Window.mk 0x80 ⟨0x23, 0x59⟩ ⟨0x00, 0x00⟩).formatOk = true ∧ 63 < 64 ∧ 4 < (List.replicate 5 (Window.mk 0x80 ⟨0, 0⟩ ⟨0, 0⟩)).length ∧
      ([⟨0x00, ⟨0, 0⟩, ⟨0, 0⟩⟩, ⟨0x80, ⟨0x24, 0⟩, ⟨0, 0⟩⟩, ⟨0x80, ⟨0, 0⟩, ⟨0, 0x60⟩⟩] : List Window).all (fun w => !w.formatOk) = true) ∧
    Serving 0x1C (fun s => (Holiday.everyYear 0x02 0x29).formatOk = true ∧ .everyYear 0x02 0x29 ∉ s.bt.holidays ∧
      s.bt.holidays.length < 32 ∧ .everyYear 0x12 0x25 ∈ s.bt.holidays ∧ (Holiday.everyYear 0x12 0x25).formatOk = true ∧
      (Holiday.everyYear 0x02 0x30).formatOk = false ∧ (Holiday.dated 0x25 0x02 0x29).formatOk = false) ∧
    (let s : State := { sample with bt := { table with holidays := fullHolidays } }
     WaitsWith (asked 0x1C s) (request [0x1C, 0]) [] 0x1C ∧ (Holiday.everyYear 0x02 0x29).formatOk = true ∧
       .everyYear 0x02 0x29 ∉ s.bt.holidays ∧ 32 ≤ s.bt.holidays.length) ∧
    Serving 0x1D (fun s => (Holiday.dated 0x25 0x12 0x31).formatOk = true ∧ .dated 0x25 0x12 0x31 ∈ s.bt.holidays ∧
      (Holiday.dated 0x26 0x12 0x31).formatOk = true ∧ .dated 0x26 0x12 0x31 ∉ s.bt.holidays) :=
  ⟨⟨Laws.window_formatOk_iff, Laws.holiday_formatOk_iff⟩, serving (by decide +kernel), serving (by decide +kernel),
    ⟨asked_waits sample_runs rfl rfl rfl rfl, by decide +kernel⟩, serving (by decide +kernel)⟩

/-! ### Roll and doors -/

/-- In the last clause the escort leaves (bearer 8), a visitor leaves (bearer 9), and bearer 5 has no entry. -/
theorem witness_RollRequestsClearSweepAndRemove :
    Serving 0x30 (fun s => s.roll.rooms[(1 : Room)].unreconciled = true ∧ s.roll.rooms[(0 : Room)].unreconciled = false) ∧
    Serving 0x31 (fun s => s.occupied 0 = true ∧ s.occupied 1 = true ∧ s.occupied 15 = false) ∧
    Serving 0x32 (fun s =>
      s.entryOf 8 = some (4, { entry 8 0 .running 0 false with escorted := 1 }) ∧
      s.roll.entries.get 5 = some { entry 9 0 .off 0 false with link := some 4 } ∧
      s.roll.entries.get 3 = some { entry 7 1 .running 60 true with revokedInside := true } ∧
      s.entryOf 9 = some (5, { entry 9 0 .off 0 false with link := some 4 }) ∧ s.entryOf 5 = none) :=
  ⟨serving (by decide +kernel), serving (by decide +kernel), serving (by decide +kernel)⟩

theorem witness_DoorRequestsReleaseLockAndRestore :
    Serving 0x40 (fun s =>
      s.doors[(3 : Room)].refusesRelease = true ∧ s.doors[(15 : Room)].refusesRelease = true ∧
      s.doors[(0 : Room)].refusesRelease = false ∧ s.doors[(0 : Room)].state = .secured ∧
      s.doors[(1 : Room)].refusesRelease = false ∧ s.doors[(1 : Room)].state = .released ∧
      s.doors[(1 : Room)].releaseKind = some .entry ∧ s.doors[(4 : Room)].refusesRelease = false ∧
      s.doors[(4 : Room)].state = .released ∧ s.doors[(4 : Room)].releaseKind = some .egress) ∧
    Serving 0x41 (fun s => s.doors[(1 : Room)].state = .released ∧ s.doors[(1 : Room)].releaseKind = some .entry ∧
      s.doors[(4 : Room)].state = .released ∧ s.doors[(4 : Room)].releaseKind = some .egress) ∧
    Serving 0x42 (fun s => s.doors[(3 : Room)].lockdown = true) :=
  ⟨serving (by decide +kernel), serving (by decide +kernel), serving (by decide +kernel)⟩

theorem witness_DoorGraceAndLoneWorkerExpiries :
    Runs sample ∧ (sample.doors[(1 : Room)].state = .released ∧ sample.doors[(1 : Room)].unlock = some 0) ∧
    (sample.doors[(2 : Room)].heldOpen = .running 0 ∧ sample.doors[(2 : Room)].isOpen = true) ∧
    sample.ctx[(0 : Room)].window? = some 0 ∧ (sample.clk.siteState = .closing ∧ sample.clk.graceTimer = some 0) ∧
    (sample.roll.entries.get 3).map (fun o => (o.promptDue, decide (o.checkIn ≠ .off))) = some (true, true) ∧
    (sample.roll.entries.get 4).map (fun o => (o.counter, decide (o.checkIn ≠ .off))) = some (0, true) :=
  ⟨sample_runs, by decide +kernel⟩

/-! ### The Alarm Table -/

/-- A record stands for each state of R97; 64 records stand in `fullTable`. -/
theorem witness_RaiseAndRestoreFollowTheTables :
    sample.alarms.records.find? (fun x => x.key = .bare .restarted) = some (rec (.bare .restarted) .awaitReset) ∧
    (∀ x ∈ sample.alarms.records, x.key ≠ .bare .mainsFail) ∧ sample.alarms.records.length < 64 ∧
    (sample.alarms.records.map (·.state)).dedup.length = 4 := by decide +kernel

/-- The classes of eviction, one after another as the better ones run out, and none left for a FAULT raise. -/
theorem witness_EvictionTakesTheFirstOfItsClass :
    let t := fullTable.raiseAlarm pointFault12
    let u := t.raiseAlarm (.forBearer .pinLockout 77)
    let settledFault (x : AlarmRecord) : Bool := x.key.kind.priority = .fault ∧ (x.state = .acked ∨ x.state = .awaitReset)
    let ackedSecurity (x : AlarmRecord) : Bool := x.key.kind.priority = .security ∧ x.state = .acked
    let openFault (x : AlarmRecord) : Bool := x.key.kind.priority = .fault ∧ (x.state = .active ∨ x.state = .restored)
    ((∀ x ∈ fullTable.alarms.records, x.key ≠ pointFault12) ∧ fullTable.alarms.records.length = 64 ∧
      (fullTable.alarms.records[8]?).any settledFault = true ∧ (fullTable.alarms.records.take 8).any settledFault = false) ∧
    ((∀ x ∈ t.alarms.records, x.key ≠ .forBearer .pinLockout 77) ∧ t.alarms.records.length = 64 ∧
      t.alarms.records.any settledFault = false ∧ AlarmKind.pinLockout.priority ≠ .fault ∧
      (t.alarms.records[6]?).any ackedSecurity = true ∧ (t.alarms.records.take 6).any ackedSecurity = false) ∧
    ((∀ x ∈ u.alarms.records, x.key ≠ .forStation .panic 0) ∧ u.alarms.records.length = 64 ∧
      (u.alarms.records.any fun x => settledFault x || ackedSecurity x) = false ∧ AlarmKind.panic.priority = .life ∧
      (u.alarms.records[2]?).any openFault = true ∧ (u.alarms.records.take 2).any openFault = false) ∧
    ((∀ x ∈ u.alarms.records, x.key ≠ .forRoom .rollUnreconciled 2) ∧ AlarmKind.rollUnreconciled.priority = .fault) := by
  decide +kernel

/-- The operands name a key of `sample`, whose record stands in a state. -/
def finds (a : AlarmArgs) (st : AlarmState) : Bool :=
  match a.key? with
  | none => false
  | some k => sample.alarms.records.find? (fun r => r.key = k) = some (rec k st)

theorem witness_AlarmAckAndResetTables :
    (∀ (a : AlarmArgs) (k : AlarmKey), a.key? = some k ↔ NamesKey a k) ∧
    Serving 0x50 (fun _ => True) ∧ Serving 0x51 (fun _ => True) ∧
    (finds ⟨some .heldOpen, some 3, none, none, none⟩ .active ∧ finds ⟨some .forced, some 6, none, none, none⟩ .restored ∧
    finds ⟨some .heldOpen, some 7, none, none, none⟩ .restored ∧ finds ⟨some .pinLockout, none, some 6, none, none⟩ .acked ∧
    finds ⟨some .tablesLost, none, none, none, none⟩ .active ∧ finds ⟨some .restarted, none, none, none, none⟩ .awaitReset ∧
    sample.isEventRecord (rec (.forRoom .heldOpen 2) .active) = false ∧
      sample.isEventRecord (rec (.bare .tablesLost) .active) = true ∧
      sample.isEventRecord (rec (.bare .restarted) .awaitReset) = true ∧
      AlarmKind.latching .forced = true ∧ AlarmKind.latching .heldOpen = false) ∧
    AlarmArgs.key? ⟨none, none, none, none, none⟩ = none ∧
    (∃ k, AlarmArgs.key? ⟨some .pointFault, none, none, some 96, some 4⟩ = some k ∧
      sample.alarms.records.find? (fun r => r.key = k) = none) ∧
    AlarmArgs.key? ⟨some .pointFault, none, none, some 97, some 4⟩ = none ∧
    AlarmArgs.key? ⟨some .pointFault, none, none, some 0, some 5⟩ = none :=
  ⟨Laws.alarm_key?_iff, serving trivial, serving trivial, by decide +kernel, rfl, ⟨_, rfl, by decide +kernel⟩, rfl, rfl⟩

/-! ### Zones and cylinders -/

theorem witness_ZoneResetAndReleaseAuthorise :
    Serving 0x60 (fun s =>
      (∀ z : Room, z = 1 ∨ z = 2 ∨ z = 6 → s.zones[z].resettable = true ∧ s.zones[z].inputs.manual ≠ .active) ∧
      s.zones[(1 : Room)].state = .alert ∧ s.zones[(2 : Room)].state = .held ∧ s.zones[(6 : Room)].state = .vent ∧
      s.zones[(0 : Room)].resettable = false) ∧
    Serving 0x63 (fun s => s.zones[(2 : Room)].state = .held ∧ s.zones[(3 : Room)].state = .countdown ∧
      s.zones[(0 : Room)].state ≠ .held ∧ s.zones[(0 : Room)].state ≠ .countdown) :=
  ⟨serving (by decide +kernel), serving (by decide +kernel)⟩

theorem witness_ZoneDisableAndEnableByState :
    Serving 0x61 (fun s => s.zones[(0 : Room)].state = .normal ∧ s.zones[(1 : Room)].state = .alert ∧
      s.zones[(7 : Room)].state = .disabled ∧ s.zones[(4 : Room)].state = .discharging) ∧
    Serving 0x62 (fun s =>
      s.zones[(7 : Room)].state = .disabled ∧ s.zones[(7 : Room)].inputs.confirms s.sup.profiles[(7 : Room)].knock = none ∧
      s.zones[(7 : Room)].inputs.detectorActive = false ∧ s.zones[(8 : Room)].state = .disabled ∧
      s.zones[(8 : Room)].inputs.confirms s.sup.profiles[(8 : Room)].knock = some .automatic ∧
      s.zones[(0 : Room)].state ≠ .disabled) ∧
    (let s : State :=
       { sample with
         zones := zones.set 10 { zone .disabled with inputs := { ZoneInputs.allNormal with detectorB := .active } } }
     WaitsWith (asked 0x62 s) (request [0x62, 0]) [] 0x62 ∧ s.zones[(10 : Room)].state = .disabled ∧
       s.zones[(10 : Room)].inputs.confirms s.sup.profiles[(10 : Room)].knock = none ∧
       s.zones[(10 : Room)].inputs.detectorActive = true) :=
  ⟨serving (by decide +kernel), serving (by decide +kernel), asked_waits sample_runs rfl rfl rfl rfl, by decide +kernel⟩

/-- `sample` with the manifold free and no zone waiting. -/
def freeManifold : State := { sample with bank := { bank with manifold := none, waitQueue := [] } }

/-- A state with a release unit ONLINE in a strongroom. -/
def withReleaseUnit (s : State) (room : Nat) : State :=
  { s with
    loop :=
      { s.loop with stations := s.loop.stations.set 4 { Station.configured .releaseUnit room with state := .online } } }

/-- R123: cylinders 1 and 6 are reserved to zone 4, whose release unit is given their positions. -/
theorem test_fire_command :
    let held : Cylinder := { full .reserved with zone := some 3 }
    let s := withReleaseUnit { freeManifold with bank := { freeManifold.bank with cylinders := (bank.cylinders.set 5 held).set 0 held } } 4
    (after (.countdownEnd 3) s).loop.stations[(4 : Addr)].slots.fire = some ⟨[0, 5], false⟩ := by decide +kernel

theorem witness_DischargeSequence :
    (∀ s, s = freeManifold ∨ s = sample → ∀ z : Room, z = 3 ∨ z = 9 →
      Runs (withReleaseUnit s (num z)) ∧ (withReleaseUnit s (num z)).stationOf .releaseUnit (num z) = some 4 ∧
        (withReleaseUnit s (num z)).loop.stations[(4 : Addr)].state ≠ .missing ∧
        (withReleaseUnit s (num z)).loop.stations[(4 : Addr)].state ≠ .wrongType ∧
        (withReleaseUnit s (num z)).zones = s.zones ∧ (withReleaseUnit s (num z)).bank = s.bank) ∧
    Runs freeManifold ∧ Runs sample ∧
    (freeManifold.zones[(3 : Room)].state = .countdown ∧ freeManifold.zones[(3 : Room)].countdownDue = true ∧
      freeManifold.bank.manifold = none ∧ freeManifold.bank.waitQueue = []) ∧
    (sample.zones[(3 : Room)].state = .countdown ∧ sample.zones[(3 : Room)].countdownDue = true ∧
      sample.bank.manifold ≠ none ∧ sample.bank.waitQueue.head? = some 9) ∧
    (sample.zones[(4 : Room)].state = .discharging ∧ sample.zones[(4 : Room)].discharge = some 0 ∧
      sample.zones[(4 : Room)].flowStart = some 0 ∧ sample.sup.profiles[(4 : Room)].soak ≠ 0) ∧
    (sample.zones[(5 : Room)].state = .soak ∧ sample.zones[(5 : Room)].soak = some 0) :=
  ⟨fun s h z hz => by
      rcases h with rfl | rfl <;> rcases hz with rfl | rfl <;>
        exact ⟨sample_runs, by decide +kernel, by decide +kernel, by decide +kernel, rfl, rfl⟩,
    sample_runs, sample_runs, by decide +kernel, by decide +kernel, by decide +kernel, by decide +kernel⟩

theorem witness_CylinderSetActions :
    Serving 0x70 (fun s =>
      (s.bank.cylinders[(2 : Pos)].state = .absent ∧ s.bank.cylinders[(0 : Pos)].state ≠ .absent ∧ 1 ≤ 999 ∧ 999 ≤ 999) ∧
      (48 < 49 ∧ 999 < 1000) ∧ s.bank.cylinders[(0 : Pos)].state = .ready ∧
      (s.bank.cylinders[(1 : Pos)].state = .reserved ∧ s.bank.cylinders[(1 : Pos)].zone = some 2 ∧
        s.zones[(2 : Room)].state ≠ .discharging) ∧
      (s.bank.cylinders[(6 : Pos)].state = .reserved ∧ s.bank.cylinders[(6 : Pos)].zone = some 4 ∧
        s.zones[(4 : Room)].state = .discharging) ∧
      (s.bank.cylinders[(3 : Pos)].state = .isolated ∧ s.bank.cylinders[(4 : Pos)].state = .fault ∧
        s.bank.flags[(4 : Pos)] = .low ∧ s.bank.cylinders[(5 : Pos)].state = .spent)) :=
  serving (by decide +kernel)

/-- The walk's clauses speak of every cylinder, and the top-up of every position: `walkCylinders` and `sample` have READY ones. Zone 5
discharges, zone 3 has its required quantity, and zone 4 has less. -/
theorem witness_WalkAndTopUpTakeReadyCylinders :
    (bankWalk walkCylinders 1974 12 (fins 48) ⟨0, 0, []⟩).taken = [0, 2, 4, 5, 6, 7, 8, 9, 10] ++ [11] ∧
    sample.bank.cylinders[(0 : Pos)].state = .ready ∧ sample.topUp.bank.cylinders[(0 : Pos)].zone = some 3 ∧
    (let sum (z : Room) : Nat := ((sample.bank.reservedPositions z).map fun p => sample.bank.cylinders[p].charge.getD 0).sum
     sample.zones[(4 : Room)].state = .discharging ∧ sample.sup.profiles[(2 : Room)].required ≤ sum 2 ∧
       sample.zones[(3 : Room)].state ≠ .discharging ∧ sum 3 < sample.sup.profiles[(3 : Room)].required) := by decide +kernel

/-! ### Reports -/

/-- The reply of the station at an address completes the poll of a state. -/
theorem reply_heard : ∀ a : Addr, a.val < 6 →
    receive ⟨.default, fun _ => true⟩ (.hunt []) (replyLine a) = .inr (.accepted ⟨BitVec.ofNat 8 (num a), 5, 0, []⟩) := by
  decide +kernel

/-- A state awaits the reply of the station at an address, and hears it. -/
theorem replies {s : State} {a : Addr} {c : PollContent} (ha : a.val < 6) (runs : Runs s)
    (polled : s.loop.current = some ⟨some a, .awaiting, c⟩) (configured : s.loop.stations[a].state ≠ .unconfigured)
    (rx : s.p2.rx = .hunting) (pair : s.p2.usedPair = .default) : Replies s a (replyLine a) :=
  ⟨runs, ⟨c, polled⟩, configured, .hunt [], _, rx, by rw [pair]; exact reply_heard a ha,
    by simp only [num, BitVec.toNat_ofNat]; omega, (by decide : (5#8 &&& 0xE0#8) = 0#8), (by decide : (5#8 &&& 0x0F#8) = 5#8)⟩

/-- A state whose station at an address, ONLINE with these points, has been polled. -/
def hearing (s : State) (a : Addr) (ty : StationType) (room : Nat) (points : List Point) : State :=
  { s with
    loop :=
      { s.loop with
        stations := s.loop.stations.set a { Station.configured ty room with state := .online, points := points }
        current := some ⟨some a, .awaiting, s.pollContent a⟩ } }

theorem hearing_station (s : State) (a : Addr) (ty : StationType) (room : Nat) (points : List Point) :
    (hearing s a ty room points).loop.stations[a] =
      { Station.configured ty room with state := .online, points := points } := by simp [hearing]

theorem hearing_replies {s : State} {a : Addr} {ty : StationType} {room : Nat} {points : List Point} (ha : a.val < 6)
    (runs : Runs s) (rx : s.p2.rx = .hunting) (pair : s.p2.usedPair = .default) :
    Replies (hearing s a ty room points) a (replyLine a) :=
  replies ha runs rfl (by rw [hearing_station]; simp) rx pair

theorem hearing_brings {s : State} {a : Addr} {ty : StationType} {room : Nat} {points : List Point} {n : Nat} (ha : a.val < 6)
    (runs : Runs s) (rx : s.p2.rx = .hunting) (pair : s.p2.usedPair = .default) (hn : 1 ≤ n) (hn' : n ≤ 255)
    (settings : s.p2.newSettings = false) (test : s.sup.linkTest = none) (yielded : s.loop.yielded = false)
    (settled : Settled s) : Brings (hearing s a ty room points) a (replyLine a) n :=
  ⟨hearing_replies ha runs rx pair, by rw [hearing_station], ⟨hn, hn', by rw [hearing_station]; exact Nat.ne_of_gt hn⟩,
    ⟨settings, test, .inr yielded⟩, settled⟩

/-- A point accepted in a state whose next report of another will be accepted. -/
def turning (old new : PointState) : Point := ⟨some old, some new, 3, false⟩

/-- The points of a station at strongroom 1 that turn from some states to others. -/
def turn (s : State) (ty : StationType) (old new : List PointState) : State :=
  hearing s 0 ty 1 (List.zipWith turning old new)

/-- The door unit of strongroom 1, with nothing to report but presentations. -/
def presenting (s : State) : State := turn s .doorUnit (List.replicate 4 .normal) (List.replicate 4 .normal)

theorem presents {s : State} (runs : Runs s) (rx : s.p2.rx = .hunting) (pair : s.p2.usedPair = .default)
    (settings : s.p2.newSettings = false) (test : s.sup.linkTest = none) (yielded : s.loop.yielded = false)
    (settled : Settled s) (n : Nat) (hn : 1 ≤ n) (hn' : n ≤ 255) :
    Presents (presenting s) 0 0 (replyLine 0) (List.replicate 4 .normal) n :=
  ⟨hearing_brings (by decide) runs rx pair hn hn' settings test yielded settled,
    by rw [show (presenting s).loop.stations[(0 : Addr)] = _ from hearing_station ..]; exact ⟨rfl, rfl⟩, rfl,
    by rw [changes, show (presenting s).loop.stations[(0 : Addr)] = _ from hearing_station ..]; decide +kernel⟩

/-! ### Access -/

/-- `sample` with no pairing context, so that bearer 5 enters strongroom 1 alone. -/
def alone : State := { sample with ctx := Vector.replicate 16 .empty }

/-- `alone` with strongroom 7 in VENT, its door SECURED, and bearer 5 a SAFETY_OFFICER whose entry 1 carries VENT_ENTRY. -/
def venting : State :=
  { alone with
    doors := doors.set 6 (door .secured)
    bt :=
      { table with
        bearers := table.bearers.set 5 { custodian with cls := .safetyOfficer }
        entries := table.entries.set 1 ⟨⟨0xFFFF, 0, { allRights with ventEntry := true }⟩, 0⟩ } }

/-- `alone` with a record for bearer 5 and a capacity of strongroom 1, its door unit about to report. -/
def atReader (r : Bearer) (capacity : Nat) : State :=
  presenting
    { alone with
      bt := { table with bearers := table.bearers.set 5 r }
      sup := { alone.sup with profiles := alone.sup.profiles.set 0 { Profile.default with capacity := capacity } } }

theorem at_reader_presents (r : Bearer) (capacity n : Nat) (hn : 1 ≤ n) (hn' : n ≤ 255) :
    Presents (atReader r capacity) 0 0 (replyLine 0) (List.replicate 4 .normal) n := by
  unfold atReader
  refine presents ?_ ?_ ?_ ?_ ?_ ?_ ?_ n hn hn' <;> first | rfl | exact ⟨rfl, rfl⟩

/-- Digits 1 2 3 9 pass for a bearer with that PIN, demanded or not. -/
theorem pin_passes {r : Bearer} (s : State) (d : Room) (h : r.pin = some 0x1239) : passesPin s d r [1, 2, 3, 9] := by
  unfold passesPin
  split
  · exact ⟨_, h, by decide +kernel⟩
  · intro p hp
    rw [h] at hp
    cases hp
    decide +kernel

/-- Bearer 5 at the reader reaches the PIN stage: with PIN 1239 and no PIN, with a failure count of 1 and one short of the limit. -/
theorem at_reader_reaches_pin :
    ∀ r ∈ [custodian, { custodian with pin := none }, { custodian with failedPin := 4 }], ∀ capacity ∈ [2, 3],
      ReachesPin (atReader r capacity) 0 0 0x105 5 r allRights := by
  have h : ∀ r ∈ [custodian, { custodian with pin := none }, { custodian with failedPin := 4 }], ∀ capacity ∈ [2, 3],
      let s := atReader r capacity
      s.doorDenies 0 0 = none ∧ s.zones[(0 : Room)].state.allowsEntry = true ∧ s.findToken 0x105 = some 5 ∧
        s.bt.bearers.get 5 = some r ∧ r.state = .active ∧ s.inValidity r = true ∧
        s.chainWalk r.cls 0 (s.needed 0 (s.nightRules 0 r.cls)) 16 r.chainHead false = .matched allRights := by
    decide +kernel
  intro r hr capacity hc
  obtain ⟨h1, h2, h3, h4, h5, h6, h7⟩ := h r hr capacity hc
  exact ⟨h1, h2, h3, h4, h5, h6, h7⟩

/-- In the last clauses bearer 5 reads its PIN, the duress form or another, is inside already, or comes to a full strongroom. -/
theorem witness_EntryDecisionsByStage :
    (let need : Rights := ⟨true, true, false, false, false⟩
     alone.nightRules 0 .custodian = true ∧ ({ alone with clk := { clock with siteState := .openHours } } : State).nightRules 0 .custodian = false ∧
       (twoEntries 5 5).chainWalk .custodian 0 need 16 1 false = .named ∧
       (twoEntries 5 5).chainWalk .custodian 15 need 16 1 false = .nothing ∧
       (twoEntries 5 5).inValidity custodian = true ∧ (twoEntries 5 5).zones[(0 : Room)].state = .normal ∧
       (twoEntries 5 5).zones[(15 : Room)].state = .disabled) ∧
    ((sample.loop.stations[(3 : Addr)].state ≠ .online ∧ sample.doors[(15 : Room)].state = .unknown) ∧
    sample.loop.stations[(0 : Addr)].state = .online ∧
    (sample.doors[(3 : Room)].state ≠ .unknown ∧ sample.doors[(3 : Room)].lockdown = true) ∧
    (sample.doors[(5 : Room)].lockdown = false ∧ sample.doors[(5 : Room)].timeLock = true) ∧
    (sample.doors[(4 : Room)].timeLock = false ∧ sample.zones[(4 : Room)].state = .discharging) ∧
    (sample.doors[(0 : Room)].timeLock = false ∧ sample.zones[(0 : Room)].state = .normal) ∧
    (sample.findToken 0x10A = none ∧ sample.findToken 0x107 = some 7 ∧ sample.findToken 0x106 = some 6 ∧
      sample.findToken 0x105 = some 5) ∧
    (sample.bt.bearers.get 7 = some retiring ∧ sample.bt.bearers.get 6 = some suspended ∧
      sample.bt.bearers.get 5 = some custodian ∧ custodian.state = .active ∧
      ({ sample with clk := SiteClock.cold } : State).inValidity custodian = false) ∧
    (alone.entryPresentation 0 0 0x105 [1, 2, 3, 9]).2 = .grant 5 ∧
    ((venting.entryPresentation 0 6 0x105 [1, 2, 3, 9]).2 = .grant 5 ∧ venting.zones[(6 : Room)].state = .vent) ∧
    (custodian.pin = some 0x1239 ∧ pinValid 0x1239 = true)) ∧
    (∀ r ∈ [custodian, { custodian with pin := none }, { custodian with failedPin := 4 }], ∀ capacity ∈ [2, 3],
      Presents (atReader r capacity) 0 0 (replyLine 0) (List.replicate 4 .normal) 255 ∧
        ReachesPin (atReader r capacity) 0 0 0x105 5 r allRights ∧ demandsPin (atReader r capacity) 0 r.cls = true ∧
        Roomy (atReader r capacity) ∧ (atReader r capacity).entryOf 5 = none) ∧
    ((([1, 1, 1, 1] : List Nat).take 4 ≠ pinDigits 0x1239 ∧ ([1, 1, 1, 1] : List Nat).take 4 ≠ duressDigits 0x1239 ∧
      ([1, 2, 3, 0] : List Nat).take 4 = duressDigits 0x1239) ∧ passesPin (atReader custodian 2) 0 custodian [1, 2, 3, 9] ∧
      (atReader custodian 2).roomFor 0 1 = false ∧ (atReader custodian 2).custodyApplies 0 .custodian true = false) ∧
    (let s : State := { atReader custodian 3 with roll := { roll with entries := roll.entries.set 6 (entry 5 0 .off 0 false) } }
     Presents s 0 0 (replyLine 0) (List.replicate 4 .normal) 1 ∧ (s.entryOf 5).isSome = true) := by
  refine ⟨by decide +kernel, by decide +kernel,
    fun r hr capacity hc => ⟨at_reader_presents _ _ _ (by decide) (by decide), at_reader_reaches_pin r hr capacity hc, ?_⟩,
    ⟨by decide +kernel, pin_passes _ _ rfl, by decide +kernel⟩, ?_, by decide +kernel⟩
  · revert r capacity
    unfold Roomy
    decide +kernel
  · exact presents (s := { alone with
      bt := { table with bearers := table.bearers.set 5 custodian }
      roll := { roll with entries := roll.entries.set 6 (entry 5 0 .off 0 false) }
      sup := { alone.sup with profiles := alone.sup.profiles.set 0 { Profile.default with capacity := 3 } } })
      sample_runs rfl rfl rfl rfl rfl rfl 1 (by decide) (by decide)

/-- `table` with a visitor 10 and a second custodian 11 outside, who have the chain and PIN of bearer 5; entry 1 gives these
rights. -/
def guests (rights : Rights) : BearerTable :=
  { table with
    bearers := table.bearers.set 10 { visitor with token := 0x10A, pin := some 0x1239, chainHead := 1 } |>.set 11 { custodian with token := 0x10B }
    index := table.index.set 0x10A 10 |>.set 0x10B 11
    entries := table.entries.set 1 ⟨⟨0xFFFF, 0, rights⟩, 0⟩ }

/-- `alone` with them, a context and a custody policy at strongroom 1, where bearer 8 leads one visitor. -/
def meeting (c : Context) (policy : CustodyPolicy) (rights : Rights) : State :=
  presenting
    { alone with
      bt := guests rights, ctx := alone.ctx.set 0 c
      roll := { roll with entries := roll.entries.set 4 { entry 8 0 .off 0 false with escorted := 1 } }
      sup := { alone.sup with profiles := alone.sup.profiles.set 0 { Profile.default with custody := policy } } }

theorem meeting_presents (c : Context) (policy : CustodyPolicy) (rights : Rights) :
    Presents (meeting c policy rights) 0 0 (replyLine 0) (List.replicate 4 .normal) 1 := by
  unfold meeting
  refine presents ?_ ?_ ?_ ?_ ?_ ?_ ?_ 1 (by decide) (by decide) <;> first | rfl | exact ⟨rfl, rfl⟩

/-- Bearer `b` with its record reaches stage 9 at the reader of strongroom 1, and the roll keeps its law. -/
def Meets (s : State) (token : Token) (b : Nat) (rights : Rights) : Prop :=
  ∃ r, ReachesPairing s 0 0 token [1, 2, 3, 9] b r rights ∧ OccupancyLaw s

def meetsTest (s : State) (token : Token) (b : Nat) (r : Bearer) (rights : Rights) : Bool :=
  s.doorDenies 0 0 = none ∧ s.zones[(0 : Room)].state.allowsEntry = true ∧ s.findToken token = some b ∧
    s.bt.bearers.get b = some r ∧ r.state = .active ∧ s.inValidity r = true ∧
    s.chainWalk r.cls 0 (s.needed 0 (s.nightRules 0 r.cls)) 16 r.chainHead false = .matched rights ∧ r.pin = some 0x1239 ∧
    s.entryOf b = none ∧ s.roomFor 0 (if s.custodyApplies 0 r.cls (s.nightRules 0 r.cls) then 2 else 1) = true ∧
    s.roll.entries.wf = true ∧ (s.roll.entries.map fun p => p.2.bearer).Nodup ∧
    (∀ p ∈ s.roll.entries, (s.bt.bearers.get p.2.bearer).isSome) ∧
    (∀ r : Room, (waitingIn s.ctx[r]).all fun b => (s.entryOf b).isNone && (s.bt.bearers.get b).isSome)

theorem meets {s : State} {token : Token} {b : Nat} {rights : Rights} (r : Bearer) (h : meetsTest s token b r rights = true) :
    Meets s token b rights := by
  obtain ⟨h1, h2, h3, h4, h5, h6, h7, h8, h9, h10, h11, h12, h13, h14⟩ := of_decide_eq_true h
  exact ⟨r, ⟨⟨h1, h2, h3, h4, h5, h6, h7⟩, pin_passes s 0 h8, h9, h10⟩, occupancy_of h11 h12 h13 h14⟩

/-- The rights of a chain without CUSTODY. -/
def noCustody : Rights := { allRights with custody := false }

def secondCustodian : Bearer := { custodian with token := 0x10B }
def guest : Bearer := { visitor with token := 0x10A, pin := some 0x1239, chainHead := 1 }

/-- One state for each clause: a plain grant with a group and without one, a first custodian, the same again, one without
CUSTODY, the second custodian, and a visitor without a group, and with one whose escort has its limit (bearer 8, of limit 3, leads
one: bearer 9, of limit 0, has it). -/
theorem witness_PairingContextsAdmitTogether :
    (∀ c policy rights, Presents (meeting c policy rights) 0 0 (replyLine 0) (List.replicate 4 .normal) 1) ∧
    (∀ c ∈ [Context.empty, .escort true 3 8 4],
      Meets (meeting c .never allRights) 0x105 5 allRights ∧ (meeting c .never allRights).custodyApplies 0 .custodian true = false) ∧
    (∀ rights ∈ [allRights, noCustody],
      Meets (meeting .empty .always rights) 0x105 5 rights ∧
        (meeting .empty .always rights).custodyApplies 0 .custodian true = true) ∧
    (∀ first ∈ [5, 11], ∀ rights ∈ [allRights, noCustody],
      Meets (meeting (.custody true 3 first allRights) .night rights) 0x105 5 rights) ∧
    (∀ c ∈ [Context.empty, .escort false 3 8 4, .escort false 3 9 5],
      Meets (meeting c .never allRights) 0x10A 10 (Rights.allowed allRights .visitor)) ∧
    (guest.cls = .visitor ∧ (guests allRights).bearers.get 8 = some inside ∧ 1 < inside.escortLimit ∧
      (guests allRights).bearers.get 9 = some visitor ∧ visitor.escortLimit ≤ 0) := by
  refine ⟨meeting_presents, fun c hc => ⟨meets custodian ?_, ?_⟩, fun r hr => ⟨meets custodian ?_, ?_⟩,
    fun n hn r hr => meets custodian ?_, fun c hc => meets guest ?_, by decide +kernel⟩
  · revert c; decide +kernel
  · revert c; decide +kernel
  · revert r; decide +kernel
  · revert r; decide +kernel
  · revert n r; decide +kernel
  · revert c; decide +kernel

theorem witness_ExitAndEgressAreNeverRefused :
    sample.doors[(0 : Room)].state = .secured ∧ sample.doors[(5 : Room)].state = .timeLocked ∧
    (sample.doors[(1 : Room)].state = .released ∧ sample.doors[(1 : Room)].releaseKind = some .entry) ∧
    (sample.doors[(4 : Room)].state = .released ∧ sample.doors[(4 : Room)].releaseKind = some .egress) ∧
    (sample.doors[(2 : Room)].state = .opened ∧ sample.doors[(2 : Room)].hold = false) ∧
    (door .held).state = .held ∧ (door .forced).state = .forced ∧ sample.doors[(15 : Room)].state = .unknown ∧
    sample.stationOf .doorUnit (num (0 : Room)) = some 0 ∧ sample.loop.stations[(0 : Addr)].lost = false ∧
    sample.findToken 0x108 = some 8 ∧ sample.entryOf 8 = some (4, { entry 8 0 .running 0 false with escorted := 1 }) ∧
    (sample.findToken 0x105 = some 5 ∧ sample.entryOf 5 = none) ∧ sample.findToken 0x10A = none := by decide +kernel

/-! ### The Loop Master -/

theorem witness_StationConfigureMakesAFreshRecord :
    Serving 0x80 (fun s =>
      s.zoneBars .detectorIf 3 = true ∧
      (s.zoneBars .doorUnit 1 = false ∧ s.roleTaken 5 .doorUnit 1 = true) ∧
      (s.roleTaken 0 .doorUnit 1 = false ∧ s.loop.stations[(0 : Addr)].type = .doorUnit ∧ s.loop.stations[(0 : Addr)].room = 1) ∧
      (s.zoneBars .detectorIf 1 = false ∧ s.roleTaken 95 .detectorIf 1 = false ∧
        s.loop.stations[(95 : Addr)].type = .unassigned) ∧
      (s.roleTaken 0 .unassigned 16 = false ∧ 16 ≤ 16)) :=
  serving (by decide +kernel)

/-- R114: what a release unit is sent while its zone discharges and while it soaks. -/
theorem test_standing_outputs :
    let s (st : ZoneState) : State := hearing { sample with zones := zones.set 0 (zone st) } 0 .releaseUnit 1 []
    (s .discharging).standing 0 = .releaseUnit .discharge true false ∧ (s .soak).standing 0 = .releaseUnit .discharge false false := by
  decide +kernel

theorem witness_PollsAndMissedPolls :
    (∀ (ty : StationType) (room : Nat), (hearing sample 0 ty room []).loop.stations[(0 : Addr)].type = ty ∧
      (hearing sample 0 ty room []).loop.stations[(0 : Addr)].room = room) ∧
    (∀ broadcast ∈ [none, sample.loop.broadcastDue], ∀ due ∈ [none, some (3 : Addr)], ∀ yielded ∈ [false, true], ∀ off ∈ [false, true],
      let s : State :=
        { sample with
          loop := { sample.loop with broadcastDue := broadcast, answerDue := due, yielded := yielded }
          p2 := { sample.p2 with heldOff := off } }
      Runs s ∧ s.loop.current = none ∧ s.sup.linkTest = none ∧ s.p2.newSettings = false) ∧
    sample.firstConfigured 96 sample.loop.scan = some 0 ∧
    ({ sample with p2 := { sample.p2 with heldOff := true } } : State).firstConfigured 96 4 = some 0 ∧
    sample.loop.broadcastDue.isSome = true ∧
    (Runs (polled 0 .awaiting) ∧ (polled 0 .awaiting).loop.current = some ⟨some 0, .awaiting, sample.pollContent 0⟩ ∧
      (polled 0 .awaiting).loop.stations[(0 : Addr)].state ≠ .unconfigured ∧ (polled 0 .awaiting).p2.rx.inFrame = false ∧
      (polled 0 .awaiting).loop.stations[(0 : Addr)].misses < 2) ∧
    (Receiver.on (.frame ⟨0, [], [], false⟩)).inFrame = true ∧
    (Runs (polled 3 .unsent) ∧ 2 ≤ (polled 3 .unsent).loop.stations[(3 : Addr)].misses ∧ Roomy (polled 3 .unsent) ∧
      (polled 3 .unsent).loop.stations[(3 : Addr)].state ≠ .missing ∧
      (polled 3 .unsent).loop.stations[(3 : Addr)].state ≠ .unconfigured) :=
  ⟨fun ty room => by rw [hearing_station]; exact ⟨rfl, rfl⟩, fun _ _ _ _ _ _ _ _ => ⟨sample_runs, rfl, rfl, rfl⟩, by decide +kernel, by decide +kernel, rfl, ⟨sample_runs, rfl, by decide +kernel⟩, by decide +kernel,
    sample_runs, by decide +kernel, by unfold Roomy; decide +kernel, by decide +kernel⟩

/-- A frame cut off by a run of eight zeros and a one. -/
def brokenLine : List Bool := SyncPair.default.idle 2 ++ bitsOf 0x01 ++ List.replicate 8 false ++ List.replicate 8 true

/-- The check-in station, the bank monitor and the pendant receiver answer, and a station of another type; bits that end no frame, that
are dropped, or that no poll awaits. -/
theorem witness_ReportsCompleteThePoll :
    (∀ a : Addr, a = 1 ∨ a = 2 ∨ a = 3 → Replies (polled a .awaiting) a (replyLine a)) ∧
    ((polled 1 .awaiting).loop.stations[(1 : Addr)].type = .checkIn ∧
      (polled 3 .awaiting).loop.stations[(3 : Addr)].type = .pendantRx ∧
      (polled 2 .awaiting).loop.stations[(2 : Addr)].type = .bankMonitor) ∧
    ((true :: List.replicate 47 false).length = 48 ∧ sample.bank.cylinders[(0 : Pos)].state = .ready ∧
      sample.bank.flags[(0 : Pos)] ≠ .low) ∧
    (StationType.callPoint ≠ .unassigned ∧ StationType.callPoint ≠ .bankMonitor ∧ StationType.callPoint ≠ .checkIn ∧
      (List.replicate 4 PointState.normal).length = StationType.callPoint.pointCount ∧ Roomy (polled 1 .awaiting) ∧
      (polled 1 .awaiting).loop.stations[(1 : Addr)].state ≠ .wrongType) ∧
    (Runs (polled 1 .awaiting) ∧ (polled 1 .awaiting).p2.rx = .on (.hunt []) ∧
      (∃ q, receive ⟨.default, fun _ => true⟩ (.hunt []) [false] = .inl q) ∧
      receive ⟨.default, fun _ => true⟩ (.hunt []) brokenLine = .inr .dropped ∧
      (⟨brokenLine, none, [], 0, .nothing⟩ : ReportFrame).declared? = none ∧
      ({ sample.p2 with rx := .off } : PortTwo).rx = .off ∧
      ¬Runs { sample with lines := { sample.lines with mainOn := false } }) := by
  refine ⟨fun a h => ?_, by decide +kernel, by decide +kernel, ⟨by decide, by decide, by decide, by decide, by unfold Roomy; decide +kernel, by decide +kernel⟩,
    sample_runs, rfl, ⟨_, rfl⟩, by decide +kernel, rfl, rfl, by simp [Runs]⟩
  rcases h with rfl | rfl | rfl <;> exact replies (by decide) sample_runs rfl (by decide +kernel) rfl rfl

/-- `sample` with a record for door 1, whose unit's points turn from these states. -/
def doorTurns (d : Door) (old new : List PointState) : State := turn { sample with doors := doors.set 0 d } .doorUnit old new

/-- Any door record may meet any change of its points; the lists are changes of the contact alone, with the egress push, and of the tamper
point. -/
theorem witness_DoorReportsMoveTheDoor :
    (∀ d old new, Replies (doorTurns d old new) 0 (replyLine 0) ∧
      (doorTurns d old new).loop.stations[(0 : Addr)].type = .doorUnit ∧
      (doorTurns d old new).loop.stations[(0 : Addr)].room = num (0 : Room) ∧ (doorTurns d old new).doors[(0 : Room)] = d ∧
      (doorTurns d old new).headCount 0 = 2 ∧ Roomy (doorTurns d old new) ∧
      (doorTurns d old new).roll.rooms[(0 : Room)].unreconciled = false) ∧
    (∀ contact ∈ [PointState.active, .openFault, .shortFault], ∀ push ∈ [PointState.normal, .active],
      changes (doorTurns (door .secured) (List.replicate 4 .normal) [contact, .normal, push, .active]) 0
          [contact, .normal, push, .active] =
        [some contact, none, if push = .active then some .active else none, some .active]) ∧
    (∀ push ∈ [PointState.normal, .active],
      changes (doorTurns (door .secured) (List.replicate 4 .normal) [.normal, .normal, push, .normal]) 0 [.normal, .normal, push, .normal] =
          [none, none, if push = .active then some .active else none, none] ∧
        changes (doorTurns (door .opened) [.active, .active, .normal, .normal] [.normal, .active, push, .normal]) 0
            [.normal, .active, push, .normal] =
          [some .normal, none, if push = .active then some .active else none, none]) := by
  refine ⟨fun d old new => ⟨hearing_replies (by decide) ⟨rfl, rfl⟩ rfl rfl, ?_, ?_, ?_, ?_, ?_, ?_⟩, by decide +kernel, by decide +kernel⟩
  · rw [show (doorTurns d old new).loop.stations[(0 : Addr)] = _ from hearing_station ..]; rfl
  · rw [show (doorTurns d old new).loop.stations[(0 : Addr)] = _ from hearing_station ..]; rfl
  · rfl
  · exact (by decide +kernel : sample.headCount 0 = 2)
  · exact (by unfold Roomy; decide +kernel : Roomy sample)
  · rfl

/-- `sample` with a record for zone 1, whose station's points turn from these states. -/
def zoneTurns (z : Zone) (ty : StationType) (old new : List PointState) : State :=
  turn { sample with zones := zones.set 0 z } ty old new

/-- Any zone record may meet any change of the inputs; the lists are changes of the detectors, and of the release unit's manual release, abort,
lockout and flow switch. -/
theorem witness_ZoneReportsConfirmHoldAndFollow :
    (∀ z ty old new, Replies (zoneTurns z ty old new) 0 (replyLine 0) ∧
      (zoneTurns z ty old new).loop.stations[(0 : Addr)].type = ty ∧
      (zoneTurns z ty old new).loop.stations[(0 : Addr)].room = num (0 : Room) ∧ (zoneTurns z ty old new).zones[(0 : Room)] = z ∧
      Roomy (zoneTurns z ty old new)) ∧
    (∀ st ∈ [ZoneState.normal, .alert, .held, .countdown, .waitBank, .discharging, .soak, .vent, .disabled], (zone st).state = st) ∧
    (∀ x ∈ [PointState.active, .openFault], ∀ y ∈ [PointState.normal, .active, .shortFault],
      changes (zoneTurns (zone .normal) .detectorIf [.normal, .normal] [x, y]) 0 [x, y] =
        [some x, if y = .normal then none else some y]) ∧
    (∀ manual ∈ [PointState.normal, .active], ∀ flow ∈ [PointState.active, .openFault],
      changes (zoneTurns (zone .held) .releaseUnit [.normal, .active, .active, .normal] [manual, .normal, .normal, flow]) 0
          [manual, .normal, .normal, flow] =
        [if manual = .active then some .active else none, some .normal, some .normal, some flow]) ∧
    changes (zoneTurns (zone .discharging) .releaseUnit [.normal, .normal, .normal, .active] [.normal, .normal, .normal, .normal]) 0
        [.normal, .normal, .normal, .normal] = [none, none, none, some .normal] := by
  refine ⟨fun z ty old new => ⟨hearing_replies (by decide) ⟨rfl, rfl⟩ rfl rfl, ?_, ?_, ?_, ?_⟩, by decide, by decide +kernel, by decide +kernel, by decide +kernel⟩
  · rw [show (zoneTurns z ty old new).loop.stations[(0 : Addr)] = _ from hearing_station ..]; rfl
  · rw [show (zoneTurns z ty old new).loop.stations[(0 : Addr)] = _ from hearing_station ..]; rfl
  · rfl
  · exact (by unfold Roomy; decide +kernel : Roomy sample)

/-- `alone` about to hear the check-in station of strongroom 1 or a pendant receiver; bearers 8 and 9 are in strongroom 1, bearer 7 is in
strongroom 2 and bearer 5 outside. -/
def checkingIn (ty : StationType) (room : Nat) : State := hearing alone 0 ty room []

/-- A point of a call point turns Active or Normal, alone or with another point held; the boundary event numbers. -/
theorem witness_CallPointPendantAndCheckInReports :
    (∀ s, s = sample ∨ s = alone → ∀ old new, Replies (turn s .callPoint old new) 0 (replyLine 0) ∧
      (turn s .callPoint old new).loop.stations[(0 : Addr)].type = .callPoint) ∧
    (changes (turn sample .callPoint [.normal, .normal, .normal, .normal] [.active, .normal, .normal, .openFault]) 0
        [.active, .normal, .normal, .openFault] = [some .active, none, none, some .openFault] ∧
      changes (turn sample .callPoint [.active, .normal, .normal, .normal] [.normal, .normal, .normal, .normal]) 0
        [.normal, .normal, .normal, .normal] = [some .normal, none, none, none] ∧
      Point.held (((turning .active .normal).filter 1 .normal).1) = false ∧
      Point.held (((turning .normal .active).filter 1 .active).1) = true) ∧
    (∀ ty room n, n = 1 ∨ n = 255 → Brings (checkingIn ty room) 0 (replyLine 0) n ∧ OccupancyLaw (checkingIn ty room) ∧
      (checkingIn ty room).loop.stations[(0 : Addr)].type = ty ∧ (checkingIn ty room).loop.stations[(0 : Addr)].room = room ∧
      Roomy (checkingIn ty room)) ∧
    (alone.findToken 0x108 = some 8 ∧ alone.entryOf 8 = some (4, { entry 8 0 .running 0 false with escorted := 1 })) ∧
    (alone.findToken 0x109 = some 9 ∧ alone.entryOf 9 = some (5, { entry 9 0 .off 0 false with link := some 4 })) ∧
    (alone.findToken 0x107 = some 7 ∧ (alone.entryOf 7).any (fun x => decide (x.2.room ≠ 0)) = true) ∧
    (alone.findToken 0x105 = some 5 ∧ alone.entryOf 5 = none) ∧ alone.findToken 0x10A = none := by
  refine ⟨fun s hs old new => ⟨?_, ?_⟩, by decide +kernel, fun ty room n hn => ⟨?_, ?_, ?_, ?_, ?_⟩, by decide +kernel, by decide +kernel,
    by decide +kernel, by decide +kernel, by decide +kernel⟩
  · rcases hs with rfl | rfl <;> exact hearing_replies (by decide) ⟨rfl, rfl⟩ rfl rfl
  · rw [show (turn s .callPoint old new).loop.stations[(0 : Addr)] = _ from hearing_station ..]; rfl
  · exact hearing_brings (by decide) ⟨rfl, rfl⟩ rfl rfl (by omega) (by omega) rfl rfl rfl rfl
  · exact occupancy_of (s := alone) (by decide +kernel) (by decide +kernel) (by decide +kernel) (by decide +kernel)
  · rw [show (checkingIn ty room).loop.stations[(0 : Addr)] = _ from hearing_station ..]; rfl
  · rw [show (checkingIn ty room).loop.stations[(0 : Addr)] = _ from hearing_station ..]; rfl
  · exact (by unfold Roomy; decide +kernel : Roomy alone)

theorem witness_PersistenceFiltersPoints :
    (let s := zoneTurns (zone .normal) .detectorIf [.normal, .active] [.active, .active]
     Replies s 0 (replyLine 0) ∧ s.loop.stations[(0 : Addr)].type = .detectorIf ∧ StationType.detectorIf ≠ .unassigned ∧
       StationType.detectorIf ≠ .bankMonitor ∧ [PointState.active, .active].length = StationType.detectorIf.pointCount ∧
       s.loop.stations[(0 : Addr)].points[1]? = some (turning .active .active)) ∧
    (let p : Point := ⟨some .normal, some .active, 1, false⟩
     (p.candidate = some .active ∧ p.candidate ≠ some .normal) ∧ (p.filter 4 .active).1.count < 4 ∧
       2 ≤ (p.filter 2 .active).1.count) ∧
    (turning .normal .normal).accepted = some .normal ∧ (turning .normal .normal).candidate = some .normal :=
  ⟨⟨hearing_replies (by decide) ⟨rfl, rfl⟩ rfl rfl, by decide +kernel⟩, by decide, rfl, rfl⟩

/-! ### The Link Engines -/

theorem witness_ReceiverTakesWhatTheTransmitterSends :
    SyncPair.default.valid = true ∧ ((0x01 : Octet) &&& 0xE0) = 0 ∧ (List.replicate 120 (0x00 : Octet)).length ≤ 120 := by
  decide +kernel

/-- `sample` with a full request queue. -/
def fullQueue : State := { sample with p1 := { sample.p1 with requests := List.replicate 8 (request [0x21]) } }

/-- A receiver that is within a frame goes on from there, and an OFF one takes nothing. -/
theorem witness_SupervisorFrameEndsByItsOutcome :
    Runs sample ∧ Runs fullQueue ∧ sample.p1.rx = .on (.hunt []) ∧
    (let c : RxConfig := ⟨sample.p1.rxPair, fun x => x = sample.sup.unitAddress || x = 255#8⟩
     receive c (.hunt []) (hostLine 1) = .inr (.accepted ⟨1, 1, 9, [0x21]⟩) ∧
     receive c (.hunt []) (hostLine 255) = .inr (.accepted ⟨255, 1, 9, [0x21]⟩) ∧
     receive c (.hunt []) (hostLine 2) = .inr .discarded ∧ receive c (.hunt []) brokenLine = .inr .dropped ∧
     ∃ q, receive c (.hunt []) ((hostLine 1).take 60) = .inl (.frame q) ∧
       receive c (.frame q) ((hostLine 1).drop 60) = .inr (.accepted ⟨1, 1, 9, [0x21]⟩)) ∧
    ¬fullQueue.p1.requests.length < 8 ∧ ({ sample.p1 with rx := .off } : PortOne).rx = .off ∧
    ¬Runs { sample with lines := { sample.lines with resetHigh := false } } :=
  ⟨sample_runs, sample_runs, rfl, ⟨by decide +kernel, by decide +kernel, by decide +kernel, by decide +kernel, _, rfl, by decide +kernel⟩,
    by decide +kernel, rfl, by simp [Runs]⟩

/-- `sample` with an answer being sent. -/
def sendingAnswer (a : AfterSent) : State :=
  { sample with p1 := { sample.p1 with tx := .sending, sending := some ⟨.default, 1, 1, false, .answer ⟨7, 0x90, .ok, .nothing⟩ a⟩ } }

/-- Port 1 with so many entries waiting, one of them the SITE notice of `note`, and so many marks. -/
def portWith (note : Notice) (entries marks : Nat) : PortOne :=
  { sample.p1 with
    queue := .notice note :: List.replicate (entries - 1) (.answer ⟨7, 0x21, .ok, .nothing⟩ .nothing)
    marks := (List.range marks).map fun n => .bearer (n + 1) }

/-- R167, R174: the freed entries take the first marks; the notice of the site gives its state, override and whether the clock is SET. -/
theorem test_marks_served :
    let s : State := { sample with p1 := portWith (sample.buildNotice .site) 14 3 }
    let t := after (.frameTransmit .supervisor) s
    t.p1.queue.length = 15 ∧ t.p1.marks = [.bearer 3] ∧
      (s.buildNotice .site).fields = [.siteState .closing, .siteOverride .noOverride, .siteClockSet true] := by decide +kernel

/-- The head of 14 entries is taken with three marks set, and of 16 with none free. A notice is queued where one of its object waits, where
its mark is set, where 14 and 15 entries wait, and on a port held OFF. -/
theorem witness_FramesBeginAndEnd :
    (∀ n, n = 1 ∨ n = 14 ∨ n = 16 →
      let s : State := { sample with p1 := portWith (sample.buildNotice .site) n 3 }
      Runs s ∧ s.p1.heldOff = false ∧ s.p1.tx = .idle ∧ s.sup.restartDue = false ∧ s.p1.txMode = .direct ∧ s.p1.queue ≠ []) ∧
    (let note := sample.buildNotice (.bearer 5)
     (∀ n, n = 14 ∨ n = 15 → (portWith (sample.buildNotice .site) n 3).heldOff = false ∧
       (∀ e ∈ (portWith (sample.buildNotice .site) n 3).queue, e.isNoticeOf note.object = false) ∧
       note.object ∉ (portWith (sample.buildNotice .site) n 3).marks ∧ note.object ∈ (portWith (sample.buildNotice .site) n 5).marks ∧
       ¬∀ e ∈ (portWith note n 3).queue, e.isNoticeOf note.object = false) ∧
     ({ sample.p1 with heldOff := true } : PortOne).heldOff = true) ∧
    recordOf sample (.forRoom .heldOpen 2) = some (rec (.forRoom .heldOpen 2) .active) ∧ recordOf sample (.bare .mainsFail) = none ∧
    (Runs sample ∧ sample.p1.heldOff = false ∧ sample.p1.tx = .idle ∧ sample.sup.restartDue = false ∧ sample.p1.txMode = .direct ∧
      sample.p1.queue.length = 2) ∧
    ((polled 0 .ready).p2.heldOff = false ∧ (polled 0 .ready).loop.current = some ⟨some 0, .ready, sample.pollContent 0⟩) ∧
    (∀ a ∈ [AfterSent.nothing, .unitAddress 2, .restart, .linkSettings ⟨0x4B, 0xB4⟩ .shared],
      let p := (sendingAnswer a).p1
      p.sending = some ⟨.default, 1, 1, false, .answer ⟨7, 0x90, .ok, .nothing⟩ a⟩ ∧ p.tx = .sending ∧ p.dataLow = false) ∧
    (polled 0 .sending).loop.current = some ⟨some 0, .sending, sample.pollContent 0⟩ ∧
    (after (.frameTransmit .fieldLoop) (after .broadcastPoll sample)).loop.current =
      some ⟨none, .sending, .broadcast ⟨0x25, 0x06, 0x10⟩ ⟨0x12, 0, 0⟩ 2⟩ ∧
    (sample.p1.dataLow = false ∧ sample.p2.dataLow = false ∧ sample.p2.tx = .idle) ∧
    (let s := after (.frameTransmit .fieldLoop) (after .broadcastPoll sample)
     s.p2.dataLow = false ∧ s.p2.tx = .sending ∧ s.loop.current.isSome = true) ∧
    (after (.frameTransmit .supervisor) sample).p1.sending.map (fun fr => fr.entry.isAnswer) = some false :=
  ⟨fun n h => by rcases h with rfl | rfl | rfl <;> exact ⟨sample_runs, rfl, rfl, rfl, rfl, by simp [portWith]⟩,
    ⟨fun n h => by rcases h with rfl | rfl <;> decide +kernel, rfl⟩, by decide +kernel, by decide +kernel,
    ⟨sample_runs, by decide +kernel⟩, ⟨rfl, rfl⟩, fun _ _ => ⟨rfl, rfl, rfl⟩, rfl, by decide +kernel, by decide +kernel, by decide +kernel,
    by decide +kernel⟩

/-- `testing` for a LINK TEST addressed to every unit. -/
def testingForAll : State := { sample with sup := { sample.sup with linkTest := some ⟨255, 7, [0x92]⟩ } }

theorem witness_LinkSettingsAndLinkTest :
    Serving 0x90 (fun _ => SyncPair.valid ⟨0x4B, 0xB4⟩ = true ∧ SyncPair.valid ⟨0x00, 0x00⟩ = false ∧
      115200 ∈ [9600, 19200, 38400, 57600, 115200] ∧ 0 ∉ [9600, 19200, 38400, 57600, 115200]) ∧
    (let s : State := { sample with p2 := { sample.p2 with newSettings := true } }
     Runs s ∧ s.p2.newSettings = true ∧ s.loop.current = none) ∧
    ServingBare 0x92 (fun _ => True) ∧
    Waits (with_ [0x92, 0x01] sample) (request [0x92, 0x01]) [] 0x92 ∧
    (∀ s f, s = testing ∧ f = request [0x92] ∨ s = testingForAll ∧ f = ⟨255, 7, [0x92]⟩ →
      Runs s ∧ s.sup.linkTest = some f ∧ s.loop.current = none ∧ s.p2.newSettings = false) ∧
    ((request [0x92]).address ≠ 255 ∧ SyncPair.default.valid = true ∧ 2 ≤ 6 ∧ ¬7 ≤ 6) :=
  ⟨serving (by decide +kernel), ⟨sample_runs, rfl, rfl⟩, servingBare trivial, waits_asked [0x01] sample_runs rfl rfl rfl rfl,
    fun s f h => by rcases h with ⟨rfl, rfl⟩ | ⟨rfl, rfl⟩ <;> exact ⟨sample_runs, rfl, rfl, rfl⟩, by decide +kernel⟩

/-! ### The Supervisor Request Handler -/

theorem witness_ProfileLoadStoresOrRefuses :
    (∀ (a : ProfileArgs) (p : Profile), a.profile? = some p ↔ ProfileInRange a ∧ CarriesProfile a p) ∧
    Serving 0xA3 (fun s =>
      (s.zones[(2 : Room)].state ≠ .normal ∧ s.zones[(2 : Room)].state ≠ .disabled) ∧ s.ctx[(0 : Room)] ≠ .empty ∧
      (s.zones[(11 : Room)].state = .disabled ∧ s.ctx[(11 : Room)] = .empty ∧ (profileOf 12 8).room = num (11 : Room)) ∧
      (profileOf 12 33).profile? = none ∧ ({ profileOf 12 8 with knock := none } : ProfileArgs).profile? = none ∧ ((profileOf 12 8).profile?).isSome = true ∧ s.headCount 11 ≤ 8) ∧
    (WaitsWith (asked 0xA3 alone) (request [0xA3, 0]) [] 0xA3 ∧ alone.zones[(0 : Room)].state = .normal ∧ alone.ctx[(0 : Room)] = .empty ∧
      ((profileOf 1 1).profile?).map (·.capacity) = some 1 ∧ 1 < alone.headCount 0) :=
  ⟨Laws.profile?_iff, serving (by decide +kernel), asked_waits sample_runs rfl rfl rfl rfl, by decide +kernel⟩

theorem witness_MalformedRequestsAreFormat :
    ((bare 0xFF sample).p1.requests = [request [0xFF]] ∧ (bare 0xFF sample).canTake (request [0xFF]) = true ∧
      Settled (bare 0xFF sample) ∧ (0xFF : Octet).toNat ∉ requestCodes ∧ (0x00 : Octet).toNat ∉ requestCodes) ∧
    ((with_ [] sample).canTake (request []) = true ∧ (request []).address ≠ 255) ∧
    Waits (asked 0x11 sample) (request [0x11, 0]) [] 0x11 ∧ Waits (bare 0xA4 sample) (request [0xA4]) [] 0xA4 ∧
    Waits (asked 0x72 sample) (request [0x72, 0]) [] 0x72 ∧ fieldRequest (.amend none) = some (0x11, false) ∧
    fieldRequest (.profileRead (some 1)) = some (0xA4, true) ∧ bareRequest .bankRead = some 0x72 ∧
    Waits (asked 0x10 sample) (request [0x10, 0]) [] 0x10 ∧ (request [0x10, 0]).payload.length ≠ 20 :=
  ⟨⟨rfl, by decide +kernel, rfl, by decide, by decide⟩, by decide +kernel, (sample_asked _).toWaits, sample_waits _,
    (sample_asked _).toWaits, rfl, rfl, rfl, (sample_asked _).toWaits, by decide⟩

/-- A request with these octets addressed to every unit, alone in the queue. -/
def toAll (payload : List Octet) (s : State) : State := { s with p1 := { s.p1 with requests := [⟨255, 7, payload⟩] } }

/-- `sample` whose transmit queue is full, one entry being the answer to an ADDRESS SET. -/
def crowded : State :=
  { sample with p1 := { sample.p1 with queue := List.replicate 16 (.answer ⟨7, 0xA2, .ok, .nothing⟩ (.unitAddress 9)) } }

/-- One code with fields and ENROL, the three bare reads, and the requests for all, also with a full transmit queue. -/
theorem witness_BroadcastRequestsAreNotAnswered :
    (Waits (asked 0x17 sample) (request [0x17, 0]) [] 0x17 ∧ fieldRequest (.retentionSet (some 0)) = some (0x17, true) ∧
      Waits (enrolling enrolArgs sample) (request (EnrolArgs.encode enrolArgs)) [] 0x10 ∧
      Waits (bare 0x1E sample) (request [0x1E]) [] 0x1E ∧ Waits (bare 0x21 sample) (request [0x21]) [] 0x21 ∧
      Waits (bare 0x72 sample) (request [0x72]) [] 0x72) ∧
    (∀ s, s = sample ∨ s = crowded → ∀ payload ∈ [[0xA0], [0xFF], [], [0x17, 90], [0xA2, 254], [0x90, 1, 0x4B, 0xB4, 1]],
      (toAll payload s).p1.requests = [⟨255, 7, payload⟩] ∧ (toAll payload s).canTake ⟨255, 7, payload⟩ = true ∧
        Settled (toAll payload s)) ∧
    ((0xFF : Octet).toNat ∉ requestCodes ∧ SyncPair.valid ⟨0x4B, 0xB4⟩ = true) ∧
    (let s : State := { crowded with p1 := { crowded.p1 with requests := [request [0x17, 90]] } }
     s.p1.requests = [request [0x17, 90]] ∧ (request [0x17, 90]).address ≠ 255 ∧ 16 ≤ s.p1.queue.length) := by
  refine ⟨⟨(sample_asked _).toWaits, rfl, enrolling_waits _ _ sample_runs rfl rfl rfl rfl, sample_waits _, sample_waits _, sample_waits _⟩,
    fun s h payload _ => ⟨rfl, ?_, ?_⟩, ⟨by decide, by decide +kernel⟩, rfl, by decide, by decide⟩
  · rcases h with rfl | rfl <;> rfl
  · rcases h with rfl | rfl <;> rfl

theorem witness_SuppliesAndLinesAct :
    (sample.lines.mainOn = true ∧ sample.lines.resetHigh = true) ∧ ServingBare 0xA1 (fun _ => True) ∧
    Waits (with_ [0xA1, 0x01] sample) (request [0xA1, 0x01]) [] 0xA1 ∧
    (let s : State := { sample with lines := { sample.lines with mainOn := false, resetHigh := false } }
     s.lines.mainOn = false ∧ s.lines.resetHigh = false) ∧
    Runs sample ∧ ¬Runs { sample with lines := { sample.lines with resetHigh := false } } ∧
    sample.lines.mainsOk ≠ false ∧ sample.lines.mainsOk = true :=
  ⟨⟨rfl, rfl⟩, servingBare trivial, waits_asked [0x01] sample_runs rfl rfl rfl rfl, ⟨rfl, rfl⟩, sample_runs, by simp [Runs], by decide, rfl⟩

/-- `sample`, its retained memory checked, with a RESTART addressed to every unit. -/
def restartForAll : State :=
  { sample with
    sup := { sample.sup with checkValue := sample.retained.check }
    p1 := { sample.p1 with requests := [⟨255, 7, [0xA1]⟩] } }

theorem witness_WarmStartKeepsRetainedMemory :
    (unpowered.retained.check = unpowered.sup.checkValue ∧ unpowered.lines = ⟨false, true, false, true, false⟩) ∧
    (inReset.retained.check = inReset.sup.checkValue ∧ inReset.lines = ⟨true, false, false, true, false⟩) ∧
    (restarting.retained.check = restarting.sup.checkValue ∧ restarting.lines = ⟨true, true, false, true, false⟩ ∧
      restarting.sup.restartDue = true) ∧
    (restartForAll.retained.check = restartForAll.sup.checkValue ∧ restartForAll.lines = ⟨true, true, false, true, false⟩ ∧
      restartForAll.p1.requests = [⟨255, 7, [0xA1]⟩] ∧ restartForAll.p1.heldOff = false ∧
      restartForAll.sup.linkTest = none ∧ restartForAll.sup.restartDue = false) :=
  ⟨⟨rfl, rfl⟩, ⟨rfl, rfl⟩, ⟨rfl, rfl, rfl⟩, rfl, rfl, rfl, rfl, rfl, rfl⟩

/-! ### The loopback test passes on an unbroken loop: in pieces, since the kernel evaluates no line of a thousand bits at once -/

theorem receive_append (c : RxConfig) (a b : List Bool) :
    ∀ p q, receive c p a = .inl q → receive c p (a ++ b) = receive c q b := by
  induction a with
  | nil => intro p q h; cases h; rfl
  | cons x a ih =>
    intro p q h
    cases hp : p.step c x with
    | inl p' =>
      simp only [receive, hp] at h
      simp only [List.cons_append, receive, hp]
      exact ih _ _ h
    | inr e => simp [receive, hp] at h

theorem receive_piece (c : RxConfig) (q p : RxPhase) (l : List Bool) (n : Nat) (h : receive c p (l.take n) = .inl q) :
    receive c p l = receive c q (l.drop n) := by
  conv_lhs => rw [← List.take_append_drop n l]
  exact receive_append c _ _ p q h

/-- The check register over octets, from a value. -/
def crcFrom (r : BitVec 16) (os : List Octet) : BitVec 16 := (octetBits os).foldl crcStep r

theorem crc_piece (r : BitVec 16) (os : List Octet) (n : Nat) : crcFrom r os = crcFrom (crcFrom r (os.take n)) (os.drop n) := by
  rw [crcFrom, crcFrom, crcFrom, ← List.foldl_append, octetBits, octetBits, octetBits, ← List.flatMap_append,
    List.take_append_drop]

/-- The check octets of the test frame. -/
def testCheck : Port → List Octet
  | .supervisor => [157, 75]
  | .fieldLoop => [161, 60]

theorem crc_test (p : Port) : crcOctets (crc (testFrame p).covered) = testCheck p := by
  have step (r r' : BitVec 16) (os : List Octet) (h : crcFrom r (os.take 31) = r') : crcFrom r os = crcFrom r' (os.drop 31) := by
    rw [crc_piece r os 31, h]
  show crcOctets (crcFrom 0xFFFF (testFrame p).covered) = testCheck p
  cases p
  · rw [step _ 35460 _ (by decide +kernel), step _ 11885 _ (by decide +kernel), step _ 54047 _ (by decide +kernel)]
    decide +kernel
  · rw [step _ 18606 _ (by decide +kernel), step _ 6132 _ (by decide +kernel), step _ 42588 _ (by decide +kernel)]
    decide +kernel

def testOctets (p : Port) : List Octet := (testFrame p).covered ++ testCheck p

def knownLine (p : Port) : List Bool := SyncPair.default.idle 2 ++ stuff 0 (octetBits (testOctets p)) ++ SyncPair.default.idle 4

theorem testLine_known (p : Port) : testLine .default p = knownLine p := by
  simp only [testLine, LinkFrame.line, LinkFrame.octets, crc_test, knownLine, testOctets]

/-- A receiver that accepts every address. -/
def anyone : RxConfig := ⟨.default, fun _ => true⟩

/-- A frame in progress: its run of zeros, the bits of the octet in progress, and the first octets of the test frame. -/
def part (p : Port) (run : Nat) (bits : List Bool) (n : Nat) : RxPhase := .frame ⟨run, bits, (testOctets p).take n, false⟩

theorem ended_test (p : Port) (run : Nat) : RxFrame.ended ⟨run, [], testOctets p, false⟩ = .accepted (testFrame p) := by
  have hc : (testOctets p).take ((((testOctets p)[3]?).getD 0).toNat + 4) = (testFrame p).covered := by cases p <;> decide +kernel
  have hd : (testOctets p).drop ((((testOctets p)[3]?).getD 0).toNat + 4) = testCheck p := by cases p <;> decide +kernel
  simp only [RxFrame.ended, RxFrame.payloadLength, hc, hd, crc_test]
  cases p <;> decide +kernel

/-- The last bit of the check. -/
theorem last_bit (p : Port) (run : Nat) (bits : List Bool) (hr : run < 6) (hb : bits.length = 7)
    (ho : (testOctets p).take 125 ++ [octetOf (bits ++ [false])] = testOctets p) :
    RxPhase.step anyone (part p run bits 125) false = .inr (.accepted (testFrame p)) := by
  have hl : (testOctets p).length = 126 := by cases p <;> decide +kernel
  have hp : (testOctets p)[3] = 120 :=
    (List.getElem?_eq_some_iff.mp (show (testOctets p)[3]? = some 120 by cases p <;> decide +kernel)).2
  have h1 : ¬ 11 ≤ run := by omega
  have h2 : ¬ 7 ≤ run := by omega
  have h3 : ¬ run = 6 := by omega
  simp [RxPhase.step, part, RxFrame.step, h1, h2, RxFrame.dataBit, hb, RxFrame.octetTaken, ho, hl, RxFrame.complete,
    RxFrame.payloadLength, hp, h3, Config.maxPayload, ended_test]

theorem loopback_passes (p : Port) : loopbackPasses .default p (testLine .default p) = true := by
  have h : receive anyone (.hunt []) (knownLine p) = .inr (.accepted (testFrame p)) := by
    rw [receive_piece _ (part p 6 [false, false, false, false, false] 18) _ _ 200 (by cases p <;> decide +kernel),
      receive_piece _ (part p 6 [false, false, false, false] 40) _ _ 200 (by cases p <;> decide +kernel),
      receive_piece _ (part p 6 [false, false, false] 62) _ _ 200 (by cases p <;> decide +kernel),
      receive_piece _ (part p 0 [true, true, true, false, true] 86) _ _ 200 (by cases p <;> decide +kernel),
      receive_piece _ (part p 6 [false, false, false, false] 111) _ _ 200 (by cases p <;> decide +kernel)]
    cases p
    · rw [receive_piece _ (part .supervisor 0 [true, true, false, true, false, false, true] 125) _ _ 115 (by decide +kernel),
        show List.drop 115 _ = false :: (knownLine .supervisor).drop 1116 by decide +kernel]
      simp only [receive, last_bit .supervisor 0 [true, true, false, true, false, false, true] (by decide) rfl (by decide +kernel)]
    · rw [receive_piece _ (part .fieldLoop 1 [false, false, true, true, true, true, false] 125) _ _ 115 (by decide +kernel),
        show List.drop 115 _ = false :: (knownLine .fieldLoop).drop 1116 by decide +kernel]
      simp only [receive, last_bit .fieldLoop 1 [false, false, true, true, true, true, false] (by decide) rfl (by decide +kernel)]
  have ht : (testLine .default p).take (testLine .default p).length = knownLine p := by rw [List.take_length, testLine_known]
  simp only [loopbackPasses, ht]
  simpa [anyone] using h

/-! ### Whole runs and laws -/

theorem witness_ColdStartGivesTheResetState :
    let s : State := { sample with lines := ⟨false, true, true, true, false⟩ }
    s.lines = ⟨false, true, true, true, false⟩ ∧
    loopbackPasses s.p1.pair .supervisor (testLine .default .supervisor) = true ∧
    loopbackPasses s.p2.pair .fieldLoop (testLine .default .fieldLoop) = true :=
  ⟨rfl, loopback_passes .supervisor, loopback_passes .fieldLoop⟩

/-- `sample` with a command in front of its queue and one behind it; zone 10, with release kind Automatic, waits for the
manifold. -/
def stepping : State :=
  { sample with
    pending := [.dischargeTimerExpiry 4, .poll]
    zones := zones.set 9 { zone .waitBank with kind := .automatic, accumulated := 30 } }

theorem witness_StepTakesTheFrontCommand :
    stepping.pending = .dischargeTimerExpiry 4 :: [.poll] ∧ sample.pending = [] ∧ (∃ t, step stepping = .next t) ∧
      ∃ t, exec (.dischargeTimerExpiry 4) stepping = .next t :=
  ⟨rfl, rfl, ⟨_, rfl⟩, _, rfl⟩

/-- The discharge timer's expiry changes zones 5 and 10, cylinder 7 and nothing of zone 1; a port held OFF, and no LINK TEST. -/
theorem witness_EveryChangeIsAnnounced :
    let c : Instr := .dischargeTimerExpiry 4
    let t := after c sample
    (Settled sample ∧ startsAgain c = false ∧ exec c sample = .next t ∧ sample.p1.heldOff = false ∧ c ≠ .frameTransmit .supervisor) ∧
    (Changed sample t (.zone 4) ∧ Changed sample t (.zone 9) ∧ Changed sample t (.cylinder 6)) ∧
    (silentUnlessChanged c (.zone 0) = true ∧ ¬Changed sample t (.zone 0)) ∧
    (let off : State := { sample with p1 := { sample.p1 with heldOff := true } }
     Settled off ∧ exec c off = .next (after c off) ∧ off.p1.heldOff = true ∧ off.sup.linkTest = none) := by
  refine ⟨⟨rfl, rfl, rfl, rfl, by simp⟩, ?_, ⟨rfl, ?_⟩, rfl, rfl, rfl, rfl⟩ <;>
    simp only [Changed, ne_eq, Prod.mk.injEq] <;> decide +kernel

/-- A record is made, one is evicted from a full table, and one is retired. -/
theorem witness_EveryAlarmChangeIsAnnounced :
    let made := Instr.mainsOkChange false
    let acked := Instr.alarmAck (some ⟨some .heldOpen, some 7, none, none, none⟩)
    (∀ s c, (s = sample ∨ s = fullTable) ∧ c = made ∨ s = asked 0x50 sample ∧ c = acked →
      Settled s ∧ AlarmLaw s ∧ startsAgain c = false ∧ s.p1.heldOff = false ∧ exec c s = .next (after c s)) ∧
    Changed sample (after made sample) (.alarm (.bare .mainsFail)) ∧
    Changed fullTable (after made fullTable) (.alarm (.forRoom .coverageShort 4)) ∧
    Changed (asked 0x50 sample) (after acked (asked 0x50 sample)) (.alarm (.forRoom .heldOpen 6)) := by
  refine ⟨fun s c h => ?_, ?_, ?_, ?_⟩
  · rcases h with ⟨rfl | rfl, rfl⟩ | ⟨rfl, rfl⟩ <;> exact ⟨rfl, ⟨by decide +kernel, by decide +kernel⟩, rfl, rfl, rfl⟩
  all_goals simp only [Changed]; decide +kernel

/-- Zone 10 is granted the manifold by that step. -/
theorem stepping_grants :
    stepping.zones[(9 : Room)].state ≠ .discharging ∧
    ∃ t, step stepping = .next t ∧ t.zones[(9 : Room)].state = .discharging ∧ t.zones[(9 : Room)].kind = .automatic ∧
      t.zones[(9 : Room)].authorise = false :=
  ⟨by decide +kernel, after (.dischargeTimerExpiry 4) { stepping with pending := [.poll] }, rfl, by decide +kernel⟩

theorem witness_EveryStepKeepsTheAlarmLaw : AlarmLaw stepping ∧ ∃ t, step stepping = .next t :=
  ⟨⟨by decide +kernel, by decide +kernel⟩, _, rfl⟩

theorem witness_EveryStepKeepsTheQueues : QueueLaw stepping ∧ ∃ t, step stepping = .next t :=
  ⟨⟨by decide +kernel, by decide +kernel, fun _ h => by cases h⟩, _, rfl⟩

theorem witness_EveryStepKeepsTheManifold : ManifoldLaw stepping ∧ ∃ t, step stepping = .next t :=
  ⟨by unfold ManifoldLaw; decide +kernel, _, rfl⟩

theorem witness_EveryStepEndsItsEvents : Settled stepping ∧ OutputsLaw stepping ∧ ∃ t, step stepping = .next t :=
  ⟨rfl, by unfold OutputsLaw; decide +kernel, _, rfl⟩

theorem witness_EveryStepKeepsTheTokenLaw : TokenLaw stepping.bt ∧ ∃ t, step stepping = .next t :=
  ⟨token_law_of (by decide +kernel) (by decide +kernel) (by decide +kernel), _, rfl⟩

/-- The table with every permission entry but 1 and 2 on the free list. -/
def chained : BearerTable := { table with freeList := List.range' 3 8189, freeCount := 8189 }

theorem chained_entry {e : Nat} (h : (chained.entries.get e).isSome = true) : e = 1 ∨ e = 2 := by
  simp only [chained, table, Table.get] at h
  by_cases h1 : 1 = e
  · exact .inl h1.symm
  · by_cases h2 : 2 = e
    · exact .inr h2.symm
    · simp [h1, h2] at h

theorem chained_free {e : Nat} (h : e ∈ chained.freeList) : 3 ≤ e ∧ e ≤ 8191 := by
  have := List.mem_range'_1.mp h
  omega

theorem chained_live {b : Nat} {r : Bearer} (h : chained.bearers.get b = some r) :
    (b = 5 ∧ chained.chainOf r = [1, 2]) ∨ (chained.chainOf r = [] ∧ r.chainHead = 0) :=
  (by decide +kernel : ∀ p ∈ table.bearers,
    (p.1 = 5 ∧ chained.chainOf p.2 = [1, 2]) ∨ (chained.chainOf p.2 = [] ∧ p.2.chainHead = 0)) _ (Table.mem_of_get h)

theorem witness_EveryStepKeepsTheChainLaw :
    ChainLaw ({ stepping with bt := chained } : State).bt ∧ ∃ t, step { stepping with bt := chained } = .next t := by
  refine ⟨⟨by simp [chained], List.nodup_range', fun e h => ?_, fun e h => ?_, fun e h1 h2 => ?_, fun b c r q e h1 h2 h3 h4 => ?_,
    fun b r h => ?_, fun b r h => ?_, fun e x h => ?_⟩, _, rfl⟩
  · have h3 := chained_free h
    refine ⟨by omega, h3.2, ?_⟩
    cases hg : chained.entries.get e with
    | none => rfl
    | some x => rcases chained_entry (by rw [hg]; rfl) with rfl | rfl <;> omega
  · rcases chained_entry h with rfl | rfl
    · exact ⟨by omega, by omega, 5, custodian, by decide +kernel, by decide +kernel⟩
    · exact ⟨by omega, by omega, 5, custodian, by decide +kernel, by decide +kernel⟩
  · by_cases h : 3 ≤ e
    · exact .inl (List.mem_range'_1.mpr ⟨h, by omega⟩)
    · have : e = 1 ∨ e = 2 := by omega
      rcases this with rfl | rfl <;> exact .inr (by decide +kernel)
  · rcases chained_live h1 with h5 | h5
    · rcases chained_live h2 with h6 | h6
      · rw [h5.1, h6.1]
      · rw [h6.1] at h4; cases h4
    · rw [h5.1] at h3; cases h3
  · exact (by decide +kernel : ∀ p ∈ table.bearers,
      (chained.chainOf p.2).Nodup ∧ chained.chain 17 p.2.chainHead = chained.chainOf p.2) _ (Table.mem_of_get h)
  · exact (by decide +kernel : ∀ p ∈ table.bearers, p.2.chainHead = 0 ∨ (chained.entries.get p.2.chainHead).isSome = true) _
      (Table.mem_of_get h)
  · exact (by decide +kernel : ∀ p ∈ table.entries, p.2.next = 0 ∨ (chained.entries.get p.2.next).isSome = true) _
      (Table.mem_of_get h)

theorem witness_EveryStepKeepsTheOccupancyLaw : OccupancyLaw stepping ∧ ∃ t, step stepping = .next t :=
  ⟨occupancy_of (by decide +kernel) (by decide +kernel) (by decide +kernel) (by decide +kernel), _, rfl⟩

theorem witness_EveryStepKeepsTheCapacityLaw : CapacityLaw stepping ∧ ∃ t, step stepping = .next t :=
  ⟨by unfold CapacityLaw; decide +kernel, _, rfl⟩

theorem stepping_waits : WaitLaw stepping := by unfold WaitLaw; decide +kernel

/-- `stepping_grants` shows the zone that enters DISCHARGING. -/
theorem witness_NoZoneDischargesBeforeItsDelay : DelayLaw stepping ∧ ∃ t, step stepping = .next t :=
  ⟨⟨stepping_waits, by decide +kernel⟩, _, rfl⟩

/-- `stepping_grants` shows the zone that enters DISCHARGING. -/
theorem witness_NoAutomaticDischargeWhileOccupied : HoldLaw stepping ∧ ∃ t, step stepping = .next t :=
  ⟨⟨stepping_waits, fun _ _ => by decide +kernel⟩, _, rfl⟩

theorem witness_EveryStepKeepsTheReservationLaw : ReservationLaw stepping ∧ ∃ t, step stepping = .next t :=
  ⟨⟨stepping_waits, by decide +kernel⟩, _, rfl⟩

theorem witness_EveryStepKeepsTheAchievedFactor : AchievedLaw stepping ∧ ∃ t, step stepping = .next t :=
  ⟨by unfold AchievedLaw; decide +kernel, _, rfl⟩

end Sys2Proof.Tests
end

section
/-! PROOFS. The reads of single records: CLOCK READ, DOOR READ, ALARM READ, CYLINDER READ and BANK READ (R29, R89, R101, R135). Each body
returns the state it was given; what a request with such a body brings about is said once, and each read follows from it. -/
namespace Sys2Proof.Proofs.RecordReads

open Sys2Proof Sys2Proof.Machine Sys2Proof.Safety Sys2Proof.Laws

variable {s : State} {f : RequestFrame} {rest : List RequestFrame} {code : Octet} {n : Nat}

/-! ### Requests that change nothing -/

/-- A request of its code alone whose body changes nothing is answered and nothing else (R170). -/
theorem serveBare_unchanged (w : Waits s f rest code) (hn : code = BitVec.ofNat 8 n) (hl : f.payload.length = 1)
    (body : RequestFrame → State → State × Reply) (r : Reply) (hb : body f (taken s rest) = (taken s rest, r)) :
    serveBare n body s = .next (answered (taken s rest) f code r.code r.contents r.after) :=
  serve_unchanged w hn _ r (by rw [if_pos hl, hb])

/-- A request with fields whose body changes nothing is answered and nothing else (R170). -/
theorem serveFields_unchanged {α : Type} (w : WaitsWith s f rest code) (hn : code = BitVec.ofNat 8 n) (a : α)
    (body : α → State → State × Reply) (r : Reply) (hb : body a (taken s rest) = (taken s rest, r)) :
    serveFields n (some a) body s = .next (answered (taken s rest) f code r.code r.contents r.after) :=
  serve_unchanged w.toWaits hn _ r ((if_pos w.fields).trans hb)

/-- A request with fields whose body refuses is answered with the code and changes nothing else (R170). -/
theorem serveFields_refused {α : Type} (w : WaitsWith s f rest code) (hn : code = BitVec.ofNat 8 n) (a : α)
    (body : α → State → State × Reply) (c : AnswerCode) (hb : body a (taken s rest) = refuse c (taken s rest)) :
    serveFields n (some a) body s = .next (refused s f rest code c) :=
  serveFields_unchanged w hn a body ⟨c, .nothing, .nothing⟩ hb

/-! ### What each body answers -/

theorem doorReadBody_num (d : Room) (t : State) :
    doorReadBody (num d) t = (t, .ok (.door t.doors[d] (t.doorUnitNumber d) t.ctx[d].view)) :=
  withRoom_num d t _

theorem doorReadBody_outOfRange (h : n = 0 ∨ 16 < n) (t : State) : doorReadBody n t = refuse .format t :=
  withRoom_none h t _

theorem alarmReadBody_inRange (h : 1 ≤ n ∧ n ≤ 64) (t : State) :
    alarmReadBody n t = (t, .ok (.alarms t.alarms.records.length t.alarms.overflow t.alarms.general t.alarms.fault
      ((t.alarms.records.drop (n - 1)).take 6))) :=
  if_pos h

theorem alarmReadBody_outOfRange (h : ¬(1 ≤ n ∧ n ≤ 64)) (t : State) : alarmReadBody n t = refuse .format t :=
  if_neg h

/-- A cylinder that is not RESERVED is answered without a zone state (R135). -/
theorem cylinderReadBody_unreserved {t : State} {p : Pos} (h : t.bank.cylinders[p].state ≠ .reserved) :
    cylinderReadBody (num p) t = (t, .ok (.cylinder t.bank.cylinders[p] none t.bank.flags[p])) := by
  unfold cylinderReadBody
  rw [pos?_num]
  simp only [if_neg h]

/-- A RESERVED cylinder is answered with the state of the zone it is reserved for (R135). -/
theorem cylinderReadBody_reserved {t : State} {p : Pos} {z : Room} (h : t.bank.cylinders[p].state = .reserved)
    (hz : t.bank.cylinders[p].zone = some z) :
    cylinderReadBody (num p) t =
      (t, .ok (.cylinder t.bank.cylinders[p] (some t.zones[z].state) t.bank.flags[p])) := by
  unfold cylinderReadBody
  rw [pos?_num]
  simp only [if_pos h, hz, Option.map_some]

theorem cylinderReadBody_outOfRange (h : n = 0 ∨ 48 < n) (t : State) : cylinderReadBody n t = refuse .format t := by
  unfold cylinderReadBody
  rw [pos?_none h]

/-! ### The reads -/

/-- CLOCK READ (R29). -/
theorem exec_clockRead (w : Waits s f rest 0x21) (hl : f.payload.length = 1) :
    exec .clockRead s = .next (
      answered (taken s rest) f 0x21 .ok
        (.clockRead s.clk.date s.clk.time s.clk.weekday s.clk.isSet s.clk.holidayToday s.clk.siteState s.clk.override
          s.clk.siteSchedule s.clk.grace (s.clk.graceTimer.getD 0)) .nothing) :=
  serveBare_unchanged w rfl hl clockReadBody _ rfl

/-- DOOR READ of a door (R89). -/
theorem exec_doorRead_num (w : WaitsWith s f rest 0x43) (d : Room) :
    exec (.doorRead (some (num d))) s =
      .next (answered (taken s rest) f 0x43 .ok (.door s.doors[d] (s.doorUnitNumber d) s.ctx[d].view) .nothing) :=
  serveFields_unchanged w rfl (num d) doorReadBody _ (doorReadBody_num d _)

/-- DOOR READ of a number that is no door's (R89). -/
theorem exec_doorRead_outOfRange (w : WaitsWith s f rest 0x43) (h : n = 0 ∨ 16 < n) :
    exec (.doorRead (some n)) s = .next (refused s f rest 0x43 .format) :=
  serveFields_refused w rfl n doorReadBody .format (doorReadBody_outOfRange h _)

/-- ALARM READ (R101). -/
theorem exec_alarmRead (w : WaitsWith s f rest 0x52) (start : Nat) :
    exec (.alarmRead (some start)) s = .next (
      if 1 ≤ start ∧ start ≤ 64 then
        answered (taken s rest) f 0x52 .ok
          (.alarms s.alarms.records.length s.alarms.overflow s.alarms.general s.alarms.fault
            ((s.alarms.records.drop (start - 1)).take 6)) .nothing
      else refused s f rest 0x52 .format) := by
  split
  · next h => exact serveFields_unchanged w rfl start alarmReadBody _ (alarmReadBody_inRange h _)
  · next h => exact serveFields_refused w rfl start alarmReadBody .format (alarmReadBody_outOfRange h _)

/-- CYLINDER READ of a cylinder that is not RESERVED (R135). -/
theorem exec_cylinderRead_unreserved (w : WaitsWith s f rest 0x71) (p : Pos) (h : s.bank.cylinders[p].state ≠ .reserved) :
    exec (.cylinderRead (some (num p))) s =
      .next (answered (taken s rest) f 0x71 .ok (.cylinder s.bank.cylinders[p] none s.bank.flags[p]) .nothing) :=
  serveFields_unchanged w rfl (num p) cylinderReadBody _ (cylinderReadBody_unreserved (t := taken s rest) h)

/-- CYLINDER READ of a RESERVED cylinder (R135). -/
theorem exec_cylinderRead_reserved (w : WaitsWith s f rest 0x71) (p : Pos) (z : Room)
    (h : s.bank.cylinders[p].state = .reserved) (hz : s.bank.cylinders[p].zone = some z) :
    exec (.cylinderRead (some (num p))) s =
      .next (answered (taken s rest) f 0x71 .ok
        (.cylinder s.bank.cylinders[p] (some s.zones[z].state) s.bank.flags[p]) .nothing) :=
  serveFields_unchanged w rfl (num p) cylinderReadBody _ (cylinderReadBody_reserved (t := taken s rest) h hz)

/-- CYLINDER READ of a number that is no position (R135). -/
theorem exec_cylinderRead_outOfRange (w : WaitsWith s f rest 0x71) (h : n = 0 ∨ 48 < n) :
    exec (.cylinderRead (some n)) s = .next (refused s f rest 0x71 .format) :=
  serveFields_refused w rfl n cylinderReadBody .format (cylinderReadBody_outOfRange h _)

/-- BANK READ (R135). -/
theorem exec_bankRead (w : Waits s f rest 0x72) (hl : f.payload.length = 1) :
    exec .bankRead s =
      .next (answered (taken s rest) f 0x72 .ok
        (.bank s.bank.manifold s.bank.waitQueue
          (s.bank.reservations.map fun z => (z, (s.bank.reservedPositions z).length, s.bank.coverage[z].grade))
          ([.ready, .reserved, .spent, .isolated, .fault, .absent].map fun st => (st, s.bank.stateCount st))
          (s.bank.chargeSum s.bank.readyPositions)) .nothing) :=
  serveBare_unchanged w rfl hl bankReadBody _ rfl

/-- Settles O1: each read is served by a body that returns the state it was given, or refuses. -/
theorem recordReadsAnswerAndChangeNothing : Obligations.RecordReadsAnswerAndChangeNothing :=
  ⟨fun _ _ _ w hl => exec_clockRead w hl,
    fun _ _ _ w => ⟨exec_doorRead_num w, fun _ h => exec_doorRead_outOfRange w h⟩,
    fun _ _ _ start w => exec_alarmRead w start,
    fun _ _ _ =>
      ⟨fun w => ⟨exec_cylinderRead_unreserved w, exec_cylinderRead_reserved w, fun _ h => exec_cylinderRead_outOfRange w h⟩,
        fun w hl => exec_bankRead w hl⟩⟩

end Sys2Proof.Proofs.RecordReads
end

section
/-! PROOFS. Persistence (R155). What the owner of a station's points makes of a report's changes leaves every point as it is: of the Loop
Master's record it touches the one-shot commands alone. So a report with points alone leaves at its station what `filterPoints` makes of
the points, and the rest is said of one point, by the two branches of `Point.filter`. -/
namespace Sys2Proof.Proofs.Persistence

open Sys2Proof Sys2Proof.Machine Sys2Proof.Safety

/-! ### What the owners of points leave alone -/

/-- The Loop Master but for the one-shot commands that wait at its stations. -/
def withoutCommands (l : LoopMaster) : LoopMaster :=
  { l with stations := l.stations.map fun st => { st with slots := .clear } }

theorem station_withoutCommands (l : LoopMaster) (a : Addr) :
    (withoutCommands l).stations[a] = { l.stations[a] with slots := .clear } := by
  simp [withoutCommands]

theorem points_of_withoutCommands {l m : LoopMaster} (h : withoutCommands l = withoutCommands m) (a : Addr) :
    l.stations[a].points = m.stations[a].points := by
  calc l.stations[a].points
      _ = (withoutCommands l).stations[a].points := by rw [station_withoutCommands]
      _ = (withoutCommands m).stations[a].points := by rw [h]
      _ = m.stations[a].points := by rw [station_withoutCommands]

section Owners

variable (s : State) (a : Addr) (r z : Room)

theorem setSlots_withoutCommands (sl : Slots) :
    withoutCommands (s.setStation a { s.loop.stations[a] with slots := sl }).loop = withoutCommands s.loop := by
  simp only [State.setStation_loop, withoutCommands, Vector.map_set]
  congr 1
  ext i hi
  by_cases h : a.val = i
  · subst h
    simp
  · simp [h]

@[simp] theorem placeAt_withoutCommands (o : Option Addr) (f : Slots → Slots) :
    withoutCommands (s.placeAt o f).loop = withoutCommands s.loop := by
  unfold State.placeAt
  split
  · rfl
  · split
    · rfl
    · exact setSlots_withoutCommands ..

@[simp] theorem placeBolt_withoutCommands (c : BoltCommand) : withoutCommands (s.placeBolt r c).loop = withoutCommands s.loop :=
  placeAt_withoutCommands ..

@[simp] theorem dropCancel_withoutCommands : withoutCommands (s.dropCancel r).loop = withoutCommands s.loop :=
  placeAt_withoutCommands ..

@[simp] theorem placeFire_withoutCommands (ps : List Pos) : withoutCommands (s.placeFire z ps).loop = withoutCommands s.loop :=
  placeAt_withoutCommands ..

/-! A zone acts on its door's bolt and on its release unit. -/

@[simp] theorem cancelRelease_withoutCommands : withoutCommands (s.cancelRelease r).loop = withoutCommands s.loop := by
  unfold State.cancelRelease
  dsimp only
  split <;> simp

@[simp] theorem setCloseDemand_withoutCommands (demand : Bool) :
    withoutCommands (s.setCloseDemand r demand).loop = withoutCommands s.loop := by
  unfold State.setCloseDemand
  dsimp only
  split
  · rfl
  · split <;> simp

@[simp] theorem enterZone_withoutCommands (st : ZoneState) : withoutCommands (s.enterZone z st).loop = withoutCommands s.loop := by
  unfold State.enterZone
  dsimp only
  split <;> simp

@[simp] theorem actOnHolds_withoutCommands : withoutCommands (s.actOnHolds z).loop = withoutCommands s.loop := by
  unfold State.actOnHolds
  dsimp only
  split <;> simp

@[simp] theorem rederive_withoutCommands : withoutCommands (s.rederive z).loop = withoutCommands s.loop := by
  simp [State.rederive]

@[simp] theorem confirm_withoutCommands (k : SequenceKind) : withoutCommands (s.confirm z k).loop = withoutCommands s.loop := by
  simp [State.confirm]

@[simp] theorem testInputs_withoutCommands : withoutCommands (s.testInputs z).loop = withoutCommands s.loop := by
  unfold State.testInputs
  dsimp only
  split
  · split
    · simp
    · split <;> simp
  · rfl

@[simp] theorem grant_withoutCommands : withoutCommands (s.grant z).loop = withoutCommands s.loop := by
  simp [State.grant]

@[simp] theorem grantNext_withoutCommands : withoutCommands s.grantNext.loop = withoutCommands s.loop := by
  unfold State.grantNext
  split <;> simp

@[simp] theorem completeDischarge_withoutCommands : withoutCommands (s.completeDischarge z).loop = withoutCommands s.loop := by
  unfold State.completeDischarge State.endDischarge
  dsimp only
  split <;> simp

@[simp] theorem followFlow_withoutCommands : withoutCommands (s.followFlow z).loop = withoutCommands s.loop := by
  unfold State.followFlow
  dsimp only
  split
  · rfl
  · split
    · simp
    · split <;> simp
    · rfl

@[simp] theorem zoneInputs_withoutCommands (new : ZoneInputs) :
    withoutCommands (s.zoneInputs z new).loop = withoutCommands s.loop := by
  simp [State.zoneInputs, apply_ite State.loop, apply_ite withoutCommands]

/-! A door's openings are handed on to its zone. -/

@[simp] theorem handOn_withoutCommands : withoutCommands (s.handOn r).loop = withoutCommands s.loop := by
  simp [State.handOn]

@[simp] theorem egressOpening_withoutCommands : withoutCommands (s.egressOpening r).loop = withoutCommands s.loop := by
  unfold State.egressOpening
  dsimp only
  split <;> simp

@[simp] theorem release_egress_loop : (s.release r .egress).loop = s.loop := by
  unfold State.release
  dsimp only
  split <;> simp

@[simp] theorem egressPressed_withoutCommands : withoutCommands (s.egressPressed r).loop = withoutCommands s.loop := by
  unfold State.egressPressed
  dsimp only
  split <;> simp

@[simp] theorem contactOpened_withoutCommands : withoutCommands (s.contactOpened r).loop = withoutCommands s.loop := by
  unfold State.contactOpened
  dsimp only
  split
  · split <;> simp
  all_goals simp

@[simp] theorem contactChanged_withoutCommands (c : PointState) :
    withoutCommands (s.contactChanged r c).loop = withoutCommands s.loop := by
  unfold State.contactChanged
  split <;> simp

@[simp] theorem doorRecovers_withoutCommands : withoutCommands (s.doorRecovers r).loop = withoutCommands s.loop := by
  unfold State.doorRecovers
  dsimp only
  split
  · split <;> simp
  · split
    · simp
    · split <;> simp

@[simp] theorem doorFollows_withoutCommands (ch : DoorChanges) :
    withoutCommands (s.doorFollows r ch).loop = withoutCommands s.loop := by
  unfold State.doorFollows
  dsimp only
  have dropped : withoutCommands (if ch.egress = some .active then s.dropCancel r else s).loop = withoutCommands s.loop := by
    split <;> simp
  generalize (if ch.egress = some .active then s.dropCancel r else s) = u at dropped ⊢
  have pressed : withoutCommands (if ch.egress = some .active then u.egressPressed r else u).loop = withoutCommands s.loop := by
    split <;> simp [dropped]
  split
  · split <;> simp [dropped]
  · split <;> simp [pressed]

@[simp] theorem doorPoints_withoutCommands (ch : DoorChanges) :
    withoutCommands (s.doorPoints a r ch).loop = withoutCommands s.loop := by
  unfold State.doorPoints
  dsimp only
  split <;> simp

/-- The accepted changes of a report, at the owner of whichever type of station brings them. -/
theorem ownerTakes_withoutCommands (cs : List (Option PointState)) :
    withoutCommands (s.ownerTakes a cs).loop = withoutCommands s.loop := by
  unfold State.ownerTakes
  dsimp only
  split <;> simp

end Owners

/-! ### The points of a report -/

section Report

theorem filterPoints_getElem? (t : StationType) {p : Point} {st : PointState} :
    ∀ (ps : List Point) (sts : List PointState) (i k : Nat), ps[k]? = some p → sts[k]? = some st →
      (filterPoints t i ps sts)[k]? = some (p.filter (t.persistence (i + k)) st)
  | [], _, _, _, hp, _ => by simp at hp
  | _ :: _, [], _, _, _, hs => by simp at hs
  | q :: ps, st' :: sts, i, 0, hp, hs => by
    obtain rfl : q = p := by simpa using hp
    obtain rfl : st' = st := by simpa using hs
    rfl
  | _ :: ps, _ :: sts, i, k + 1, hp, hs => by
    have ih := filterPoints_getElem? t ps sts (i + 1) k hp hs
    rwa [Nat.add_right_comm] at ih

variable (s : State) (a : Addr)

theorem takePoints_points (states : List PointState) :
    (s.takePoints a states).loop.stations[a].points =
      (filterPoints s.loop.stations[a].type 0 s.loop.stations[a].points states).map Prod.fst := by
  unfold State.takePoints
  dsimp only
  rw [points_of_withoutCommands (ownerTakes_withoutCommands ..)]
  simp

theorem stationReturns_station :
    (s.stationReturns a).loop.stations[a] = { s.loop.stations[a] with misses := 0, state := .online } := by
  unfold State.stationReturns
  dsimp only
  split <;> simp

theorem endPoll_station :
    (s.endPoll a).loop.stations[a] = { s.loop.stations[a] with slots := s.loop.stations[a].slots.delivered } := by
  simp [State.endPoll]

/-- The state once port 2's receiver has taken a frame whole: it hunts again (R163). -/
def hunting (s : State) : State := { s with p2 := { s.p2 with rx := .hunting } }

/-- The state in which the Loop Master takes a reply of the station at `a`: the receiver hunts and the poll is complete. -/
def replied (s : State) (a : Addr) : State := (hunting s).endPoll a

theorem replied_station :
    (replied s a).loop.stations[a] = { s.loop.stations[a] with slots := s.loop.stations[a].slots.delivered } :=
  endPoll_station (hunting s) a

/-- The state after the one event that a valid reply with points alone is. -/
def reported (s : State) (a : Addr) (states : List PointState) : State :=
  State.finish (replied s a) (((replied s a).stationReturns a).takePoints a states)

/-- A report of the station's points alone: it declares the type `ty` and brings no events. -/
def pointsOnly (line : List Bool) (ty : StationType) (states : List PointState) : ReportFrame := ⟨line, some ty, states, 0, .nothing⟩

variable {s : State} {a : Addr} {line : List Bool} {states : List PointState} {ty : StationType}

theorem hearLoop_accepted {p : RxPhase} {f : LinkFrame} (on : s.p2.rx = .on p)
    (heard : receive ⟨s.p2.usedPair, fun _ => true⟩ p line = .inr (.accepted f)) :
    s.hearLoop line = (hunting s, some (.accepted f)) := by
  simp [State.hearLoop, Receiver.take, PortTwo.rxConfig, on, heard, hunting]

theorem declared_pointsOnly (assigned : ty ≠ .unassigned) (noMonitor : ty ≠ .bankMonitor) (all : states.length = ty.pointCount) :
    (pointsOnly line ty states).declared? = some ty := by
  simp [pointsOnly, ReportFrame.declared?, assigned, all, Events.fit, noMonitor, Events.any]

theorem validReply_pointsOnly (configured : s.loop.stations[a].state ≠ .unconfigured) (type : s.loop.stations[a].type = ty) :
    s.validReply a ty (pointsOnly line ty states) =
      State.finish (s.endPoll a) (((s.endPoll a).stationReturns a).takePoints a states) := by
  have station := endPoll_station s a
  have configured' : (s.endPoll a).loop.stations[a].state ≠ .unconfigured := by rwa [station]
  have type' : (s.endPoll a).loop.stations[a].type = ty := by rwa [station]
  unfold State.validReply
  dsimp only
  rw [if_neg configured', if_neg (not_not_intro type'.symm)]
  rfl

/-- A reply of the configured type whose bits complete a REPORT frame, with points alone, is one event (R153). -/
theorem exec_report_pointsOnly (replies : Replies s a line) (type : s.loop.stations[a].type = ty) (assigned : ty ≠ .unassigned)
    (noMonitor : ty ≠ .bankMonitor) (all : states.length = ty.pointCount) :
    exec (.report (pointsOnly line ty states)) s = .next (reported s a states) := by
  obtain ⟨⟨mainOn, resetHigh⟩, ⟨c, polled⟩, configured, p, f, on, heard, address, kindHigh, kindLow⟩ := replies
  have running : s.running = true := by simp [State.running, mainOn, resetHigh]
  have handed : (hunting s).takeReply (pointsOnly line ty states) f = (hunting s).validReply a ty (pointsOnly line ty states) := by
    simp [State.takeReply, hunting, polled, declared_pointsOnly assigned noMonitor all, isKind, kindHigh, kindLow, address]
  have hears : s.hearLoop (pointsOnly line ty states).line = (hunting s, some (.accepted f)) := hearLoop_accepted on heard
  calc exec (.report (pointsOnly line ty states)) s
      _ = execReport (pointsOnly line ty states) s := rfl
      _ = .next ((hunting s).validReply a ty (pointsOnly line ty states)) := by simp [execReport, running, hears, handed]
      _ = .next (reported s a states) := by rw [validReply_pointsOnly (s := hunting s) configured type, reported, replied]

/-- After that event the station's points are what `filterPoints` makes of those it had. -/
theorem reported_points (states : List PointState) :
    (reported s a states).loop.stations[a].points =
      (filterPoints s.loop.stations[a].type 0 s.loop.stations[a].points states).map Prod.fst := by
  have kept : (reported s a states).loop = (((replied s a).stationReturns a).takePoints a states).loop := by simp [reported]
  rw [kept, takePoints_points, stationReturns_station, replied_station]

end Report

/-! ### One point through persistence -/

section Filter

variable {p : Point} {n : Nat} {st : PointState}

/-- The point with a reported state counted, before any acceptance. -/
def counted (p : Point) (st : PointState) : Point :=
  if p.candidate = some st then { p with count := min 4 (p.count + 1) } else { p with candidate := some st, count := 1 }

theorem counted_candidate : (counted p st).candidate = some st := by
  unfold counted
  split
  · next same => exact same
  · rfl

theorem counted_accepted : (counted p st).accepted = p.accepted := by
  unfold counted
  split <;> rfl

theorem counted_of_same (same : p.candidate = some st) : (counted p st).count = min 4 (p.count + 1) := by
  rw [counted, if_pos same]

theorem counted_of_new (new : p.candidate ≠ some st) : counted p st = { p with candidate := some st, count := 1 } := if_neg new

/-- The two branches of persistence: the counted point accepted, or the counted point as it is. -/
theorem filter_eq (p : Point) (n : Nat) (st : PointState) :
    p.filter n st =
      if n ≤ (counted p st).count ∧ p.accepted ≠ some st then ((counted p st).accept st, some st) else (counted p st, none) := by
  rw [← counted_accepted (p := p) (st := st)]
  rfl

theorem filter_candidate : (p.filter n st).1.candidate = some st := by
  rw [filter_eq]
  split <;> exact counted_candidate

theorem filter_count : (p.filter n st).1.count = (counted p st).count := by
  rw [filter_eq]
  split <;> rfl

theorem filter_change :
    (p.filter n st).2 = if n ≤ (p.filter n st).1.count ∧ p.accepted ≠ some st then some st else none := by
  rw [filter_count, filter_eq]
  split <;> rfl

theorem filter_below (below : (p.filter n st).1.count < n) : p.filter n st = (counted p st, none) := by
  rw [filter_count] at below
  rw [filter_eq, if_neg (by omega)]

theorem filter_reached (reached : n ≤ (p.filter n st).1.count) : (p.filter n st).1.accepted = some st := by
  rw [filter_count] at reached
  rw [filter_eq]
  split
  · rfl
  · next unmet =>
    rw [counted_accepted]
    exact not_not.mp fun other => unmet ⟨reached, other⟩

/-- The accepted state does not act again. -/
theorem filter_of_accepted (accepted : p.accepted = some st) : (p.filter n st).2 = none := by
  rw [filter_change, if_neg (by simp [accepted])]

/-- Under a persistence above 1 a state that differs from the candidate becomes the candidate and nothing more. -/
theorem filter_of_new (new : p.candidate ≠ some st) (hn : 1 < n) :
    (p.filter n st).1 = { p with candidate := some st, count := 1 } := by
  rw [filter_eq, counted_of_new new, if_neg (by simp; omega)]

end Filter

/-- Settles O34: a report with points alone is one event whose owner changes no point, so the station keeps what `filterPoints` makes of
its points; the rest is the two branches of one point's persistence. -/
theorem persistenceFiltersPoints : Obligations.PersistenceFiltersPoints := by
  refine ⟨?reported, ?point, ?alternating⟩
  case reported =>
    intro s a line states ty replies type assigned noMonitor all
    refine ⟨_, exec_report_pointsOnly replies type assigned noMonitor all, fun i p st hp hst => ?_⟩
    have filtered := filterPoints_getElem? ty s.loop.stations[a].points states 0 i hp hst
    rw [Nat.zero_add] at filtered
    rw [reported_points, changes, type, List.getElem?_map, List.getElem?_map, filtered]
    exact ⟨rfl, rfl⟩
  case point =>
    intro p n st _ _
    refine ⟨filter_candidate, fun new => ?_, fun same => ?_, fun below => ?_, filter_reached, filter_change,
      fun reached => filter_of_accepted (filter_reached reached)⟩
    · rw [filter_count, counted_of_new new]
    · rw [filter_count, counted_of_same same]
    · rw [filter_below below]
      exact ⟨rfl, counted_accepted⟩
  case alternating =>
    intro p accepted candidate
    simp [filter_of_new, accepted, candidate]

end Sys2Proof.Proofs.Persistence
end

section
/-! PROOFS. What a step can do, said once for every law that steps keep. The laws speak of three sides of the state that the same
operation may touch apart from one another: the Alarm Table with the notices owed, the people (Bearer Table, occupancy entries and pairing
contexts), and the zones (zone records, Agent Bank, profiles, lines and strongroom records). On each side there is a short list of acts,
each an effect of one of the model's own operations; `Trace` says that an operation is a sequence of acts on every side. A law is then
shown to be kept act by act. Two debts stand between acts: rooms whose hold reasons are to be derived again (`owed`), and bearers just
admitted whose waiting contexts are still to be dropped (`placed`). -/
namespace Sys2Proof.Proofs.Acts

open Sys2Proof Sys2Proof.Machine Sys2Proof.Safety Relation

/-- Which of two things a command may do: grant the manifold, or change who is in a strongroom. No command does both, which the entry
law of R121 needs. -/
inductive Mode
  | grants | rolls

/-- What else a command may do: owe a door's notice whether or not the door changes (R88, R92), start the part again, answer a request, and
begin a frame of port 1. -/
structure Allows where
  owes : Bool
  starts : Bool
  answers : Bool
  transmits : Bool

/-- Nothing else. -/
def Allows.nothing : Allows := ⟨false, false, false, false⟩

variable {w : Allows}

/-- A state within an event, with its debts. -/
structure Conf where
  state : State
  owed : Set Room
  placed : Set Nat

/-! ### The Alarm Table and the notices owed -/

/-- An act on the Alarm Table and the notices owed. -/
inductive AlarmAct (w : Allows) : State → State → Prop
  | same {s t} (ha : t.alarms = s.alarms) (hd : t.due = s.due) : AlarmAct w s t
  | raised {s t} (k : AlarmKey) (ha : t.alarms = (s.raiseAlarm k).alarms) (hd : t.due = (s.raiseAlarm k).due) : AlarmAct w s t
  | gone {s t} (g : AlarmKey → Bool) (ha : t.alarms = (s.alarmsGone g).alarms) (hd : t.due = (s.alarmsGone g).due) : AlarmAct w s t
  | put {s t} (r : AlarmRecord) (stands : Stands s r.key) (ha : t.alarms = (s.putAlarm r).alarms)
      (hd : t.due = (s.putAlarm r).due) : AlarmAct w s t
  | retired {s t} (r : AlarmRecord) (stands : Stands s r.key) (ha : t.alarms = (s.retireAlarm r).alarms)
      (hd : t.due = (s.retireAlarm r).due) : AlarmAct w s t
  | owed {s t} (owes : w.owes = true) (d : Room) (ha : t.alarms = s.alarms) (hd : t.due = s.due ++ [.object (.door d)]) : AlarmAct w s t

/-! ### Bearers, occupancy entries and pairing contexts -/

/-- Every waiting custodian of `t` waits in `s`: contexts are only dropped, counted down, or made ESCORT contexts. -/
def NoNewWaiting (s t : State) : Prop :=
  ∀ (r : Room) n w b g, t.ctx[r] = .custody n w b g → ∃ m v, s.ctx[r] = .custody m v b g

/-- No CUSTODY context waits for the bearer. -/
def NotWaiting (s : State) (b : Nat) : Prop := ∀ (r : Room) n w g, s.ctx[r] ≠ .custody n w b g

/-- The Bearer Table once a bearer's retirement is complete: its chain is given back, and its record and index entry are gone (R10). -/
def retiredTable (t : BearerTable) (b : Nat) (r : Bearer) : BearerTable :=
  let given := t.giveBack (t.chainOf r)
  { given with index := given.index.erase r.token.toNat, bearers := given.bearers.erase b }

/-- From `s` to `t` a bearer's record is retired, with every context that names it. -/
structure Retires (s t : State) (b : Nat) : Prop where
  waiting : NotWaiting t b
  table : ∃ r, s.bt.bearers.get b = some r ∧ t.bt = retiredTable s.bt b r

/-- The bearer may be admitted: it is live and has no entry, or it is a waiting custodian not admitted yet. -/
def Candidate (s : State) (A : Set Nat) (b : Nat) : Prop :=
  ((s.bt.bearers.get b).isSome = true ∧ s.entryOf b = none) ∨ (b ∉ A ∧ ¬NotWaiting s b)

/-- The people's side of two states is the same. -/
structure SamePeople (s t : State) : Prop where
  bt : t.bt = s.bt
  entries : t.roll.entries = s.roll.entries
  ctx : t.ctx = s.ctx

/-- The bearers and entries of two states are the same. -/
structure SameRegister (s t : State) : Prop where
  bt : t.bt = s.bt
  entries : t.roll.entries = s.roll.entries

/-- The bearers and contexts of two states are the same. -/
structure SameBearers (s t : State) : Prop where
  bt : t.bt = s.bt
  ctx : t.ctx = s.ctx

/-- The entries and contexts of two states are the same. -/
structure SameEntries (s t : State) : Prop where
  entries : t.roll.entries = s.roll.entries
  ctx : t.ctx = s.ctx

/-- An act on the people's side. -/
inductive PeopleAct : Conf → Conf → Prop
  | same {s t O P A B} (h : SamePeople s t) (hA : A ⊆ B) : PeopleAct ⟨s, O, A⟩ ⟨t, P, B⟩
  | contexts {s t O P A} (h : SameRegister s t) (hc : NoNewWaiting s t) : PeopleAct ⟨s, O, A⟩ ⟨t, P, A⟩
  | waits {s t O P A} (h : SameRegister s t) {b : Nat} (none : s.entryOf b = none) (live : (s.bt.bearers.get b).isSome)
      (hc : ∀ (r : Room) n w c g, t.ctx[r] = .custody n w c g → c = b ∨ ∃ m v, s.ctx[r] = .custody m v c g) :
      PeopleAct ⟨s, O, A⟩ ⟨t, P, A⟩
  | calendar {s t O P A} (h : SameEntries s t) (hs : Vector (List Window) 64) (hh : List Holiday) (n : Nat)
      (hb : t.bt = { s.bt with schedules := hs, holidays := hh, retention := n }) : PeopleAct ⟨s, O, A⟩ ⟨t, P, A⟩
  | bearer {s t O P A} (h : SameEntries s t) (b : Nat) (f : Bearer → Bearer)
      (hf : ∀ r, (f r).token = r.token ∧ (f r).chainHead = r.chainHead)
      (hb : t.bt = { s.bt with bearers := s.bt.bearers.modify b f }) : PeopleAct ⟨s, O, A⟩ ⟨t, P, A⟩
  | enrolled {s t O P A} (h : SameEntries s t) (n : Nat) (r : Bearer) (slot : s.bt.bearers.get n = none)
      (token : s.bt.index.get r.token.toNat = none) (head : r.chainHead = 0)
      (hb : t.bt = { s.bt with bearers := s.bt.bearers.set n r, index := s.bt.index.set r.token.toNat n }) :
      PeopleAct ⟨s, O, A⟩ ⟨t, P, A⟩
  | amended {s t O P A} (h : SameEntries s t) (b : Nat) (r q : Bearer) (live : s.bt.bearers.get b = some r)
      (head : q.chainHead = r.chainHead) (token : q.token = r.token ∨ s.bt.index.get q.token.toNat = none)
      (hb : t.bt =
        { s.bt with
          bearers := s.bt.bearers.set b q, index := (s.bt.index.erase r.token.toNat).set q.token.toNat b }) :
      PeopleAct ⟨s, O, A⟩ ⟨t, P, A⟩
  | chained {s t O P A} (h : SameEntries s t) (b : Nat) (r : Bearer) (cs : List PermContent) (live : s.bt.bearers.get b = some r)
      (short : cs.length ≤ 16) (fits : cs.length ≤ s.bt.freeCount + (s.bt.chainOf r).length)
      (hb : t.bt =
        let built := (s.bt.giveBack (s.bt.chainOf r)).build cs
        { built.1 with bearers := built.1.bearers.set b { r with chainHead := built.2.headD 0 } }) :
      PeopleAct ⟨s, O, A⟩ ⟨t, P, A⟩
  | retired {s t O P A} (b : Nat) (he : t.roll.entries = s.roll.entries) (hc : NoNewWaiting s t)
      (outside : ∀ p ∈ s.roll.entries, p.2.bearer ≠ b) (hb : Retires s t b) : PeopleAct ⟨s, O, A⟩ ⟨t, P, A⟩
  | entries {s t O P A} (h : SameBearers s t) (f : Nat × OccEntry → OccEntry) (hf : ∀ p, (f p).bearer = p.2.bearer)
      (he : t.roll.entries = s.roll.entries.map fun p => (p.1, f p)) : PeopleAct ⟨s, O, A⟩ ⟨t, P, A⟩
  | left {s t O P A} (e : Nat) (o : OccEntry) (entry : (e, o) ∈ s.roll.entries) (he : t.roll.entries = s.roll.entries.erase e)
      (hc : NoNewWaiting s t) (hb : t.bt = s.bt ∨ Retires s t o.bearer) : PeopleAct ⟨s, O, A⟩ ⟨t, P, A⟩
  | admitted {s t O P A} (h : SameBearers s t) (e : Nat) (o : OccEntry) (slot : s.roll.entries.get e = none)
      (fit : Candidate s A o.bearer) (he : t.roll.entries = s.roll.entries.set e o) :
      PeopleAct ⟨s, O, A⟩ ⟨t, P, insert o.bearer A⟩
  | settled {s O P A} (b : Nat) (h : NotWaiting s b) : PeopleAct ⟨s, O, A⟩ ⟨s, P, A \ {b}⟩

/-! ### Zones, Agent Bank, profiles, lines and strongroom records -/

/-- A zone record without the fields that no law speaks of. -/
def core (z : Zone) : Zone :=
  { z with
    disableCause := .start, lastEnvelope := false, envelopeOpen := false, flowSeen := false, unconfirmed := false
    flowStart := none, discharge := none, soak := none }

/-- Profiles, supplies and lines, and strongroom records are the same. -/
structure SameGround (s t : State) : Prop where
  profiles : t.sup.profiles = s.sup.profiles
  lines : (t.lines.mainOn, t.lines.resetHigh, t.lines.inhibit) = (s.lines.mainOn, s.lines.resetHigh, s.lines.inhibit)
  rooms : t.roll.rooms = s.roll.rooms

/-- The zones' side of two states is the same, but for fields of zone records that no law speaks of. -/
structure SameZones (s t : State) : Prop extends SameGround s t where
  zones : ∀ z : Room, core t.zones[z] = core s.zones[z]
  bank : t.bank = s.bank

/-- A coverage record's achieved factor is that of its sum under a profile (R138). -/
def Achieves (c : Coverage) (p : Profile) : Prop := c.achieved = min 999 (100 * c.sum / p.volume)

/-- A zone reset to NORMAL, up to its entry into that state: the first half of `State.reachNormal` (R127). -/
def toNormal (s : State) (z : Room) : State :=
  let s := s.setZone z
    { s.zones[z] with
      kind := .noKind, remainder := 0, accumulated := 0, authorise := false, envelopeOpen := false, flowSeen := false
      unconfirmed := false }
  let s := s.alarmsGone fun k =>
    k = .forRoom .zoneAlert z || k = .forRoom .zoneRelease z || k = .forRoom .releaseFailed z
  s.enterZone z .normal

/-- A cylinder changed in a way that takes it out of a reservation or leaves it there, and makes no new one. -/
def NoNewReserved (s t : State) : Prop :=
  ∀ p : Pos, t.bank.cylinders[p].state = .reserved →
    s.bank.cylinders[p].state = .reserved ∧ t.bank.cylinders[p].zone = s.bank.cylinders[p].zone

/-- The bank's lists and manifold are the same, and each coverage record is the same or computed right. -/
structure SameLists (s t : State) : Prop where
  reservations : t.bank.reservations = s.bank.reservations
  manifold : t.bank.manifold = s.bank.manifold
  waitQueue : t.bank.waitQueue = s.bank.waitQueue
  coverage : ∀ z : Room, t.bank.coverage[z] = s.bank.coverage[z] ∨ Achieves t.bank.coverage[z] s.sup.profiles[z]

/-- The same zones, bank and ground as those of an operation's outcome. -/
structure ZonesOf (u t : State) : Prop extends SameGround u t where
  zones : t.zones = u.zones
  bank : t.bank = u.bank

/-- An act on the zones' side. -/
inductive ZoneAct (m : Mode) : Conf → Conf → Prop
  | same {s t O P A B} (h : SameZones s t) (hO : O ⊆ P) : ZoneAct m ⟨s, O, A⟩ ⟨t, P, B⟩
  | cylinders {s t O A B} (ground : SameGround s t) (zones : ∀ z : Room, core t.zones[z] = core s.zones[z]) (lists : SameLists s t)
      (free : NoNewReserved s t) : ZoneAct m ⟨s, O, A⟩ ⟨t, O, B⟩
  | toppedUp {s t O A B} (h : ZonesOf s.topUp t) : ZoneAct m ⟨s, O, A⟩ ⟨t, O, B⟩
  | ruled {s t O A B} (ground : SameGround s t) (bank : t.bank = s.bank) (z : Room)
      (others : ∀ y : Room, y ≠ z → core t.zones[y] = core s.zones[y])
      (sequence : { core t.zones[z] with kind := .noKind, authorise := false, inputs := .allNormal } =
        { core s.zones[z] with kind := .noKind, authorise := false, inputs := .allNormal })
      (kind : (t.zones[z].kind = s.zones[z].kind ∧ t.zones[z].authorise = s.zones[z].authorise) ∨ s.zones[z].state ≠ .discharging) :
      ZoneAct m ⟨s, O, A⟩ ⟨t, insert z O, B⟩
  | rederived {s t O A B} (z : Room) (h : ZonesOf (s.rederive z) t) : ZoneAct m ⟨s, O, A⟩ ⟨t, O \ {z}, B⟩
  | confirmed {s t O A B} (z : Room) (k : SequenceKind) (st : s.zones[z].state = .normal ∨ s.zones[z].state = .alert)
      (h : ZonesOf (s.confirm z k) t) : ZoneAct m ⟨s, O, A⟩ ⟨t, O, B⟩
  | alerted {s t O A B} (z : Room) (st : s.zones[z].state = .normal) (h : ZonesOf (s.enterZone z .alert) t) :
      ZoneAct m ⟨s, O, A⟩ ⟨t, O, B⟩
  | counted {s t A B} (grants : m = .grants) (z : Room) (due : s.countdownIsDue z = true) (h : ZonesOf (s.endCountdown z) t) :
      ZoneAct m ⟨s, ∅, A⟩ ⟨t, ∅, B⟩
  | ended {s t A B} (grants : m = .grants) (z : Room) (complete : Bool) (st : s.zones[z].state = .discharging)
      (h : ZonesOf (s.endDischarge z complete) t) : ZoneAct m ⟨s, ∅, A⟩ ⟨t, ∅, B⟩
  | soaked {s t O A B} (z : Room) (st : s.zones[z].state = .soak) (h : ZonesOf (s.endSoak z) t) : ZoneAct m ⟨s, O, A⟩ ⟨t, O, B⟩
  | reset {s t O A B} (z : Room) (st : s.zones[z].state = .alert ∨ s.zones[z].state = .vent) (h : ZonesOf (toNormal s z) t) :
      ZoneAct m ⟨s, O, A⟩ ⟨t, insert z O, B⟩
  | resetHeld {s t O A B} (z : Room) (st : s.zones[z].state = .held) (h : ZonesOf (toNormal (s.releaseReservation z) z) t) :
      ZoneAct m ⟨s, O, A⟩ ⟨t, insert z O, B⟩
  | disabled {s t O A B} (z : Room) (st : s.zones[z].state = .normal ∨ s.zones[z].state = .alert)
      (h : ZonesOf (s.enterZone z .disabled) t) : ZoneAct m ⟨s, O, A⟩ ⟨t, O, B⟩
  | enabled {s t O A B} (z : Room) (st : s.zones[z].state = .disabled) (h : ZonesOf (s.enterZone z .normal) t) :
      ZoneAct m ⟨s, O, A⟩ ⟨t, O, B⟩
  | ticked {s t O A B} (ground : SameGround s t) (zones : t.zones = vgen fun z => s.zones[z].tick) (bank : t.bank = s.bank) :
      ZoneAct m ⟨s, O, A⟩ ⟨t, O, B⟩
  | profile {s t O A B} (r : Room) (p : Profile) (st : s.zones[r].state = .normal ∨ s.zones[r].state = .disabled)
      (delay : p.delay ≤ 120) (capacity : s.headCount r ≤ p.capacity)
      (h : ZonesOf (State.refreshCoverage { s with sup := { s.sup with profiles := s.sup.profiles.set r p } } r) t) :
      ZoneAct m ⟨s, O, A⟩ ⟨t, O, B⟩
  | room {s t O A B} (rolls : m = .rolls) (r : Room) (x : RoomRecord)
      (fits : x.list.length ≤ s.headCount r ∨ x.list.length ≤ s.sup.profiles[r].capacity) (zones : t.zones = s.zones)
      (bank : t.bank = s.bank) (profiles : t.sup.profiles = s.sup.profiles) (lines : t.lines = s.lines)
      (rooms : t.roll.rooms = s.roll.rooms.set r x) : ZoneAct m ⟨s, O, A⟩ ⟨t, insert r O, B⟩
  | inhibited {s t O A B} (on : t.lines.mainOn = s.lines.mainOn ∧ t.lines.resetHigh = s.lines.resetHigh) (zones : t.zones = s.zones)
      (bank : t.bank = s.bank) (profiles : t.sup.profiles = s.sup.profiles) (rooms : t.roll.rooms = s.roll.rooms) :
      ZoneAct m ⟨s, O, A⟩ ⟨t, Set.univ, B⟩

/-! ### Traces -/

/-- One configuration is brought to another by acts on each side. -/
structure Trace (w : Allows) (m : Mode) (c d : Conf) : Prop where
  alarms : ReflTransGen (AlarmAct w) c.state d.state
  people : ReflTransGen PeopleAct c d
  zones : ReflTransGen (ZoneAct m) c d

theorem Trace.refl (m : Mode) (c : Conf) : Trace w m c c := ⟨.refl, .refl, .refl⟩

theorem Trace.trans {m : Mode} {c d e : Conf} (h : Trace w m c d) (h' : Trace w m d e) : Trace w m c e :=
  ⟨h.alarms.trans h'.alarms, h.people.trans h'.people, h.zones.trans h'.zones⟩

/-- An operation that leaves no debt and pays none, in either mode. -/
structure Keeps (s t : State) : Prop where
  trace : ∀ w m O A, Trace w m ⟨s, O, A⟩ ⟨t, O, A⟩

theorem Keeps.refl (s : State) : Keeps s s := ⟨fun _ _ _ _ => .refl _ _⟩

theorem Keeps.trans {s t u : State} (h : Keeps s t) (h' : Keeps t u) : Keeps s u :=
  ⟨fun _ m O A => (h.trace _ m O A).trans (h'.trace _ m O A)⟩

/-- The same for an operation that may owe a door's notice. -/
structure Owes (s t : State) : Prop where
  trace : ∀ w : Allows, w.owes = true → ∀ m O A, Trace w m ⟨s, O, A⟩ ⟨t, O, A⟩

theorem Keeps.owes {s t : State} (h : Keeps s t) : Owes s t := ⟨fun w _ => h.trace w⟩

theorem Owes.trans {s t u : State} (h : Owes s t) (h' : Owes t u) : Owes s u :=
  ⟨fun _ owes m O A => (h.trace _ owes m O A).trans (h'.trace _ owes m O A)⟩

/-- An operation applied along a list. -/
theorem Keeps.foldl {α : Type} {f : State → α → State} (hf : ∀ s a, Keeps s (f s a)) (l : List α) (s : State) :
    Keeps s (l.foldl f s) := by
  induction l generalizing s with
  | nil => exact .refl s
  | cons a l ih => exact (hf s a).trans (ih (f s a))

theorem SamePeople.refl (s : State) : SamePeople s s := ⟨rfl, rfl, rfl⟩

theorem SameZones.refl (s : State) : SameZones s s := ⟨⟨rfl, rfl, rfl⟩, fun _ => rfl, rfl⟩

theorem ZonesOf.refl (s : State) : ZonesOf s s := ⟨⟨rfl, rfl, rfl⟩, rfl, rfl⟩

/-- An act on the Alarm Table alone. -/
theorem AlarmAct.keeps {s t : State} (h : ∀ w, AlarmAct w s t) (hp : SamePeople s t) (hz : SameZones s t) : Keeps s t :=
  ⟨fun _ _ _ _ => ⟨.single (h _), .single (.same hp subset_rfl), .single (.same hz subset_rfl)⟩⟩

/-- An operation that touches none of the three sides. -/
theorem Keeps.quiet {s t : State} (ha : t.alarms = s.alarms) (hd : t.due = s.due) (hp : SamePeople s t) (hz : SameZones s t) :
    Keeps s t :=
  AlarmAct.keeps (fun _ => .same ha hd) hp hz

/-- An act on the people's side alone. -/
theorem PeopleAct.keeps {s t : State} (h : ∀ O A, PeopleAct ⟨s, O, A⟩ ⟨t, O, A⟩) (ha : t.alarms = s.alarms) (hd : t.due = s.due)
    (hz : SameZones s t) : Keeps s t :=
  ⟨fun _ _ O A => ⟨.single (.same ha hd), .single (h O A), .single (.same hz subset_rfl)⟩⟩

/-- What an operation does beside the zones: acts on the Alarm Table and on the people's side. -/
structure Beside (s t : State) : Prop where
  alarms : ∀ w, ReflTransGen (AlarmAct w) s t
  people : ∀ O P A, ReflTransGen PeopleAct ⟨s, O, A⟩ ⟨t, P, A⟩

theorem Beside.trans {s t u : State} (h : Beside s t) (h' : Beside t u) : Beside s u :=
  ⟨fun w => (h.alarms w).trans (h'.alarms w), fun O P A => (h.people O P A).trans (h'.people P P A)⟩

theorem Keeps.beside {s t : State} (h : Keeps s t) : Beside s t :=
  ⟨fun _ => (h.trace _ .grants ∅ ∅).alarms, fun O _ A => (h.trace .nothing .grants O A).people.tail (.same (.refl t) subset_rfl)⟩

/-- An operation that touches the zones' side alone. -/
theorem Beside.quiet {s t : State} (ha : t.alarms = s.alarms) (hd : t.due = s.due) (hp : SamePeople s t) : Beside s t :=
  ⟨fun _ => .single (.same ha hd), fun _ _ _ => .single (.same hp subset_rfl)⟩

/-- An act on the zones' side, with the acts beside it. -/
theorem ZoneAct.trace {m : Mode} {s t : State} {O P : Set Room} {A : Set Nat} (h : ZoneAct m ⟨s, O, A⟩ ⟨t, P, A⟩)
    (b : Beside s t) : Trace w m ⟨s, O, A⟩ ⟨t, P, A⟩ :=
  ⟨b.alarms w, b.people O P A, .single h⟩

end Sys2Proof.Proofs.Acts
end

section
/-! PROOFS. The acts of the shared operations: alarms, notices owed, doors, contexts and one-shot commands. -/
namespace Sys2Proof.Proofs.Acts

open Sys2Proof Sys2Proof.Machine Sys2Proof.Safety Relation

variable (s : State) (r z : Room)

/-! ### The Alarm Table -/

theorem raiseAlarm_keeps (k : AlarmKey) : Keeps s (s.raiseAlarm k) :=
  AlarmAct.keeps (fun _ => .raised k rfl rfl) ⟨by simp, by simp, by simp⟩ ⟨⟨by simp, by simp, by simp⟩, by simp, by simp⟩

theorem alarmsGone_keeps (g : AlarmKey → Bool) : Keeps s (s.alarmsGone g) :=
  AlarmAct.keeps (fun _ => .gone g rfl rfl) ⟨rfl, rfl, rfl⟩ ⟨⟨rfl, rfl, rfl⟩, fun _ => rfl, rfl⟩

theorem alarmGone_keeps (k : AlarmKey) : Keeps s (s.alarmGone k) := alarmsGone_keeps s _

theorem lapseGone_keeps : Keeps s (s.lapseGone r) := alarmsGone_keeps s _

theorem putAlarm_keeps {a : AlarmRecord} (h : Stands s a.key) : Keeps s (s.putAlarm a) :=
  AlarmAct.keeps (fun _ => .put a h rfl rfl) ⟨rfl, rfl, rfl⟩ ⟨⟨rfl, rfl, rfl⟩, fun _ => rfl, rfl⟩

theorem retireAlarm_keeps {a : AlarmRecord} (h : Stands s a.key) : Keeps s (s.retireAlarm a) :=
  AlarmAct.keeps (fun _ => .retired a h rfl rfl) ⟨rfl, rfl, rfl⟩ ⟨⟨rfl, rfl, rfl⟩, fun _ => rfl, rfl⟩

theorem oweDoor_owes : Owes s (s.owe (.object (.door r))) :=
  ⟨fun _ owes _ _ _ =>
    ⟨.single (.owed (t := s.owe (.object (.door r))) owes r rfl rfl), .single (.same ⟨rfl, rfl, rfl⟩ subset_rfl),
      .single (.same ⟨⟨rfl, rfl, rfl⟩, fun _ => rfl, rfl⟩ subset_rfl)⟩⟩

/-! ### Operations that touch no side -/

theorem setDoor_keeps (d : Door) : Keeps s (s.setDoor r d) :=
  .quiet rfl rfl ⟨rfl, rfl, rfl⟩ ⟨⟨rfl, rfl, rfl⟩, fun _ => rfl, rfl⟩

theorem setStation_keeps (a : Addr) (st : Station) : Keeps s (s.setStation a st) :=
  .quiet rfl rfl ⟨rfl, rfl, rfl⟩ ⟨⟨rfl, rfl, rfl⟩, fun _ => rfl, rfl⟩

theorem placeAt_keeps (a : Option Addr) (f : Slots → Slots) : Keeps s (s.placeAt a f) := by
  have h := State.placeAt_frame s a f
  exact .quiet (by simp) (by simp) ⟨by simp, by simp, by simp⟩ ⟨⟨by simp, by simp, by simp⟩, by simp, by simp⟩

theorem placeBolt_keeps (c : BoltCommand) : Keeps s (s.placeBolt r c) := placeAt_keeps ..

theorem dropCancel_keeps : Keeps s (s.dropCancel r) := placeAt_keeps ..

theorem placeTone_keeps (t : Tone) : Keeps s (s.placeTone r t) := placeAt_keeps ..

theorem placeFire_keeps (ps : List Pos) : Keeps s (s.placeFire r ps) := placeAt_keeps ..

/-! ### Contexts -/

/-- A change of contexts alone that makes nobody wait. -/
theorem ctx_keeps {s t : State} (ha : t.alarms = s.alarms) (hd : t.due = s.due) (hp : SameRegister s t) (hz : SameZones s t)
    (hc : NoNewWaiting s t) : Keeps s t :=
  PeopleAct.keeps (fun _ _ => .contexts hp hc) ha hd hz

theorem NoNewWaiting.refl (s : State) : NoNewWaiting s s := fun _ _ _ _ _ h => ⟨_, _, h⟩

theorem NoNewWaiting.of_eq {s t : State} (h : t.ctx = s.ctx) : NoNewWaiting s t := fun _ _ _ _ _ hc => ⟨_, _, by rwa [h] at hc⟩

theorem NoNewWaiting.trans {s t u : State} (h : NoNewWaiting s t) (h' : NoNewWaiting t u) : NoNewWaiting s u := by
  intro r n w b g hu
  obtain ⟨_, _, ht⟩ := h' r n w b g hu
  exact h r _ _ b g ht

theorem dropContexts_noNewWaiting (test : Room → Context → Bool) : NoNewWaiting s (s.dropContexts test) := by
  intro r n w b g h
  simp only [State.dropContexts, Fin.getElem_fin, vgen_get] at h
  split at h
  · simp at h
  · exact ⟨_, _, h⟩

theorem dropContexts_keeps (test : Room → Context → Bool) : Keeps s (s.dropContexts test) :=
  ctx_keeps rfl rfl ⟨rfl, rfl⟩ ⟨⟨rfl, rfl, rfl⟩, fun _ => rfl, rfl⟩ (dropContexts_noNewWaiting s test)

/-- A context stored that makes nobody wait. -/
theorem setCtx_noNewWaiting {c : Context} (hc : ∀ n w b g, c = .custody n w b g → ∃ m v, s.ctx[r] = .custody m v b g) :
    NoNewWaiting s (s.setCtx r c) := by
  intro d n w b g h
  by_cases hd : r = d
  · subst hd
    exact hc n w b g (by simpa using h)
  · exact ⟨_, _, by rwa [State.setCtx_ctx, vset_other _ _ hd] at h⟩

theorem setCtx_keeps {c : Context} (hc : ∀ n w b g, c = .custody n w b g → ∃ m v, s.ctx[r] = .custody m v b g) :
    Keeps s (s.setCtx r c) :=
  ctx_keeps rfl rfl ⟨rfl, rfl⟩ ⟨⟨rfl, rfl, rfl⟩, fun _ => rfl, rfl⟩ (setCtx_noNewWaiting s r hc)

theorem dropContext_noNewWaiting : NoNewWaiting s (s.dropContext r) := setCtx_noNewWaiting s r (c := .empty) (by simp)

theorem dropContext_keeps : Keeps s (s.dropContext r) := setCtx_keeps s r (c := .empty) (by simp)

/-! ### Doors -/

theorem endExpired_keeps : Keeps s (s.endExpired r) := by
  unfold State.endExpired
  dsimp only
  split
  · exact (setDoor_keeps ..).trans (alarmGone_keeps ..)
  · exact .refl s

theorem resetHeld_keeps (t : HeldTimer) : Keeps s (s.resetHeld r t) := (endExpired_keeps s r).trans (setDoor_keeps ..)

theorem loadHeld_keeps : Keeps s (s.loadHeld r) := resetHeld_keeps ..

theorem stopHeld_keeps : Keeps s (s.stopHeld r) := resetHeld_keeps ..

theorem dropHold_keeps : Keeps s (s.dropHold r) := by
  unfold State.dropHold
  dsimp only
  split
  · exact (setDoor_keeps ..).trans (loadHeld_keeps ..)
  · exact setDoor_keeps ..

/-- A zone record changed in fields that no law speaks of. -/
theorem setZone_keeps {x : Zone} (h : core x = core s.zones[z]) : Keeps s (s.setZone z x) := by
  refine .quiet rfl rfl ⟨rfl, rfl, rfl⟩ ⟨⟨rfl, rfl, rfl⟩, fun y => ?_, rfl⟩
  by_cases hy : z = y
  · subst hy
    rw [State.setZone_zones, vset_same, h]
  · rw [State.setZone_zones, vset_other _ _ hy]

theorem reportEnvelope_keeps : Keeps s (s.reportEnvelope r) := setZone_keeps s r rfl

theorem deriveEnvelope_keeps : Keeps s (s.deriveEnvelope r) := by
  unfold State.deriveEnvelope
  dsimp only
  split
  · exact (setDoor_keeps ..).trans (reportEnvelope_keeps ..)
  · exact setDoor_keeps ..

theorem cancelRelease_keeps : Keeps s (s.cancelRelease r) := by
  unfold State.cancelRelease
  dsimp only
  split
  · exact (placeBolt_keeps ..).trans (setDoor_keeps ..)
  · exact .refl s

theorem setCloseDemand_keeps (demand : Bool) : Keeps s (s.setCloseDemand r demand) := by
  unfold State.setCloseDemand
  dsimp only
  split
  · exact .refl s
  · split
    · exact (((setDoor_keeps ..).trans (dropHold_keeps ..)).trans (cancelRelease_keeps ..)).trans (reportEnvelope_keeps ..)
    · exact setDoor_keeps ..

theorem doorUnknown_owes (cause : UnknownCause) : Owes s (s.doorUnknown r cause) :=
  (((((setDoor_keeps s r _).trans (alarmGone_keeps ..)).trans (alarmGone_keeps ..)).trans (dropContext_keeps ..)).trans
    (deriveEnvelope_keeps ..)).owes.trans (oweDoor_owes ..)

theorem doorPointsLost_keeps : Keeps s (s.doorPointsLost r) := setDoor_keeps ..

theorem reloadHeld_keeps : Keeps s (s.reloadHeld r) := by
  unfold State.reloadHeld
  split
  · exact .refl s
  · exact loadHeld_keeps ..

theorem release_keeps (k : ReleaseKind) : Keeps s (s.release r k) := by
  unfold State.release
  dsimp only
  have placed : Keeps s (if k = .egress then s else s.placeBolt r (.release s.sup.profiles[r].unlock)) := by
    split
    · exact .refl s
    · exact placeBolt_keeps ..
  generalize (if k = .egress then s else s.placeBolt r (.release s.sup.profiles[r].unlock)) = u at placed ⊢
  refine placed.trans ?_
  split
  · exact setDoor_keeps ..
  · exact setDoor_keeps ..
  · exact setDoor_keeps ..
  · exact (reloadHeld_keeps ..).trans (setDoor_keeps ..)
  · exact (reloadHeld_keeps ..).trans (setDoor_keeps ..)
  · exact (reloadHeld_keeps ..).trans (setDoor_keeps ..)
  · exact .refl u

theorem endRelease_keeps : Keeps s (s.endRelease r) := setDoor_keeps ..

theorem expireHeld_keeps : Keeps s (s.expireHeld r) := (setDoor_keeps s r _).trans (raiseAlarm_keeps ..)

theorem applyHold_keeps (hold : Bool) : Keeps s (s.applyHold r hold) := by
  unfold State.applyHold
  dsimp only
  refine (setDoor_keeps s r { s.doors[r] with hold := hold }).trans ?_
  split
  · split
    · exact stopHeld_keeps ..
    · split
      · exact loadHeld_keeps ..
      · exact .refl _
  · exact .refl _

theorem deriveTimeLock_keeps : Keeps s (s.deriveTimeLock r) := setDoor_keeps ..

theorem contactClosed_keeps : Keeps s (s.contactClosed r) := by
  unfold State.contactClosed
  dsimp only
  split
  · split
    · exact ((setDoor_keeps ..).trans (alarmGone_keeps ..)).trans (alarmGone_keeps ..)
    · exact (setDoor_keeps ..).trans (alarmGone_keeps ..)
  · exact .refl s

theorem tamperChanged_keeps (a : Addr) (old : Option PointState) (new : PointState) : Keeps s (s.tamperChanged a old new) := by
  cases new with
  | normal => exact alarmGone_keeps ..
  | active => exact raiseAlarm_keeps ..
  | openFault | shortFault =>
    unfold State.tamperChanged
    dsimp only
    split
    · exact raiseAlarm_keeps ..
    · exact .refl s

/-! ### Coverage records -/

theorem figures_achieves (p : Profile) (basis : Basis) (sum count : Nat) : Achieves (p.figures basis sum count) p := rfl

/-- Every coverage record computed afresh has the achieved factor of its sum (R138). -/
theorem coverageOf_achieves : Achieves (s.coverageOf z) s.sup.profiles[z] := by
  unfold State.coverageOf
  dsimp only
  split
  case h_7 | h_8 | h_9 => simp [Achieves]
  all_goals exact figures_achieves ..

theorem refreshCoverage_lists : SameLists s (s.refreshCoverage z) := by
  refine ⟨rfl, rfl, rfl, fun y => ?_⟩
  by_cases hy : z = y
  · subst hy
    exact .inr (by simpa [State.refreshCoverage] using coverageOf_achieves s z)
  · exact .inl (by rw [State.refreshCoverage, State.setCoverage_bank, vset_other _ _ hy])

theorem refreshAll_lists : SameLists s s.refreshAll :=
  ⟨rfl, rfl, rfl, fun z => .inr (by simpa [State.refreshAll] using coverageOf_achieves s z)⟩

/-- A change of cylinders that makes no reservation, with the coverage records that follow. -/
theorem cylinders_keeps {s t : State} (ha : t.alarms = s.alarms) (hd : t.due = s.due) (hp : SamePeople s t) (ground : SameGround s t)
    (zones : t.zones = s.zones) (lists : SameLists s t) (free : NoNewReserved s t) : Keeps s t :=
  ⟨fun _ _ _ _ => ⟨.single (.same ha hd), .single (.same hp subset_rfl), .single (.cylinders ground (by simp [zones]) lists free)⟩⟩

theorem refreshCoverage_keeps : Keeps s (s.refreshCoverage z) :=
  cylinders_keeps rfl rfl ⟨rfl, rfl, rfl⟩ ⟨rfl, rfl, rfl⟩ rfl (refreshCoverage_lists s z) fun _ h => ⟨h, rfl⟩

theorem refreshAll_keeps : Keeps s s.refreshAll :=
  cylinders_keeps rfl rfl ⟨rfl, rfl, rfl⟩ ⟨rfl, rfl, rfl⟩ rfl (refreshAll_lists s) fun _ h => ⟨h, rfl⟩

theorem topUp_keeps : Keeps s s.topUp :=
  ⟨fun _ _ _ _ =>
    ⟨.single (.same (by simp) (by simp)), .single (.same ⟨by simp, by simp, by simp⟩ subset_rfl), .single (.toppedUp (.refl _))⟩⟩

end Sys2Proof.Proofs.Acts
end

section
/-! PROOFS. The acts of the zone operations (chapter 7), of the hand-on and of the lone-worker supervision that follows it. -/
namespace Sys2Proof.Proofs.Acts

open Sys2Proof Sys2Proof.Machine Sys2Proof.Safety Relation

variable {w : Allows} (s : State) (r z : Room)

/-! ### What the zone operations do beside the zones -/

theorem setZone_beside (x : Zone) : Beside s (s.setZone z x) := .quiet rfl rfl ⟨rfl, rfl, rfl⟩

theorem bank_beside (b : AgentBank) : Beside s { s with bank := b } := .quiet rfl rfl ⟨rfl, rfl, rfl⟩

theorem enterZone_beside (st : ZoneState) : Beside s (s.enterZone z st) := by
  unfold State.enterZone
  dsimp only
  have entered : Beside s (((s.setZone z { s.zones[z] with state := st }).setCloseDemand z st.demand).refreshCoverage z) :=
    ((setZone_beside ..).trans (setCloseDemand_keeps ..).beside).trans (refreshCoverage_keeps ..).beside
  split
  · exact entered
  · exact entered.trans (dropContext_keeps ..).beside

theorem leaveQueue_beside : Beside s (s.leaveQueue z) := bank_beside ..

theorem actOnHolds_beside : Beside s (s.actOnHolds z) := by
  unfold State.actOnHolds
  dsimp only
  split
  · exact (setZone_beside ..).trans (enterZone_beside ..)
  · exact ((leaveQueue_beside ..).trans (setZone_beside ..)).trans (enterZone_beside ..)
  · exact (setZone_beside ..).trans (enterZone_beside ..)
  · exact (Keeps.refl s).beside

theorem rederive_beside : Beside s (s.rederive z) := (setZone_beside ..).trans (actOnHolds_beside ..)

theorem reserve_beside : Beside s (s.reserve z) := bank_beside ..

theorem confirm_beside (k : SequenceKind) : Beside s (s.confirm z k) := by
  unfold State.confirm
  dsimp only
  exact ((((setZone_beside ..).trans (raiseAlarm_keeps ..).beside).trans (reserve_beside ..)).trans (setZone_beside ..)).trans
    (enterZone_beside ..)

theorem grant_beside : Beside s (s.grant z) := by
  unfold State.grant
  dsimp only
  exact (((bank_beside ..).trans (setZone_beside ..)).trans (placeFire_keeps ..).beside).trans (enterZone_beside ..)

theorem askManifold_beside : Beside s (s.askManifold z) := by
  unfold State.askManifold
  split
  · exact grant_beside ..
  · exact (bank_beside ..).trans (enterZone_beside ..)

theorem grantNext_beside : Beside s s.grantNext := by
  unfold State.grantNext
  split
  · exact (Keeps.refl s).beside
  · exact (bank_beside ..).trans (grant_beside ..)

theorem account_beside (complete : Bool) : Beside s (s.account z complete) := bank_beside ..

theorem endDischarge_beside (complete : Bool) : Beside s (s.endDischarge z complete) := by
  unfold State.endDischarge
  dsimp only
  have passed : Beside s
      ((s.setZone z { s.zones[z] with flowStart := none, discharge := none }).account z complete).grantNext :=
    ((setZone_beside ..).trans (account_beside ..)).trans (grantNext_beside ..)
  split
  · exact passed.trans (enterZone_beside ..)
  · exact (passed.trans (setZone_beside ..)).trans (enterZone_beside ..)

theorem endCountdown_beside : Beside s (s.endCountdown z) := (setZone_beside ..).trans (askManifold_beside ..)

theorem toNormal_beside : Beside s (toNormal s z) := by
  unfold toNormal
  dsimp only
  exact ((setZone_beside ..).trans (alarmsGone_keeps ..).beside).trans (enterZone_beside ..)

theorem releaseReservation_beside : Beside s (s.releaseReservation z) :=
  .quiet (by simp) (by simp) ⟨by simp, by simp, by simp⟩

/-! ### The zone operations -/

variable {s z} {m : Mode} {O : Set Room} {A : Set Nat}

/-- The hold reasons derived afresh pay what is owed to the zone. -/
theorem rederive_trace : Trace w m ⟨s, O, A⟩ ⟨s.rederive z, O \ {z}, A⟩ :=
  (ZoneAct.rederived z (.refl _)).trace (rederive_beside s z)

/-- A debt may stand that nothing calls for. -/
theorem Trace.owe {P : Set Room} (h : O ⊆ P) : Trace w m ⟨s, O, A⟩ ⟨s, P, A⟩ :=
  ⟨.refl, .single (.same (.refl s) subset_rfl), .single (.same (.refl s) h)⟩

theorem rederive_keeps : Keeps s (s.rederive z) :=
  ⟨fun _ _ _ _ => rederive_trace.trans (.owe Set.sdiff_subset)⟩

theorem confirm_keeps {k : SequenceKind} (st : s.zones[z].state = .normal ∨ s.zones[z].state = .alert) :
    Keeps s (s.confirm z k) :=
  ⟨fun _ _ _ _ => (ZoneAct.confirmed z k st (.refl _)).trace (confirm_beside s z k)⟩

theorem alert_keeps (st : s.zones[z].state = .normal) : Keeps s (s.enterZone z .alert) :=
  ⟨fun _ _ _ _ => (ZoneAct.alerted z st (.refl _)).trace (enterZone_beside s z _)⟩

theorem testInputs_keeps (s : State) (z : Room) : Keeps s (s.testInputs z) := by
  unfold State.testInputs
  dsimp only
  split
  · next st =>
    split
    · exact confirm_keeps (by simpa using st)
    · split
      · next st' =>
        have normal : s.zones[z].state = .normal := by simp at st'; exact st'.1
        exact (alert_keeps normal).trans (raiseAlarm_keeps ..)
      · exact .refl s
  · exact .refl s

/-- A zone record changed in its kind, its Authorise flag or its inputs. -/
theorem setZone_ruled {x : Zone}
    (sequence : { core x with kind := .noKind, authorise := false, inputs := .allNormal } =
      { core s.zones[z] with kind := .noKind, authorise := false, inputs := .allNormal })
    (kind : (x.kind = s.zones[z].kind ∧ x.authorise = s.zones[z].authorise) ∨ s.zones[z].state ≠ .discharging) :
    Trace w m ⟨s, O, A⟩ ⟨s.setZone z x, insert z O, A⟩ := by
  have ground : SameGround s (s.setZone z x) := ⟨rfl, rfl, rfl⟩
  refine ZoneAct.trace (ZoneAct.ruled ground rfl z (fun y hy => ?_) ?_ ?_) (setZone_beside s z x)
  · rw [State.setZone_zones, vset_other _ _ (Ne.symm hy)]
  · simpa using sequence
  · simpa using kind

/-- A change of a zone's rules, with the hold reasons derived after it. -/
theorem Trace.rederived {t : State} (h : Trace w m ⟨s, O, A⟩ ⟨t, insert z O, A⟩) : Trace w m ⟨s, O, A⟩ ⟨t.rederive z, O, A⟩ :=
  (h.trans rederive_trace).trans (.owe (by simp))

theorem endSoak_keeps (st : s.zones[z].state = .soak) : Keeps s (s.endSoak z) :=
  ⟨fun _ _ _ _ => (ZoneAct.soaked z st (.refl _)).trace ((setZone_beside ..).trans (enterZone_beside ..))⟩

theorem endDischarge_trace (complete : Bool) (st : s.zones[z].state = .discharging) :
    Trace w .grants ⟨s, ∅, A⟩ ⟨s.endDischarge z complete, ∅, A⟩ :=
  (ZoneAct.ended rfl z complete st (.refl _)).trace (endDischarge_beside s z complete)

theorem endCountdown_trace (due : s.countdownIsDue z = true) : Trace w .grants ⟨s, ∅, A⟩ ⟨s.endCountdown z, ∅, A⟩ :=
  (ZoneAct.counted rfl z due (.refl _)).trace (endCountdown_beside s z)

theorem failDischarge_trace (st : s.zones[z].state = .discharging) : Trace w .grants ⟨s, ∅, A⟩ ⟨s.failDischarge z, ∅, A⟩ := by
  unfold State.failDischarge
  dsimp only
  refine Trace.trans (Keeps.trace ((raiseAlarm_keeps ..).trans (setZone_keeps _ z ?_)) _ _ _ _) (endDischarge_trace false ?_)
  · rfl
  · simpa using st

theorem followFlow_trace : Trace w .grants ⟨s, ∅, A⟩ ⟨s.followFlow z, ∅, A⟩ := by
  unfold State.followFlow
  dsimp only
  split
  · exact .refl _ _
  · next st =>
    rw [ne_eq, not_not] at st
    split
    · exact (setZone_keeps s z (x := { s.zones[z] with flowSeen := true, flowStart := none }) rfl).trace _ _ _ _
    · split
      · exact endDischarge_trace true st
      · exact .refl _ _
    · exact .refl _ _

/-- The override leaves the zone owing its hold reasons. -/
theorem manualOverride_trace : Trace w m ⟨s, O, A⟩ ⟨s.manualOverride z, insert z O, A⟩ := by
  unfold State.manualOverride
  dsimp only
  split
  · next h =>
    have undischarged : s.zones[z].state ≠ .discharging := fun d => by simp_all
    exact (setZone_ruled (x := { s.zones[z] with kind := .manual }) rfl (.inr undischarged)).trans
      ((raiseAlarm_keeps ..).trace _ _ _ _)
  · exact .owe (Set.subset_insert ..)

theorem zoneInputs_trace (new : ZoneInputs) : Trace w .grants ⟨s, ∅, A⟩ ⟨s.zoneInputs z new, ∅, A⟩ := by
  unfold State.zoneInputs
  dsimp only
  have set : Trace w .grants ⟨s, ∅, A⟩ ⟨s.setZone z { s.zones[z] with inputs := new }, insert z ∅, A⟩ :=
    setZone_ruled rfl (.inl ⟨rfl, rfl⟩)
  generalize s.setZone z { s.zones[z] with inputs := new } = t at set ⊢
  have overridden : Trace w .grants ⟨s, ∅, A⟩
      ⟨if s.zones[z].inputs.manual ≠ .active ∧ new.manual = .active then t.manualOverride z else t, insert z ∅, A⟩ := by
    split
    · exact (set.trans manualOverride_trace).trans (.owe (by simp))
    · exact set
  generalize (if s.zones[z].inputs.manual ≠ .active ∧ new.manual = .active then t.manualOverride z else t) = u at overridden ⊢
  have tested : Trace w .grants ⟨s, ∅, A⟩
      ⟨if s.zones[z].inputs.detectorA ≠ new.detectorA ∨ s.zones[z].inputs.detectorB ≠ new.detectorB ∨
          s.zones[z].inputs.manual ≠ new.manual then (u.rederive z).testInputs z else u.rederive z, ∅, A⟩ := by
    split
    · exact overridden.rederived.trans ((testInputs_keeps ..).trace _ _ _ _)
    · exact overridden.rederived
  generalize (if s.zones[z].inputs.detectorA ≠ new.detectorA ∨ s.zones[z].inputs.detectorB ≠ new.detectorB ∨
    s.zones[z].inputs.manual ≠ new.manual then (u.rederive z).testInputs z else u.rederive z) = v at tested ⊢
  split
  · exact tested.trans followFlow_trace
  · exact tested

/-- ZONE RESET of a zone that is not HELD. -/
theorem reachNormal_keeps (st : s.zones[z].state = .alert ∨ s.zones[z].state = .vent) : Keeps s (s.reachNormal z) :=
  ⟨fun _ _ _ _ =>
    (((ZoneAct.reset z st (.refl _)).trace (toNormal_beside s z)).rederived).trans ((testInputs_keeps _ z).trace _ _ _ _)⟩

/-- ZONE RESET of a HELD zone, with its reservation released. -/
theorem reachNormal_of_held (st : s.zones[z].state = .held) : Keeps s ((s.releaseReservation z).reachNormal z) :=
  ⟨fun _ _ _ _ =>
    (((ZoneAct.resetHeld z st (.refl _)).trace ((releaseReservation_beside s z).trans (toNormal_beside _ z))).rederived).trans
      ((testInputs_keeps _ z).trace _ _ _ _)⟩

theorem disableZone_keeps (st : s.zones[z].state = .normal ∨ s.zones[z].state = .alert) : Keeps s (s.disableZone z) := by
  unfold State.disableZone
  dsimp only
  have disabled : ∀ t : State, t.zones[z].state = .normal ∨ t.zones[z].state = .alert →
      Keeps t (((t.setZone z { t.zones[z] with disableCause := .request }).enterZone z .disabled).raiseAlarm
        (.forRoom .zoneDisabled z)) := fun t ht =>
    ((setZone_keeps t z (x := { t.zones[z] with disableCause := .request }) rfl).trans
      ⟨fun _ _ _ _ => (ZoneAct.disabled z (by simpa using ht) (.refl _)).trace (enterZone_beside ..)⟩).trans (raiseAlarm_keeps ..)
  split
  · exact (alarmGone_keeps ..).trans (disabled _ (by simpa using st))
  · exact disabled s st

theorem enable_keeps (st : s.zones[z].state = .disabled) : Keeps s (s.enterZone z .normal) :=
  ⟨fun _ _ _ _ => (ZoneAct.enabled z st (.refl _)).trace (enterZone_beside ..)⟩

/-! ### Occupancy entries and lone-worker supervision -/

/-- Entries changed one by one, each still of its bearer. -/
theorem entries_keeps {s t : State} (f : Nat × OccEntry → OccEntry) (hf : ∀ p, (f p).bearer = p.2.bearer)
    (ht : t = s.setEntries (s.roll.entries.map fun p => (p.1, f p))) : Keeps s t := by
  subst ht
  exact PeopleAct.keeps (fun _ _ => .entries ⟨rfl, rfl⟩ f hf rfl) rfl rfl ⟨⟨rfl, rfl, rfl⟩, fun _ => rfl, rfl⟩

theorem modEntry_keeps (s : State) (e : Nat) {f : OccEntry → OccEntry} (hf : ∀ o, (f o).bearer = o.bearer) :
    Keeps s (s.modEntry e f) := by
  refine entries_keeps (fun p => if p.1 = e then f p.2 else p.2) (fun p => ?_) ?_
  · split
    · exact hf _
    · rfl
  · unfold State.modEntry Table.modify
    congr 2
    funext p
    split <;> rfl

theorem mapEntries_keeps (s : State) {f : OccEntry → OccEntry} (hf : ∀ o, (f o).bearer = o.bearer) :
    Keeps s (s.setEntries (s.roll.entries.mapAll f)) :=
  entries_keeps (fun p => f p.2) (fun p => hf p.2) rfl

theorem loadCounter_keeps (s : State) (e : Nat) (o : OccEntry) : Keeps s (s.loadCounter e o) := modEntry_keeps s e fun _ => rfl

theorem retestEntry_keeps (s : State) (e : Nat) : Keeps s (s.retestEntry e) := by
  unfold State.retestEntry
  split
  · exact .refl s
  · split
    · exact loadCounter_keeps ..
    · exact .refl s
    · exact .refl s
    · exact (modEntry_keeps s e (by exact fun _ => rfl)).trans (alarmGone_keeps ..)

theorem retest_keeps (s : State) (r : Room) : Keeps s (s.retest r) := Keeps.foldl retestEntry_keeps _ s

theorem retestNight_keeps (s : State) : Keeps s s.retestNight := Keeps.foldl retest_keeps _ s

theorem prompt_keeps (s : State) (e : Nat) : Keeps s (s.prompt e) := by
  unfold State.prompt
  split
  · exact .refl s
  · exact (modEntry_keeps s e (by exact fun _ => rfl)).trans (placeTone_keeps ..)

theorem overdue_keeps (s : State) (e : Nat) : Keeps s (s.overdue e) := by
  unfold State.overdue
  split
  · exact .refl s
  · exact ((loadCounter_keeps ..).trans (modEntry_keeps _ e (by exact fun _ => rfl))).trans (raiseAlarm_keeps ..)

theorem checkIn_keeps (s : State) (e : Nat) (o : OccEntry) : Keeps s (s.checkIn e o) := by
  unfold State.checkIn
  have loaded : Keeps s (if o.checkIn = .off then s else s.loadCounter e o) := by
    split
    · exact .refl s
    · exact loadCounter_keeps ..
  exact (loaded.trans (alarmGone_keeps ..)).trans (alarmsGone_keeps ..)

theorem pendant_keeps (s : State) (a : Addr) (p : PendantReport) : Keeps s (s.pendant a p) := by
  unfold State.pendant
  split
  · split
    · exact .refl s
    · exact checkIn_keeps ..
  · exact raiseAlarm_keeps ..
  · exact raiseAlarm_keeps ..
  · exact .refl s
  · exact raiseAlarm_keeps ..
  · exact raiseAlarm_keeps ..

theorem checkInPresentation_keeps (s : State) (r : Room) (p : CheckInPresentation) : Keeps s (s.checkInPresentation r p).1 := by
  unfold State.checkInPresentation
  split
  · exact .refl s
  · split
    · exact .refl s
    · split
      · exact checkIn_keeps ..
      · exact .refl s

/-- The hand-on pays what is owed to the strongroom's zone (R63). -/
theorem handOn_trace : Trace w m ⟨s, O, A⟩ ⟨s.handOn z, O \ {z}, A⟩ := rederive_trace.trans ((retest_keeps ..).trace _ _ _ _)

theorem Trace.handedOn {t : State} (h : Trace w m ⟨s, O, A⟩ ⟨t, insert z O, A⟩) : Trace w m ⟨s, O, A⟩ ⟨t.handOn z, O, A⟩ :=
  (h.trans handOn_trace).trans (.owe (by simp))

end Sys2Proof.Proofs.Acts
end

section
/-! PROOFS. The acts of the operations on bearers, on the roll, and of the access decision (chapters 1, 3 and 4). -/
namespace Sys2Proof.Proofs.Acts

open Sys2Proof Sys2Proof.Machine Sys2Proof.Safety Relation

variable {w : Allows} {s : State} {r z : Room} {m : Mode} {O : Set Room} {A : Set Nat}

/-! ### Bearer records -/

/-- A bearer record changed in other fields than its token and its chain. -/
theorem modBearer_keeps (s : State) (b : Nat) {f : Bearer → Bearer} (hf : ∀ r, (f r).token = r.token ∧ (f r).chainHead = r.chainHead) :
    Keeps s (s.modBearer b f) :=
  PeopleAct.keeps (fun _ _ => .bearer ⟨rfl, rfl⟩ b f hf rfl) rfl rfl ⟨⟨rfl, rfl, rfl⟩, fun _ => rfl, rfl⟩

theorem entryOf_eq_none {b : Nat} : s.entryOf b = none ↔ ∀ p ∈ s.roll.entries, p.2.bearer ≠ b := by
  simp [State.entryOf, List.find?_eq_none]

theorem notWaiting_dropBearerContexts (s : State) (b : Nat) : NotWaiting (s.dropBearerContexts b) b := by
  intro r n w g h
  simp only [State.dropBearerContexts, State.dropContexts, Fin.getElem_fin, vgen_get] at h
  split at h
  · cases h
  · next kept => exact kept (by simp [h, Context.bearer?])

/-- What the completion of a retirement leaves on the people's side (R10). -/
theorem completeRetirement_people (s : State) (b : Nat) :
    let t := s.completeRetirement b
    t.roll.entries = s.roll.entries ∧ NoNewWaiting s t ∧ (t.bt = s.bt ∨ Retires s t b) := by
  unfold State.completeRetirement
  split
  · exact ⟨rfl, .refl s, .inl rfl⟩
  · next r live =>
    refine ⟨rfl, ?_, .inr ⟨notWaiting_dropBearerContexts _ b, r, live, rfl⟩⟩
    exact dropContexts_noNewWaiting _ _

theorem completeRetirement_alarms (s : State) (b : Nat) : ReflTransGen (AlarmAct w) s (s.completeRetirement b) := by
  unfold State.completeRetirement
  split
  · exact .refl
  · exact .single (.gone (fun k => k = .forBearer .revokedInside b || k = .forBearer .pinLockout b) rfl rfl)

theorem completeRetirement_zones (s : State) (b : Nat) : SameZones s (s.completeRetirement b) :=
  ⟨⟨by simp, by simp, by simp⟩, by simp, by simp⟩

/-- The retirement of a bearer outside. -/
theorem completeRetirement_keeps {b : Nat} (outside : s.entryOf b = none) : Keeps s (s.completeRetirement b) := by
  obtain ⟨he, hc, hb⟩ := completeRetirement_people s b
  refine ⟨fun _ m O A => ⟨completeRetirement_alarms s b, .single ?_, .single (.same (completeRetirement_zones s b) subset_rfl)⟩⟩
  rcases hb with hb | hb
  · exact .contexts ⟨hb, he⟩ hc
  · exact .retired b he hc (entryOf_eq_none.mp outside) hb

theorem retire_keeps (s : State) (b : Nat) : Keeps s (s.retire b) := by
  unfold State.retire
  split
  · next outside => exact completeRetirement_keeps outside
  · exact (((modBearer_keeps s b (by exact fun _ => ⟨rfl, rfl⟩)).trans (modEntry_keeps _ _ (by exact fun _ => rfl))).trans
      (raiseAlarm_keeps ..)).trans (dropContexts_keeps ..)

theorem retention_keeps (s : State) : Keeps s s.retention := by
  unfold State.retention
  split
  · exact .refl s
  · exact Keeps.foldl retire_keeps _ s

theorem wrongPin_keeps (s : State) (b : Nat) : Keeps s (s.wrongPin b) := by
  unfold State.wrongPin
  split
  · exact .refl s
  · dsimp only
    split
    · split
      · exact ((modBearer_keeps s b (by exact fun _ => ⟨rfl, rfl⟩)).trans (raiseAlarm_keeps ..)).trans (dropContexts_keeps ..)
      · exact modBearer_keeps s b (by exact fun _ => ⟨rfl, rfl⟩)
    · exact .refl s

theorem pinCorrect_keeps (s : State) (b : Nat) : Keeps s (s.pinCorrect b) :=
  modBearer_keeps s b fun r => by split <;> exact ⟨rfl, rfl⟩

theorem duressPin_keeps (s : State) (r : Room) (b : Nat) : Keeps s (s.duressPin r b) :=
  (pinCorrect_keeps s b).trans (raiseAlarm_keeps ..)

theorem pinStage_keeps (s : State) (r : Room) (b : Nat) (rec : Bearer) (night : Bool) (digits : List Nat) :
    Keeps s (s.pinStage r b rec night digits).1 := by
  unfold State.pinStage
  split
  · split
    · exact .refl s
    · exact wrongPin_keeps ..
    · exact .refl s
    · split
      · exact pinCorrect_keeps ..
      · split
        · exact duressPin_keeps ..
        · exact wrongPin_keeps ..
  · split
    · exact .refl s
    · split
      · exact duressPin_keeps ..
      · exact .refl s

/-! ### Removal from the roll -/

/-- A strongroom record stored, whose list is no longer than before or within the capacity: the hand-on is owed. -/
theorem setRoom_trace {x : RoomRecord} (fits : x.list.length ≤ s.headCount r ∨ x.list.length ≤ s.sup.profiles[r].capacity) :
    Trace w .rolls ⟨s, O, A⟩ ⟨s.setRoom r x, insert r O, A⟩ :=
  ⟨.single (.same rfl rfl), .single (.same ⟨rfl, rfl, rfl⟩ subset_rfl), .single (.room rfl r x fits rfl rfl rfl rfl rfl)⟩

theorem egressOpening_trace : Trace w .rolls ⟨s, O, A⟩ ⟨s.egressOpening r, O, A⟩ := by
  unfold State.egressOpening
  have marked : Trace w .rolls ⟨s, O, A⟩
      ⟨(s.setRoom r { s.roll.rooms[r] with unreconciled := true }).raiseAlarm (.forRoom .rollUnreconciled r), insert r O, A⟩ :=
    (setRoom_trace (.inl (by exact le_rfl))).trans ((raiseAlarm_keeps ..).trace _ _ _ _)
  dsimp only
  split
  · next was =>
    have same : s.setRoom r { s.roll.rooms[r] with unreconciled := true } = s := by
      have : ({ s.roll.rooms[r] with unreconciled := true } : RoomRecord) = s.roll.rooms[r] := by rw [← was]
      rw [this]
      simp [State.setRoom]
    rw [same]
    exact (raiseAlarm_keeps ..).trace _ _ _ _
  · exact marked.handedOn

theorem reconcile_trace : Trace w .rolls ⟨s, O, A⟩ ⟨s.reconcile r, insert r O, A⟩ :=
  (setRoom_trace (.inl (by exact le_rfl))).trans ((alarmGone_keeps ..).trace _ _ _ _)

/-- An entry leaves the roll: what follows on the other sides, and the retirement of its bearer at the end where it has one, are given
apart, for the people's side takes them as one act. -/
theorem left_trace {t : State} {P : Set Room} {e : Nat} {o : OccEntry} (entry : (e, o) ∈ s.roll.entries)
    (he : t.roll.entries = s.roll.entries.erase e) (hc : NoNewWaiting s t) (hb : t.bt = s.bt ∨ Retires s t o.bearer)
    (ha : ReflTransGen (AlarmAct w) s t) (hz : ReflTransGen (ZoneAct m) ⟨s, O, A⟩ ⟨t, P, A⟩) : Trace w m ⟨s, O, A⟩ ⟨t, P, A⟩ :=
  ⟨ha, .single (.left e o entry he hc hb), hz⟩

/-- The completion of a retirement, where the entry asks for it. -/
def retireIf (s : State) (o : OccEntry) : State := if o.revokedInside then s.completeRetirement o.bearer else s

theorem retireIf_people (s : State) (o : OccEntry) :
    (retireIf s o).roll.entries = s.roll.entries ∧ NoNewWaiting s (retireIf s o) ∧
      ((retireIf s o).bt = s.bt ∨ Retires s (retireIf s o) o.bearer) := by
  unfold retireIf
  split
  · exact completeRetirement_people s o.bearer
  · exact ⟨rfl, .refl s, .inl rfl⟩

theorem retireIf_alarms (s : State) (o : OccEntry) : ReflTransGen (AlarmAct w) s (retireIf s o) := by
  unfold retireIf
  split
  · exact completeRetirement_alarms ..
  · exact .refl

theorem retireIf_zones (s : State) (o : OccEntry) : SameZones s (retireIf s o) := by
  unfold retireIf
  split
  · exact completeRetirement_zones ..
  · exact .refl s

theorem Retires.congr {u t : State} {b : Nat} (h : Retires u t b) (hb : u.bt = s.bt) : Retires s t b := by
  obtain ⟨waiting, r, live, table⟩ := h
  exact ⟨waiting, r, hb ▸ live, hb ▸ table⟩

theorem dropEscortContexts_keeps (s : State) (e : Nat) : Keeps s (s.dropEscortContexts e) := dropContexts_keeps ..

/-- The entry off the roll, and its overdue condition gone: what a sweep does to an entry before it retires the bearer. -/
def offRoll (s : State) (e : Nat) (o : OccEntry) : State :=
  ((s.dropEscortContexts e).setEntries (s.roll.entries.erase e)).alarmGone o.overdueKey

theorem sweepEntry_eq {e : Nat} {o : OccEntry} (entry : s.roll.entries.get e = some o) :
    s.sweepEntry e = retireIf (offRoll s e o) o := by
  simp [State.sweepEntry, entry, retireIf, offRoll]

theorem offRoll_waiting (s : State) (e : Nat) (o : OccEntry) : NoNewWaiting s (offRoll s e o) :=
  NoNewWaiting.trans (t := s.dropEscortContexts e) (dropContexts_noNewWaiting s _) (.of_eq rfl)

theorem offRoll_alarms (s : State) (e : Nat) (o : OccEntry) : AlarmAct w s (offRoll s e o) := .gone (· = o.overdueKey) rfl rfl

theorem sweepEntry_keeps (s : State) (e : Nat) : Keeps s (s.sweepEntry e) := by
  cases entry : s.roll.entries.get e with
  | none =>
    have : s.sweepEntry e = s := by simp [State.sweepEntry, entry]
    rw [this]
    exact .refl s
  | some o =>
    rw [sweepEntry_eq entry]
    obtain ⟨he, hc, hb⟩ := retireIf_people (offRoll s e o) o
    have quiet : SameZones s (offRoll s e o) := ⟨⟨rfl, rfl, rfl⟩, fun _ => rfl, rfl⟩
    refine ⟨fun _ m O A => left_trace (Table.mem_of_get entry) (he.trans rfl) ?_ ?_ ?_ ?_⟩
    · exact (offRoll_waiting s e o).trans hc
    · exact hb.imp id fun h => h.congr rfl
    · exact .trans (.single (offRoll_alarms s e o)) (retireIf_alarms ..)
    · exact .trans (.single (.same (B := A) quiet subset_rfl)) (.single (.same (retireIf_zones ..) subset_rfl))

theorem sweep_trace : Trace w .rolls ⟨s, O, A⟩ ⟨s.sweep r, O, A⟩ := by
  unfold State.sweep
  dsimp only
  refine Trace.handedOn ((((Keeps.foldl sweepEntry_keeps _ s).trace _ _ _ _).trans (setRoom_trace (.inl ?_))).trans
    ((reconcile_trace.trans (.owe (by simp))).trans ((lapseGone_keeps ..).trace _ _ _ _)))
  simp

/-- The removal of one entry up to its erasure: the escort's count, the visitors' lapse, and the contexts (R64). -/
def unlinked (s : State) (e : Nat) (o : OccEntry) : State :=
  let s : State := match o.link with | none => s | some x => s.modEntry x fun o => { o with escorted := o.escorted - 1 }
  let s : State :=
    if o.escorted = 0 then s
    else (s.setEntries (s.roll.entries.mapAll (OccEntry.lapse e))).raiseAlarm (.forRoomBearer .escortLapse o.room o.bearer)
  s.dropEscortContexts e

/-- The removal of one entry from its erasure to the retirement of its bearer. -/
def erased (s : State) (e : Nat) (o : OccEntry) : State :=
  let s := s.setEntries (s.roll.entries.erase e)
  let s := s.setRoom o.room { s.roll.rooms[o.room] with list := s.roll.rooms[o.room].list.filter (· ≠ e) }
  let s : State := s.alarmGone o.overdueKey
  if o.lapsed && s.lapsedCount o.room = 0 then s.lapseGone o.room else s

theorem removeEntry_eq (s : State) (e : Nat) (o : OccEntry) :
    s.removeEntry e o = (retireIf (erased (unlinked s e o) e o) o).handOn o.room := rfl

theorem unlinked_keeps (s : State) (e : Nat) (o : OccEntry) : Keeps s (unlinked s e o) := by
  unfold unlinked
  have linked : Keeps s (match o.link with | none => s | some x => s.modEntry x fun o => { o with escorted := o.escorted - 1 }) := by
    split
    · exact .refl s
    · exact modEntry_keeps s _ fun _ => rfl
  refine linked.trans ?_
  generalize (match o.link with | none => s | some x => s.modEntry x fun o => { o with escorted := o.escorted - 1 }) = u
  dsimp only
  split
  · exact dropEscortContexts_keeps ..
  · refine ((mapEntries_keeps u fun o => ?_).trans (raiseAlarm_keeps ..)).trans (dropEscortContexts_keeps ..)
    unfold OccEntry.lapse
    split <;> rfl

theorem mem_modify_of_mem {α : Type} {t : Table α} {e : Nat} {a : α} (h : (e, a) ∈ t) (n : Nat) (f : α → α) :
    (e, if e = n then f a else a) ∈ Table.modify t n f := by
  refine List.mem_map.mpr ⟨(e, a), h, ?_⟩
  dsimp only
  split <;> rfl

theorem mem_mapAll_of_mem {α : Type} {t : Table α} {e : Nat} {a : α} (h : (e, a) ∈ t) (f : α → α) : (e, f a) ∈ Table.mapAll t f :=
  List.mem_map.mpr ⟨(e, a), h, rfl⟩

/-- The bearer of an entry is not changed by the removal's first part. -/
theorem unlinked_entry {e : Nat} {o : OccEntry} (entry : (e, o) ∈ s.roll.entries) :
    ∃ q, (e, q) ∈ (unlinked s e o).roll.entries ∧ q.bearer = o.bearer := by
  unfold unlinked
  have linked : ∃ q, (e, q) ∈ (match o.link with | none => s | some x => s.modEntry x fun o => { o with escorted := o.escorted - 1 } :
      State).roll.entries ∧ q.bearer = o.bearer := by
    split
    · exact ⟨o, entry, rfl⟩
    · next x _ =>
      exact ⟨_, mem_modify_of_mem entry x fun o => { o with escorted := o.escorted - 1 }, by split <;> rfl⟩
  generalize (match o.link with | none => s | some x => s.modEntry x fun o => { o with escorted := o.escorted - 1 }) = u
    at linked ⊢
  obtain ⟨q, hq, hb⟩ := linked
  dsimp only
  split
  · exact ⟨q, hq, hb⟩
  · refine ⟨OccEntry.lapse e q, by simpa using mem_mapAll_of_mem hq (OccEntry.lapse e), ?_⟩
    unfold OccEntry.lapse
    split <;> exact hb

theorem erased_alarms (s : State) (e : Nat) (o : OccEntry) : ReflTransGen (AlarmAct w) s (erased s e o) := by
  unfold erased
  dsimp only
  have overdue (t : State) (ht : t.alarms = s.alarms ∧ t.due = s.due) : ReflTransGen (AlarmAct w) s (t.alarmGone o.overdueKey) :=
    .trans (.single (.same ht.1 ht.2)) ((alarmGone_keeps ..).beside.alarms w)
  split
  · refine .trans ?_ ((lapseGone_keeps ..).beside.alarms w)
    exact overdue _ ⟨rfl, rfl⟩
  · exact overdue _ ⟨rfl, rfl⟩

theorem erased_people (s : State) (e : Nat) (o : OccEntry) :
    (erased s e o).roll.entries = s.roll.entries.erase e ∧ (erased s e o).bt = s.bt ∧ (erased s e o).ctx = s.ctx := by
  unfold erased
  dsimp only
  split <;> exact ⟨rfl, rfl, rfl⟩

theorem erased_zones (s : State) (e : Nat) (o : OccEntry) :
    ZoneAct .rolls ⟨s, O, A⟩ ⟨erased s e o, insert o.room O, A⟩ := by
  refine .room rfl o.room { s.roll.rooms[o.room] with list := s.roll.rooms[o.room].list.filter (· ≠ e) } (.inl ?_) ?_ ?_ ?_ ?_ ?_
  · exact List.length_filter_le ..
  all_goals unfold erased; dsimp only; split <;> rfl

theorem removeEntry_trace {e : Nat} {o : OccEntry} (entry : (e, o) ∈ s.roll.entries) :
    Trace w .rolls ⟨s, O, A⟩ ⟨s.removeEntry e o, O, A⟩ := by
  rw [removeEntry_eq]
  refine Trace.handedOn (((unlinked_keeps s e o).trace _ _ _ _).trans ?_)
  obtain ⟨q, hq, bearer⟩ := unlinked_entry entry
  generalize unlinked s e o = u at hq ⊢
  obtain ⟨hee, heb, hec⟩ := erased_people u e o
  obtain ⟨he, hc, hb⟩ := retireIf_people (erased u e o) o
  refine left_trace hq (he.trans hee) ((NoNewWaiting.of_eq hec).trans hc) ?_ ?_ ?_
  · rw [bearer]
    exact hb.imp (fun h => h.trans heb) fun h => h.congr heb
  · exact (erased_alarms ..).trans (retireIf_alarms ..)
  · exact .trans (.single (erased_zones (A := A) ..)) (.single (.same (retireIf_zones ..) subset_rfl))

end Sys2Proof.Proofs.Acts
end

section
/-! PROOFS. The acts of admissions and of the access decision (chapters 3 and 4), of the door unit's points, and of presentations. -/
namespace Sys2Proof.Proofs.Acts

open Sys2Proof Sys2Proof.Machine Sys2Proof.Safety Relation

variable {w : Allows} {s : State} {r z : Room} {m : Mode} {O : Set Room} {A : Set Nat}

/-! ### Admissions -/

theorem lowestFree_none {α : Type} {t : Table α} {lo n k : Nat} (h : Table.lowestFree t lo n = some k) : Table.get t k = none := by
  induction n generalizing lo with
  | zero => cases h
  | succ n ih =>
    unfold Table.lowestFree at h
    split at h
    · exact ih h
    · next free =>
      cases h
      simpa using free

/-- The entry of an admission, and the state with it stored and listed, before the escort's count. -/
def freshEntry (s : State) (r : Room) (a : Admission) : OccEntry :=
  { bearer := a.bearer, room := r, entryTick := s.roll.tick, link := a.escort, escorted := 0, revokedInside := false
    lapsed := false, counter := 0, checkIn := .off, promptDue := false }

def listed (s : State) (r : Room) (a : Admission) (e : Nat) : State :=
  (s.setEntries (s.roll.entries.set e (freshEntry s r a))).setRoom r { s.roll.rooms[r] with list := s.roll.rooms[r].list ++ [e] }

theorem admitOne_eq (r : Room) (s : State) (a : Admission) :
    s.admitOne r a =
      match s.roll.entries.lowestFree 1 Config.maxOccEntries with
      | none => s
      | some e =>
        match a.escort with
        | none => listed s r a e
        | some x => (listed s r a e).modEntry x fun o => { o with escorted := o.escorted + 1 } := by
  obtain ⟨b, escort⟩ := a
  unfold State.admitOne
  cases s.roll.entries.lowestFree 1 Config.maxOccEntries with
  | none => rfl
  | some e => cases escort <;> rfl

theorem listed_trace {a : Admission} {e : Nat} (slot : s.roll.entries.get e = none) (fit : Candidate s A a.bearer)
    (place : s.headCount r < s.sup.profiles[r].capacity) :
    Trace w .rolls ⟨s, O, A⟩ ⟨listed s r a e, insert r O, insert a.bearer A⟩ := by
  have admitted : PeopleAct ⟨s, O, A⟩ ⟨listed s r a e, insert r O, insert (freshEntry s r a).bearer A⟩ :=
    .admitted (s := s) (t := listed s r a e) ⟨rfl, rfl⟩ e (freshEntry s r a) slot fit rfl
  refine ⟨.single (.same rfl rfl), .single admitted, .single ?_⟩
  refine .room rfl r { s.roll.rooms[r] with list := s.roll.rooms[r].list ++ [e] } (.inr ?_) rfl rfl rfl rfl rfl
  have := place
  simp only [State.headCount] at this
  simp only [List.length_append, List.length_singleton]
  omega

/-- A debt may stand on the people's side that nothing calls for. -/
theorem Trace.placed {B : Set Nat} (h : A ⊆ B) : Trace w m ⟨s, O, A⟩ ⟨s, O, B⟩ :=
  ⟨.refl, .single (.same (.refl s) h), .single (.same (.refl s) subset_rfl)⟩

theorem admitOne_trace {a : Admission} (fit : Candidate s A a.bearer) (place : s.headCount r < s.sup.profiles[r].capacity) :
    Trace w .rolls ⟨s, O, A⟩ ⟨s.admitOne r a, insert r O, insert a.bearer A⟩ := by
  rw [admitOne_eq]
  split
  · exact (Trace.owe (Set.subset_insert r O)).trans (.placed (Set.subset_insert _ A))
  · next e he =>
    have listed_ := listed_trace (w := w) (O := O) (lowestFree_none he) fit place
    split
    · exact listed_
    · exact listed_.trans ((modEntry_keeps _ _ (by exact fun _ => rfl)).trace _ _ _ _)

theorem mem_of_mem_set {α : Type} {t : Table α} {n : Nat} {a : α} {p : Nat × α} (h : p ∈ Table.set t n a) : p = (n, a) ∨ p ∈ t := by
  induction t with
  | nil => exact .inl (by simpa [Table.set] using h)
  | cons q t ih =>
    unfold Table.set at h
    split at h
    · simpa using h
    · split at h
      · have := List.mem_cons.mp h
        exact this.imp id fun h => List.mem_cons_of_mem _ h
      · rcases List.mem_cons.mp h with h | h
        · exact .inr (by simp [h])
        · exact (ih h).imp id fun h => List.mem_cons_of_mem _ h

/-- Each entry of a modified table has the bearer of an entry of the table. -/
theorem mem_modify_bearer {t : Table OccEntry} {x : Nat} {f : OccEntry → OccEntry} (hf : ∀ o, (f o).bearer = o.bearer)
    {p : Nat × OccEntry} (h : p ∈ Table.modify t x f) : ∃ q ∈ t, q.2.bearer = p.2.bearer := by
  simp only [Table.modify, List.mem_map] at h
  obtain ⟨q, hq, rfl⟩ := h
  refine ⟨q, hq, ?_⟩
  split
  · exact (hf _).symm
  · rfl

/-- An admission gives an entry to its bearer alone. -/
theorem admitOne_outside {a : Admission} {b : Nat} (other : b ≠ a.bearer) (outside : s.entryOf b = none) :
    (s.admitOne r a).entryOf b = none := by
  rw [entryOf_eq_none] at outside ⊢
  rw [admitOne_eq]
  have listed_ (e : Nat) : ∀ p ∈ (listed s r a e).roll.entries, p.2.bearer ≠ b := by
    intro p hp
    rcases mem_of_mem_set hp with rfl | hp
    · exact fun h => other h.symm
    · exact outside p hp
  split
  · exact outside
  · split
    · exact listed_ _
    · next e _ _ x _ =>
      intro p (hp : p ∈ (listed s r a e).roll.entries.modify x fun o => { o with escorted := o.escorted + 1 })
      obtain ⟨q, hq, h⟩ := mem_modify_bearer (by exact fun _ => rfl) hp
      exact h ▸ listed_ _ q hq

theorem admitOne_ctx (r : Room) (s : State) (a : Admission) : (s.admitOne r a).ctx = s.ctx := by simp

theorem admitOne_headCount (r : Room) (s : State) (a : Admission) : (s.admitOne r a).headCount r ≤ s.headCount r + 1 := by
  rw [admitOne_eq]
  have listed_ (e : Nat) : (listed s r a e).headCount r = s.headCount r + 1 := by simp [listed, State.headCount]
  split
  · omega
  · split
    · exact (listed_ _).le
    · exact (listed_ _).le

theorem Candidate.admitOne {a : Admission} {b : Nat} (h : Candidate s A b) (other : b ≠ a.bearer) :
    Candidate (s.admitOne r a) (insert a.bearer A) b := by
  refine h.imp (fun ⟨live, outside⟩ => ⟨by simpa using live, admitOne_outside other outside⟩) fun ⟨new, waits⟩ => ⟨?_, ?_⟩
  · simp [other, new]
  · simpa [NotWaiting, admitOne_ctx] using waits

/-- The bearers of a list of admissions. -/
def bearersOf (as : List Admission) : Set Nat := {b | ∃ a ∈ as, a.bearer = b}

theorem admits_trace {as : List Admission} (fit : ∀ a ∈ as, Candidate s A a.bearer) (distinct : (as.map Admission.bearer).Nodup)
    (place : s.headCount r + as.length ≤ s.sup.profiles[r].capacity) :
    Trace w .rolls ⟨s, O, A⟩ ⟨as.foldl (State.admitOne r) s, insert r O, A ∪ bearersOf as⟩ := by
  induction as generalizing s A O with
  | nil => exact (Trace.owe (Set.subset_insert r O)).trans (.placed Set.subset_union_left)
  | cons a as ih =>
    have distinct' := List.nodup_cons.mp distinct
    simp only [List.length_cons] at place
    have first := admitOne_trace (w := w) (O := O) (fit a (by simp)) (show s.headCount r < s.sup.profiles[r].capacity by omega)
    have rest := @ih (s.admitOne r a) (insert r O) (insert a.bearer A)
      (fun b hb => (fit b (by simp [hb])).admitOne fun h => distinct'.1 (h ▸ List.mem_map_of_mem hb)) distinct'.2
      (by
        have := admitOne_headCount r s a
        have kept : (s.admitOne r a).sup = s.sup := by simp
        rw [kept]
        omega)
    refine (first.trans rest).trans ((Trace.owe (by simp)).trans (.placed ?_))
    rintro b ((rfl | hb) | ⟨c, hc, rfl⟩)
    · exact .inr ⟨a, by simp, rfl⟩
    · exact .inl hb
    · exact .inr ⟨c, by simp [hc], rfl⟩

/-! ### Contexts through a grant -/

theorem enterZone_noNewWaiting (s : State) (z : Room) (st : ZoneState) : NoNewWaiting s (s.enterZone z st) := by
  unfold State.enterZone
  dsimp only
  split
  · exact .of_eq (by simp)
  · exact (NoNewWaiting.of_eq (by simp)).trans (dropContext_noNewWaiting _ z)

theorem NoNewWaiting.after {t u : State} (h : NoNewWaiting t u) (same : t.ctx = s.ctx) : NoNewWaiting s u :=
  (NoNewWaiting.of_eq same).trans h

theorem actOnHolds_noNewWaiting (s : State) (z : Room) : NoNewWaiting s (s.actOnHolds z) := by
  unfold State.actOnHolds
  dsimp only
  split
  · exact (enterZone_noNewWaiting _ z _).after rfl
  · exact (enterZone_noNewWaiting _ z _).after rfl
  · exact (enterZone_noNewWaiting _ z _).after rfl
  · exact .refl s

theorem rederive_noNewWaiting (s : State) (z : Room) : NoNewWaiting s (s.rederive z) :=
  (actOnHolds_noNewWaiting _ z).after rfl

theorem handOn_noNewWaiting (s : State) (r : Room) : NoNewWaiting s (s.handOn r) :=
  (rederive_noNewWaiting s r).trans (.of_eq (by rw [State.handOn]; simp))

theorem admitAll_noNewWaiting (s : State) (r : Room) (as : List Admission) : NoNewWaiting s (s.admitAll r as) :=
  (handOn_noNewWaiting _ r).after (by simp)

theorem dropWaiting_noNewWaiting (s : State) (r : Room) (b : Nat) : NoNewWaiting s (s.dropWaiting r b) :=
  dropContexts_noNewWaiting s _

theorem dropWaiting_keeps (s : State) (r : Room) (b : Nat) : Keeps s (s.dropWaiting r b) := dropContexts_keeps ..

/-- A CUSTODY context that is kept fails the test. -/
theorem dropContexts_custody {test : Room → Context → Bool} {d : Room} {n : Bool} {w b : Nat} {g : Rights}
    (h : (s.dropContexts test).ctx[d] = .custody n w b g) :
    s.ctx[d] = .custody n w b g ∧ test d (.custody n w b g) = false := by
  simp only [State.dropContexts, Fin.getElem_fin, vgen_get] at h
  by_cases dropped : test d s.ctx[d] = true
  · simp_all
  · have same : s.ctx[d] = .custody n w b g := by simpa [show test d s.ctx[d.val] = false by simpa using dropped] using h
    exact ⟨same, by simpa [same] using dropped⟩

/-- Elsewhere no context waits for a bearer that is dropped. -/
def NotWaitingElsewhere (s : State) (r : Room) (b : Nat) : Prop := ∀ (d : Room) n w g, d ≠ r → s.ctx[d] ≠ .custody n w b g

theorem dropWaiting_elsewhere (s : State) (r : Room) (b : Nat) : NotWaitingElsewhere (s.dropWaiting r b) r b := by
  intro d n w g hd h
  have kept := (dropContexts_custody h).2
  simp [hd] at kept

theorem NotWaitingElsewhere.mono {t : State} {b : Nat} (h : NotWaitingElsewhere s r b) (hc : NoNewWaiting s t) :
    NotWaitingElsewhere t r b := by
  intro d n w g hd ht
  obtain ⟨_, _, hs⟩ := hc d n w b g ht
  exact h d _ _ g hd hs

theorem dropsWaiting_noNewWaiting (s : State) (r : Room) (as : List Admission) :
    NoNewWaiting s (as.foldl (fun s a => s.dropWaiting r a.bearer) s) := by
  induction as generalizing s with
  | nil => exact .refl s
  | cons a as ih => exact (dropWaiting_noNewWaiting s r a.bearer).trans (ih _)

theorem dropsWaiting_elsewhere (s : State) (r : Room) {as : List Admission} {b : Nat} (hb : b ∈ bearersOf as) :
    NotWaitingElsewhere (as.foldl (fun s a => s.dropWaiting r a.bearer) s) r b := by
  obtain ⟨a, ha, rfl⟩ := hb
  induction as generalizing s with
  | nil => simp at ha
  | cons c as ih =>
    rcases List.mem_cons.mp ha with rfl | ha
    · exact (dropWaiting_elsewhere s r a.bearer).mono (dropsWaiting_noNewWaiting _ r as)
    · exact ih _ ha

theorem grantEntry_noNewWaiting (s : State) (r : Room) (as : List Admission) : NoNewWaiting s (s.grantEntry r as) :=
  (NoNewWaiting.of_eq (t := s.release r .entry) (by simp)).trans ((admitAll_noNewWaiting _ r as).trans (dropsWaiting_noNewWaiting _ r as))

theorem Candidate.release {b : Nat} (h : Candidate s A b) (k : ReleaseKind) : Candidate (s.release r k) A b := by
  simpa [Candidate, State.entryOf, NotWaiting] using h

/-- A grant: the release and the admissions, with the bearers' contexts elsewhere dropped. -/
theorem grantEntry_trace {as : List Admission} (fit : ∀ a ∈ as, Candidate s A a.bearer) (distinct : (as.map Admission.bearer).Nodup)
    (place : s.headCount r + as.length ≤ s.sup.profiles[r].capacity) :
    Trace w .rolls ⟨s, O, A⟩ ⟨s.grantEntry r as, O, A ∪ bearersOf as⟩ := by
  unfold State.grantEntry State.admitAll
  have released := (release_keeps s r .entry).trace w .rolls O A
  have admitted := admits_trace (w := w) (s := s.release r .entry) (r := r) (O := O) (fun a ha => (fit a ha).release .entry) distinct
    (by simpa [State.headCount] using place)
  have dropped := Keeps.foldl (fun s (a : Admission) => dropWaiting_keeps s r a.bearer) as
    ((as.foldl (State.admitOne r) (s.release r .entry)).handOn r)
  have handed := (released.trans admitted).trans (handOn_trace (z := r))
  have handed := handed.trans (.owe (P := O) (by simp))
  exact handed.trans (dropped.trace _ _ _ _)

/-- Bearers for whom no context waits are placed. -/
theorem Trace.settle (l : List Nat) (h : ∀ b ∈ l, NotWaiting s b) : Trace w m ⟨s, O, {b | b ∈ l}⟩ ⟨s, O, ∅⟩ := by
  induction l with
  | nil => exact .placed (by simp)
  | cons b l ih =>
    have settled : Trace w m ⟨s, O, {c | c ∈ b :: l}⟩ ⟨s, O, {c | c ∈ b :: l} \ {b}⟩ :=
      ⟨.refl, .single (.settled b (h b (by simp))), .single (.same (.refl s) subset_rfl)⟩
    refine (settled.trans (.placed ?_)).trans (ih fun c hc => h c (by simp [hc]))
    intro c hc
    simp at hc
    exact hc.1.resolve_left hc.2

theorem bearersOf_eq (as : List Admission) : bearersOf as = {b | b ∈ as.map Admission.bearer} := by
  ext b
  simp [bearersOf]

/-- A grant followed by a change of contexts after which nobody admitted waits. -/
theorem granted_trace {as : List Admission} {t : State} (fit : ∀ a ∈ as, Candidate s ∅ a.bearer)
    (distinct : (as.map Admission.bearer).Nodup) (place : s.headCount r + as.length ≤ s.sup.profiles[r].capacity)
    (after : Keeps (s.grantEntry r as) t) (settled : ∀ b ∈ as.map Admission.bearer, NotWaiting t b) :
    Trace w .rolls ⟨s, ∅, ∅⟩ ⟨t, ∅, ∅⟩ := by
  have granted := grantEntry_trace (w := w) (O := ∅) fit distinct place
  rw [Set.empty_union, bearersOf_eq] at granted
  exact (granted.trans (after.trace _ _ _ _)).trans (.settle _ settled)

/-! ### Stages 7 to 9 -/

theorem openGroup_eq (s : State) (r : Room) (night : Bool) (b : Nat) (rights : Rights) :
    s.openGroup r night b rights = s ∨ ∃ n w c e, s.openGroup r night b rights = s.setCtx r (.escort n w c e) := by
  unfold State.openGroup
  split
  · split
    · exact .inl rfl
    · exact .inr ⟨_, _, _, _, rfl⟩
  · exact .inl rfl

theorem openGroup_noNewWaiting (s : State) (r : Room) (night : Bool) (b : Nat) (rights : Rights) :
    NoNewWaiting s (s.openGroup r night b rights) := by
  rcases openGroup_eq s r night b rights with h | ⟨_, _, _, _, h⟩ <;> rw [h]
  · exact .refl s
  · exact setCtx_noNewWaiting s r (by simp)

theorem openGroup_keeps (s : State) (r : Room) (night : Bool) (b : Nat) (rights : Rights) :
    Keeps s (s.openGroup r night b rights) := by
  rcases openGroup_eq s r night b rights with h | ⟨_, _, _, _, h⟩ <;> rw [h]
  · exact .refl s
  · exact setCtx_keeps s r (by simp)

theorem NotWaiting.mono {t : State} {b : Nat} (h : NotWaiting s b) (hc : NoNewWaiting s t) : NotWaiting t b := by
  intro d n w g ht
  obtain ⟨_, _, hs⟩ := hc d n w b g ht
  exact h d _ _ g hs

/-- At a door whose context is no CUSTODY context a granted bearer waits nowhere. -/
theorem granted_notWaiting {as : List Admission} {b : Nat} (hb : b ∈ as.map Admission.bearer)
    (here : ∀ n w c g, s.ctx[r] ≠ .custody n w c g) : NotWaiting (s.grantEntry r as) b := by
  intro d n w g h
  by_cases hd : d = r
  · subst hd
    obtain ⟨_, _, h'⟩ := grantEntry_noNewWaiting s d as d n w b g h
    exact here _ _ _ _ h'
  · exact dropsWaiting_elsewhere ((s.release r .entry).admitAll r as) r (bearersOf_eq as ▸ hb) d n w g hd h

theorem plainGrant_trace {b : Nat} {night : Bool} {rights : Rights} (live : (s.bt.bearers.get b).isSome = true)
    (outside : s.entryOf b = none) (place : s.headCount r + 1 ≤ s.sup.profiles[r].capacity)
    (here : ∀ n w c g, s.ctx[r] ≠ .custody n w c g) : Trace w .rolls ⟨s, ∅, ∅⟩ ⟨(s.plainGrant r b night rights).1, ∅, ∅⟩ := by
  have opened := openGroup_keeps (s.grantEntry r [⟨b, none⟩]) r night b rights
  refine granted_trace (as := [⟨b, none⟩]) (fun a ha => ?_) (by simp) place opened fun c hc => ?_
  · obtain rfl : a = ⟨b, none⟩ := by simpa using ha
    exact .inl ⟨live, outside⟩
  · exact (granted_notWaiting hc here).mono (openGroup_noNewWaiting _ r night b rights)

theorem completePair_trace {first second : Nat} {rights : Rights} {night n : Bool} {v : Nat}
    (waits : s.ctx[r] = .custody n v first rights) (other : first ≠ second) (live : (s.bt.bearers.get second).isSome = true)
    (outside : s.entryOf second = none) (place : s.headCount r + 2 ≤ s.sup.profiles[r].capacity) :
    Trace w .rolls ⟨s, ∅, ∅⟩ ⟨(s.completePair r first rights night second).1, ∅, ∅⟩ := by
  have emptied := setCtx_keeps (s.grantEntry r [⟨first, none⟩, ⟨second, none⟩]) r (c := .empty) (by simp)
  have opened := openGroup_keeps ((s.grantEntry r [⟨first, none⟩, ⟨second, none⟩]).setCtx r .empty) r night first rights
  have waiting := openGroup_noNewWaiting ((s.grantEntry r [⟨first, none⟩, ⟨second, none⟩]).setCtx r .empty) r night first rights
  refine granted_trace (as := [⟨first, none⟩, ⟨second, none⟩]) (fun a ha => ?_) (by simpa using other) place
    (emptied.trans opened) fun c hc => NotWaiting.mono ?_ waiting
  · rcases List.mem_pair.mp ha with rfl | rfl
    · exact .inr ⟨by simp, fun h => h r n v rights waits⟩
    · exact .inl ⟨live, outside⟩
  · intro d n w g h
    by_cases hd : r = d
    · subst hd
      simp at h
    · rw [State.setCtx_ctx, vset_other _ _ hd] at h
      exact dropsWaiting_elsewhere _ r (bearersOf_eq _ ▸ hc) d n w g (Ne.symm hd) h

theorem custodyStage_trace {b : Nat} {night : Bool} {rights : Rights} (live : (s.bt.bearers.get b).isSome = true)
    (outside : s.entryOf b = none) (place : s.headCount r + 2 ≤ s.sup.profiles[r].capacity) :
    Trace w .rolls ⟨s, ∅, ∅⟩ ⟨(s.custodyStage r b night rights).1, ∅, ∅⟩ := by
  unfold State.custodyStage
  split
  · next n w first g waits =>
    split
    · exact .refl _ _
    · next other =>
      split
      · exact completePair_trace waits other live outside place
      · exact .refl _ _
  · split
    · refine ⟨.single (.same rfl rfl), .single (.waits ⟨rfl, rfl⟩ outside live fun d n w c g h => ?_),
        .single (.same ⟨⟨rfl, rfl, rfl⟩, fun _ => rfl, rfl⟩ subset_rfl)⟩
      by_cases hd : r = d
      · subst hd
        simp only [State.setCtx_ctx, Fin.getElem_fin, Vector.getElem_set_self, Context.custody.injEq] at h
        exact .inl h.2.2.1.symm
      · rw [State.setCtx_ctx, vset_other _ _ hd] at h
        exact .inr ⟨_, _, h⟩
    · exact .refl _ _

theorem visitorStage_trace {b : Nat} (live : (s.bt.bearers.get b).isSome = true) (outside : s.entryOf b = none)
    (place : s.headCount r + 1 ≤ s.sup.profiles[r].capacity) :
    Trace w .rolls ⟨s, ∅, ∅⟩ ⟨(s.visitorStage r b).1, ∅, ∅⟩ := by
  unfold State.visitorStage
  split
  · next n w escort e context =>
    extract_lets count limit granted
    clear_value count
    split
    · exact (setCtx_keeps s r (c := .empty) (by simp)).trace _ _ _ _
    · generalize next : (if count + 1 = limit then Context.empty else .escort n s.sup.profiles[r].window escort e) = c
      have makesNone (u : State) : ∀ n w b g, c = .custody n w b g → ∃ m v, u.ctx[r] = .custody m v b g := by
        intro _ _ _ _ h
        subst next
        split at h <;> cases h
      have here : ∀ n w c g, s.ctx[r] ≠ .custody n w c g := by simp [context]
      refine granted_trace (as := [⟨b, some e⟩]) (fun a ha => ?_) (by simp) place
        (setCtx_keeps (s.grantEntry r [⟨b, some e⟩]) r (makesNone _)) fun c hc => ?_
      · obtain rfl : a = ⟨b, some e⟩ := by simpa using ha
        exact .inl ⟨live, outside⟩
      · exact (granted_notWaiting hc here).mono (setCtx_noNewWaiting _ r (makesNone _))
  · exact .refl _ _

theorem custodyApplies_of_waiting {cls : Sys2Proof.Class} {night : Bool} (staff : cls ≠ .visitor)
    (none : s.custodyApplies r cls night = false) : ∀ n w c g, s.ctx[r] ≠ .custody n w c g := by
  intro n w c g h
  have applies : s.custodyApplies r cls night = true := by
    unfold State.custodyApplies
    rw [h]
    simp [staff]
  simp [applies] at none

theorem lastStages_trace {b : Nat} {cls : Sys2Proof.Class} {night : Bool} {rights : Rights}
    (live : (s.bt.bearers.get b).isSome = true) : Trace w .rolls ⟨s, ∅, ∅⟩ ⟨(s.lastStages r b cls night rights).1, ∅, ∅⟩ := by
  unfold State.lastStages
  split
  · exact .refl _ _
  next outside =>
  have outside : s.entryOf b = none := by simpa using outside
  generalize places : (if s.custodyApplies r cls night then 2 else 1) = n
  split
  · exact .refl _ _
  next fits =>
  have place : s.headCount r + n ≤ s.sup.profiles[r].capacity := by
    simp only [Bool.not_eq_true', Bool.not_eq_false, State.roomFor, Bool.and_eq_true, decide_eq_true_eq] at fits
    exact fits.1
  have one : s.headCount r + 1 ≤ s.sup.profiles[r].capacity := by
    refine le_trans ?_ place
    subst places
    split <;> omega
  unfold State.pairingStage
  split
  · exact visitorStage_trace live outside one
  next staff =>
  split
  · next applies => exact custodyStage_trace live outside (by rwa [← places, if_pos applies] at place)
  · next applies => exact plainGrant_trace live outside one (custodyApplies_of_waiting staff (by simpa using applies))

/-! ### The entry decision -/

theorem pinStage_live (s : State) (r : Room) {b : Nat} (rec : Bearer) (night : Bool) (digits : List Nat)
    (live : (s.bt.bearers.get b).isSome = true) (passes : (s.pinStage r b rec night digits).2 = none) :
    ((s.pinStage r b rec night digits).1.bt.bearers.get b).isSome = true := by
  have pin (t : State) (ht : (t.bt.bearers.get b).isSome = true) : ((t.pinCorrect b).bt.bearers.get b).isSome = true := by
    simpa [State.pinCorrect, State.modBearer, Table.get_modify] using ht
  have duress : ((s.duressPin r b).bt.bearers.get b).isSome = true := by simpa [State.duressPin] using pin s live
  revert passes
  unfold State.pinStage
  split
  · split
    · simp
    · simp
    · simp
    · split
      · exact fun _ => pin s live
      · split
        · exact fun _ => duress
        · simp
  · split
    · exact fun _ => live
    · split
      · exact fun _ => duress
      · exact fun _ => live

theorem decideBearer_trace {b : Nat} {rec : Bearer} {digits : List Nat} (live : (s.bt.bearers.get b).isSome = true) :
    Trace w .rolls ⟨s, ∅, ∅⟩ ⟨(s.decideBearer r b rec digits).1, ∅, ∅⟩ := by
  unfold State.decideBearer
  split
  · exact .refl _ _
  · dsimp only
    split
    · exact .refl _ _
    · exact .refl _ _
    · have pin := pinStage_keeps s r b rec (s.nightRules r rec.cls) digits
      have passed := pinStage_live s r rec (s.nightRules r rec.cls) digits live
      split
      · next h =>
        rw [h] at pin
        exact pin.trace _ _ _ _
      · next h =>
        rw [h] at pin passed
        exact (pin.trace _ _ _ _).trans (lastStages_trace (passed rfl))

theorem decideToken_trace {t : Token} {digits : List Nat} : Trace w .rolls ⟨s, ∅, ∅⟩ ⟨(s.decideToken r t digits).1, ∅, ∅⟩ := by
  unfold State.decideToken
  split
  · exact .refl _ _
  · split
    · exact .refl _ _
    · next live =>
      split
      · exact .refl _ _
      · exact .refl _ _
      · exact decideBearer_trace (by simp [live])

theorem entryOf_get {b e : Nat} {o : OccEntry} (h : s.entryOf b = some (e, o)) : (e, o) ∈ s.roll.entries ∧ o.bearer = b :=
  ⟨List.mem_of_find?_eq_some h, by simpa using List.find?_some h⟩

end Sys2Proof.Proofs.Acts
end

section
/-! PROOFS. The acts of the door unit's points, of presentations, and of the requests about the roll (chapters 3 to 5). -/
namespace Sys2Proof.Proofs.Acts

open Sys2Proof Sys2Proof.Machine Sys2Proof.Safety Relation

variable {w : Allows} {s : State} {r z : Room} {O : Set Room} {A : Set Nat}

/-! ### The points of the door unit -/

/-- An operation that changes who is in a strongroom, or its mark, and pays what it owes. -/
structure Rolls (w : Allows) (s t : State) : Prop where
  trace : ∀ O A, Trace w .rolls ⟨s, O, A⟩ ⟨t, O, A⟩

theorem Keeps.rolls {t : State} (h : Keeps s t) : Rolls w s t := ⟨h.trace w .rolls⟩

theorem Owes.rolls {t : State} (h : Owes s t) (owes : w.owes = true) : Rolls w s t := ⟨h.trace w owes .rolls⟩

theorem Rolls.refl (s : State) : Rolls w s s := (Keeps.refl s).rolls

theorem Rolls.trans {t u : State} (h : Rolls w s t) (h' : Rolls w t u) : Rolls w s u := ⟨fun O A => (h.trace O A).trans (h'.trace O A)⟩

theorem egressOpening_rolls (s : State) (r : Room) : Rolls w s (s.egressOpening r) := ⟨fun _ _ => egressOpening_trace⟩

theorem egressPressed_rolls (s : State) (r : Room) : Rolls w s (s.egressPressed r) := by
  unfold State.egressPressed
  dsimp only
  have released := (release_keeps s r .egress).rolls (w := w)
  split
  · exact released.trans (egressOpening_rolls ..)
  · exact released

theorem contactOpened_rolls (s : State) (r : Room) : Rolls w s (s.contactOpened r) := by
  unfold State.contactOpened
  dsimp only
  split
  · split
    · exact (setDoor_keeps s r _).rolls.trans (egressOpening_rolls ..)
    · exact (setDoor_keeps s r _).rolls
  · exact ((setDoor_keeps s r _).trans (raiseAlarm_keeps ..)).rolls
  · exact ((setDoor_keeps s r _).trans (raiseAlarm_keeps ..)).rolls
  · exact .refl s

theorem contactChanged_rolls (owes : w.owes = true) (s : State) (r : Room) (new : PointState) : Rolls w s (s.contactChanged r new) := by
  unfold State.contactChanged
  split
  · exact contactOpened_rolls s r
  · exact (contactClosed_keeps s r).rolls
  · exact (doorUnknown_owes ..).rolls owes
  · exact (doorUnknown_owes ..).rolls owes

theorem doorRecovers_rolls (s : State) (r : Room) : Rolls w s (s.doorRecovers r) := by
  unfold State.doorRecovers
  dsimp only
  split
  · split
    · exact (setDoor_keeps s r _).rolls.trans (egressOpening_rolls ..)
    · exact (setDoor_keeps s r _).rolls
  · split
    · exact (setDoor_keeps s r _).rolls.trans (egressOpening_rolls ..)
    · have forced (d : Door) : Rolls w s ((s.setDoor r d).raiseAlarm (.forRoom .forced r)) :=
        ((setDoor_keeps ..).trans (raiseAlarm_keeps ..)).rolls
      split
      · exact (forced _).trans (egressOpening_rolls ..)
      · exact forced _

theorem doorFollows_rolls (owes : w.owes = true) (s : State) (r : Room) (ch : DoorChanges) : Rolls w s (s.doorFollows r ch) := by
  unfold State.doorFollows
  have dropped : Rolls w s (if ch.egress = some .active then s.dropCancel r else s) := by
    split
    · exact (dropCancel_keeps s r).rolls
    · exact .refl s
  refine dropped.trans ?_
  generalize (if ch.egress = some .active then s.dropCancel r else s) = u
  dsimp only
  have pressed : Rolls w u (if ch.egress = some .active then u.egressPressed r else u) := by
    split
    · exact egressPressed_rolls u r
    · exact .refl u
  split
  · split
    · exact .refl u
    · exact doorRecovers_rolls u r
    · exact doorRecovers_rolls u r
    · exact (doorUnknown_owes ..).rolls owes
    · exact (doorUnknown_owes ..).rolls owes
  · split
    · exact pressed
    · exact pressed.trans (contactChanged_rolls owes ..)

theorem doorPoints_rolls (owes : w.owes = true) (s : State) (a : Addr) (r : Room) (ch : DoorChanges) : Rolls w s (s.doorPoints a r ch) := by
  unfold State.doorPoints
  extract_lets d stored tampered
  have stored_ : Rolls w s stored := (setDoor_keeps ..).rolls
  have tampered_ : Rolls w stored tampered := by
    unfold tampered
    split
    · exact .refl _
    · exact (tamperChanged_keeps ..).rolls
  exact ((stored_.trans tampered_).trans (doorFollows_rolls owes ..)).trans (deriveEnvelope_keeps ..).rolls

/-! ### Presentations -/

theorem exitPresentation_rolls (s : State) (r : Room) (t : Token) : Rolls w s (s.exitPresentation r t).1 := by
  unfold State.exitPresentation
  have released := (release_keeps s r .exit).rolls (w := w)
  generalize s.release r .exit = u at released
  refine released.trans ?_
  dsimp only
  split
  · exact .refl _
  · next e o found =>
    split
    · obtain ⟨b, -, hb⟩ := Option.bind_eq_some_iff.mp found
      exact ⟨fun _ _ => removeEntry_trace (entryOf_get hb).1⟩
    · exact .refl _

/-- A presentation is one event: it pays what it owes, and leaves nobody placed. -/
theorem presentation_trace (s : State) (a : Addr) (r : Room) (p : DoorPresentation) :
    Trace w .rolls ⟨s, ∅, ∅⟩ ⟨(s.presentation a r p).1, ∅, ∅⟩ := by
  unfold State.presentation
  split
  · exact (exitPresentation_rolls s r p.token).trace ∅ ∅
  · unfold State.entryPresentation
    split
    · exact .refl _ _
    · split
      · exact decideToken_trace
      · exact .refl _ _

end Sys2Proof.Proofs.Acts
end

section
/-! PROOFS. The acts of the Site Clock (chapter 2): an evaluation and its consequences, the advance, and the calendar requests. -/
namespace Sys2Proof.Proofs.Acts

open Sys2Proof Sys2Proof.Machine Sys2Proof.Safety Relation

variable {w : Allows} (s : State)

/-- The clock and the Loop Master are on none of the three sides. -/
theorem clk_keeps (c : SiteClock) : Keeps s { s with clk := c } :=
  .quiet rfl rfl ⟨rfl, rfl, rfl⟩ ⟨⟨rfl, rfl, rfl⟩, fun _ => rfl, rfl⟩

theorem loop_keeps (l : LoopMaster) : Keeps s { s with loop := l } :=
  .quiet rfl rfl ⟨rfl, rfl, rfl⟩ ⟨⟨rfl, rfl, rfl⟩, fun _ => rfl, rfl⟩

theorem closingTones_keeps : Keeps s s.closingTones := Keeps.foldl (fun t r => placeTone_keeps t r .closing) _ s

theorem enterSite_keeps (st : SiteState) : Keeps s (s.enterSite st) := by
  unfold State.enterSite
  split
  · exact clk_keeps ..
  · extract_lets _ entered toned
    have toned_ : Keeps entered toned := by
      unfold toned
      split
      · exact closingTones_keeps _
      · exact .refl _
    exact ((clk_keeps s _).trans toned_).trans (retestNight_keeps _)

theorem siteOpens_keeps : Keeps s s.siteOpens := by
  unfold State.siteOpens
  extract_lets _ lapsed
  have lapsed_ : Keeps s lapsed := by
    unfold lapsed
    split
    · exact clk_keeps ..
    · exact .refl s
  refine lapsed_.trans ?_
  split
  · exact .refl _
  · exact enterSite_keeps ..
  · split
    · exact .refl _
    · exact enterSite_keeps ..

theorem siteCloses_keeps : Keeps s s.siteCloses := by
  unfold State.siteCloses
  split
  · exact enterSite_keeps ..
  · exact .refl s

theorem siteFollows_keeps (before : Bool) : Keeps s (s.siteFollows before) := by
  unfold State.siteFollows
  split
  · exact siteOpens_keeps s
  · exact siteCloses_keeps s
  · exact .refl s

theorem evaluate_keeps (before : Bool) : Keeps s (s.evaluate before) :=
  ((clk_keeps s _).trans (siteFollows_keeps _ before)).trans (Keeps.foldl (fun t r => deriveTimeLock_keeps t r) _ _)

theorem takeHoliday_keeps : Keeps s s.takeHoliday := clk_keeps ..

theorem handTime_keeps : Keeps s s.handTime := loop_keeps ..

theorem advanceClock_keeps : Keeps s s.advanceClock := by
  unfold State.advanceClock
  extract_lets before a advanced tested evaluated
  have tested_ : Keeps advanced tested := by
    unfold tested
    split
    · exact takeHoliday_keeps _
    · exact .refl _
  have evaluated_ : Keeps tested evaluated := by
    unfold evaluated
    split
    · exact (evaluate_keeps ..).trans (handTime_keeps _)
    · exact .refl _
  refine (((clk_keeps s a.clk).trans tested_).trans evaluated_).trans ?_
  split
  · exact retention_keeps _
  · exact .refl _

theorem applyOverride_keeps (o : Override) : Keeps s (s.applyOverride o) := by
  refine (clk_keeps s { s.clk with override := o }).trans ?_
  unfold State.applyOverride
  dsimp only
  split <;> exact enterSite_keeps ..

/-- Schedules, holidays and the retention period stored. -/
theorem calendar_keeps (hs : Vector (List Window) 64) (hh : List Holiday) (n : Nat) :
    Keeps s { s with bt := { s.bt with schedules := hs, holidays := hh, retention := n } } :=
  PeopleAct.keeps (fun _ _ => .calendar ⟨rfl, rfl⟩ hs hh n rfl) rfl rfl ⟨⟨rfl, rfl, rfl⟩, fun _ => rfl, rfl⟩

theorem reevaluate_keeps : Keeps s s.reevaluate := evaluate_keeps ..

theorem putHolidays_keeps (hs : List Holiday) : Keeps s (s.putHolidays hs) :=
  ((calendar_keeps s s.bt.schedules hs s.bt.retention).trans (takeHoliday_keeps _)).trans (reevaluate_keeps _)

/-! ### The bodies of the requests -/

theorem clockSetBody_keeps (a : ClockSetArgs) : Keeps s (clockSetBody a s).1 := by
  unfold clockSetBody
  split
  · exact .refl s
  · exact (((clk_keeps s _).trans (takeHoliday_keeps _)).trans (evaluate_keeps ..)).trans (handTime_keeps _)

theorem siteSetBody_keeps (a : SiteSetArgs) : Keeps s (siteSetBody a s).1 := by
  unfold siteSetBody
  split
  · exact .refl s
  · split
    · exact .refl s
    · exact (clk_keeps s _).trans (evaluate_keeps ..)

theorem siteOverrideBody_keeps (o : Override) : Keeps s (siteOverrideBody o s).1 := by
  unfold siteOverrideBody
  split
  · exact .refl s
  · exact applyOverride_keeps s o

theorem scheduleWriteBody_keeps (a : ScheduleWriteArgs) : Keeps s (scheduleWriteBody a s).1 := by
  unfold scheduleWriteBody
  split
  · exact .refl s
  · split
    · exact .refl s
    · exact (calendar_keeps s _ s.bt.holidays s.bt.retention).trans (reevaluate_keeps _)

theorem holidayAddBody_keeps (h : Holiday) : Keeps s (holidayAddBody h s).1 := by
  unfold holidayAddBody
  split
  · exact .refl s
  · split
    · exact .refl s
    · split
      · exact .refl s
      · exact putHolidays_keeps ..

theorem holidayRemoveBody_keeps (h : Holiday) : Keeps s (holidayRemoveBody h s).1 := by
  unfold holidayRemoveBody
  split
  · exact .refl s
  · split
    · exact putHolidays_keeps ..
    · exact .refl s

end Sys2Proof.Proofs.Acts
end

section
/-! PROOFS. The acts of the requests about bearers, chains, the roll, doors, alarms, zones and cylinders. -/
namespace Sys2Proof.Proofs.Acts

open Sys2Proof Sys2Proof.Machine Sys2Proof.Safety Relation

variable {w : Allows} (s : State)

/-! ### Requests that name a room, a record or an alarm -/

theorem withRoom_holds {P : State → Prop} {n : Nat} {body : Room → State × Reply} (refused : P s) (h : ∀ r, P (body r).1) :
    P (withRoom n s body).1 := by
  unfold withRoom
  split
  · exact refused
  · exact h _

theorem withBearer_holds {P : State → Prop} {b : Nat} {body : Bearer → State × Reply} (refused : P s)
    (h : ∀ r, s.bt.bearers.get b = some r → P (body r).1) : P (withBearer b s body).1 := by
  unfold withBearer
  split
  · split
    · exact refused
    · next r live => exact h r live
  · exact refused

theorem withAlarm_holds {P : State → Prop} {a : AlarmArgs} {body : AlarmRecord → State × Reply} (refused : P s)
    (h : ∀ r ∈ s.alarms.records, P (body r).1) : P (withAlarm a s body).1 := by
  unfold withAlarm
  split
  · exact refused
  · split
    · exact refused
    · next r found => exact h r (List.mem_of_find?_eq_some found)

/-! ### Bearers and chains -/

theorem sameEntries_refl : SameEntries s s := ⟨rfl, rfl⟩

/-- A change of the Bearer Table alone. -/
theorem bearers_keeps (t : BearerTable) (h : ∀ O A, PeopleAct ⟨s, O, A⟩ ⟨{ s with bt := t }, O, A⟩) : Keeps s { s with bt := t } :=
  PeopleAct.keeps h rfl rfl ⟨⟨rfl, rfl, rfl⟩, fun _ => rfl, rfl⟩

theorem slot_free {b n : Nat} (h : s.slot b = .ok n) : s.bt.bearers.get n = none := by
  unfold State.slot at h
  split at h
  · split at h
    · cases h
    · next free =>
      cases h
      exact lowestFree_none free
  · split at h
    · cases h
    · next free =>
      cases h
      simpa using free

theorem enrolBody_keeps (a : EnrolArgs) : Keeps s (enrolBody a s).1 := by
  unfold enrolBody
  split
  · split
    · exact .refl s
    · next slot =>
      split
      · exact .refl s
      · next free =>
        have token : s.bt.index.get a.token.toNat = none := by simpa using free
        exact bearers_keeps s _ fun _ _ => .enrolled ⟨rfl, rfl⟩ _ _ (slot_free s slot) token rfl rfl
  · exact .refl s

theorem amendBody_keeps (a : AmendArgs) : Keeps s (amendBody a s).1 := by
  unfold amendBody
  split
  · exact .refl s
  · refine withBearer_holds s (.refl s) fun r live => ?_
    dsimp only
    split
    · exact .refl s
    · split
      · exact .refl s
      · split
        · exact .refl s
        · next free =>
          refine bearers_keeps s _ fun _ _ => .amended ⟨rfl, rfl⟩ a.bearer r (Machine.AmendArgs.apply a r) live rfl ?_ rfl
          by_cases same : (Machine.AmendArgs.apply a r).token = r.token
          · exact .inl same
          · exact .inr (by simpa [same] using free)

theorem dropBearerContexts_keeps (b : Nat) : Keeps s (s.dropBearerContexts b) := dropContexts_keeps ..

theorem suspendBody_keeps (b : Nat) : Keeps s (suspendBody b s).1 := by
  refine withBearer_holds s (.refl s) fun r _ => ?_
  split
  · exact (modBearer_keeps s b (f := fun r => { r with state := .suspended }) fun _ => ⟨rfl, rfl⟩).trans
      (dropBearerContexts_keeps ..)
  · exact .refl s

theorem reinstateBody_keeps (b : Nat) : Keeps s (reinstateBody b s).1 := by
  refine withBearer_holds s (.refl s) fun r _ => ?_
  split
  · exact (modBearer_keeps s b (f := fun r => { r with state := .active, failedPin := 0 }) fun _ => ⟨rfl, rfl⟩).trans
      (alarmGone_keeps ..)
  · exact .refl s

theorem revokeBody_keeps (b : Nat) : Keeps s (revokeBody b s).1 := by
  refine withBearer_holds s (.refl s) fun r _ => ?_
  split
  · exact .refl s
  · exact retire_keeps s b

theorem retentionSetBody_keeps (days : Nat) : Keeps s (retentionSetBody days s).1 := by
  unfold retentionSetBody
  split
  · exact .refl s
  · exact calendar_keeps s s.bt.schedules s.bt.holidays days

theorem chainWriteBody_keeps (a : ChainWriteArgs) : Keeps s (chainWriteBody a s).1 := by
  unfold chainWriteBody
  split
  · exact .refl s
  · next format =>
    have short : a.contents.length ≤ 16 := by
      simp only [ChainWriteArgs.formatOk, Bool.not_eq_true', Bool.not_eq_false, Bool.and_eq_true, decide_eq_true_eq] at format
      exact format.1.2
    refine withBearer_holds s (.refl s) fun r live => ?_
    dsimp only
    split
    · exact .refl s
    · split
      · exact .refl s
      · next fits =>
        exact bearers_keeps s _ fun _ _ => .chained ⟨rfl, rfl⟩ a.bearer r a.contents live short (by omega) rfl

/-! ### Doors -/

theorem doorReleaseBody_keeps (a : DoorReleaseArgs) : Keeps s (doorReleaseBody a s).1 := by
  refine withRoom_holds s (.refl s) fun r => ?_
  split
  · exact .refl s
  · exact (release_keeps ..).trans (applyHold_keeps ..)

theorem doorLockdownBody_owes (n : Nat) : Owes s (doorLockdownBody n s).1 := by
  refine withRoom_holds s (Keeps.refl s).owes fun r => ?_
  exact ((((setDoor_keeps s r _).trans (dropContext_keeps ..)).trans (cancelRelease_keeps ..)).trans (dropHold_keeps ..)).owes.trans
    (oweDoor_owes ..)

theorem doorRestoreBody_keeps (n : Nat) : Keeps s (doorRestoreBody n s).1 := by
  refine withRoom_holds s (.refl s) fun r => ?_
  exact setDoor_keeps ..

/-! ### The roll -/

theorem rollConfirmBody_rolls (n : Nat) : Rolls w s (rollConfirmBody n s).1 := by
  refine withRoom_holds s (.refl s) fun r => ?_
  dsimp only
  split
  · exact ⟨fun _ _ => reconcile_trace.handedOn⟩
  · exact .refl s

theorem rollSweepBody_rolls (n : Nat) : Rolls w s (rollSweepBody n s).1 := by
  refine withRoom_holds s (.refl s) fun r => ?_
  split
  · exact ⟨fun _ _ => sweep_trace⟩
  · exact .refl s

theorem rollRemoveBody_rolls (b : Nat) : Rolls w s (rollRemoveBody b s).1 := by
  unfold rollRemoveBody
  split
  · split
    · exact .refl s
    · next found => exact ⟨fun _ _ => removeEntry_trace (entryOf_get found).1⟩
  · exact .refl s

/-! ### The Alarm Table -/

theorem stands_of_mem {r : AlarmRecord} (h : r ∈ s.alarms.records) : Stands s r.key := ⟨r, h, rfl⟩

theorem acknowledge_key {r q : AlarmRecord} {event : Bool} (h : r.acknowledge event = .becomes q) : q.key = r.key := by
  unfold AlarmRecord.acknowledge at h
  split at h
  · cases h
  · cases h
    rfl
  · cases h
    rfl
  · cases h
  · split at h
    · cases h
      rfl
    · cases h

theorem alarmAckBody_keeps (a : AlarmArgs) : Keeps s (alarmAckBody a s).1 := by
  refine withAlarm_holds s (.refl s) fun r found => ?_
  split
  · exact .refl s
  · next acked =>
    exact putAlarm_keeps s (by rw [acknowledge_key acked]; exact stands_of_mem s found)
  · exact retireAlarm_keeps s (stands_of_mem s found)

theorem alarmResetBody_keeps (a : AlarmArgs) : Keeps s (alarmResetBody a s).1 := by
  refine withAlarm_holds s (.refl s) fun r found => ?_
  split
  · exact retireAlarm_keeps s (stands_of_mem s found)
  · exact .refl s

/-! ### Zones -/

theorem zoneResetBody_keeps (n : Nat) : Keeps s (zoneResetBody n s).1 := by
  refine withRoom_holds s (.refl s) fun z => ?_
  split
  · next resets =>
    dsimp only [State.zoneReply]
    split
    · next held => exact reachNormal_of_held held
    · next other =>
      refine reachNormal_keeps ?_
      unfold Zone.resettable at resets
      split at resets <;> simp_all
  · exact .refl s

theorem zoneDisableBody_keeps (n : Nat) : Keeps s (zoneDisableBody n s).1 := by
  refine withRoom_holds s (.refl s) fun z => ?_
  split
  · next st => exact disableZone_keeps (.inl st)
  · next st => exact disableZone_keeps (.inr st)
  · exact .refl s
  · exact .refl s

theorem zoneEnableBody_keeps (n : Nat) : Keeps s (zoneEnableBody n s).1 := by
  refine withRoom_holds s (.refl s) fun z => ?_
  split
  · next st =>
    dsimp only [State.zoneReply]
    split
    · exact ((alarmGone_keeps ..).trans (enable_keeps (by simpa using st))).trans (testInputs_keeps ..)
    · exact (enable_keeps st).trans (testInputs_keeps ..)
  · exact .refl s

theorem releaseAuthoriseBody_keeps (n : Nat) : Keeps s (releaseAuthoriseBody n s).1 := by
  refine withRoom_holds s (.refl s) fun z => ?_
  split
  · next st =>
    refine ⟨fun _ _ _ _ => Trace.rederived ?_⟩
    have early : s.zones[z].state ≠ .discharging := by
      intro h
      rw [h] at st
      cases st
    exact setZone_ruled rfl (.inr early)
  · exact .refl s

/-! ### The Agent Bank -/

/-- A cylinder stored that is not RESERVED. -/
theorem setCylinder_keeps (p : Pos) {c : Cylinder} (free : c.state ≠ .reserved) : Keeps s (s.setCylinder p c) := by
  refine cylinders_keeps rfl rfl ⟨rfl, rfl, rfl⟩ ⟨rfl, rfl, rfl⟩ rfl ⟨rfl, rfl, rfl, fun _ => .inl rfl⟩ fun q hq => ?_
  by_cases h : p = q
  · subst h
    simp [free] at hq
  · rw [State.setCylinder_bank, vset_other _ _ h] at hq ⊢
    exact ⟨hq, rfl⟩

theorem afterCylinder_keeps (offered : Bool) : Keeps s (s.afterCylinder offered) := by
  unfold State.afterCylinder
  split
  · exact topUp_keeps s
  · exact refreshAll_keeps s

theorem inService_free (p : Pos) : s.inService p ≠ .reserved := by
  unfold State.inService
  split <;> simp

theorem installBody_keeps (a : InstallArgs) : Keeps s (installBody a s).1 := by
  unfold installBody
  split
  · exact .refl s
  · split
    · exact .refl s
    · split
      · exact .refl s
      · exact (setCylinder_keeps s _ (inService_free s _)).trans (afterCylinder_keeps ..)

theorem isolateBody_keeps (n : Nat) : Keeps s (isolateBody n s).1 := by
  unfold isolateBody
  split
  · exact .refl s
  next p _ =>
  dsimp only
  split
  · have stored := setCylinder_keeps s p (c := { s.bank.cylinders[p] with state := .isolated }) (by simp)
    exact stored.trans (afterCylinder_keeps _ false)
  · split
    · exact .refl s
    · have stored := setCylinder_keeps s p (c := { s.bank.cylinders[p] with state := .isolated, zone := none }) (by simp)
      exact stored.trans (afterCylinder_keeps _ true)
  · exact .refl s

theorem returnBody_keeps (n : Nat) : Keeps s (returnBody n s).1 := by
  unfold returnBody
  split
  · exact .refl s
  · dsimp only
    split
    · exact (setCylinder_keeps s _ (inService_free s _)).trans (afterCylinder_keeps ..)
    · exact .refl s

theorem removeBody_keeps (n : Nat) : Keeps s (removeBody n s).1 := by
  unfold removeBody
  split
  · exact .refl s
  next p _ =>
  dsimp only
  split
  · exact .refl s
  · split
    · exact .refl s
    · have stored := setCylinder_keeps s p (c := { s.bank.cylinders[p] with state := .absent, charge := none }) (by simp)
      exact stored.trans (afterCylinder_keeps _ false)

/-- A bank monitor's flags (R136): a cylinder may leave its reservation. -/
theorem takeFlags_keeps (low : List Bool) : Keeps s (s.takeFlags low) := by
  unfold State.takeFlags
  extract_lets cyls left _ n
  have taken : Keeps s n := by
    refine cylinders_keeps rfl rfl ⟨rfl, rfl, rfl⟩ ⟨rfl, rfl, rfl⟩ rfl ⟨rfl, rfl, rfl, fun _ => .inl rfl⟩ fun p hp => ?_
    have same : n.bank.cylinders[p] = if s.newlyLow low p then s.cylinderLow p else s.bank.cylinders[p] := by
      simp [n, cyls]
    rw [same] at hp ⊢
    split at hp
    · unfold State.cylinderLow at hp ⊢
      dsimp only at hp ⊢
      split at hp
      · cases hp
      · split at hp
        · simp_all
        · cases hp
      · simp_all
    · simp_all
  split
  · exact taken.trans (topUp_keeps n)
  · split
    · exact taken
    · exact taken.trans (refreshAll_keeps n)

theorem flagsUnknown_keeps : Keeps s s.flagsUnknown :=
  cylinders_keeps rfl rfl ⟨rfl, rfl, rfl⟩ ⟨rfl, rfl, rfl⟩ rfl ⟨rfl, rfl, rfl, fun _ => .inl rfl⟩ fun _ h => ⟨h, rfl⟩

end Sys2Proof.Proofs.Acts
end

section
/-! PROOFS. The acts of the Loop Master (chapter 9), of a profile's load, of the lines and of the expiries. -/
namespace Sys2Proof.Proofs.Acts

open Sys2Proof Sys2Proof.Machine Sys2Proof.Safety Relation

variable {w : Allows} (s : State)

/-- What one event does: acts that leave no debt. -/
def Event (w : Allows) (m : Mode) (s t : State) : Prop := Trace w m ⟨s, ∅, ∅⟩ ⟨t, ∅, ∅⟩

variable {s} in
theorem Keeps.event {m : Mode} {t : State} (h : Keeps s t) : Event w m s t := h.trace _ m ∅ ∅

variable {s} in
theorem Rolls.event {t : State} (h : Rolls w s t) : Event w .rolls s t := h.trace ∅ ∅

variable {s} in
theorem Owes.event {m : Mode} {t : State} (h : Owes s t) (owes : w.owes = true) : Event w m s t := h.trace w owes m ∅ ∅

theorem Event.refl (m : Mode) : Event w m s s := Trace.refl m _

variable {s} in
theorem Event.trans {m : Mode} {t u : State} (h : Event w m s t) (h' : Event w m t u) : Event w m s u := Trace.trans h h'

/-! ### Reports and lost stations -/

/-- What the owner of a station's points may do (R156): a door unit's changes who is in the strongroom, another's may grant the manifold. -/
def modeOf (t : StationType) : Mode := if t = .doorUnit then .rolls else .grants

theorem pointFault_keeps (a : Addr) (i : Nat) (st : PointState) : Keeps s (s.pointFault a i st) := by
  unfold State.pointFault
  split
  · exact alarmGone_keeps ..
  · exact alarmGone_keeps ..
  · exact raiseAlarm_keeps ..
  · exact raiseAlarm_keeps ..

theorem pointFaults_keeps (a : Addr) (cs : List (Option PointState)) (i : Nat) : Keeps s (s.pointFaults a i cs) := by
  induction cs generalizing s i with
  | nil => exact .refl s
  | cons c cs ih =>
    cases c with
    | none => exact ih s (i + 1)
    | some st => exact (pointFault_keeps s a i st).trans (ih _ (i + 1))

theorem callPoint_keeps (a : Addr) (st : PointState) (held : Bool) : Keeps s (s.callPoint a st held) := by
  unfold State.callPoint
  split
  · exact raiseAlarm_keeps ..
  · split
    · exact .refl s
    · exact alarmGone_keeps ..
  · exact .refl s
  · exact .refl s

theorem callPoints_keeps (a : Addr) (cs : List (Option PointState)) : Keeps s (s.callPoints a cs) := by
  refine Keeps.foldl (fun s c => ?_) cs s
  split
  · exact .refl s
  · exact callPoint_keeps ..

theorem zoneInputs_event (z : Room) (new : ZoneInputs) : Event w .grants s (s.zoneInputs z new) := zoneInputs_trace new

theorem ownerTakes_event (owes : w.owes = true) (a : Addr) (cs : List (Option PointState)) :
    Event w (modeOf s.loop.stations[a].type) s (s.ownerTakes a cs) := by
  unfold State.ownerTakes
  dsimp only
  split
  · next type _ =>
    rw [type]
    exact (doorPoints_rolls owes ..).event
  · next type _ =>
    rw [type]
    exact zoneInputs_event ..
  · next type _ =>
    rw [type]
    exact zoneInputs_event ..
  · exact (callPoints_keeps s a cs).event
  · exact .refl s _

theorem monitorLost_keeps (a : Addr) : Keeps s (s.monitorLost a) := by
  unfold State.monitorLost
  split
  · exact .refl s
  · exact flagsUnknown_keeps s

theorem missingMeaning_event (owes : w.owes = true) (a : Addr) : Event w .grants s (s.missingMeaning a) := by
  unfold State.missingMeaning
  dsimp only
  split
  · exact ((doorPointsLost_keeps ..).owes.trans (doorUnknown_owes ..)).event owes
  · exact zoneInputs_event ..
  · exact zoneInputs_event ..
  · exact (monitorLost_keeps s a).event
  · exact .refl s _

theorem loseStation_event (owes : w.owes = true) (a : Addr) (state : StationState) : Event w .grants s (s.loseStation a state) := by
  unfold State.loseStation
  extract_lets st fresh stored told
  have told_ : Event w .grants stored told := by
    unfold told
    split
    · exact missingMeaning_event (owes := owes) ..
    · exact .refl ..
  exact ((setStation_keeps s a _).event.trans told_).trans (raiseAlarm_keeps ..).event

theorem miss_event (owes : w.owes = true) (a : Addr) : Event w .grants s (s.miss a) := by
  unfold State.miss
  extract_lets st n stored
  split
  · exact .refl ..
  · split
    · exact (setStation_keeps s a _).event.trans (loseStation_event (owes := owes) ..)
    · exact (setStation_keeps s a _).event

theorem wrongType_event (owes : w.owes = true) (a : Addr) : Event w .grants s (s.wrongType a) := by
  unfold State.wrongType
  extract_lets st stored
  split
  · exact (setStation_keeps s a _).event
  · exact (setStation_keeps s a _).event.trans (loseStation_event (owes := owes) ..)

theorem stationReturns_keeps (a : Addr) : Keeps s (s.stationReturns a) := by
  unfold State.stationReturns
  extract_lets st stored
  split
  · exact (setStation_keeps s a _).trans (alarmGone_keeps ..)
  · exact setStation_keeps s a _

theorem pointFaults_stations (a : Addr) (cs : List (Option PointState)) (i : Nat) : (s.pointFaults a i cs).loop = s.loop := by
  simp

theorem takePoints_event (owes : w.owes = true) (a : Addr) (states : List PointState) :
    Event w (modeOf s.loop.stations[a].type) s (s.takePoints a states) := by
  unfold State.takePoints
  extract_lets st ps stored cs
  have owner := ownerTakes_event (stored.pointFaults a 0 cs) owes a cs
  have type : (stored.pointFaults a 0 cs).loop.stations[a].type = s.loop.stations[a].type := by simp [stored, st]
  rw [type] at owner
  exact ((setStation_keeps s a _).event.trans (pointFaults_keeps stored a cs 0).event).trans owner

theorem takeReport_event (owes : w.owes = true) (a : Addr) (r : ReportFrame) : Event w (modeOf s.loop.stations[a].type) s (s.takeReport a r) := by
  unfold State.takeReport
  have points := takePoints_event (s.stationReturns a) owes a r.points
  have type : (s.stationReturns a).loop.stations[a].type = s.loop.stations[a].type := by
    unfold State.stationReturns
    dsimp only
    split <;> simp
  rw [type] at points
  refine ((stationReturns_keeps s a).event.trans points).trans ?_
  unfold State.takeReportFlags
  split
  · exact (takeFlags_keeps ..).event
  · exact .refl ..

theorem endRole_event (owes : w.owes = true) (a : Addr) : Event w .grants s (s.endRole a) := by
  unfold State.endRole
  dsimp only
  split
  · exact ((doorPointsLost_keeps ..).owes.trans (doorUnknown_owes ..)).event owes
  · exact zoneInputs_event ..
  · exact zoneInputs_event ..
  · exact (alarmGone_keeps ..).event
  · split
    · exact (monitorLost_keeps s a).event
    · exact .refl ..
  · exact .refl ..

theorem stationConfigureBody_event (owes : w.owes = true) (c : ConfigureArgs) : Event w .grants s (stationConfigureBody c s).1 := by
  unfold stationConfigureBody
  split
  · next a t _ _ =>
    dsimp only
    split
    · exact .refl ..
    split
    · exact .refl ..
    split
    · exact .refl ..
    split
    · exact .refl ..
    have gone : Keeps (s.endRole a) ((s.endRole a).stationAlarmsGone a) := alarmsGone_keeps ..
    exact (endRole_event s owes a).trans ((gone.trans (loop_keeps ..)).trans (setStation_keeps ..)).event
  · exact .refl ..

/-! ### Profiles -/

theorem profile_delay {a : ProfileArgs} {p : Profile} (h : a.profile? = some p) : p.delay ≤ 120 := by
  obtain ⟨range, carries⟩ := (Laws.profile?_iff a p).mp h
  obtain ⟨-, -, -, -, numbers, -⟩ := carries
  simp only [Prod.mk.injEq] at numbers
  obtain ⟨-, -, -, -, -, -, -, delay, -⟩ := range
  omega

theorem profileLoadBody_keeps (a : ProfileArgs) : Keeps s (profileLoadBody a s).1 := by
  refine withRoom_holds s (.refl s) fun r => ?_
  split
  · exact .refl s
  next bars =>
  split
  · exact .refl s
  next p spelt =>
  split
  · exact .refl s
  next fits =>
  have st : s.zones[r].state = .normal ∨ s.zones[r].state = .disabled := by
    by_contra h
    obtain ⟨normal, disabled⟩ := not_or.mp h
    refine bars ?_
    unfold State.barsProfile
    simp only [ne_eq, normal, disabled, not_false_eq_true, decide_true, Bool.and_self, Bool.true_or]
  dsimp only
  unfold State.loadProfile
  extract_lets _ stored loaded
  have refreshed : Keeps s (stored.refreshCoverage r) :=
    ⟨fun _ m O A =>
      (ZoneAct.profile r p st (profile_delay spelt) (by omega) (.refl _)).trace
        (.quiet (t := stored.refreshCoverage r) rfl rfl ⟨rfl, rfl, rfl⟩)⟩
  have loaded_ : Keeps s loaded := (refreshed.trans (deriveTimeLock_keeps ..)).trans (retest_keeps ..)
  split
  · exact loaded_.trans (testInputs_keeps ..)
  · exact loaded_

/-! ### Lines -/

theorem mainsChanged_keeps : Keeps s s.mainsChanged := by
  unfold State.mainsChanged
  split
  · exact alarmGone_keeps ..
  · exact raiseAlarm_keeps ..

theorem portTwo_keeps (p : PortTwo) : Keeps s { s with p2 := p } :=
  .quiet rfl rfl ⟨rfl, rfl, rfl⟩ ⟨⟨rfl, rfl, rfl⟩, fun _ => rfl, rfl⟩

theorem linkTested_keeps (pass : Bool) : Keeps s (s.linkTested pass) := by
  unfold State.linkTested
  split
  · exact portTwo_keeps ..
  · exact (portTwo_keeps s _).trans (raiseAlarm_keeps ..)
  · exact (portTwo_keeps s _).trans (alarmGone_keeps ..)
  · exact .refl s

/-- Every room's hold reasons derived again pay what a change of the inhibit line owes. -/
theorem rederiveAll_trace {m : Mode} (O : Set Room) (l : List Room) (h : ∀ z ∈ O, z ∈ l) :
    Trace w m ⟨s, O, ∅⟩ ⟨l.foldl State.rederive s, ∅, ∅⟩ := by
  induction l generalizing s O with
  | nil => exact Trace.owe fun z hz => absurd (h z hz) (by simp)
  | cons z l ih =>
    refine (rederive_trace (z := z)).trans (ih (s.rederive z) (O \ {z}) fun y hy => ?_)
    have := h y hy.1
    simp only [List.mem_cons] at this
    exact this.resolve_left hy.2

theorem inhibited_event {m : Mode} (active : Bool) :
    Event w m s (rooms.foldl State.rederive { s with lines := { s.lines with inhibit := active } }) := by
  have changed : Trace w m ⟨s, ∅, ∅⟩ ⟨{ s with lines := { s.lines with inhibit := active } }, Set.univ, ∅⟩ :=
    ⟨.single (.same rfl rfl), .single (.same ⟨rfl, rfl, rfl⟩ subset_rfl), .single (.inhibited ⟨rfl, rfl⟩ rfl rfl rfl rfl)⟩
  exact changed.trans (rederiveAll_trace _ _ _ fun z _ => mem_rooms z)

/-! ### The tick and the expiries -/

theorem countDown_keeps : Keeps s s.countDown := by
  have entries (o : OccEntry) : o.tick.bearer = o.bearer := by
    unfold OccEntry.tick
    split <;> rfl
  have waiting : NoNewWaiting s s.countDown := by
    intro r n w b g h
    have same : s.countDown.ctx[r] = s.ctx[r].tick := by simp [State.countDown]
    rw [same] at h
    cases hc : s.ctx[r] with
    | empty => simp [hc, Context.tick] at h
    | escort => simp [hc, Context.tick] at h
    | custody m v c x =>
      simp only [hc, Context.tick, Context.custody.injEq] at h
      obtain ⟨rfl, -, rfl, rfl⟩ := h
      exact ⟨_, _, rfl⟩
  have counted : Keeps s { s.countDown with ctx := s.ctx } := by
    refine ⟨fun _ m O A => ⟨.single (.same rfl rfl), .single (.entries ⟨rfl, rfl⟩ (fun p => p.2.tick) (fun p => entries p.2) rfl), ?_⟩⟩
    exact .single (.ticked ⟨rfl, rfl, rfl⟩ rfl rfl)
  exact counted.trans (ctx_keeps rfl rfl ⟨rfl, rfl⟩ ⟨⟨rfl, rfl, rfl⟩, fun _ => rfl, rfl⟩ waiting)

end Sys2Proof.Proofs.Acts
end

section
/-! PROOFS. What a command does, as stages: an event with its end, a request with its answer, an operation that touches none of the three
sides, the beginning of a frame, or a start of the part. -/
namespace Sys2Proof.Proofs.Acts

open Sys2Proof Sys2Proof.Machine Sys2Proof.Safety Relation

variable {w : Allows}

/-- Port 1's queues, the LINK TEST that waits and the commands that wait are the same. -/
structure SamePort (s t : State) : Prop where
  requests : t.p1.requests = s.p1.requests
  queue : t.p1.queue = s.p1.queue
  marks : t.p1.marks = s.p1.marks
  heldOff : t.p1.heldOff = s.p1.heldOff
  test : t.sup.linkTest = s.sup.linkTest
  pending : t.pending = s.pending

theorem SamePort.refl (s : State) : SamePort s s := ⟨rfl, rfl, rfl, rfl, rfl, rfl⟩

theorem SamePort.of_eq {s t : State} (hp : t.p1 = s.p1) (ht : t.sup.linkTest = s.sup.linkTest)
    (hq : t.pending = s.pending) : SamePort s t := by
  refine ⟨?_, ?_, ?_, ?_, ht, hq⟩ <;> rw [hp]

/-- Nothing that a law speaks of changes, and no field whose change is reported, but for a request that may join the queue, and lines that
may stop the part. -/
structure Silent (s t : State) : Prop where
  alarms : t.alarms = s.alarms
  due : t.due = s.due
  bt : t.bt = s.bt
  roll : t.roll = s.roll
  ctx : t.ctx = s.ctx
  doors : t.doors = s.doors
  zones : t.zones = s.zones
  bank : t.bank = s.bank
  profiles : t.sup.profiles = s.sup.profiles
  site : t.clk.reported = s.clk.reported
  stations : ∀ a : Addr, (t.loop.stations[a].type, t.loop.stations[a].room, t.loop.stations[a].state) =
    (s.loop.stations[a].type, s.loop.stations[a].room, s.loop.stations[a].state)
  lines : (t.lines.mainOn, t.lines.resetHigh, t.lines.inhibit) = (s.lines.mainOn, s.lines.resetHigh, s.lines.inhibit) ∨
    t.lines.mainOn = false ∨ t.lines.resetHigh = false
  queue : t.p1.queue = s.p1.queue
  marks : t.p1.marks = s.p1.marks
  heldOff : t.p1.heldOff = s.p1.heldOff
  test : t.sup.linkTest = s.sup.linkTest
  requests : t.p1.requests = s.p1.requests ∨ t.p1.requests.length ≤ 8
  pending : t.pending = s.pending

/-- The request `f` stands at the head of the request queue and can be taken. -/
structure Takes (s : State) (f : RequestFrame) (rest : List RequestFrame) : Prop where
  head : s.p1.requests = f :: rest
  can : s.canTake f = true

/-- The state with a LINK TEST taken up. -/
def testing (s : State) (t : Option RequestFrame) : State := { s with sup := { s.sup with linkTest := t } }

/-- A stage of a command. -/
inductive Stage (w : Allows) (m : Mode) : State → State → Prop
  | event {s u} (h : Event w m s u) (port : SamePort s u) (on : s.running = true) : Stage w m s (State.finish s u)
  | silent {s t} (h : Silent s t) : Stage w m s t
  | request {s u f rest} (answers : w.answers = true) (code : Octet) (r : Reply) (takes : Takes s f rest) (h : Event w m (taken s rest) u)
      (port : SamePort (taken s rest) u) : Stage w m s ((State.finish (taken s rest) u).answer f code r)
  | asked {s f rest} (takes : Takes s f rest) : Stage w m s (testing (taken s rest) (some f))
  | tested {s u f} (answers : w.answers = true) (code : Octet) (r : Reply) (waits : s.sup.linkTest = some f) (h : Event w m (testing s none) u)
      (port : SamePort (testing s none) u)
      (on : s.running = true) : Stage w m s ((State.finish (testing s none) u).answer f code r)
  | transmitted {s} (transmits : w.transmits = true) (may : s.mayTransmit = true) : Stage w m s s.beginFrame
  | emptied {s} (starts : w.starts = true) (held : s.lines.resetHigh = false) :
    Stage w m s { s with lines := { s.lines with mainOn := true }, alarms := .empty }
  | started {s} (starts : w.starts = true) (l : Lines) (p : PortOne) (cause : RestartCause) (line1 line2 : List Bool) :
      Stage w m s (State.startUp { s with lines := l, p1 := p } cause line1 line2)

/-- The stages of a command. -/
def Stages (w : Allows) (m : Mode) : State → State → Prop := ReflTransGen (Stage w m)

theorem Stage.stages {m : Mode} {s t : State} (h : Stage w m s t) : Stages w m s t := ReflTransGen.single h

theorem Stages.refl (m : Mode) (s : State) : Stages w m s s := ReflTransGen.refl

theorem Stages.trans {m : Mode} {s t u : State} (h : Stages w m s t) (h' : Stages w m t u) : Stages w m s u := ReflTransGen.trans h h'

/-- A fold of stages. -/
theorem Stages.foldl {α : Type} {m : Mode} {f : State → α → State} (hf : ∀ s a, Stages w m s (f s a)) (l : List α) (s : State) :
    Stages w m s (l.foldl f s) := by
  induction l generalizing s with
  | nil => exact .refl m s
  | cons a l ih => exact (hf s a).trans (ih (f s a))

/-! ### Requests -/

theorem takeRequest_takes {s s1 : State} {f : RequestFrame} {test : List Octet → Bool} (h : s.takeRequest test = some (f, s1)) :
    ∃ rest, Takes s f rest ∧ s1 = taken s rest := by
  unfold State.takeRequest at h
  split at h
  · cases h
  · next g rest head =>
    split at h
    · next passes =>
      cases h
      exact ⟨rest, ⟨head, (Bool.and_eq_true_iff.mp passes).2⟩, rfl⟩
    · cases h

/-- A body that is one event and leaves port 1 alone. -/
structure Serves (w : Allows) (m : Mode) (s t : State) : Prop where
  event : Event w m s t
  port : SamePort s t

theorem Serves.refl {m : Mode} (s : State) : Serves w m s s := ⟨.refl .., .refl s⟩

theorem Keeps.serves {m : Mode} {s t : State} (h : Keeps s t) (port : SamePort s t) : Serves w m s t := ⟨h.event, port⟩

/-- A command that takes a request is one stage, or does nothing. -/
theorem serveWhen_stages {m : Mode} (answers : w.answers = true) {test : List Octet → Bool} {body : RequestFrame → State → State × Reply} {s t : State}
    (h : ∀ f u, Serves w m u (body f u).1) (hs : serveWhen test body s = .next t) : t = s ∨ Stage w m s t := by
  unfold serveWhen at hs
  split at hs
  · cases hs
    exact .inl rfl
  · next f s1 picked =>
    cases hs
    obtain ⟨rest, takes, rfl⟩ := takeRequest_takes picked
    exact .inr (.request answers _ _ takes (h f _).event (h f _).port)

theorem serveFields_stages {α : Type} {m : Mode} (answers : w.answers = true) {code : Nat} {a : Option α}
    {body : α → State → State × Reply} {s t : State}
    (h : ∀ a u, Serves w m u (body a u).1) (hs : serveFields code a body s = .next t) : t = s ∨ Stage w m s t := by
  refine serveWhen_stages answers (fun f u => ?_) hs
  split
  · exact .refl u
  · split
    · exact h _ u
    · exact .refl u

theorem serveBare_stages {m : Mode} (answers : w.answers = true) {code : Nat} {body : RequestFrame → State → State × Reply} {s t : State}
    (h : ∀ f u, Serves w m u (body f u).1) (hs : serveBare code body s = .next t) : t = s ∨ Stage w m s t := by
  refine serveWhen_stages answers (fun f u => ?_) hs
  split
  · exact h f u
  · exact .refl u

end Sys2Proof.Proofs.Acts
end

section
/-! PROOFS. Every body of a request is one event that leaves port 1's queues alone; a read changes nothing. -/
namespace Sys2Proof.Proofs.Acts

open Sys2Proof Sys2Proof.Machine Sys2Proof.Safety Relation

variable {w : Allows} (s : State)

/-! ### What a body leaves alone of port 1 -/

theorem enrolBody_port (a : EnrolArgs) : SamePort s (enrolBody a s).1 := by
  unfold enrolBody
  split
  · split
    · exact .refl s
    · split_ifs <;> exact .of_eq rfl rfl rfl
  · exact .refl s

theorem amendBody_port (a : AmendArgs) : SamePort s (amendBody a s).1 := by
  unfold amendBody
  split
  · exact .refl s
  refine withBearer_holds s (.refl s) fun r _ => ?_
  dsimp only
  split_ifs <;> exact .of_eq rfl rfl rfl

theorem suspendBody_port (a : Nat) : SamePort s (suspendBody a s).1 := by
  refine withBearer_holds s (.refl s) fun r _ => ?_
  split_ifs <;> exact .of_eq rfl rfl rfl

theorem reinstateBody_port (a : Nat) : SamePort s (reinstateBody a s).1 := by
  refine withBearer_holds s (.refl s) fun r _ => ?_
  split_ifs <;> exact .of_eq (by simp [refuse]) (by simp [refuse]) (by simp [refuse])

theorem revokeBody_port (a : Nat) : SamePort s (revokeBody a s).1 := by
  refine withBearer_holds s (.refl s) fun r _ => ?_
  split_ifs <;> exact .of_eq (by simp [refuse]) (by simp [refuse]) (by simp [refuse])

theorem retentionSetBody_port (a : Nat) : SamePort s (retentionSetBody a s).1 := by
  unfold retentionSetBody
  split_ifs <;> exact .of_eq rfl rfl rfl

theorem chainWriteBody_port (a : ChainWriteArgs) : SamePort s (chainWriteBody a s).1 := by
  unfold chainWriteBody
  split
  · exact .refl s
  refine withBearer_holds s (.refl s) fun r _ => ?_
  dsimp only
  split_ifs <;> exact .of_eq rfl rfl rfl

theorem clockSetBody_port (a : ClockSetArgs) : SamePort s (clockSetBody a s).1 := by
  unfold clockSetBody
  split_ifs <;> exact .of_eq (by simp [refuse]) (by simp [refuse]) (by simp [refuse])

theorem siteSetBody_port (a : SiteSetArgs) : SamePort s (siteSetBody a s).1 := by
  unfold siteSetBody
  split
  · exact .refl s
  split_ifs <;> exact .of_eq (by simp [refuse]) (by simp [refuse]) (by simp [refuse])

theorem siteOverrideBody_port (a : Override) : SamePort s (siteOverrideBody a s).1 := by
  unfold siteOverrideBody
  split_ifs <;> exact .of_eq (by simp [refuse]) (by simp [refuse]) (by simp [refuse])

theorem scheduleWriteBody_port (a : ScheduleWriteArgs) : SamePort s (scheduleWriteBody a s).1 := by
  unfold scheduleWriteBody
  split
  · exact .refl s
  split_ifs <;> exact .of_eq (by simp [refuse]) (by simp [refuse]) (by simp [refuse])

theorem holidayAddBody_port (a : Holiday) : SamePort s (holidayAddBody a s).1 := by
  unfold holidayAddBody
  split_ifs <;> exact .of_eq (by simp [refuse]) (by simp [refuse]) (by simp [refuse])

theorem holidayRemoveBody_port (a : Holiday) : SamePort s (holidayRemoveBody a s).1 := by
  unfold holidayRemoveBody
  split_ifs <;> exact .of_eq (by simp [refuse]) (by simp [refuse]) (by simp [refuse])

theorem rollConfirmBody_port (a : Nat) : SamePort s (rollConfirmBody a s).1 := by
  refine withRoom_holds s (.refl s) fun r => ?_
  dsimp only
  split_ifs <;> exact .of_eq (by simp) (by simp) (by simp)

theorem rollSweepBody_port (a : Nat) : SamePort s (rollSweepBody a s).1 := by
  refine withRoom_holds s (.refl s) fun r => ?_
  split_ifs <;> exact .of_eq (by simp) (by simp) (by simp)

theorem rollRemoveBody_port (a : Nat) : SamePort s (rollRemoveBody a s).1 := by
  unfold rollRemoveBody
  split
  · split
    · exact .refl s
    · exact .of_eq (by simp) (by simp) (by simp)
  · exact .refl s

theorem doorReleaseBody_port (a : DoorReleaseArgs) : SamePort s (doorReleaseBody a s).1 := by
  refine withRoom_holds s (.refl s) fun r => ?_
  split_ifs <;> exact .of_eq (by simp [refuse]) (by simp [refuse]) (by simp [refuse])

theorem doorLockdownBody_port (a : Nat) : SamePort s (doorLockdownBody a s).1 := by
  refine withRoom_holds s (.refl s) fun r => ?_
  exact .of_eq (by simp) (by simp) (by simp)

theorem doorRestoreBody_port (a : Nat) : SamePort s (doorRestoreBody a s).1 := by
  refine withRoom_holds s (.refl s) fun r => ?_
  exact .of_eq rfl rfl rfl

theorem alarmAckBody_port (a : AlarmArgs) : SamePort s (alarmAckBody a s).1 := by
  refine withAlarm_holds s (.refl s) fun r _ => ?_
  split <;> exact .of_eq rfl rfl rfl

theorem alarmResetBody_port (a : AlarmArgs) : SamePort s (alarmResetBody a s).1 := by
  refine withAlarm_holds s (.refl s) fun r _ => ?_
  split_ifs <;> exact .of_eq rfl rfl rfl

theorem zoneResetBody_port (a : Nat) : SamePort s (zoneResetBody a s).1 := by
  refine withRoom_holds s (.refl s) fun r => ?_
  dsimp only [State.zoneReply]
  split_ifs <;> exact .of_eq (by simp [refuse]) (by simp [refuse]) (by simp [refuse])

theorem zoneDisableBody_port (a : Nat) : SamePort s (zoneDisableBody a s).1 := by
  refine withRoom_holds s (.refl s) fun r => ?_
  split <;>
    exact .of_eq (by simp [refuse, State.zoneReply]) (by simp [refuse, State.zoneReply]) (by simp [refuse, State.zoneReply])

theorem zoneEnableBody_port (a : Nat) : SamePort s (zoneEnableBody a s).1 := by
  refine withRoom_holds s (.refl s) fun r => ?_
  dsimp only [State.zoneReply]
  split_ifs <;> exact .of_eq (by simp [refuse]) (by simp [refuse]) (by simp [refuse])

theorem releaseAuthoriseBody_port (a : Nat) : SamePort s (releaseAuthoriseBody a s).1 := by
  refine withRoom_holds s (.refl s) fun r => ?_
  dsimp only
  split_ifs <;> exact .of_eq (by simp [refuse]) (by simp [refuse]) (by simp [refuse])

theorem installBody_port (a : InstallArgs) : SamePort s (installBody a s).1 := by
  unfold installBody
  split
  · exact .refl s
  split_ifs <;> exact .of_eq (by simp [refuse]) (by simp [refuse]) (by simp [refuse])

theorem isolateBody_port (a : Nat) : SamePort s (isolateBody a s).1 := by
  unfold isolateBody
  split
  · exact .refl s
  dsimp only
  split
  · exact .of_eq (by simp) (by simp) (by simp)
  · split_ifs <;> exact .of_eq (by simp [refuse]) (by simp [refuse]) (by simp [refuse])
  · exact .refl s

theorem returnBody_port (a : Nat) : SamePort s (returnBody a s).1 := by
  unfold returnBody
  split
  · exact .refl s
  dsimp only
  split_ifs <;> exact .of_eq (by simp [refuse]) (by simp [refuse]) (by simp [refuse])

theorem removeBody_port (a : Nat) : SamePort s (removeBody a s).1 := by
  unfold removeBody
  split
  · exact .refl s
  dsimp only
  split_ifs <;> exact .of_eq (by simp [refuse]) (by simp [refuse]) (by simp [refuse])

theorem stationConfigureBody_port (a : ConfigureArgs) : SamePort s (stationConfigureBody a s).1 := by
  unfold stationConfigureBody
  split
  · dsimp only
    split_ifs <;> exact .of_eq (by simp [refuse]) (by simp [refuse]) (by simp [refuse])
  · exact .refl s

theorem profileLoadBody_port (a : ProfileArgs) : SamePort s (profileLoadBody a s).1 := by
  refine withRoom_holds s (.refl s) fun r => ?_
  split
  · exact .refl s
  split
  · exact .refl s
  split
  · exact .refl s
  exact .of_eq (by simp) (by unfold State.loadProfile; simp [ite_fields]) (by simp)

/-! ### Requests that change the ports, the address or the marks -/

/-- A body that touches none of the three sides. -/
theorem Serves.quiet {m : Mode} {s t : State} (ha : t.alarms = s.alarms) (hd : t.due = s.due) (hp : SamePeople s t) (hz : SameZones s t)
    (port : SamePort s t) : Serves w m s t :=
  (Keeps.quiet ha hd hp hz).serves port

theorem statusBody_serves {m : Mode} (f : RequestFrame) : Serves w m s (statusBody f s).1 := by
  unfold statusBody
  dsimp only
  split
  · exact .refl s
  · exact .quiet rfl rfl ⟨rfl, rfl, rfl⟩ ⟨⟨rfl, rfl, rfl⟩, fun _ => rfl, rfl⟩ ⟨rfl, rfl, rfl, rfl, rfl, rfl⟩

theorem addressSetBody_serves {m : Mode} (n : Nat) : Serves w m s (addressSetBody n s).1 := by
  unfold addressSetBody
  split
  · exact .refl s
  · exact .quiet rfl rfl ⟨rfl, rfl, rfl⟩ ⟨⟨rfl, rfl, rfl⟩, fun _ => rfl, rfl⟩ ⟨rfl, rfl, rfl, rfl, rfl, rfl⟩

theorem linkSetBody_serves {m : Mode} (a : LinkSetArgs) : Serves w m s (linkSetBody a s).1 := by
  unfold linkSetBody
  dsimp only
  split
  · exact .refl s
  · split
    · exact .quiet rfl rfl ⟨rfl, rfl, rfl⟩ ⟨⟨rfl, rfl, rfl⟩, fun _ => rfl, rfl⟩ ⟨rfl, rfl, rfl, rfl, rfl, rfl⟩
    · split
      · exact .quiet rfl rfl ⟨rfl, rfl, rfl⟩ ⟨⟨rfl, rfl, rfl⟩, fun _ => rfl, rfl⟩ ⟨rfl, rfl, rfl, rfl, rfl, rfl⟩
      · exact .refl s
    · exact .refl s

/-! ### Reads -/

theorem Serves.of_read {m : Mode} {s t : State} (h : t = s) : Serves w m s t := by
  rw [h]
  exact .refl s

theorem readBearerBody_state (a : Nat) : (readBearerBody a s).1 = s := by
  unfold readBearerBody
  split <;> rfl

theorem findTokenBody_state (a : Token) : (findTokenBody a s).1 = s := by
  unfold findTokenBody
  split
  · split <;> rfl
  · rfl

theorem chainReadBody_state (a : Nat) : (chainReadBody a s).1 = s := by
  exact withBearer_holds s (P := (· = s)) rfl fun _ _ => rfl

theorem scheduleReadBody_state (a : Nat) : (scheduleReadBody a s).1 = s := by
  unfold scheduleReadBody
  split <;> rfl

theorem rollReadBody_state (a : RollReadArgs) : (rollReadBody a s).1 = s := by
  refine withRoom_holds s (P := (· = s)) rfl fun _ => ?_
  split <;> rfl

theorem doorReadBody_state (a : Nat) : (doorReadBody a s).1 = s := by
  exact withRoom_holds s (P := (· = s)) rfl fun _ => rfl

theorem alarmReadBody_state (a : Nat) : (alarmReadBody a s).1 = s := by
  unfold alarmReadBody
  split <;> rfl

theorem zoneReadBody_state (a : Nat) : (zoneReadBody a s).1 = s := by
  exact withRoom_holds s (P := (· = s)) rfl fun _ => rfl

theorem cylinderReadBody_state (a : Nat) : (cylinderReadBody a s).1 = s := by
  unfold cylinderReadBody
  split <;> rfl

theorem stationReadBody_state (a : Nat) : (stationReadBody a s).1 = s := by
  unfold stationReadBody
  split <;> rfl

theorem linkReadBody_state (a : Nat) : (linkReadBody a s).1 = s := by
  unfold linkReadBody
  split <;> rfl

theorem profileReadBody_state (a : Nat) : (profileReadBody a s).1 = s := by
  exact withRoom_holds s (P := (· = s)) rfl fun _ => rfl

end Sys2Proof.Proofs.Acts
end

section
/-! PROOFS. Every command is made of stages. -/
namespace Sys2Proof.Proofs.Acts

open Sys2Proof Sys2Proof.Machine Sys2Proof.Safety Relation

variable {w : Allows} (s : State)

/-! ### Operations that are silent -/

/-- Only the Loop Master's polls and pending commands, and port 2, are changed. -/
theorem Silent.loop {l : LoopMaster} {p : PortTwo}
    (h : ∀ a : Addr, (l.stations[a].type, l.stations[a].room, l.stations[a].state) =
      (s.loop.stations[a].type, s.loop.stations[a].room, s.loop.stations[a].state)) :
    Silent s { s with loop := l, p2 := p } :=
  ⟨rfl, rfl, rfl, rfl, rfl, rfl, rfl, rfl, rfl, rfl, h, .inl rfl, rfl, rfl, rfl, rfl, .inl rfl, rfl⟩

/-- Only the lines are changed, in a way that leaves the part stopped or leaves the levels that count. -/
theorem Silent.of_lines {l : Lines}
    (h : (l.mainOn, l.resetHigh, l.inhibit) = (s.lines.mainOn, s.lines.resetHigh, s.lines.inhibit) ∨ l.mainOn = false ∨
      l.resetHigh = false) : Silent s { s with lines := l } :=
  ⟨rfl, rfl, rfl, rfl, rfl, rfl, rfl, rfl, rfl, rfl, fun _ => rfl, h, rfl, rfl, rfl, rfl, .inl rfl, rfl⟩

theorem Silent.refl : Silent s s := .loop s (l := s.loop) (p := s.p2) fun _ => rfl

variable {s} in
theorem Silent.trans {t u : State} (h : Silent s t) (h' : Silent t u) : Silent s u := by
  refine ⟨h'.alarms.trans h.alarms, h'.due.trans h.due, h'.bt.trans h.bt, h'.roll.trans h.roll, h'.ctx.trans h.ctx,
    h'.doors.trans h.doors, h'.zones.trans h.zones, h'.bank.trans h.bank, h'.profiles.trans h.profiles, h'.site.trans h.site,
    fun a => (h'.stations a).trans (h.stations a), ?_, h'.queue.trans h.queue, h'.marks.trans h.marks, h'.heldOff.trans h.heldOff,
    h'.test.trans h.test, ?_, h'.pending.trans h.pending⟩
  · rcases h'.lines with same | off
    · rcases h.lines with same' | off
      · exact .inl (same.trans same')
      · simp only [Prod.mk.injEq] at same
        exact .inr (by rwa [same.1, same.2.1])
    · exact .inr off
  · rcases h'.requests with same | short
    · rw [same]
      exact h.requests
    · exact .inr short

/-- A station's record stored with its type, strongroom and state as they were. -/
theorem setStation_silent (a : Addr) {x : Station}
    (h : (x.type, x.room, x.state) = (s.loop.stations[a].type, s.loop.stations[a].room, s.loop.stations[a].state)) :
    Silent s (s.setStation a x) := by
  refine .loop s fun b => ?_
  by_cases hb : a = b
  · subst hb
    simpa using h
  · rw [vset_other _ _ hb]

theorem startPoll_silent (a : Addr) : Silent s (s.startPoll a) := by
  have stored := setStation_silent s a (x := { s.loop.stations[a] with slots := s.loop.stations[a].slots.carry }) rfl
  exact stored.trans (.loop _ (p := s.p2) fun _ => rfl)

theorem startAnswerPoll_silent (a : Addr) : Silent s (s.startAnswerPoll a) :=
  (startPoll_silent s a).trans (.loop _ (p := (s.startPoll a).p2) fun _ => rfl)

theorem startScanPoll_silent : Silent s s.startScanPoll := by
  unfold State.startScanPoll
  split
  · exact .refl s
  · exact (startPoll_silent s _).trans (.loop _ (p := (s.startPoll _).p2) fun _ => rfl)

theorem endPoll_silent (a : Addr) : Silent s (s.endPoll a) := by
  have stored := setStation_silent s a (x := { s.loop.stations[a] with slots := s.loop.stations[a].slots.delivered }) rfl
  exact stored.trans (.loop _ (p := s.p2) fun _ => rfl)

theorem keepAnswers_silent (a : Addr) (n : Nat) (l : Option (List ReaderAnswer)) : Silent s (s.keepAnswers a n l) :=
  setStation_silent s a rfl

theorem rebuildAnswers_silent (a : Addr) : Silent s (s.rebuildAnswers a) := by
  unfold State.rebuildAnswers
  dsimp only
  split
  · exact setStation_silent s a rfl
  · exact .refl s

theorem callAnswerPoll_silent (a : Addr) : Silent s (s.callAnswerPoll a) := by
  unfold State.callAnswerPoll
  split
  · exact .loop s fun _ => rfl
  · exact startAnswerPoll_silent s a

theorem hearLoop_silent (line : List Bool) : Silent s (s.hearLoop line).1 := .loop s fun _ => rfl

theorem pollSent_silent : Silent s s.pollSent := by
  unfold State.pollSent
  split
  · exact .loop s fun _ => rfl
  · exact .refl s

theorem beginPoll_silent : Silent s s.beginPoll := by
  unfold State.beginPoll
  split
  · split
    · exact .loop s fun _ => rfl
    · exact .refl s
  · exact .refl s

/-- Port 1 and the handler changed, but for the queues, the LINK TEST that waits and the profiles. -/
theorem Silent.port {p : PortOne} {v : Handler} (queue : p.queue = s.p1.queue) (marks : p.marks = s.p1.marks)
    (heldOff : p.heldOff = s.p1.heldOff) (requests : p.requests = s.p1.requests ∨ p.requests.length ≤ 8)
    (profiles : v.profiles = s.sup.profiles) (test : v.linkTest = s.sup.linkTest) : Silent s { s with p1 := p, sup := v } :=
  ⟨rfl, rfl, rfl, rfl, rfl, rfl, rfl, rfl, profiles, rfl, fun _ => rfl, .inl rfl, queue, marks, heldOff, test, requests, rfl⟩

theorem applyAfter_silent (a : AfterSent) : Silent s (s.applyAfter a) := by
  unfold State.applyAfter
  split
  · exact .refl s
  · exact .port s rfl rfl rfl (.inl rfl) rfl rfl
  · exact .port s rfl rfl rfl (.inl rfl) rfl rfl
  · exact .port s rfl rfl rfl (.inl rfl) rfl rfl

theorem frameDone_silent : Silent s s.frameDone := by
  unfold State.frameDone
  split
  · exact .refl s
  · have sent := Silent.port s (p := { s.p1 with tx := .idle, sending := none, turn := s.p1.turnAfter }) (v := s.sup) rfl rfl rfl
      (.inl rfl) rfl rfl
    exact sent.trans (applyAfter_silent _ _)

/-- The end of a frame at port 1 lets at most eight requests wait (R166). -/
theorem frameEnds_silent (p : PortOne) (e : RxEvent) :
    (p.frameEnds e).queue = p.queue ∧ (p.frameEnds e).marks = p.marks ∧ (p.frameEnds e).heldOff = p.heldOff ∧
      ((p.frameEnds e).requests = p.requests ∨ (p.frameEnds e).requests.length ≤ 8) := by
  unfold PortOne.frameEnds
  cases e with
  | accepted f =>
    dsimp only
    unfold PortOne.takeFrame
    split
    · split
      · next room =>
        refine ⟨rfl, rfl, rfl, .inr ?_⟩
        simp only [List.length_append, List.length_singleton]
        exact room
      · exact ⟨rfl, rfl, rfl, .inl rfl⟩
    · exact ⟨rfl, rfl, rfl, .inl rfl⟩
  | dropped => exact ⟨rfl, rfl, rfl, .inl rfl⟩
  | discarded => exact ⟨rfl, rfl, rfl, .inl rfl⟩

theorem hear_silent (line : List Bool) : Silent s (s.hear line) := by
  unfold State.hear
  dsimp only
  split
  · exact .port s (v := s.sup) rfl rfl rfl (.inl rfl) rfl rfl
  · next e _ =>
    obtain ⟨queue, marks, heldOff, requests⟩ := frameEnds_silent { s.p1 with rx := (s.p1.rx.take s.rxConfig line).1 } e
    exact .port s (v := s.sup) queue marks heldOff requests rfl rfl

theorem portsOff_silent : Silent s s.portsOff :=
  ⟨rfl, rfl, rfl, rfl, rfl, rfl, rfl, rfl, rfl, rfl, fun _ => rfl, .inl rfl, rfl, rfl, rfl, rfl, .inl rfl, rfl⟩

theorem advance_reported (c : SiteClock) : c.advance.clk.reported = c.reported := by
  unfold SiteClock.advance
  split
  · rfl
  dsimp only
  split
  · rfl
  split
  · rfl
  split
  · rfl
  unfold SiteClock.nextDay
  dsimp only
  split
  · rfl
  split <;> rfl

theorem clockOnly_silent : Silent s { s with clk := s.clk.advance.clk } :=
  ⟨rfl, rfl, rfl, rfl, rfl, rfl, rfl, rfl, rfl, advance_reported s.clk, fun _ => rfl, .inl rfl, rfl, rfl, rfl, rfl, .inl rfl, rfl⟩

end Sys2Proof.Proofs.Acts
end

section
/-! PROOFS. Every command is made of stages: one at most, but for a REPORT and a second tick. -/
namespace Sys2Proof.Proofs.Acts

open Sys2Proof Sys2Proof.Machine Sys2Proof.Safety Relation

variable {w : Allows} {s t : State} {m : Mode}

theorem SamePort.of_frame {u : State} (hp : u.p1 = s.p1) (hs : u.sup = s.sup) (hq : u.pending = s.pending) : SamePort s u :=
  .of_eq hp (by rw [hs]) hq

/-- The part runs as the lines stand. -/
theorem running_of_lines (h : t.lines = s.lines) (on : s.running = true) : t.running = true := by
  unfold State.running at on ⊢
  rwa [h]

/-! ### Expiries -/

theorem expiry_stage {due : Bool} {f : State → State} (h : due = true → Event w m s (f s)) (port : SamePort s (f s)) :
    expiry due f s = s ∨ Stage w m s (expiry due f s) := by
  unfold expiry
  split
  · next runs =>
    simp only [Bool.and_eq_true] at runs
    exact .inr (.event (h runs.2) port runs.1)
  · exact .inl rfl

theorem takeGraceExpiry_stage (s : State) : s.takeGraceExpiry = s ∨ Stage w m s s.takeGraceExpiry :=
  expiry_stage (fun _ => (enterSite_keeps ..).event) (.of_frame (by simp) (by simp) (by simp))

theorem takeUnlockExpiry_stage (s : State) (r : Room) : s.takeUnlockExpiry r = s ∨ Stage w m s (s.takeUnlockExpiry r) :=
  expiry_stage (fun _ => (endRelease_keeps ..).event) (.of_frame (by simp) (by simp) (by simp))

theorem takeHeldOpenExpiry_stage (s : State) (r : Room) : s.takeHeldOpenExpiry r = s ∨ Stage w m s (s.takeHeldOpenExpiry r) :=
  expiry_stage (fun _ => (expireHeld_keeps ..).event) (.of_frame (by simp) (by simp) (by simp))

theorem takeWindowExpiry_stage (s : State) (r : Room) : s.takeWindowExpiry r = s ∨ Stage w m s (s.takeWindowExpiry r) :=
  expiry_stage (fun _ => (dropContext_keeps ..).event) (.of_frame rfl rfl rfl)

theorem takeDischargeExpiry_stage (s : State) (z : Room) : s.takeDischargeExpiry z = s ∨ Stage w .grants s (s.takeDischargeExpiry z) := by
  refine expiry_stage (fun due => endDischarge_trace true ?_) (.of_frame (by simp) (by simp) (by simp))
  simp only [State.dischargeIsDue, Bool.and_eq_true, decide_eq_true_eq] at due
  exact due.1

theorem takeFlowStartExpiry_stage (s : State) (z : Room) : s.takeFlowStartExpiry z = s ∨ Stage w .grants s (s.takeFlowStartExpiry z) := by
  refine expiry_stage (fun due => failDischarge_trace ?_) (.of_frame (by simp) (by simp) (by simp))
  simp only [State.flowStartIsDue, Bool.and_eq_true, decide_eq_true_eq] at due
  exact due.1

theorem takeSoakExpiry_stage (s : State) (z : Room) : s.takeSoakExpiry z = s ∨ Stage w m s (s.takeSoakExpiry z) := by
  refine expiry_stage (fun due => (endSoak_keeps ?_).event) (.of_frame (by simp) (by simp) (by simp))
  simp only [State.soakIsDue, Bool.and_eq_true, decide_eq_true_eq] at due
  exact due.1

theorem takeCountdownEnd_stage (s : State) (z : Room) : s.takeCountdownEnd z = s ∨ Stage w .grants s (s.takeCountdownEnd z) :=
  expiry_stage endCountdown_trace (.of_frame (by simp) (by simp) (by simp))

theorem takePrompt_stage (s : State) (e : Nat) : s.takePrompt e = s ∨ Stage w m s (s.takePrompt e) :=
  expiry_stage (fun _ => (prompt_keeps ..).event) (.of_frame (by simp) (by simp) (by simp))

theorem takeOverdue_stage (s : State) (e : Nat) : s.takeOverdue e = s ∨ Stage w m s (s.takeOverdue e) :=
  expiry_stage (fun _ => (overdue_keeps ..).event) (.of_frame (by simp) (by simp) (by simp))

/-- One stage or nothing. -/
theorem Stages.of_one (h : t = s ∨ Stage w m s t) : Stages w m s t := by
  rcases h with rfl | h
  · exact .refl m _
  · exact h.stages

theorem settle_stages (s : State) : Stages w .grants s s.settle := by
  unfold State.settle
  extract_lets s1 s2 s3 s4 s5 s6 s7 s8 s9
  have grace : Stages w .grants s s1 := .of_one (takeGraceExpiry_stage s)
  have unlock : Stages w .grants s1 s2 := .foldl (fun u r => .of_one (takeUnlockExpiry_stage u r)) rooms s1
  have heldOpen : Stages w .grants s2 s3 := .foldl (fun u r => .of_one (takeHeldOpenExpiry_stage u r)) rooms s2
  have window : Stages w .grants s3 s4 := .foldl (fun u r => .of_one (takeWindowExpiry_stage u r)) rooms s3
  have discharge : Stages w .grants s4 s5 := .foldl (fun u r => .of_one (takeDischargeExpiry_stage u r)) rooms s4
  have flowStart : Stages w .grants s5 s6 := .foldl (fun u r => .of_one (takeFlowStartExpiry_stage u r)) rooms s5
  have soak : Stages w .grants s6 s7 := .foldl (fun u r => .of_one (takeSoakExpiry_stage u r)) rooms s6
  have countdown : Stages w .grants s7 s8 := .foldl (fun u r => .of_one (takeCountdownEnd_stage u r)) rooms s7
  have prompt : Stages w .grants s8 s9 := .foldl (fun u e => .of_one (takePrompt_stage u e)) (s8.roll.entries.map Prod.fst) s8
  have overdue := Stages.foldl (fun u e => .of_one (takeOverdue_stage (w := w) (m := .grants) u e)) (s9.roll.entries.map Prod.fst) s9
  exact ((((((((grace.trans unlock).trans heldOpen).trans window).trans discharge).trans flowStart).trans soak).trans countdown).trans
    prompt).trans overdue

theorem secondTick_stages (first : Bool) (h : execSecondTick first s = .next t) : Stages w .grants s t := by
  unfold execSecondTick at h
  cases h
  split
  · next on =>
    extract_lets counted settled
    have settledOn : s.settle.running = true := running_of_lines (by simp) on
    have counted_ : Stages w .grants s counted :=
      (settle_stages s).trans (Stage.event (countDown_keeps _).event (.of_frame rfl rfl rfl) settledOn).stages
    have countedOn : counted.running = true := running_of_lines (by simp [counted, State.event]) settledOn
    have settled_ : Stages w .grants counted settled := by
      unfold settled
      split
      · exact settle_stages _
      · exact .refl ..
    have settledOn' : settled.running = true := running_of_lines (by unfold settled; split <;> simp) countedOn
    exact (counted_.trans settled_).trans (Stage.event (advanceClock_keeps _).event (.of_frame (by simp) (by simp) (by simp)) settledOn').stages
  · exact (Stage.silent (clockOnly_silent s)).stages

/-! ### Reports -/

theorem takePresentations_stages {α : Type} {decide_ : State → α → State × ReaderAnswer} (h : ∀ u p, Serves w m u (decide_ u p).1)
    (lines : ∀ u p, (decide_ u p).1.lines = u.lines) (ps : List α) (s : State) (on : s.running = true) :
    Stages w m s (takePresentations decide_ s ps).1 := by
  induction ps generalizing s with
  | nil => exact .refl m s
  | cons p ps ih =>
    exact (Stage.event (h s p).event (h s p).port on).stages.trans (ih _ (running_of_lines (by simp [lines]) on))

/-- A fold of events that leave the lines alone. -/
theorem Stages.foldl_events {α : Type} {f : State → α → State} (h : ∀ u a, Serves w m u (f u a)) (lines : ∀ u a, (f u a).lines = u.lines)
    (l : List α) (s : State) (on : s.running = true) : Stages w m s (l.foldl (fun u a => State.finish u (f u a)) s) := by
  induction l generalizing s with
  | nil => exact .refl m s
  | cons a l ih =>
    exact (Stage.event (h s a).event (h s a).port on).stages.trans (ih _ (running_of_lines (by simp [lines]) on))

theorem takeEvents_stages (a : Addr) {e : Events} {type : StationType} (fits : e.fit type = true) (s : State) (on : s.running = true) :
    Stages w (modeOf type) s (s.takeEvents a e).1 := by
  unfold State.takeEvents
  split
  · next ps r _ =>
    have unit : type = .doorUnit := by
      simp only [Events.fit, Bool.and_eq_true, decide_eq_true_eq] at fits
      exact fits.1.1
    subst unit
    exact takePresentations_stages (fun u p => ⟨presentation_trace u a r p, .of_frame (by simp) (by simp) (by simp)⟩) (by simp) ps s on
  · next ps r _ =>
    exact takePresentations_stages (fun u p => (checkInPresentation_keeps u r p).serves (.of_frame (by simp) (by simp) (by simp))) (by simp) ps s on
  · next ps => exact Stages.foldl_events (fun u p => (pendant_keeps u a p).serves (.of_frame (by simp) (by simp) (by simp))) (by simp) ps s on
  · exact .refl ..

theorem reportEvents_stages (a : Addr) {r : ReportFrame} {type : StationType} (fits : r.events.fit type = true) (s : State)
    (on : s.running = true) : Stages w (modeOf type) s (s.reportEvents a r) := by
  unfold State.reportEvents
  split
  · exact .refl ..
  extract_lets owned d taken
  have taken_ : Stages w (modeOf type) s taken := by
    unfold taken
    split
    · exact (Stage.silent (rebuildAnswers_silent s a)).stages
    · exact (takeEvents_stages a fits s on).trans (Stage.silent (keepAnswers_silent ..)).stages
  split
  · exact taken_.trans (Stage.silent (callAnswerPoll_silent ..)).stages
  · exact taken_

theorem declared?_fits {r : ReportFrame} {type : StationType} (h : r.declared? = some type) : r.events.fit type = true := by
  unfold ReportFrame.declared? at h
  split at h
  · cases h
  · split at h
    · next fits =>
      cases h
      exact fits.2.2.1
    · cases h

theorem validReply_stages (owes : w.owes = true) (a : Addr) {r : ReportFrame} {type : StationType} (declared : r.declared? = some type) (s : State)
    (on : s.running = true) : ∃ m, Stages w m s (s.validReply a type r) := by
  unfold State.validReply
  extract_lets ended st
  have ended_ (m : Mode) : Stages w m s ended := (Stage.silent (endPoll_silent s a)).stages
  have endedOn : ended.running = true := running_of_lines (by simp [ended]) on
  split
  · exact ⟨.grants, ended_ _⟩
  split
  · exact ⟨.grants, (ended_ _).trans (Stage.event (wrongType_event ended owes a) (.of_frame (by simp) (by simp) (by simp)) endedOn).stages⟩
  · next same =>
    have type_ : type = ended.loop.stations[a].type := of_not_not same
    refine ⟨modeOf type, ((ended_ _).trans (Stage.event ?_ (.of_frame (by simp) (by simp) (by simp)) endedOn).stages).trans
      (reportEvents_stages a (declared?_fits declared) _ (running_of_lines (by simp) endedOn))⟩
    rw [type_]
    exact takeReport_event ended owes a r

theorem report_stages (owes : w.owes = true) {r : ReportFrame} (h : execReport r s = .next t) : ∃ m, Stages w m s t := by
  unfold execReport at h
  cases h
  have heard := hearLoop_silent s r.line
  have lines := (s.hearLoop_frame r.line).2.1
  split
  · next on =>
    split
    · next u f taken =>
      rw [taken] at heard lines
      have heard_ (m : Mode) : Stages w m s u := (Stage.silent heard).stages
      unfold State.takeReply
      split
      · next declared =>
        split
        · obtain ⟨m, replied⟩ := validReply_stages owes _ declared u (running_of_lines lines on)
          exact ⟨m, (heard_ m).trans replied⟩
        · exact ⟨.grants, heard_ _⟩
      · exact ⟨.grants, heard_ _⟩
    · next taken =>
      rw [taken] at heard
      exact ⟨.grants, (Stage.silent heard).stages⟩
  · exact ⟨.grants, .refl ..⟩

/-! ### Commands -/

/-- Only the requests about the roll change who is in a strongroom; a REPORT's mode depends on the station. -/
def modeOfCommand : Instr → Mode
  | .rollConfirm _ | .rollSweep _ | .rollRemove _ => .rolls
  | _ => .grants

/-- A command that brings several events. -/
def manyEvents : Instr → Bool
  | .report _ | .secondTick _ => true
  | _ => false

theorem linkTest_stage (answers : w.answers = true) (h : execLinkTest s = .next t) : t = s ∨ Stage w m s t := by
  unfold execLinkTest at h
  split at h
  · cases h
    exact .inl rfl
  · next f s1 picked =>
    cases h
    obtain ⟨rest, takes, rfl⟩ := takeRequest_takes picked
    split
    · exact .inr (.asked takes)
    · exact .inr (.request answers _ _ takes (.refl ..) (.refl _))

theorem linkTestRun_stage (answers : w.answers = true) {line : List Bool} (h : execLinkTestRun line s = .next t) : t = s ∨ Stage w m s t := by
  unfold execLinkTestRun at h
  cases h
  split
  · exact .inl rfl
  · next f waits =>
    split
    · next on =>
      have running : s.running = true := by
        simp only [Bool.and_eq_true] at on
        exact on.1.1
      exact .inr (.tested answers _ _ waits (linkTested_keeps ..).event
        (.of_frame (by simp [testing]) (by simp [testing]) (by simp [testing])) running)
    · exact .inl rfl

theorem restart_stage (answers : w.answers = true) (starts : w.starts = true) {line1 line2 : List Bool}
    (h : execRestart line1 line2 s = .next t) : t = s ∨ Stage w m s t := by
  unfold execRestart at h
  split at h
  · cases h
    exact .inl rfl
  · next f s1 picked =>
    cases h
    obtain ⟨rest, takes, rfl⟩ := takeRequest_takes picked
    split
    · exact .inr (.request answers _ _ takes (.refl ..) (.refl _))
    · split
      · exact .inr (.started starts s.lines { s.p1 with requests := rest } .request line1 line2)
      · exact .inr (.request answers _ _ takes (.refl ..) (.refl _))

theorem pollMissed_stage (owes : w.owes = true) (h : execPollMissed s = .next t) : t = s ∨ Stage w .grants s t := by
  unfold execPollMissed at h
  cases h
  split
  · split
    · next on =>
      simp only [Bool.and_eq_true] at on
      exact .inr (.event ((loop_keeps s _).event.trans (miss_event (owes := owes) ..)) (.of_frame (by simp) (by simp) (by simp)) on.1.1)
    · exact .inl rfl
  · exact .inl rfl

theorem stopped_inhibit {active : Bool} (h : ¬s.running = true) :
    Silent s { s with lines := { s.lines with inhibit := active } } := by
  refine .of_lines s (.inr ?_)
  by_cases on : s.lines.mainOn = true
  · exact .inr (by simpa [State.running, on] using h)
  · exact .inl (by simpa using on)

theorem powerUp_stage (starts : w.starts = true) {line1 line2 : List Bool} (h : execPowerUp line1 line2 s = .next t) : t = s ∨ Stage w m s t := by
  unfold execPowerUp at h
  cases h
  split
  · exact .inl rfl
  · dsimp only
    split
    · exact .inr (.started starts { s.lines with mainOn := true } s.p1 .powerUp line1 line2)
    · next held => exact .inr (.emptied starts (by simpa using held))

theorem resetLineHigh_stage (starts : w.starts = true) {line1 line2 : List Bool}
    (h : execResetLineHigh line1 line2 s = .next t) : t = s ∨ Stage w m s t := by
  unfold execResetLineHigh at h
  cases h
  split
  · exact .inl rfl
  · dsimp only
    split
    · exact .inr (.started starts { s.lines with resetHigh := true } s.p1 .resetLine line1 line2)
    · next off => exact .inr (.silent (.of_lines s (.inr (.inl (by simpa using off)))))

/-- Only these commands may owe a DOOR notice: they place DOOR LOCKDOWN or lose a door unit. -/
def owesDoor : Instr → Bool
  | .doorLockdown _ | .pollMissed | .stationConfigure _ | .report _ => true
  | _ => false

/-- The command begins a frame of port 1. -/
def beginsFrame : Instr → Bool
  | .frameTransmit .supervisor => true
  | _ => false

/-- What a command may do besides. -/
def allowsOf (c : Instr) : Allows := ⟨owesDoor c, startsAgain c, !manyEvents c, beginsFrame c⟩

/-- A command other than a REPORT and a second tick is one stage, or does nothing. -/
theorem exec_stage {c : Instr} (one : manyEvents c = false) (h : exec c s = .next t) :
    t = s ∨ Stage (allowsOf c) (modeOfCommand c) s t := by
  cases c with
  | enrol a =>
    refine serveWhen_stages rfl (fun _ u => ?_) h
    split
    · exact .refl u
    · exact (enrolBody_keeps u _).serves (enrolBody_port u _)
  | amend a => exact serveFields_stages rfl (fun a u => (amendBody_keeps u a).serves (amendBody_port u a)) h
  | suspend a => exact serveFields_stages rfl (fun a u => (suspendBody_keeps u a).serves (suspendBody_port u a)) h
  | reinstate a => exact serveFields_stages rfl (fun a u => (reinstateBody_keeps u a).serves (reinstateBody_port u a)) h
  | revoke a => exact serveFields_stages rfl (fun a u => (revokeBody_keeps u a).serves (revokeBody_port u a)) h
  | readBearer a => exact serveFields_stages rfl (fun a u => .of_read (readBearerBody_state u a)) h
  | findToken a => exact serveFields_stages rfl (fun a u => .of_read (findTokenBody_state u a)) h
  | retentionSet a => exact serveFields_stages rfl (fun a u => (retentionSetBody_keeps u a).serves (retentionSetBody_port u a)) h
  | chainWrite a => exact serveFields_stages rfl (fun a u => (chainWriteBody_keeps u a).serves (chainWriteBody_port u a)) h
  | chainRead a => exact serveFields_stages rfl (fun a u => .of_read (chainReadBody_state u a)) h
  | scheduleWrite a => exact serveFields_stages rfl (fun a u => (scheduleWriteBody_keeps u a).serves (scheduleWriteBody_port u a)) h
  | scheduleRead a => exact serveFields_stages rfl (fun a u => .of_read (scheduleReadBody_state u a)) h
  | holidayAdd a => exact serveFields_stages rfl (fun a u => (holidayAddBody_keeps u a).serves (holidayAddBody_port u a)) h
  | holidayRemove a => exact serveFields_stages rfl (fun a u => (holidayRemoveBody_keeps u a).serves (holidayRemoveBody_port u a)) h
  | holidayRead => exact serveBare_stages rfl (fun _ u => .refl u) h
  | clockSet a => exact serveFields_stages rfl (fun a u => (clockSetBody_keeps u a).serves (clockSetBody_port u a)) h
  | clockRead => exact serveBare_stages rfl (fun _ u => .refl u) h
  | siteSet a => exact serveFields_stages rfl (fun a u => (siteSetBody_keeps u a).serves (siteSetBody_port u a)) h
  | siteOverride a => exact serveFields_stages rfl (fun a u => (siteOverrideBody_keeps u a).serves (siteOverrideBody_port u a)) h
  | rollConfirm a => exact serveFields_stages rfl (fun a u => ⟨(rollConfirmBody_rolls u a).event, rollConfirmBody_port u a⟩) h
  | rollSweep a => exact serveFields_stages rfl (fun a u => ⟨(rollSweepBody_rolls u a).event, rollSweepBody_port u a⟩) h
  | rollRemove a => exact serveFields_stages rfl (fun a u => ⟨(rollRemoveBody_rolls u a).event, rollRemoveBody_port u a⟩) h
  | rollRead a => exact serveFields_stages rfl (fun a u => .of_read (rollReadBody_state u a)) h
  | doorRelease a => exact serveFields_stages rfl (fun a u => (doorReleaseBody_keeps u a).serves (doorReleaseBody_port u a)) h
  | doorLockdown a => exact serveFields_stages rfl (fun a u => ⟨(doorLockdownBody_owes u a).event rfl, doorLockdownBody_port u a⟩) h
  | doorRestore a => exact serveFields_stages rfl (fun a u => (doorRestoreBody_keeps u a).serves (doorRestoreBody_port u a)) h
  | doorRead a => exact serveFields_stages rfl (fun a u => .of_read (doorReadBody_state u a)) h
  | alarmAck a => exact serveFields_stages rfl (fun a u => (alarmAckBody_keeps u a).serves (alarmAckBody_port u a)) h
  | alarmReset a => exact serveFields_stages rfl (fun a u => (alarmResetBody_keeps u a).serves (alarmResetBody_port u a)) h
  | alarmRead a => exact serveFields_stages rfl (fun a u => .of_read (alarmReadBody_state u a)) h
  | zoneReset a => exact serveFields_stages rfl (fun a u => (zoneResetBody_keeps u a).serves (zoneResetBody_port u a)) h
  | zoneDisable a => exact serveFields_stages rfl (fun a u => (zoneDisableBody_keeps u a).serves (zoneDisableBody_port u a)) h
  | zoneEnable a => exact serveFields_stages rfl (fun a u => (zoneEnableBody_keeps u a).serves (zoneEnableBody_port u a)) h
  | releaseAuthorise a =>
    exact serveFields_stages rfl (fun a u => (releaseAuthoriseBody_keeps u a).serves (releaseAuthoriseBody_port u a)) h
  | zoneRead a => exact serveFields_stages rfl (fun a u => .of_read (zoneReadBody_state u a)) h
  | cylinderInstall a => exact serveFields_stages rfl (fun a u => (installBody_keeps u a).serves (installBody_port u a)) h
  | cylinderIsolate a => exact serveFields_stages rfl (fun a u => (isolateBody_keeps u a).serves (isolateBody_port u a)) h
  | cylinderReturn a => exact serveFields_stages rfl (fun a u => (returnBody_keeps u a).serves (returnBody_port u a)) h
  | cylinderRemove a => exact serveFields_stages rfl (fun a u => (removeBody_keeps u a).serves (removeBody_port u a)) h
  | cylinderRead a => exact serveFields_stages rfl (fun a u => .of_read (cylinderReadBody_state u a)) h
  | bankRead => exact serveBare_stages rfl (fun _ u => .refl u) h
  | stationConfigure a =>
    exact serveFields_stages rfl (fun a u => ⟨stationConfigureBody_event u rfl a, stationConfigureBody_port u a⟩) h
  | stationRead a => exact serveFields_stages rfl (fun a u => .of_read (stationReadBody_state u a)) h
  | linkSet a => exact serveFields_stages rfl (fun a u => linkSetBody_serves u a) h
  | linkRead a => exact serveFields_stages rfl (fun a u => .of_read (linkReadBody_state u a)) h
  | linkTest => exact linkTest_stage rfl h
  | status => exact serveBare_stages rfl (fun f u => statusBody_serves u f) h
  | restart line1 line2 => exact restart_stage rfl rfl h
  | addressSet a => exact serveFields_stages rfl (fun a u => addressSetBody_serves u a) h
  | profileLoad a => exact serveFields_stages rfl (fun a u => (profileLoadBody_keeps u a).serves (profileLoadBody_port u a)) h
  | profileRead a => exact serveFields_stages rfl (fun a u => .of_read (profileReadBody_state u a)) h
  | unknownRequest => exact serveWhen_stages rfl (fun _ u => .refl u) h
  | supervisorFrameReceived line =>
    cases h
    split
    · exact .inr (.silent (hear_silent s line))
    · exact .inl rfl
  | frameTransmit port =>
    cases h
    split
    · split
      · next may => exact .inr (.transmitted rfl may)
      · exact .inl rfl
    · exact .inr (.silent (beginPoll_silent s))
  | linkSettingsApply =>
    cases h
    split
    · exact .inr (.silent (.loop s fun _ => rfl))
    · exact .inl rfl
  | linkTestRun line => exact linkTestRun_stage rfl h
  | poll =>
    cases h
    split
    · split
      · exact .inr (.silent (startAnswerPoll_silent s _))
      · exact .inr (.silent (startScanPoll_silent s))
    · exact .inl rfl
  | broadcastPoll =>
    cases h
    split
    · exact .inl rfl
    · split
      · exact .inr (.silent (.loop s fun _ => rfl))
      · exact .inl rfl
  | pollMissed => exact pollMissed_stage rfl h
  | report r => cases one
  | secondTick first => cases one
  | graceTimerExpiry =>
    cases h
    exact takeGraceExpiry_stage s
  | unlockTimerExpiry r =>
    cases h
    exact takeUnlockExpiry_stage s r
  | heldOpenTimerExpiry r =>
    cases h
    exact takeHeldOpenExpiry_stage s r
  | pairingWindowExpiry r =>
    cases h
    exact takeWindowExpiry_stage s r
  | countdownEnd z =>
    cases h
    exact takeCountdownEnd_stage s z
  | dischargeTimerExpiry z =>
    cases h
    exact takeDischargeExpiry_stage s z
  | flowStartTimerExpiry z =>
    cases h
    exact takeFlowStartExpiry_stage s z
  | soakTimerExpiry z =>
    cases h
    exact takeSoakExpiry_stage s z
  | loneWorkerPrompt e =>
    cases h
    exact takePrompt_stage s e
  | loneWorkerExpiry e =>
    cases h
    exact takeOverdue_stage s e
  | mainsOkChange active =>
    cases h
    split
    · next on =>
      simp only [Bool.and_eq_true] at on
      refine .inr (.event (Event.trans ?_ (mainsChanged_keeps _).event) (.of_frame (by simp) (by simp) (by simp)) on.1)
      exact (Keeps.quiet (s := s) (t := { s with lines := { s.lines with mainsOk := active } }) rfl rfl ⟨rfl, rfl, rfl⟩
        ⟨⟨rfl, rfl, rfl⟩, fun _ => rfl, rfl⟩).event
    · exact .inr (.silent (.of_lines s (.inl rfl)))
  | inhibitChange active =>
    cases h
    split
    · next on => exact .inr (.event (inhibited_event s active) (.of_frame (by simp) (by simp) (by simp)) on)
    · next stopped => exact .inr (.silent (stopped_inhibit stopped))
  | powerUp line1 line2 => exact powerUp_stage rfl h
  | mainSupplyFail =>
    cases h
    split
    · exact .inr (.silent ((portsOff_silent s).trans (.of_lines _ (.inr (.inl rfl)))))
    · exact .inl rfl
  | backupLoss =>
    cases h
    exact .inr (.silent (.of_lines s (.inl rfl)))
  | resetLineLow =>
    cases h
    split
    · exact .inr (.silent ((portsOff_silent s).trans (.of_lines _ (.inr (.inr rfl)))))
    · exact .inl rfl
  | resetLineHigh line1 line2 => exact resetLineHigh_stage rfl h
  | restartWarmReset line1 line2 =>
    cases h
    split
    · exact .inr (.started rfl s.lines s.p1 .request line1 line2)
    · exact .inl rfl
  | frameSent port =>
    cases h
    split
    · split
      · exact .inr (.silent (frameDone_silent s))
      · exact .inr (.silent (pollSent_silent s))
    · exact .inl rfl

/-- Every command is made of stages of one mode. -/
theorem exec_stages {c : Instr} (h : exec c s = .next t) : ∃ m, Stages (allowsOf c) m s t := by
  cases one : manyEvents c with
  | false => exact ⟨_, .of_one (exec_stage one h)⟩
  | true =>
    cases c with
    | report r => exact report_stages rfl h
    | secondTick first => exact ⟨_, secondTick_stages first h⟩
    | _ => cases one

/-- So is every step, but for the command it takes from the queue. -/
theorem step_stages (h : step s = .next t) : ∃ l w m, Stages w m { s with pending := l } t := by
  unfold step at h
  split at h
  · next empty =>
    cases h
    exact ⟨s.pending, .nothing, .grants, .refl ..⟩
  · next c rest _ =>
    obtain ⟨m, stages⟩ := exec_stages h
    exact ⟨rest, allowsOf c, m, stages⟩

end Sys2Proof.Proofs.Acts
end

section
/-! PROOFS. The laws of the Alarm Table and its outputs, of the notices owed, and of port 1's queues, kept stage by stage. -/
namespace Sys2Proof.Proofs.Acts

open Sys2Proof Sys2Proof.Machine Sys2Proof.Safety Relation

variable {w : Allows} {s t u : State} {m : Mode}

/-! ### The law of R94 -/

theorem alarmLaw_congr (h : AlarmLaw s) (ha : t.alarms.records = s.alarms.records) : AlarmLaw t := by
  unfold AlarmLaw
  rw [ha]
  exact h

/-- Records whose keys are a part of those of a lawful table. -/
theorem alarmLaw_of_sublist (h : AlarmLaw s)
    (hs : List.Sublist (t.alarms.records.map AlarmRecord.key) (s.alarms.records.map AlarmRecord.key)) : AlarmLaw t := by
  refine ⟨h.1.sublist hs, ?_⟩
  have := hs.length_le
  simp only [List.length_map] at this
  exact this.trans h.2

theorem alarmLaw_of_keys (h : AlarmLaw s) (hk : t.alarms.records.map AlarmRecord.key = s.alarms.records.map AlarmRecord.key) :
    AlarmLaw t :=
  alarmLaw_of_sublist h (hk ▸ List.Sublist.refl _)

theorem raiseAlarm_law (h : AlarmLaw s) (k : AlarmKey) : AlarmLaw (s.raiseAlarm k) := by
  unfold State.raiseAlarm
  split
  · refine alarmLaw_of_keys h ?_
    simp only [List.map_map]
    refine List.map_congr_left fun r _ => ?_
    simp only [Function.comp_apply]
    split <;> rfl
  next absent =>
  have fresh : ∀ r ∈ s.alarms.records, r.key ≠ k := by simpa [List.find?_eq_none] using absent
  dsimp only
  split
  · next room =>
    refine ⟨?_, by simpa [Config.maxAlarms, Nat.succ_le_iff] using room⟩
    simp only [List.map_append, List.map_cons, List.map_nil]
    refine List.Nodup.append h.1 (by simp) ?_
    simpa [List.disjoint_singleton] using fresh
  split
  · next v found =>
    have mem : v ∈ s.alarms.records := by
      obtain ⟨test, -, hv⟩ := List.exists_of_findSome?_eq_some found
      exact List.mem_of_find?_eq_some hv
    have length := List.length_erase_of_mem mem
    have some_ : 0 < s.alarms.records.length := List.length_pos_of_mem mem
    refine ⟨?_, ?_⟩
    · simp only [List.map_append, List.map_cons, List.map_nil]
      refine List.Nodup.append (h.1.sublist (List.erase_sublist.map _)) (by simp) ?_
      simp only [List.disjoint_singleton, List.mem_map, not_exists, not_and]
      exact fun r hr => fresh r (List.mem_of_mem_erase hr)
    · have := h.2
      simp only [List.length_append, List.length_singleton]
      omega
  · exact alarmLaw_congr h rfl

theorem conditionGone_key {r q : AlarmRecord} (h : r.conditionGone = some q) : q.key = r.key := by
  unfold AlarmRecord.conditionGone at h
  split at h
  · cases h
    rfl
  · split at h
    · cases h
      rfl
    · cases h
  · cases h
    rfl
  · cases h
    rfl

/-- A list of records changed one by one, some left out, none renamed. -/
theorem filterMap_keys {f : AlarmRecord → Option AlarmRecord} (hf : ∀ r q, f r = some q → q.key = r.key) (l : List AlarmRecord) :
    List.Sublist ((l.filterMap f).map AlarmRecord.key) (l.map AlarmRecord.key) := by
  induction l with
  | nil => exact .slnil
  | cons r l ih =>
    cases hr : f r with
    | none =>
      rw [List.filterMap_cons_none hr]
      exact ih.cons _
    | some q =>
      rw [List.filterMap_cons_some hr, List.map_cons, List.map_cons, hf r q hr]
      exact ih.cons_cons _

theorem alarmsGone_law (h : AlarmLaw s) (g : AlarmKey → Bool) : AlarmLaw (s.alarmsGone g) := by
  refine alarmLaw_of_sublist h (filterMap_keys (fun r q hr => ?_) _)
  split at hr
  · exact conditionGone_key hr
  · cases hr
    rfl

theorem putAlarm_law (h : AlarmLaw s) (r : AlarmRecord) : AlarmLaw (s.putAlarm r) := by
  refine alarmLaw_of_keys h ?_
  simp only [State.putAlarm, List.map_map]
  refine List.map_congr_left fun q _ => ?_
  simp only [Function.comp_apply]
  split
  · next same => exact same.symm
  · rfl

theorem retireAlarm_law (h : AlarmLaw s) (r : AlarmRecord) : AlarmLaw (s.retireAlarm r) :=
  alarmLaw_of_sublist h (List.filter_sublist.map _)

theorem AlarmAct.law (h : AlarmAct w s t) (hs : AlarmLaw s) : AlarmLaw t := by
  cases h with
  | same ha _ => exact alarmLaw_congr hs (by rw [ha])
  | raised k ha _ => exact alarmLaw_congr (raiseAlarm_law hs k) (by rw [ha])
  | gone g ha _ => exact alarmLaw_congr (alarmsGone_law hs g) (by rw [ha])
  | put r _ ha _ => exact alarmLaw_congr (putAlarm_law hs r) (by rw [ha])
  | retired r _ ha _ => exact alarmLaw_congr (retireAlarm_law hs r) (by rw [ha])
  | owed _ d ha _ => exact alarmLaw_congr hs (by rw [ha])

theorem alarmActs_law (h : ReflTransGen (AlarmAct w) s t) (hs : AlarmLaw s) : AlarmLaw t := by
  induction h with
  | refl => exact hs
  | tail _ act ih => exact act.law ih

theorem coverageAlarms_keeps (s o : State) : Keeps s (s.coverageAlarms o) := by
  refine Keeps.foldl (fun u z => ?_) rooms s
  unfold State.coverageAlarm
  split
  · exact raiseAlarm_keeps ..
  · exact alarmGone_keeps ..
  · exact .refl u

theorem Keeps.alarms (h : Keeps s t) : ReflTransGen (AlarmAct w) s t := h.beside.alarms w

theorem finish_records (o s : State) : (State.finish o s).alarms.records = (s.coverageAlarms o).alarms.records := by
  obtain ⟨_, _, _, _, _, _, h⟩ := State.finish_eq o s
  rw [h]

theorem finish_law (o : State) (h : AlarmLaw s) : AlarmLaw (State.finish o s) :=
  alarmLaw_congr (alarmActs_law ((coverageAlarms_keeps s o).alarms (w := .nothing)) h) (finish_records o s)

theorem answer_alarms (f : RequestFrame) (code : Octet) (r : Reply) : (s.answer f code r).alarms = s.alarms := by
  unfold State.answer
  split
  · exact (State.applyNow_frame s r.after).2.2.2.2.2.2.2.2.1
  · rfl

/-! ### A start's raises -/

/-- What `P` says of the Alarm Table holds through raises. -/
theorem raises_keep {P : AlarmTable → Prop} (hP : ∀ (u : State) k, P u.alarms → P (u.raiseAlarm k).alarms) {α : Type}
    (key : α → AlarmKey) (l : List α) (s : State) (h : P s.alarms) :
    P (l.foldl (fun s a => State.raiseAlarm s (key a)) s).alarms := by
  induction l generalizing s with
  | nil => exact h
  | cons a l ih => exact ih _ (hP s _ h)

theorem owes_alarms {α : Type} (due : α → Due) (l : List α) (s : State) :
    (l.foldl (fun s a => State.owe s (due a)) s).alarms = s.alarms := by
  induction l generalizing s with
  | nil => rfl
  | cons a l ih => exact ih _

theorem zoneConditions_keep {P : AlarmTable → Prop} (hP : ∀ (u : State) k, P u.alarms → P (u.raiseAlarm k).alarms) (s : State)
    (z : Room) (h : P s.alarms) : P (s.zoneConditions z).alarms := by
  unfold State.zoneConditions
  dsimp only
  split
  · split
    · exact hP _ _ h
    · exact h
  · split
    · exact hP _ _ (hP _ _ h)
    · exact hP _ _ h
  · exact h

section
variable {P : AlarmTable → Prop} (hP : ∀ (u : State) k, P u.alarms → P (u.raiseAlarm k).alarms) (s : State) (h : P s.alarms)
include hP h

theorem startBearers_keep : P s.startBearers.alarms :=
  raises_keep hP (AlarmKey.forBearer .pinLockout) _ _ (raises_keep hP (AlarmKey.forBearer .revokedInside) _ _ h)

theorem startRoll_keep : P s.startRoll.alarms := by
  unfold State.startRoll
  dsimp only
  rw [owes_alarms fun r => .object (.roll r)]
  exact raises_keep hP (AlarmKey.forRoom .escortLapse) _ _ (raises_keep hP (AlarmKey.forRoom .rollUnreconciled) _ _ h)

theorem allConditions_keep (l : List Room) : P (l.foldl State.zoneConditions s).alarms := by
  induction l generalizing s with
  | nil => exact h
  | cons z l ih => exact ih _ (zoneConditions_keep hP s z h)

theorem startZones_keep (warm : Bool) : P (s.startZones warm).alarms := by
  unfold State.startZones
  extract_lets u v
  have hv : P v.alarms := allConditions_keep hP u h rooms
  split
  · rwa [owes_alarms fun z => .object (.zone z)]
  · exact hv

theorem startBank_keep (warm : Bool) (changed : List Pos) : P (s.startBank warm changed).alarms := by
  unfold State.startBank
  extract_lets u v w
  have hw : P w.alarms := by
    unfold w
    rw [owes_alarms fun p => .object (.cylinder p)]
    exact raises_keep hP (AlarmKey.forRoom .coverageShort) _ _ h
  split
  · rwa [owes_alarms fun z => .object (.coverage z)]
  · exact hw

/-- A start changes the Alarm Table by raises alone (R176). -/
theorem startBlocks_keep (warm pass1 pass2 : Bool) (changed : List Pos) : P (s.startBlocks warm pass1 pass2 changed).alarms := by
  have raised (u : State) (c : Bool) (k : AlarmKey) (hu : P u.alarms) : P (if c then u else u.raiseAlarm k).alarms := by
    split
    · exact hu
    · exact hP u k hu
  unfold State.startBlocks
  extract_lets s1 s2 s3 s4 s5
  have h3 : P s3.alarms := raised _ _ _ (raised _ _ _ (hP _ _ h))
  have roll : P s3.startClock.startBearers.startRoll.alarms :=
    startRoll_keep hP _ (startBearers_keep hP s3.startClock h3)
  have bank : P s4.alarms := startBank_keep hP _ (startZones_keep hP _ roll warm) warm changed
  exact raised s5 _ _ bank

end

theorem payDues_alarms (ds : List Due) (s : State) : (ds.foldl State.payDue s).alarms = s.alarms := by
  obtain ⟨_, _, _, h⟩ := State.payDues_eq ds s
  rw [h]

theorem startEnds_alarms (s : State) :
    s.startEnds.alarms = { s.alarms with general := s.alarms.deriveGeneral, fault := s.alarms.deriveFault } := payDues_alarms ..

theorem startUp_law (s : State) (cause : RestartCause) (line1 line2 : List Bool) : AlarmLaw (s.startUp cause line1 line2) := by
  have empty : (AlarmTable.empty.records.map AlarmRecord.key).Nodup ∧ AlarmTable.empty.records.length ≤ 64 := by
    simp [AlarmTable.empty]
  unfold State.startUp
  extract_lets pass1 pass2 cold t changed
  refine alarmLaw_congr (s := (t.startPorts pass1 pass2).startBlocks (!cold) pass1 pass2 changed) ?_ (by rw [startEnds_alarms])
  refine startBlocks_keep (P := fun a => (a.records.map AlarmRecord.key).Nodup ∧ a.records.length ≤ 64)
    (fun u k hu => raiseAlarm_law hu k) _ ?_ _ _ _ _
  unfold t
  split <;> exact empty

/-! ### O48 -/

theorem Stage.alarmLaw (h : Stage w m s t) (hs : AlarmLaw s) : AlarmLaw t := by
  cases h with
  | event h _ => exact finish_law _ (alarmActs_law h.alarms hs)
  | silent h => exact alarmLaw_congr hs (by rw [h.alarms])
  | request _ code r _ h _ => exact alarmLaw_congr (finish_law _ (alarmActs_law h.alarms hs)) (by rw [answer_alarms])
  | asked _ => exact hs
  | tested _ code r _ h _ => exact alarmLaw_congr (finish_law _ (alarmActs_law h.alarms hs)) (by rw [answer_alarms])
  | transmitted _ _ => exact alarmLaw_congr hs (by simp)
  | emptied _ _ => exact ⟨List.nodup_nil, Nat.zero_le _⟩
  | started _ l p cause line1 line2 => exact startUp_law ..

/-- What every stage of a mode keeps, every step keeps in one of the modes. -/
theorem step_keeps_in {P : Mode → State → Prop} (pending : ∀ m (s : State) l, P m s → P m { s with pending := l })
    (stage : ∀ {w m s t}, Stage w m s t → P m s → P m t) {s t : State} (h : step s = .next t) (hs : ∀ m, P m s) : ∃ m, P m t := by
  obtain ⟨l, w, m, stages⟩ := step_stages h
  have start := pending m s l (hs m)
  clear h hs
  generalize ({ s with pending := l } : State) = u at stages start
  refine ⟨m, ?_⟩
  induction stages with
  | refl => exact start
  | tail _ last ih => exact stage last ih

/-- A law that every stage keeps, every step keeps. -/
theorem step_keeps {P : State → Prop} (pending : ∀ (s : State) l, P s → P { s with pending := l })
    (stage : ∀ {w m s t}, Stage w m s t → P s → P t) {s t : State} (h : step s = .next t) (hs : P s) : P t := by
  obtain ⟨_, ht⟩ := step_keeps_in (P := fun _ => P) (fun _ => pending) stage h fun _ => hs
  exact ht

/-- Settles O48, act by act: a raise, a condition that is gone and a request's change of a record keep the keys apart, and only a table that
is not full grows. -/
theorem everyStepKeepsTheAlarmLaw : Obligations.EveryStepKeepsTheAlarmLaw :=
  fun _ _ hs h => step_keeps (fun _ _ h => h) Stage.alarmLaw h hs

/-! ### O51 -/

/-- An act leaves the two outputs to the end of the event. -/
theorem AlarmAct.outputs (h : AlarmAct w s t) : t.alarms.general = s.alarms.general ∧ t.alarms.fault = s.alarms.fault := by
  have raised (k : AlarmKey) : (s.raiseAlarm k).alarms.general = s.alarms.general ∧ (s.raiseAlarm k).alarms.fault = s.alarms.fault := by
    obtain ⟨_, _, _, h⟩ := State.raiseAlarm_eq s k
    rw [h]
    exact ⟨rfl, rfl⟩
  cases h with
  | same ha _ => rw [ha]; exact ⟨rfl, rfl⟩
  | raised k ha _ => rw [ha]; exact raised k
  | gone g ha _ => rw [ha]; exact ⟨rfl, rfl⟩
  | put r _ ha _ => rw [ha]; exact ⟨rfl, rfl⟩
  | retired r _ ha _ => rw [ha]; exact ⟨rfl, rfl⟩
  | owed _ d ha _ => rw [ha]; exact ⟨rfl, rfl⟩

theorem alarmActs_outputs (h : ReflTransGen (AlarmAct w) s t) :
    t.alarms.general = s.alarms.general ∧ t.alarms.fault = s.alarms.fault := by
  induction h with
  | refl => exact ⟨rfl, rfl⟩
  | tail _ act ih => exact ⟨act.outputs.1.trans ih.1, act.outputs.2.trans ih.2⟩

theorem outputsLaw_congr (h : OutputsLaw s) (ha : t.alarms = s.alarms) : OutputsLaw t := by
  unfold OutputsLaw
  rw [ha]
  exact h

/-- The end of an event leaves the outputs as the table makes them: it derives them where the table has changed (R103). -/
theorem finish_outputs (o : State) (h : ReflTransGen (AlarmAct w) o s) (ho : OutputsLaw o) : OutputsLaw (State.finish o s) := by
  have kept := alarmActs_outputs (h.trans (coverageAlarms_keeps s o).alarms)
  have alarms : (State.finish o s).alarms = ((s.coverageAlarms o).deriveOutputs o).alarms := by
    unfold State.finish
    simp
  refine outputsLaw_congr (s := (s.coverageAlarms o).deriveOutputs o) ?_ alarms
  generalize s.coverageAlarms o = u at kept
  unfold State.deriveOutputs OutputsLaw
  by_cases same : u.sameTable o = true
  · simp only [same, if_true]
    obtain ⟨records, overflow⟩ : o.alarms.records = u.alarms.records ∧ o.alarms.overflow = u.alarms.overflow := by
      simpa [State.sameTable] using same
    rw [kept.1, kept.2, ho.1, ho.2]
    simp only [AlarmTable.deriveGeneral, AlarmTable.deriveFault, records, overflow, and_self]
  · simp only [same]
    exact ⟨rfl, rfl⟩

theorem startUp_outputs (s : State) (cause : RestartCause) (line1 line2 : List Bool) : OutputsLaw (s.startUp cause line1 line2) := by
  unfold State.startUp OutputsLaw
  dsimp only
  rw [startEnds_alarms]
  exact ⟨rfl, rfl⟩

theorem Stage.outputsLaw (h : Stage w m s t) (hs : OutputsLaw s) : OutputsLaw t := by
  cases h with
  | event h _ => exact finish_outputs _ h.alarms hs
  | silent h => exact outputsLaw_congr hs h.alarms
  | request _ code r _ h _ => exact outputsLaw_congr (finish_outputs _ h.alarms hs) (answer_alarms ..)
  | asked _ => exact hs
  | tested _ code r _ h _ => exact outputsLaw_congr (finish_outputs _ h.alarms hs) (answer_alarms ..)
  | transmitted _ _ => exact outputsLaw_congr hs (by simp)
  | emptied _ _ => exact ⟨rfl, rfl⟩
  | started _ l p cause line1 line2 => exact startUp_outputs ..

theorem answer_due (f : RequestFrame) (code : Octet) (r : Reply) : (s.answer f code r).due = s.due := by
  unfold State.answer
  split
  · simp
  · rfl

theorem startUp_due (s : State) (cause : RestartCause) (line1 line2 : List Bool) : (s.startUp cause line1 line2).due = [] := by
  unfold State.startUp State.startEnds
  extract_lets _ _ _ _ _ _ u paid
  obtain ⟨_, _, _, h⟩ := State.payDues_eq u.due { u with due := [] }
  show paid.due = []
  unfold paid
  rw [h]

theorem Stage.settled (h : Stage w m s t) (hs : Settled s) : Settled t := by
  cases h with
  | event h _ => exact State.finish_due ..
  | silent h => exact h.due.trans hs
  | request _ code r _ h _ => exact (answer_due ..).trans (State.finish_due ..)
  | asked _ => exact hs
  | tested _ code r _ h _ => exact (answer_due ..).trans (State.finish_due ..)
  | transmitted _ _ => exact (by simpa [Settled] using hs)
  | emptied _ _ => exact hs
  | started _ l p cause line1 line2 => exact startUp_due ..

/-- Settles O51: the end of each event, and of a start, queues what is owed and derives the outputs. -/
theorem everyStepEndsItsEvents : Obligations.EveryStepEndsItsEvents :=
  ⟨fun _ _ hs h => step_keeps (fun _ _ h => h) Stage.settled h hs, fun _ _ hs h => step_keeps (fun _ _ h => h) Stage.outputsLaw h hs⟩

/-! ### O49 -/

theorem queueNotice_length (p : PortOne) (n : Notice) : (p.queueNotice n).queue.length ≤ max 15 p.queue.length := by
  unfold PortOne.queueNotice
  split
  · exact le_max_right ..
  split
  · simp
  split
  · exact le_max_right ..
  split
  · next free =>
    simp only [PortOne.free, Config.transmitQueueSize] at free
    simp only [List.length_append, List.length_singleton]
    omega
  · exact le_max_right ..

/-- Notices take entries only while two are free (R167). -/
theorem payDues_length (ds : List Due) (s : State) : (ds.foldl State.payDue s).p1.queue.length ≤ max 15 s.p1.queue.length := by
  induction ds generalizing s with
  | nil => exact le_max_right ..
  | cons d ds ih =>
    have first : (s.payDue d).p1.queue.length ≤ max 15 s.p1.queue.length := by
      cases d <;> exact queueNotice_length ..
    have := ih (s.payDue d)
    simp only [List.foldl_cons]
    omega

/-- The end of an event, at port 1. -/
theorem finish_port (o s : State) : (State.finish o s).p1.requests = s.p1.requests ∧ (State.finish o s).sup.linkTest = s.sup.linkTest ∧
    (State.finish o s).p1.queue.length ≤ max 15 s.p1.queue.length := by
  refine ⟨?_, ?_, ?_⟩
  · obtain ⟨_, _, _, _, _, _, h⟩ := State.finish_eq o s
    rw [h]
  · obtain ⟨_, _, _, _, _, _, h⟩ := State.finish_eq o s
    rw [h]
  · unfold State.finish State.flush State.updateCheck
    dsimp only
    refine (payDues_length _ _).trans ?_
    simp

/-- An event keeps the law of the queues, and leaves an entry free when one was. -/
theorem event_queues {o : State} (port : SamePort o s) (ho : QueueLaw o) :
    QueueLaw (State.finish o s) ∧ (o.p1.queue.length ≤ 15 → (State.finish o s).p1.queue.length ≤ 15) := by
  obtain ⟨requests, test, length⟩ := finish_port o s
  rw [port.queue] at length
  have short (h : o.p1.queue.length ≤ 15) : (State.finish o s).p1.queue.length ≤ 15 := by omega
  refine ⟨⟨?_, ?_, ?_⟩, short⟩
  · rw [requests, port.requests]
    exact ho.1
  · have := ho.2.1
    omega
  · intro f hf address
    rw [test, port.test] at hf
    exact short (ho.2.2 f hf address)

/-- The queue after an answer: one entry longer, or as long for a broadcast. -/
theorem answer_port (f : RequestFrame) (code : Octet) (r : Reply) : (s.answer f code r).p1.requests = s.p1.requests ∧
    (s.answer f code r).sup.linkTest = s.sup.linkTest ∧
      (s.answer f code r).p1.queue.length = s.p1.queue.length + (if f.broadcast then 0 else 1) := by
  unfold State.answer
  split
  · unfold State.applyNow State.applyAfter
    split <;> simp [PortOne.without]
  · simp

theorem takes_free {f : RequestFrame} {rest : List RequestFrame} (h : Takes s f rest) :
    s.sup.linkTest = none ∧ (f.broadcast = true ∨ s.p1.queue.length ≤ 15) := by
  have can := h.can
  simp only [State.canTake, Bool.and_eq_true, Option.isNone_iff_eq_none, Bool.or_eq_true, PortOne.free,
    Config.transmitQueueSize] at can
  refine ⟨can.1.1.2, can.2.imp id fun free => ?_⟩
  have := of_decide_eq_true free
  omega

theorem taken_queues {f : RequestFrame} {rest : List RequestFrame} (h : Takes s f rest) (hs : QueueLaw s) : QueueLaw (taken s rest) := by
  refine ⟨?_, hs.2⟩
  have := hs.1
  rw [h.head, List.length_cons] at this
  exact (Nat.le_succ _).trans this

/-- An event followed by an answer for which an entry is free. -/
theorem answered_queues {o : State} {f : RequestFrame} (code : Octet) (r : Reply) (port : SamePort o s) (ho : QueueLaw o)
    (test : o.sup.linkTest = none) (free : f.broadcast = true ∨ o.p1.queue.length ≤ 15) :
    QueueLaw ((State.finish o s).answer f code r) := by
  obtain ⟨law, short⟩ := event_queues port ho
  obtain ⟨requests, test', length⟩ := answer_port (s := State.finish o s) f code r
  refine ⟨?_, ?_, ?_⟩
  · rw [requests]
    exact law.1
  · rw [length]
    rcases free with all | free
    · simpa [all] using law.2.1
    · have := short free
      split <;> omega
  · intro g hg
    rw [test', (finish_port o s).2.1, port.test, test] at hg
    cases hg

theorem beginFrame_queues (s : State) (hs : QueueLaw s) : QueueLaw s.beginFrame := by
  unfold State.beginFrame
  split
  · exact hs
  · next e rest queue =>
    have length : rest.length + 1 ≤ 16 := by
      have := hs.2.1
      rwa [queue, List.length_cons] at this
    dsimp only
    rw [State.serveMarks_eq]
    have short : ∀ l : List TxEntry, l.length ≤ 15 - rest.length → (rest ++ l).length ≤ 15 := by
      intro l hl
      rw [List.length_append]
      omega
    have served : ∀ g : NoticeObject → TxEntry, (rest ++ (s.p1.marks.take (15 - rest.length)).map g).length ≤ 15 :=
      fun g => short _ (by simp)
    exact ⟨hs.1, (served _).trans (by omega), fun f _ _ => served _⟩

theorem startUp_queues (s : State) (cause : RestartCause) (line1 line2 : List Bool) : QueueLaw (s.startUp cause line1 line2) := by
  unfold State.startUp
  extract_lets pass1 pass2 cold t changed
  have base : t.p1.requests = [] ∧ t.p1.queue = [] ∧ t.sup.linkTest = none := by
    unfold t
    split <;> exact ⟨rfl, rfl, rfl⟩
  have blocks : ((t.startPorts pass1 pass2).startBlocks (!cold) pass1 pass2 changed).p1 = (t.startPorts pass1 pass2).p1 := by simp
  have sup : ((t.startPorts pass1 pass2).startBlocks (!cold) pass1 pass2 changed).sup = t.sup := by simp
  have ports : (t.startPorts pass1 pass2).p1.requests = [] ∧ (t.startPorts pass1 pass2).p1.queue = [] := by
    unfold State.startPorts
    dsimp only
    split <;> exact ⟨base.1, base.2.1⟩
  generalize (t.startPorts pass1 pass2).startBlocks (!cold) pass1 pass2 changed = u at blocks sup
  unfold State.startEnds
  extract_lets _ w paid
  obtain ⟨q, _, _, h⟩ := State.payDues_eq w.due { w with due := [] }
  have length := payDues_length w.due { w with due := [] }
  have queue : w.p1.queue = [] := by
    show u.p1.queue = []
    rw [blocks, ports.2]
  have paid_ : paid.p1.queue.length ≤ 15 := by simpa [queue] using length
  refine ⟨?_, paid_.trans (by omega), fun _ _ _ => paid_⟩
  show paid.p1.requests.length ≤ 8
  unfold paid
  rw [h]
  show u.p1.requests.length ≤ 8
  rw [blocks, ports.1]
  exact Nat.zero_le _

theorem Stage.queueLaw (h : Stage w m s t) (hs : QueueLaw s) : QueueLaw t := by
  cases h with
  | event h port => exact (event_queues port hs).1
  | silent h =>
    refine ⟨?_, by rw [h.queue]; exact hs.2.1, by rw [h.test, h.queue]; exact hs.2.2⟩
    rcases h.requests with same | short
    · rw [same]
      exact hs.1
    · exact short
  | request _ code r takes h port =>
    obtain ⟨test, free⟩ := takes_free takes
    exact answered_queues code r port (taken_queues takes hs) test free
  | @asked f rest takes =>
    obtain ⟨test, free⟩ := takes_free takes
    refine ⟨(taken_queues takes hs).1, hs.2.1, fun g hg address => ?_⟩
    cases hg
    exact free.resolve_left (by simpa [RequestFrame.broadcast] using address)
  | @tested u f _ code r waits h port =>
    refine answered_queues (o := testing s none) code r port ⟨hs.1, hs.2.1, fun _ h => by cases h⟩ rfl ?_
    by_cases address : f.address = 255
    · exact .inl (by simp [RequestFrame.broadcast, address])
    · exact .inr (hs.2.2 f waits address)
  | transmitted _ _ => exact beginFrame_queues s hs
  | emptied _ _ => exact hs
  | started _ l p cause line1 line2 => exact startUp_queues ..

/-- Settles O49: a notice leaves two entries free to one, and an answer takes the entry that its request was taken with. -/
theorem everyStepKeepsTheQueues : Obligations.EveryStepKeepsTheQueues :=
  fun _ _ hs h => step_keeps (fun _ _ h => h) Stage.queueLaw h hs

end Sys2Proof.Proofs.Acts
end

section
/-! PROOFS. What a start of the part leaves (R37, R74, R75, R111, R131, R146, R147, R175, R176), block by block. -/
namespace Sys2Proof.Proofs.Starts

open Sys2Proof Sys2Proof.Machine Sys2Proof.Safety

/-! ### What hold reasons and coverage records are read from -/

theorem deriveHolds_congr {s t : State} {z : Room} (inputs : t.zones[z].inputs = s.zones[z].inputs)
    (kind : t.zones[z].kind = s.zones[z].kind) (authorise : t.zones[z].authorise = s.zones[z].authorise)
    (room : t.roll.rooms[z] = s.roll.rooms[z]) (inhibit : t.lines.inhibit = s.lines.inhibit) : t.deriveHolds z = s.deriveHolds z := by
  unfold State.deriveHolds State.occupied State.headCount
  dsimp only
  rw [inputs, kind, authorise, room, inhibit]

theorem coverageOf_congr {s t : State} {z : Room} (state : t.zones[z].state = s.zones[z].state)
    (cylinders : t.bank.cylinders = s.bank.cylinders) (profiles : t.sup.profiles = s.sup.profiles) :
    t.coverageOf z = s.coverageOf z := by
  unfold State.coverageOf AgentBank.reservedPositions AgentBank.chargeSum
  dsimp only
  rw [state, cylinders, profiles]

/-! ### The blocks -/

variable (s : State)

/-- A strongroom's record after a start: a strongroom with entries is Unreconciled (R74). -/
def startedRoom (r : Room) : RoomRecord :=
  { s.roll.rooms[r] with unreconciled := s.roll.rooms[r].unreconciled || 0 < s.headCount r }

/-- An entry's lone-worker fields loaded at a start (R111). -/
def loneLoaded (o : OccEntry) : OccEntry :=
  if s.supervised o.room then { o with counter := s.loneLoad o, checkIn := .running, promptDue := false }
  else { o with counter := 0, checkIn := .off, promptDue := false }

theorem startRoll_roll : s.startRoll.roll = { s.roll with rooms := vgen (startedRoom s) } := by
  unfold State.startRoll
  dsimp only
  rw [foldl_roll _ (by simp), foldl_roll _ (by simp), foldl_roll _ (by simp)]
  rfl

theorem startZones_roll (warm : Bool) : (s.startZones warm).roll = s.roll := by simp

theorem startZones_zones (warm : Bool) : (s.startZones warm).zones = vgen fun z => { s.zones[z] with holds := s.deriveHolds z } := by
  unfold State.startZones
  dsimp only
  split
  · rw [foldl_zones _ (by simp), foldl_zones _ (by simp)]
  · rw [foldl_zones _ (by simp)]

theorem startBank_bank (warm : Bool) (changed : List Pos) :
    (s.startBank warm changed).bank = { s.bank with coverage := vgen s.coverageOf } := by
  unfold State.startBank
  dsimp only
  split
  · rw [foldl_bank _ (by simp), foldl_bank _ (by simp), foldl_bank _ (by simp)]
    rfl
  · rw [foldl_bank _ (by simp), foldl_bank _ (by simp)]
    rfl

theorem startLone_roll : s.startLone.roll = { s.roll with entries := s.roll.entries.mapAll (loneLoaded s) } := rfl

/-- The state once the clock and the bearers are started. -/
def startedBearers (warm pass1 pass2 : Bool) : State :=
  let s := s.raiseAlarm (.bare (if warm then .restarted else .tablesLost))
  let s := if pass1 then s else s.raiseAlarm (portFault 1)
  let s := if pass2 then s else s.raiseAlarm (portFault 2)
  s.startClock.startBearers

/-- The state once the doors are started, before the lone-worker fields. -/
def startedDoors (warm pass1 pass2 : Bool) (changed : List Pos) : State :=
  (((startedBearers s warm pass1 pass2).startRoll.startZones warm).startBank warm changed).startDoors

theorem startBlocks_eq (warm pass1 pass2 : Bool) (changed : List Pos) :
    s.startBlocks warm pass1 pass2 changed =
      let u := (startedDoors s warm pass1 pass2 changed).startLone
      if u.lines.mainsOk then u else u.raiseAlarm (.bare .mainsFail) := rfl

/-- What starting the clock and the bearers leaves alone. -/
theorem startedBearers_frame (warm pass1 pass2 : Bool) :
    let t := startedBearers s warm pass1 pass2
    t.bt = s.bt ∧ t.ctx = s.ctx ∧ t.roll = s.roll ∧ t.zones = s.zones ∧ t.bank = s.bank ∧ t.lines = s.lines ∧ t.sup = s.sup ∧
      t.loop = s.loop ∧ t.p1 = s.p1 ∧ t.p2 = s.p2 := by
  unfold startedBearers
  and_intros <;> simp [ite_fields]

variable (warm pass1 pass2 : Bool) (changed : List Pos)

theorem startedDoors_roll : (startedDoors s warm pass1 pass2 changed).roll = { s.roll with rooms := vgen (startedRoom s) } := by
  have same := (startedBearers_frame s warm pass1 pass2).2.2.1
  have marked : startedRoom (startedBearers s warm pass1 pass2) = startedRoom s := by
    unfold startedRoom State.headCount
    rw [same]
  unfold startedDoors
  rw [← same, ← marked, ← startRoll_roll]
  simp

/-- What starting the blocks leaves alone, once the bearers are started. -/
theorem startedDoors_frame :
    let t := startedDoors s warm pass1 pass2 changed
    t.bt = s.bt ∧ t.ctx = s.ctx ∧ t.lines = s.lines ∧ t.sup = s.sup ∧ t.loop = s.loop ∧ t.p1 = s.p1 ∧ t.p2 = s.p2 := by
  obtain ⟨bt, ctx, -, -, -, lines, sup, loop, p1, p2⟩ := startedBearers_frame s warm pass1 pass2
  unfold startedDoors
  and_intros <;> simp [*]

theorem zonesStarted_zones (v : State) :
    (((v.startZones warm).startBank warm changed).startDoors).zones =
      vgen fun z => { v.zones[z] with holds := (((v.startZones warm).startBank warm changed).startDoors).deriveHolds z } := by
  have zones : (((v.startZones warm).startBank warm changed).startDoors).zones =
      vgen fun z => { v.zones[z] with holds := v.deriveHolds z } := by
    simp [startZones_zones]
  have roll : (((v.startZones warm).startBank warm changed).startDoors).roll = v.roll := by simp
  have lines : (((v.startZones warm).startBank warm changed).startDoors).lines = v.lines := by simp
  generalize ((v.startZones warm).startBank warm changed).startDoors = u at zones roll lines
  have holds (z : Room) : u.deriveHolds z = v.deriveHolds z :=
    deriveHolds_congr (by simp [zones]) (by simp [zones]) (by simp [zones]) (by rw [roll]) (by rw [lines])
  rw [zones]
  simp only [holds]

theorem zonesStarted_bank (v : State) :
    (((v.startZones warm).startBank warm changed).startDoors).bank =
      { v.bank with coverage := vgen (((v.startZones warm).startBank warm changed).startDoors).coverageOf } := by
  have bank : (((v.startZones warm).startBank warm changed).startDoors).bank =
      { v.bank with coverage := vgen (v.startZones warm).coverageOf } := by
    have := startBank_bank (v.startZones warm) warm changed
    simpa using this
  have zones : (((v.startZones warm).startBank warm changed).startDoors).zones = (v.startZones warm).zones := by simp
  have sup : (((v.startZones warm).startBank warm changed).startDoors).sup = (v.startZones warm).sup := by simp
  have same : (v.startZones warm).bank = v.bank := by simp
  generalize ((v.startZones warm).startBank warm changed).startDoors = u at bank zones sup
  have coverage : u.coverageOf = (v.startZones warm).coverageOf :=
    funext fun z => coverageOf_congr (by rw [zones]) (by rw [bank, same]) (by rw [sup])
  rw [bank, coverage]

theorem startedDoors_zones : (startedDoors s warm pass1 pass2 changed).zones =
    vgen fun z => { s.zones[z] with holds := (startedDoors s warm pass1 pass2 changed).deriveHolds z } := by
  obtain ⟨-, -, -, zones, -⟩ := startedBearers_frame s warm pass1 pass2
  have roll : (startedBearers s warm pass1 pass2).startRoll.zones = s.zones := by rw [← zones]; simp
  have := zonesStarted_zones warm changed (startedBearers s warm pass1 pass2).startRoll
  rwa [roll] at this

theorem startedDoors_bank : (startedDoors s warm pass1 pass2 changed).bank =
    { s.bank with coverage := vgen (startedDoors s warm pass1 pass2 changed).coverageOf } := by
  obtain ⟨-, -, -, -, bank, -⟩ := startedBearers_frame s warm pass1 pass2
  have roll : (startedBearers s warm pass1 pass2).startRoll.bank = s.bank := by rw [← bank]; simp
  have := zonesStarted_bank warm changed (startedBearers s warm pass1 pass2).startRoll
  rwa [roll] at this

/-! ### The whole start -/

/-- The state that the blocks start from. -/
def startBase (cause : RestartCause) : State := if s.startsCold then s.lost else s.kept cause

variable (cause : RestartCause) (line1 line2 : List Bool)

/-- A start, as the doors' start, the lone-worker fields, MAINS_FAIL and the end (R176). -/
theorem startUp_eq : ∃ pass1 pass2 warm changed,
    let u := startedDoors ((startBase s cause).startPorts pass1 pass2) warm pass1 pass2 changed
    s.startUp cause line1 line2 =
      (if u.startLone.lines.mainsOk then u.startLone else u.startLone.raiseAlarm (.bare .mainsFail)).startEnds :=
  ⟨_, _, _, _, rfl⟩

/-- What the raise of MAINS_FAIL and the end of a start leave alone. -/
theorem startEnds_frame (u : State) :
    let e := (if u.lines.mainsOk then u else u.raiseAlarm (.bare .mainsFail)).startEnds
    e.bt = u.bt ∧ e.ctx = u.ctx ∧ e.roll = u.roll ∧ e.lines = u.lines ∧ e.sup.profiles = u.sup.profiles ∧ e.zones = u.zones ∧
      e.bank = u.bank := by
  have profiles (w : State) : w.startEnds.sup.profiles = w.sup.profiles := by
    unfold State.startEnds
    dsimp only
    rw [foldl_sup _ (by simp)]
  dsimp only
  and_intros <;> split <;> simp [profiles]

/-- What a start leaves of every field the laws speak of: a state `u` after the blocks' start, read from the state they start from. -/
theorem startUp_blocks : ∃ u : State,
    let b := startBase s cause
    let t := s.startUp cause line1 line2
    t.bt = b.bt ∧ t.ctx = b.ctx ∧ t.roll.rooms = vgen (startedRoom b) ∧ t.roll.tick = b.roll.tick ∧
      t.roll.entries = b.roll.entries.mapAll (loneLoaded u) ∧ t.lines = b.lines ∧ t.sup.profiles = b.sup.profiles ∧
      t.zones = (vgen fun z => { b.zones[z] with holds := t.deriveHolds z }) ∧
      t.bank = { b.bank with coverage := vgen t.coverageOf } := by
  obtain ⟨pass1, pass2, warm, changed, started⟩ := startUp_eq s cause line1 line2
  rw [started]
  have zones := startedDoors_zones ((startBase s cause).startPorts pass1 pass2) warm pass1 pass2 changed
  have bank := startedDoors_bank ((startBase s cause).startPorts pass1 pass2) warm pass1 pass2 changed
  have roll := startedDoors_roll ((startBase s cause).startPorts pass1 pass2) warm pass1 pass2 changed
  obtain ⟨bt, ctx, lines, sup, -⟩ := startedDoors_frame ((startBase s cause).startPorts pass1 pass2) warm pass1 pass2 changed
  generalize startedDoors ((startBase s cause).startPorts pass1 pass2) warm pass1 pass2 changed = u at zones bank roll bt ctx lines sup
  obtain ⟨bt', ctx', roll', lines', profiles', zones', bank'⟩ := startEnds_frame u.startLone
  generalize (if u.startLone.lines.mainsOk then u.startLone else u.startLone.raiseAlarm (.bare .mainsFail)).startEnds = e
    at bt' ctx' roll' lines' profiles' zones' bank'
  have lone : e.roll = { u.roll with entries := u.roll.entries.mapAll (loneLoaded u) } := roll'
  have zones_ : e.zones = u.zones := zones'
  have bank_ : e.bank = u.bank := bank'
  have lines_ : e.lines = u.lines := lines'
  have profiles_ : e.sup.profiles = u.sup.profiles := profiles'
  have holds (z : Room) : e.deriveHolds z = u.deriveHolds z :=
    deriveHolds_congr (by rw [zones_]) (by rw [zones_]) (by rw [zones_]) (by rw [lone]) (by rw [lines_])
  have coverage : e.coverageOf = u.coverageOf :=
    funext fun z => coverageOf_congr (by rw [zones_]) (by rw [bank_]) (by rw [profiles_])
  refine ⟨u, ?_, ?_, ?_, ?_, ?_, ?_, ?_, ?_, ?_⟩
  · exact bt'.trans bt
  · exact ctx'.trans ctx
  · rw [lone, roll]
    rfl
  · rw [lone, roll]
    rfl
  · rw [lone, roll]
    rfl
  · exact lines_.trans lines
  · rw [profiles_, sup]
    rfl
  · rw [zones_, zones]
    simp only [holds]
    rfl
  · rw [bank_, bank, coverage]
    rfl

end Sys2Proof.Proofs.Starts
end

section
/-! PROOFS. The law of the token index (R4), kept by every act on the people's side. -/
namespace Sys2Proof.Proofs.Acts

open Sys2Proof Sys2Proof.Machine Sys2Proof.Safety Relation

variable {w : Allows} {s t : State} {m : Mode}

/-! ### The people's side of a stage -/

theorem SamePeople.of_frame (hb : t.bt = s.bt) (hr : t.roll = s.roll) (hc : t.ctx = s.ctx) : SamePeople s t := ⟨hb, by rw [hr], hc⟩

theorem finish_people (o : State) : SamePeople s (State.finish o s) := .of_frame (by simp) (by simp) (by simp)

theorem answer_people (f : RequestFrame) (code : Octet) (r : Reply) : SamePeople s (s.answer f code r) := by
  unfold State.answer
  split
  · exact .of_frame (by simp) (by simp) (by simp)
  · exact .of_frame rfl rfl rfl

theorem SamePeople.trans {u : State} (h : SamePeople s t) (h' : SamePeople t u) : SamePeople s u :=
  ⟨h'.bt.trans h.bt, h'.entries.trans h.entries, h'.ctx.trans h.ctx⟩

/-- What every act keeps of the people's side, and every start, a stage keeps. -/
theorem Stage.keeps_people {I : Conf → Prop} (h : Stage w m s t) (act : ∀ c d, PeopleAct c d → I c → I d)
    (start : ∀ (l : Lines) (p : PortOne) cause line1 line2, I ⟨s, ∅, ∅⟩ →
      I ⟨State.startUp { s with lines := l, p1 := p } cause line1 line2, ∅, ∅⟩) (hs : I ⟨s, ∅, ∅⟩) : I ⟨t, ∅, ∅⟩ := by
  have acts {c d : Conf} (path : ReflTransGen PeopleAct c d) (hc : I c) : I d := by
    induction path with
    | refl => exact hc
    | tail _ last ih => exact act _ _ last ih
  have same {u v : State} (h : SamePeople u v) (hu : I ⟨u, ∅, ∅⟩) : I ⟨v, ∅, ∅⟩ := act _ _ (.same h subset_rfl) hu
  cases h with
  | event h _ => exact same (finish_people s) (acts h.people hs)
  | silent h => exact same (.of_frame h.bt h.roll h.ctx) hs
  | @request u f rest _ code r _ h _ =>
    exact same ((finish_people (taken s rest)).trans (answer_people ..)) (acts h.people (same (u := s) ⟨rfl, rfl, rfl⟩ hs))
  | asked _ => exact same (u := s) ⟨rfl, rfl, rfl⟩ hs
  | @tested u f _ code r _ h _ =>
    exact same ((finish_people (testing s none)).trans (answer_people ..)) (acts h.people (same (u := s) ⟨rfl, rfl, rfl⟩ hs))
  | transmitted _ _ => exact same (.of_frame (by simp) (by simp) (by simp)) hs
  | emptied _ _ => exact same (u := s) ⟨rfl, rfl, rfl⟩ hs
  | started _ l p cause line1 line2 => exact start l p cause line1 line2 hs

/-- A start keeps the Bearer Table, or is cold (R175). -/
theorem startUp_bt (s : State) (cause : RestartCause) (line1 line2 : List Bool) :
    (s.startUp cause line1 line2).bt = s.bt ∨ (s.startUp cause line1 line2).bt = .cold := by
  obtain ⟨_, bt, -⟩ := Starts.startUp_blocks s cause line1 line2
  rw [bt]
  unfold Starts.startBase
  split
  · exact .inr rfl
  · exact .inl rfl

/-- A law of the Bearer Table that every act keeps, and that holds of the cold table, a stage keeps. -/
theorem Stage.keeps_bt {I : BearerTable → Prop} (act : ∀ c d, PeopleAct c d → I c.state.bt → I d.state.bt) (cold : I .cold)
    (h : Stage w m s t) (hs : I s.bt) : I t.bt := by
  refine Stage.keeps_people (I := fun c => I c.state.bt) h act (fun l p cause line1 line2 hs => ?_) hs
  dsimp only
  rcases startUp_bt { s with lines := l, p1 := p } cause line1 line2 with same | lost
  · rw [same]
    exact hs
  · rw [lost]
    exact cold

/-! ### O52 -/

/-- Fields of the table beside the bearers and the index do not matter to the law. -/
theorem tokenLaw_congr {t u : BearerTable} (h : TokenLaw t) (hb : u.bearers = t.bearers) (hi : u.index = t.index) : TokenLaw u := by
  unfold TokenLaw
  rw [hb, hi]
  exact h

theorem tokenLaw_cold : TokenLaw .cold :=
  ⟨rfl, fun _ _ h => by simp [BearerTable.cold] at h, fun _ _ h => by simp [BearerTable.cold] at h⟩

/-- A record changed to one with the same token. -/
theorem tokenLaw_replaced {t : BearerTable} {b : Nat} {r q : Bearer} (h : TokenLaw t) (live : t.bearers.get b = some r)
    (token : q.token = r.token) : TokenLaw { t with bearers := t.bearers.set b q } := by
  obtain ⟨wf, indexed, named⟩ := h
  refine ⟨Table.wf_set _ _ _ wf, fun c x hc => ?_, fun tok c hc => ?_⟩
  · by_cases same : c = b
    · subst same
      simp only [Table.get_set_same, Option.some.injEq] at hc
      subst hc
      rw [token]
      exact indexed c r live
    · exact indexed c x (by rwa [Table.get_set_other _ _ same] at hc)
  · obtain ⟨x, hx, code⟩ := named tok c hc
    by_cases same : c = b
    · subst same
      obtain rfl : r = x := Option.some.inj (live.symm.trans hx)
      exact ⟨q, Table.get_set_same .., by rw [token]; exact code⟩
    · exact ⟨x, by rwa [Table.get_set_other _ _ same], code⟩

theorem get_modify_map (m : Table Bearer) (b c : Nat) (f : Bearer → Bearer) :
    (m.modify b f).get c = (m.get c).map fun r => if c = b then f r else r := by
  rw [Table.get_modify]
  split <;> simp

theorem tokenLaw_modified {t : BearerTable} {f : Bearer → Bearer} (h : TokenLaw t) (b : Nat) (token : ∀ r, (f r).token = r.token) :
    TokenLaw { t with bearers := t.bearers.modify b f } := by
  obtain ⟨wf, indexed, named⟩ := h
  refine ⟨Table.wf_modify _ _ _ wf, fun c x hc => ?_, fun tok c hc => ?_⟩
  · rw [get_modify_map, Option.map_eq_some_iff] at hc
    obtain ⟨r, live, rfl⟩ := hc
    have := indexed c r live
    split
    · rwa [token]
    · exact this
  · obtain ⟨x, hx, code⟩ := named tok c hc
    refine ⟨if c = b then f x else x, by rw [get_modify_map, hx, Option.map_some], ?_⟩
    split
    · rwa [token]
    · exact code

/-- A record stored at a number under a token that no other record has. -/
theorem tokenLaw_stored {t : BearerTable} {b : Nat} {q : Bearer} (wf : t.bearers.wf = true)
    (indexed : ∀ c r, c ≠ b → t.bearers.get c = some r → t.index.get r.token.toNat = some c)
    (named : ∀ tok c, tok ≠ q.token.toNat → t.index.get tok = some c → c ≠ b ∧ ∃ r, t.bearers.get c = some r ∧ r.token.toNat = tok)
    (new : ∀ c r, c ≠ b → t.bearers.get c = some r → r.token.toNat ≠ q.token.toNat) :
    TokenLaw { t with bearers := t.bearers.set b q, index := t.index.set q.token.toNat b } := by
  refine ⟨Table.wf_set _ _ _ wf, fun c x hc => ?_, fun tok c hc => ?_⟩
  · by_cases same : c = b
    · subst same
      simp only [Table.get_set_same, Option.some.injEq] at hc
      subst hc
      exact Table.get_set_same ..
    · rw [Table.get_set_other _ _ same] at hc
      rw [Table.get_set_other _ _ (new c x same hc)]
      exact indexed c x same hc
  · by_cases same : tok = q.token.toNat
    · subst same
      simp only [Table.get_set_same, Option.some.injEq] at hc
      subst hc
      exact ⟨q, Table.get_set_same .., rfl⟩
    · rw [Table.get_set_other _ _ same] at hc
      obtain ⟨other, r, hr, code⟩ := named tok c same hc
      exact ⟨r, by rwa [Table.get_set_other _ _ other], code⟩

/-- A record taken off, with its index entry. -/
theorem tokenLaw_erased {t : BearerTable} {b : Nat} {r : Bearer} (h : TokenLaw t) (live : t.bearers.get b = some r) :
    TokenLaw { t with index := t.index.erase r.token.toNat, bearers := t.bearers.erase b } := by
  obtain ⟨wf, indexed, named⟩ := h
  refine ⟨Table.wf_erase _ _ wf, fun c x hc => ?_, fun tok c hc => ?_⟩
  · rw [Table.get_erase] at hc ⊢
    split at hc
    · cases hc
    · next other =>
      have := indexed c x hc
      split
      · next same =>
        rw [same, indexed b r live] at this
        exact absurd (Option.some.inj this).symm other
      · exact this
  · rw [Table.get_erase] at hc
    split at hc
    · cases hc
    · next other =>
      obtain ⟨x, hx, code⟩ := named tok c hc
      refine ⟨x, ?_, code⟩
      rw [Table.get_erase, if_neg]
      · exact hx
      · rintro rfl
        obtain rfl : r = x := Option.some.inj (live.symm.trans hx)
        exact other code.symm

/-- A record stored again at its number, its token its own or new. -/
theorem tokenLaw_amended {t : BearerTable} {b : Nat} {r q : Bearer} (h : TokenLaw t) (live : t.bearers.get b = some r)
    (token : q.token = r.token ∨ t.index.get q.token.toNat = none) :
    TokenLaw { t with bearers := t.bearers.set b q, index := (t.index.erase r.token.toNat).set q.token.toNat b } := by
  obtain ⟨wf, indexed, named⟩ := h
  have other {c : Nat} {x : Bearer} (hc : c ≠ b) (hx : t.bearers.get c = some x) : x.token.toNat ≠ r.token.toNat := by
    intro same
    have := indexed c x hx
    rw [same, indexed b r live] at this
    exact hc (Option.some.inj this).symm
  refine tokenLaw_stored (t := { t with index := t.index.erase r.token.toNat }) wf (fun c x hc hx => ?_) (fun tok c _ htok => ?_)
    fun c x hc hx => ?_
  · rw [Table.get_erase, if_neg (other hc hx)]
    exact indexed c x hx
  · rw [Table.get_erase] at htok
    split at htok
    · cases htok
    · next old =>
      obtain ⟨x, hx, code⟩ := named tok c htok
      refine ⟨?_, x, hx, code⟩
      rintro rfl
      obtain rfl : r = x := Option.some.inj (live.symm.trans hx)
      exact old code.symm
  · rcases token with own | new
    · rw [own]
      exact other hc hx
    · intro same
      rw [← same, indexed c x hx] at new
      cases new

theorem tokenLaw_enrolled {t : BearerTable} {n : Nat} {q : Bearer} (h : TokenLaw t) (slot : t.bearers.get n = none)
    (token : t.index.get q.token.toNat = none) :
    TokenLaw { t with bearers := t.bearers.set n q, index := t.index.set q.token.toNat n } := by
  obtain ⟨wf, indexed, named⟩ := h
  refine tokenLaw_stored wf (fun c x _ hx => indexed c x hx) (fun tok c _ htok => ?_) fun c x _ hx same => ?_
  · obtain ⟨x, hx, code⟩ := named tok c htok
    refine ⟨?_, x, hx, code⟩
    rintro rfl
    rw [slot] at hx
    cases hx
  · rw [← same, indexed c x hx] at token
    cases token

theorem tokenLaw_retired {b : Nat} (h : Retires s t b) (hs : TokenLaw s.bt) : TokenLaw t.bt := by
  obtain ⟨r, live, table⟩ := h.table
  rw [table]
  exact tokenLaw_congr (tokenLaw_erased hs live) rfl rfl

theorem PeopleAct.tokenLaw {c d : Conf} (h : PeopleAct c d) (hc : TokenLaw c.state.bt) : TokenLaw d.state.bt := by
  cases h with
  | same h _ => rwa [h.bt]
  | contexts h _ => rwa [h.bt]
  | waits h _ _ _ => rwa [h.bt]
  | calendar _ hs hh n hb => rw [hb]; exact tokenLaw_congr hc rfl rfl
  | bearer _ b f hf hb => rw [hb]; exact tokenLaw_modified hc b fun r => (hf r).1
  | enrolled _ n r slot token _ hb => rw [hb]; exact tokenLaw_enrolled hc slot token
  | amended _ b r q live _ token hb => rw [hb]; exact tokenLaw_amended hc live token
  | chained _ b r cs live _ _ hb =>
    have stored (h : Nat) := tokenLaw_replaced (q := { r with chainHead := h }) hc live rfl
    rw [hb]
    exact tokenLaw_congr (stored _) rfl rfl
  | retired b _ _ _ hb => exact tokenLaw_retired hb hc
  | entries h _ _ _ => rwa [h.bt]
  | left e o _ _ _ hb =>
    rcases hb with same | retires
    · rwa [same]
    · exact tokenLaw_retired retires hc
  | admitted h _ _ _ _ _ => rwa [h.bt]
  | settled _ _ => exact hc

theorem Stage.tokenLaw (h : Stage w m s t) (hs : TokenLaw s.bt) : TokenLaw t.bt :=
  Stage.keeps_bt (fun _ _ => PeopleAct.tokenLaw) tokenLaw_cold h hs

/-- Under the law two live records with one token code are one record. -/
theorem tokens_distinct {t : BearerTable} (h : TokenLaw t) {b c : Nat} {r q : Bearer} (hb : t.bearers.get b = some r)
    (hc : t.bearers.get c = some q) (same : r.token = q.token) : b = c := by
  have first := h.2.1 b r hb
  rw [same, h.2.1 c q hc] at first
  exact (Option.some.inj first).symm

/-- Settles O52: an index entry is set with its record and erased with it. -/
theorem everyStepKeepsTheTokenLaw : Obligations.EveryStepKeepsTheTokenLaw := by
  intro s t hs h
  have ht : TokenLaw t.bt := step_keeps (P := fun s => TokenLaw s.bt) (fun _ _ h => h) Stage.tokenLaw h hs
  exact ⟨ht, fun b c r q hb hc same => tokens_distinct ht hb hc same⟩

end Sys2Proof.Proofs.Acts
end

section
/-! PROOFS. The chains of permission entries (R16, R17), and the law that each entry is free or on one chain. -/
namespace Sys2Proof.Proofs.Acts

open Sys2Proof Sys2Proof.Machine Sys2Proof.Safety Relation

variable {s t : State} {m : Mode}

/-! ### Reading a chain -/

theorem get_filter {α : Type} (m : Table α) (test : Nat → Bool) (k : Nat) :
    Table.get (m.filter fun p => test p.1) k = if test k then Table.get m k else none := by
  induction m with
  | nil => simp
  | cons p m ih =>
    rw [List.filter_cons]
    by_cases same : p.1 = k
    · subst same
      cases hit : test p.1 <;> simp [Table.get]
      simpa [Table.get, hit] using ih
    · cases hit : test p.1 <;> simp [Table.get, same] <;> simpa [Table.get] using ih

section Chain

variable {T U : BearerTable}

theorem chain_of_entries (h : U.entries = T.entries) (n e : Nat) : U.chain n e = T.chain n e := by
  induction n generalizing e with
  | zero => rfl
  | succ n ih => simp only [BearerTable.chain, h, ih]

theorem chain_of_free {e : Nat} (h : T.entries.get e = none) (n : Nat) : T.chain n e = [] := by
  cases n <;> simp [BearerTable.chain, h]

theorem chain_cons {e : Nat} {x : PermEntry} (h : T.entries.get e = some x) (n : Nat) :
    T.chain (n + 1) e = e :: T.chain n x.next := by simp [BearerTable.chain, h]

theorem chain_isSome {n h e : Nat} (he : e ∈ T.chain n h) : (T.entries.get e).isSome := by
  induction n generalizing h with
  | zero => simp [BearerTable.chain] at he
  | succ n ih =>
    cases hit : T.entries.get h with
    | none => simp [chain_of_free hit] at he
    | some x =>
      rw [chain_cons hit, List.mem_cons] at he
      rcases he with rfl | he
      · simp [hit]
      · exact ih he

theorem chain_length_le (n h : Nat) : (T.chain n h).length ≤ n := by
  induction n generalizing h with
  | zero => simp [BearerTable.chain]
  | succ n ih =>
    cases hit : T.entries.get h with
    | none => simp [chain_of_free hit]
    | some x => simpa [chain_cons hit] using ih x.next

/-- The entry that one of a chain names is on the chain read one further. -/
theorem chain_next {n h e : Nat} {x : PermEntry} (he : e ∈ T.chain n h) (hx : T.entries.get e = some x)
    (next : (T.entries.get x.next).isSome) : x.next ∈ T.chain (n + 1) h := by
  induction n generalizing h with
  | zero => simp [BearerTable.chain] at he
  | succ n ih =>
    cases hit : T.entries.get h with
    | none => simp [chain_of_free hit] at he
    | some y =>
      rw [chain_cons hit, List.mem_cons] at he
      rw [chain_cons hit, List.mem_cons]
      rcases he with rfl | he
      · obtain rfl : y = x := Option.some.inj (hit.symm.trans hx)
        obtain ⟨z, hz⟩ := Option.isSome_iff_exists.mp next
        exact .inr (by simp [chain_cons hz])
      · exact .inr (ih he)

theorem chain_mono {n k h e : Nat} (short : n ≤ k) (he : e ∈ T.chain n h) : e ∈ T.chain k h := by
  induction n generalizing k h with
  | zero => simp [BearerTable.chain] at he
  | succ n ih =>
    obtain ⟨k, rfl⟩ : ∃ j, k = j + 1 := ⟨k - 1, by omega⟩
    cases hit : T.entries.get h with
    | none => simp [chain_of_free hit] at he
    | some x =>
      rw [chain_cons hit, List.mem_cons] at he ⊢
      exact he.imp_right (ih (by omega))

/-- A chain reads the same where its entries do. -/
theorem chain_agree (links : ∀ e x, T.entries.get e = some x → x.next = 0 ∨ (T.entries.get x.next).isSome)
    (zero : T.entries.get 0 = none) (zero' : U.entries.get 0 = none) {n h : Nat} (head : h = 0 ∨ (T.entries.get h).isSome)
    (agree : ∀ e ∈ T.chain n h, U.entries.get e = T.entries.get e) : U.chain n h = T.chain n h := by
  induction n generalizing h with
  | zero => rfl
  | succ n ih =>
    rcases head with rfl | head
    · rw [chain_of_free zero, chain_of_free zero']
    · obtain ⟨x, hx⟩ := Option.isSome_iff_exists.mp head
      rw [chain_cons hx] at agree ⊢
      rw [chain_cons ((agree h (by simp)).trans hx), ih (links h x hx) fun e he => agree e (by simp [he])]

end Chain

/-! ### A chain built -/

section Build

variable {es : List Nat} {cs : List PermContent}

theorem linkChain_cons (e : Nat) (c : PermContent) (h : es.length = cs.length) :
    linkChain (e :: es) (c :: cs) = (e, { content := c, next := es.headD 0 }) :: linkChain es cs := by
  cases cs with
  | nil =>
    obtain rfl := List.eq_nil_of_length_eq_zero h
    rfl
  | cons d cs => rfl

theorem linkChain_keys (h : es.length = cs.length) : (linkChain es cs).map Prod.fst = es := by
  induction es generalizing cs with
  | nil => cases cs <;> rfl
  | cons e es ih =>
    cases cs with
    | nil => simp at h
    | cons c cs =>
      have length : es.length = cs.length := by simpa using h
      rw [linkChain_cons e c length, List.map_cons, ih length]

theorem linkChain_contents (h : es.length = cs.length) : ((linkChain es cs).map fun p => p.2.content) = cs := by
  induction es generalizing cs with
  | nil => cases cs with
    | nil => rfl
    | cons c cs => simp at h
  | cons e es ih =>
    cases cs with
    | nil => simp at h
    | cons c cs =>
      have length : es.length = cs.length := by simpa using h
      rw [linkChain_cons e c length, List.map_cons, ih length]

theorem linkChain_next (h : es.length = cs.length) : ∀ p ∈ linkChain es cs, p.2.next = 0 ∨ p.2.next ∈ es := by
  induction es generalizing cs with
  | nil => cases cs <;> simp [linkChain]
  | cons e es ih =>
    cases cs with
    | nil => simp at h
    | cons c cs =>
      have length : es.length = cs.length := by simpa using h
      intro p hp
      rw [linkChain_cons e c length, List.mem_cons] at hp
      rcases hp with rfl | hp
      · cases es <;> simp
      · rcases ih length p hp with zero | next
        · exact .inl zero
        · exact .inr (by simp [next])

/-- Records stored one after another under distinct keys: each is found, and no other key is touched. -/
theorem foldl_set_get {α : Type} (ps : List (Nat × α)) (m : Table α) (distinct : (ps.map Prod.fst).Nodup) :
    (∀ p ∈ ps, Table.get (ps.foldl (fun m p => Table.set m p.1 p.2) m) p.1 = some p.2) ∧
      ∀ k, k ∉ ps.map Prod.fst → Table.get (ps.foldl (fun m p => Table.set m p.1 p.2) m) k = Table.get m k := by
  induction ps generalizing m with
  | nil => simp
  | cons q ps ih =>
    rw [List.map_cons, List.nodup_cons] at distinct
    obtain ⟨found, other⟩ := ih (Table.set m q.1 q.2) distinct.2
    refine ⟨fun p hp => ?_, fun k hk => ?_⟩
    · rw [List.foldl_cons]
      rcases List.mem_cons.mp hp with rfl | hp
      · rw [other _ distinct.1, Table.get_set_same]
      · exact found p hp
    · rw [List.map_cons, List.mem_cons, not_or] at hk
      rw [List.foldl_cons, other k hk.2, Table.get_set_other _ _ hk.1]

/-- A chain linked of entries reads back as them. -/
theorem chain_linked {U : BearerTable} (length : es.length = cs.length) (zero : U.entries.get 0 = none)
    (stored : ∀ p ∈ linkChain es cs, U.entries.get p.1 = some p.2) {n : Nat} (room : es.length ≤ n) :
    U.chain n (es.headD 0) = es := by
  induction es generalizing cs n with
  | nil => exact chain_of_free zero n
  | cons e es ih =>
    cases cs with
    | nil => simp at length
    | cons c cs =>
      obtain ⟨n, rfl⟩ : ∃ k, n = k + 1 := ⟨n - 1, by simp at room; omega⟩
      have length : es.length = cs.length := by simpa using length
      rw [linkChain_cons e c length] at stored
      rw [List.headD_cons, chain_cons (stored _ List.mem_cons_self),
        ih length (fun p hp => stored p (List.mem_cons_of_mem _ hp)) (by simpa using room)]

variable {T : BearerTable} (short : cs.length ≤ T.freeList.length) (distinct : T.freeList.Nodup)
include short

theorem build_length : (T.freeList.take cs.length).length = cs.length := List.length_take_of_le short

include distinct

theorem build_stored : ∀ p ∈ linkChain (T.freeList.take cs.length) cs, (T.build cs).1.entries.get p.1 = some p.2 :=
  (foldl_set_get _ _ (by rw [linkChain_keys (build_length short)]; exact distinct.sublist (List.take_sublist ..))).1

theorem build_other {k : Nat} (hk : k ∉ T.freeList.take cs.length) : (T.build cs).1.entries.get k = T.entries.get k :=
  (foldl_set_get _ _ (by rw [linkChain_keys (build_length short)]; exact distinct.sublist (List.take_sublist ..))).2 k
    (by rwa [linkChain_keys (build_length short)])

theorem build_chain (no : 0 ∉ T.freeList) (zero : T.entries.get 0 = none) {n : Nat} (room : cs.length ≤ n) :
    (T.build cs).1.chain n ((T.freeList.take cs.length).headD 0) = T.freeList.take cs.length :=
  chain_linked (build_length short) (by rw [build_other short distinct fun h => no (List.mem_of_mem_take h)]; exact zero)
    (build_stored short distinct) (by rwa [build_length short])

/-- What the new table holds at an entry. -/
theorem build_entry {k : Nat} {x : PermEntry} (h : (T.build cs).1.entries.get k = some x) :
    (k ∈ T.freeList.take cs.length ∧ (x.next = 0 ∨ x.next ∈ T.freeList.take cs.length)) ∨
      (k ∉ T.freeList.take cs.length ∧ T.entries.get k = some x) := by
  by_cases taken : k ∈ T.freeList.take cs.length
  · refine .inl ⟨taken, ?_⟩
    have length := build_length short
    rw [← linkChain_keys length, List.mem_map] at taken
    obtain ⟨p, hp, rfl⟩ := taken
    obtain rfl : x = p.2 := Option.some.inj (h.symm.trans (build_stored short distinct p hp))
    exact linkChain_next length p hp
  · exact .inr ⟨taken, by rwa [build_other short distinct taken] at h⟩

theorem build_isSome {k : Nat} : ((T.build cs).1.entries.get k).isSome ↔ k ∈ T.freeList.take cs.length ∨ (T.entries.get k).isSome := by
  by_cases taken : k ∈ T.freeList.take cs.length
  · have stored := build_stored short distinct
    have key := taken
    rw [← linkChain_keys (build_length short), List.mem_map] at key
    obtain ⟨p, hp, rfl⟩ := key
    simp [stored p hp, taken]
  · simp [build_other short distinct taken, taken]

end Build

end Sys2Proof.Proofs.Acts
end

section
/-! PROOFS. The law of the permission chains (R16), kept by every act on the people's side. -/
namespace Sys2Proof.Proofs.Acts

open Sys2Proof Sys2Proof.Machine Sys2Proof.Safety Relation

variable {s t : State} {m : Mode}

section Law

variable {T U : BearerTable}

theorem chainLaw_zero (h : ChainLaw T) : T.entries.get 0 = none := by
  by_contra some
  have := h.used 0 (Option.isSome_iff_ne_none.mpr some)
  omega

theorem chainLaw_zero_free (h : ChainLaw T) : 0 ∉ T.freeList := fun mem => by
  have := h.free 0 mem
  omega

theorem head_on_chain {r : Bearer} (h : (T.entries.get r.chainHead).isSome) : r.chainHead ∈ T.chainOf r := by
  obtain ⟨x, hx⟩ := Option.isSome_iff_exists.mp h
  unfold BearerTable.chainOf Config.maxChain
  simp [chain_cons hx]

/-- Entries and free list are the same, and the records have the same heads. -/
theorem chainLaw_of_heads (h : ChainLaw T) (entries : U.entries = T.entries) (free : U.freeList = T.freeList)
    (count : U.freeCount = T.freeCount)
    (old : ∀ b r, U.bearers.get b = some r → r.chainHead = 0 ∨ ∃ q, T.bearers.get b = some q ∧ q.chainHead = r.chainHead)
    (new : ∀ b r, T.bearers.get b = some r → ∃ q, U.bearers.get b = some q ∧ q.chainHead = r.chainHead) : ChainLaw U := by
  have zero := chainLaw_zero h
  have chain (n e : Nat) : U.chain n e = T.chain n e := chain_of_entries entries n e
  have own {b : Nat} {r : Bearer} {e : Nat} (hb : U.bearers.get b = some r) (he : e ∈ U.chainOf r) :
      ∃ q, T.bearers.get b = some q ∧ e ∈ T.chainOf q := by
    unfold BearerTable.chainOf at he ⊢
    rw [chain] at he
    rcases old b r hb with none | ⟨q, hq, head⟩
    · rw [none, chain_of_free zero] at he
      cases he
    · exact ⟨q, hq, by rwa [head]⟩
  constructor
  case count => rw [count, free, h.count]
  case nodup => rw [free]; exact h.nodup
  case free => rw [free, entries]; exact h.free
  case used =>
    intro e he
    rw [entries] at he
    obtain ⟨low, high, b, r, hb, on⟩ := h.used e he
    obtain ⟨q, hq, head⟩ := new b r hb
    refine ⟨low, high, b, q, hq, ?_⟩
    unfold BearerTable.chainOf at on ⊢
    rwa [chain, head]
  case all => rw [free, entries]; exact h.all
  case disjoint =>
    intro b c r q e hb hc hr hq
    obtain ⟨_, hb', hr'⟩ := own hb hr
    obtain ⟨_, hc', hq'⟩ := own hc hq
    exact h.disjoint b c _ _ e hb' hc' hr' hq'
  case ends =>
    intro b r hb
    unfold BearerTable.chainOf
    rw [chain, chain]
    rcases old b r hb with none | ⟨q, hq, head⟩
    · simp [none, chain_of_free zero]
    · rw [← head]
      exact h.ends b q hq
  case heads =>
    intro b r hb
    rw [entries]
    rcases old b r hb with none | ⟨q, hq, head⟩
    · exact .inl none
    · rw [← head]
      exact h.heads b q hq
  case links => rw [entries]; exact h.links

/-! ### A chain given back -/

theorem foldl_cons_reverse {α : Type} (es l : List α) : es.foldl (fun l e => e :: l) l = es.reverse ++ l := by
  induction es generalizing l with
  | nil => rfl
  | cons e es ih => simp [ih]

theorem giveBack_get (es : List Nat) (k : Nat) : (T.giveBack es).entries.get k = if k ∈ es then none else T.entries.get k := by
  rw [BearerTable.giveBack, get_filter T.entries (fun n => !es.contains n)]
  by_cases hk : k ∈ es <;> simp [hk]

theorem giveBack_free (es : List Nat) : (T.giveBack es).freeList = es.reverse ++ T.freeList := foldl_cons_reverse es _

section Given

variable (h : ChainLaw T) {b : Nat} {r : Bearer} (live : T.bearers.get b = some r)
include h live

/-- The entry named by one that is off a bearer's chain is off that chain. -/
theorem next_off_chain {e : Nat} {x : PermEntry} (hx : T.entries.get e = some x) (off : e ∉ T.chainOf r)
    (next : (T.entries.get x.next).isSome) : x.next ∉ T.chainOf r := by
  obtain ⟨-, -, c, q, hc, on⟩ := h.used e (by simp [hx])
  have onNext : x.next ∈ T.chainOf q := by
    rw [← (h.ends c q hc).2]
    exact chain_next on hx next
  intro both
  obtain rfl := h.disjoint _ _ _ _ _ hc live onNext both
  obtain rfl : q = r := Option.some.inj (hc.symm.trans live)
  exact off on

/-- Another bearer's chain reads the same once a bearer's is given back. -/
theorem chain_given {c : Nat} {q : Bearer} (other : c ≠ b) (hc : T.bearers.get c = some q) {n : Nat} (short : n ≤ 17) :
    (T.giveBack (T.chainOf r)).chain n q.chainHead = T.chain n q.chainHead := by
  refine chain_agree h.links (chainLaw_zero h) (by simp [giveBack_get, chainLaw_zero h]) (h.heads c q hc) fun e he => ?_
  rw [giveBack_get, if_neg]
  intro both
  refine other (h.disjoint _ _ _ _ e hc live ?_ both)
  rw [← (h.ends c q hc).2]
  exact chain_mono short he

/-- A chain given back leaves the law, with no head at its bearer (R9, R17). -/
theorem chainLaw_given (given : (T.giveBack (T.chainOf r)).entries = U.entries) (free : U.freeList = (T.chainOf r).reverse ++ T.freeList)
    (count : U.freeCount = T.freeCount + (T.chainOf r).length) (others : ∀ c, c ≠ b → U.bearers.get c = T.bearers.get c)
    (own : ∀ q, U.bearers.get b = some q → q.chainHead = 0) : ChainLaw U := by
  have zero : U.entries.get 0 = none := by simp [← given, giveBack_get, chainLaw_zero h]
  have get (k : Nat) : U.entries.get k = if k ∈ T.chainOf r then none else T.entries.get k := by rw [← given, giveBack_get]
  have chain {c : Nat} {q : Bearer} (other : c ≠ b) (hc : T.bearers.get c = some q) {n : Nat} (short : n ≤ 17) :
      U.chain n q.chainHead = T.chain n q.chainHead := by rw [chain_of_entries given.symm, chain_given h live other hc short]
  have read {c : Nat} {q : Bearer} {e : Nat} (hc : U.bearers.get c = some q) (he : e ∈ U.chainOf q) :
      c ≠ b ∧ T.bearers.get c = some q ∧ e ∈ T.chainOf q := by
    by_cases same : c = b
    · subst same
      unfold BearerTable.chainOf at he
      rw [own q hc, chain_of_free zero] at he
      cases he
    · rw [others c same] at hc
      refine ⟨same, hc, ?_⟩
      unfold BearerTable.chainOf at he ⊢
      rwa [chain same hc (by simp [Config.maxChain])] at he
  obtain ⟨distinct, ended⟩ := h.ends b r live
  have was {e : Nat} (he : e ∈ T.chainOf r) := h.used e (chain_isSome he)
  constructor
  case count => rw [count, free]; simp [h.count, Nat.add_comm]
  case nodup =>
    rw [free]
    refine List.nodup_append.mpr ⟨List.nodup_reverse.mpr distinct, h.nodup, fun a ha e he => ?_⟩
    rintro rfl
    have none := (h.free a he).2.2
    have some := chain_isSome (List.mem_reverse.mp ha)
    simp [none] at some
  case free =>
    intro e he
    rw [free, List.mem_append, List.mem_reverse] at he
    rw [get]
    rcases he with on | off
    · obtain ⟨low, high, -⟩ := was on
      exact ⟨low, high, if_pos on⟩
    · obtain ⟨low, high, none⟩ := h.free e off
      exact ⟨low, high, by split <;> [rfl; exact none]⟩
  case used =>
    intro e he
    rw [get] at he
    split at he
    · cases he
    · next off =>
      obtain ⟨low, high, c, q, hc, on⟩ := h.used e he
      have other : c ≠ b := by
        rintro rfl
        obtain rfl : q = r := Option.some.inj (hc.symm.trans live)
        exact off on
      refine ⟨low, high, c, q, by rwa [others c other], ?_⟩
      unfold BearerTable.chainOf at on ⊢
      rwa [chain other hc (by simp [Config.maxChain])]
  case all =>
    intro e low high
    rw [free, List.mem_append, List.mem_reverse, get]
    by_cases on : e ∈ T.chainOf r
    · exact .inl (.inl on)
    · rcases h.all e low high with off | some
      · exact .inl (.inr off)
      · exact .inr (by rwa [if_neg on])
  case disjoint =>
    intro c d q p e hc hd hq hp
    obtain ⟨-, hc', hq'⟩ := read hc hq
    obtain ⟨-, hd', hp'⟩ := read hd hp
    exact h.disjoint c d q p e hc' hd' hq' hp'
  case ends =>
    intro c q hc
    by_cases same : c = b
    · subst same
      unfold BearerTable.chainOf
      simp [own q hc, chain_of_free zero]
    · rw [others c same] at hc
      unfold BearerTable.chainOf
      rw [chain same hc (by simp [Config.maxChain]), chain same hc le_rfl]
      exact h.ends c q hc
  case heads =>
    intro c q hc
    by_cases same : c = b
    · subst same
      exact .inl (own q hc)
    · rw [others c same] at hc
      rcases h.heads c q hc with none | some
      · exact .inl none
      · refine .inr ?_
        rw [get, if_neg]
        · exact some
        · exact fun both => same (h.disjoint _ _ _ _ _ hc live (head_on_chain some) both)
  case links =>
    intro e x hx
    rw [get] at hx
    split at hx
    · cases hx
    · next off =>
      rcases h.links e x hx with none | some
      · exact .inl none
      · refine .inr ?_
        rw [get, if_neg (next_off_chain h live hx off some)]
        exact some

end Given

/-! ### A chain built -/

/-- A chain built for a bearer that has none leaves the law (R17). -/
theorem chainLaw_built (h : ChainLaw T) {b : Nat} {q : Bearer} {cs : List PermContent} (short : cs.length ≤ 16)
    (fits : cs.length ≤ T.freeCount) (empty : ∀ p, T.bearers.get b = some p → p.chainHead = 0)
    (entries : U.entries = (T.build cs).1.entries) (free : U.freeList = T.freeList.drop cs.length)
    (count : U.freeCount = T.freeCount - cs.length) (others : ∀ c, c ≠ b → U.bearers.get c = T.bearers.get c)
    (own : U.bearers.get b = some q) (head : q.chainHead = (T.freeList.take cs.length).headD 0) : ChainLaw U := by
  have zero := chainLaw_zero h
  rw [h.count] at fits
  have new {k : Nat} (hk : k ∈ T.freeList.take cs.length) := h.free k (List.mem_of_mem_take hk)
  have zero' : U.entries.get 0 = none := by
    rw [entries, build_other fits h.nodup fun hk => by have := new hk; omega]
    exact zero
  have isSome (k : Nat) : (U.entries.get k).isSome ↔ k ∈ T.freeList.take cs.length ∨ (T.entries.get k).isSome := by
    rw [entries]
    exact build_isSome fits h.nodup
  have chainOwn {n : Nat} (room : 16 ≤ n) : U.chain n q.chainHead = T.freeList.take cs.length := by
    rw [chain_of_entries entries, head]
    exact build_chain fits h.nodup (chainLaw_zero_free h) zero (by omega)
  have chain {c : Nat} {p : Bearer} (hc : T.bearers.get c = some p) (n : Nat) : U.chain n p.chainHead = T.chain n p.chainHead := by
    refine chain_agree h.links zero zero' (h.heads c p hc) fun e he => ?_
    rw [entries, build_other fits h.nodup fun hk => ?_]
    have some := chain_isSome he
    simp [(new hk).2.2] at some
  have read {c : Nat} {p : Bearer} {e : Nat} (hc : U.bearers.get c = some p) (he : e ∈ U.chainOf p) :
      (c = b ∧ e ∈ T.freeList.take cs.length) ∨ (c ≠ b ∧ T.bearers.get c = some p ∧ e ∈ T.chainOf p) := by
    unfold BearerTable.chainOf at he ⊢
    by_cases same : c = b
    · subst same
      obtain rfl : p = q := Option.some.inj (hc.symm.trans own)
      rw [chainOwn (by simp [Config.maxChain])] at he
      exact .inl ⟨rfl, he⟩
    · rw [others c same] at hc
      rw [chain hc] at he
      exact .inr ⟨same, hc, he⟩
  constructor
  case count => rw [count, free, h.count]; simp
  case nodup => rw [free]; exact h.nodup.sublist (List.drop_sublist ..)
  case free =>
    intro e he
    rw [free] at he
    obtain ⟨low, high, none⟩ := h.free e (List.mem_of_mem_drop he)
    refine ⟨low, high, ?_⟩
    rw [entries, build_other fits h.nodup fun hk => ?_]
    · exact none
    · exact List.disjoint_take_drop h.nodup le_rfl hk he
  case used =>
    intro e he
    rcases (isSome e).mp he with taken | old
    · obtain ⟨low, high, -⟩ := new taken
      refine ⟨low, high, b, q, own, ?_⟩
      unfold BearerTable.chainOf
      rwa [chainOwn (by simp [Config.maxChain])]
    · obtain ⟨low, high, c, p, hc, on⟩ := h.used e old
      have other : c ≠ b := by
        rintro rfl
        unfold BearerTable.chainOf at on
        rw [empty p hc, chain_of_free zero] at on
        cases on
      refine ⟨low, high, c, p, by rwa [others c other], ?_⟩
      unfold BearerTable.chainOf at on ⊢
      rwa [chain hc]
  case all =>
    intro e low high
    rw [isSome, free]
    rcases h.all e low high with off | some
    · rw [← List.take_append_drop cs.length T.freeList, List.mem_append] at off
      rcases off with taken | left
      · exact .inr (.inl taken)
      · exact .inl left
    · exact .inr (.inr some)
  case disjoint =>
    intro c d p q e hc hd hp hq
    rcases read hc hp with ⟨rfl, he⟩ | ⟨-, hc', he⟩ <;> rcases read hd hq with ⟨rfl, he'⟩ | ⟨-, hd', he'⟩
    · rfl
    · have some := chain_isSome he'
      simp [(new he).2.2] at some
    · have some := chain_isSome he
      simp [(new he').2.2] at some
    · exact h.disjoint c d p q e hc' hd' he he'
  case ends =>
    intro c p hc
    unfold BearerTable.chainOf
    by_cases same : c = b
    · subst same
      obtain rfl : p = q := Option.some.inj (hc.symm.trans own)
      rw [chainOwn (by simp [Config.maxChain]), chainOwn (by simp)]
      exact ⟨h.nodup.sublist (List.take_sublist ..), rfl⟩
    · rw [others c same] at hc
      rw [chain hc, chain hc]
      exact h.ends c p hc
  case heads =>
    intro c p hc
    by_cases same : c = b
    · subst same
      obtain rfl : p = q := Option.some.inj (hc.symm.trans own)
      rw [isSome, head]
      cases T.freeList.take cs.length <;> simp
    · rw [others c same] at hc
      exact (h.heads c p hc).imp_right fun some => (isSome _).mpr (.inr some)
  case links =>
    intro e x hx
    rw [entries] at hx
    rcases build_entry fits h.nodup hx with ⟨-, none | next⟩ | ⟨-, old⟩
    · exact .inl none
    · exact .inr ((isSome _).mpr (.inl next))
    · exact (h.links e x old).imp_right fun some => (isSome _).mpr (.inr some)

theorem chainLaw_cold : ChainLaw .cold := by
  constructor
  case count => simp [BearerTable.cold]
  case nodup => exact List.nodup_range'
  case free =>
    intro e he
    simp only [BearerTable.cold, Config.maxPermEntries, List.mem_range'_1] at he
    exact ⟨by omega, by omega, rfl⟩
  case all =>
    intro e low high
    refine .inl ?_
    simp only [BearerTable.cold, Config.maxPermEntries, List.mem_range'_1]
    omega
  all_goals simp [BearerTable.cold]

/-! ### The acts on the people's side -/

theorem chainLaw_retired {b : Nat} (h : Retires s t b) (hs : ChainLaw s.bt) : ChainLaw t.bt := by
  obtain ⟨r, live, table⟩ := h.table
  rw [table]
  refine chainLaw_given hs live rfl (giveBack_free _) rfl (fun c other => ?_) fun q hq => ?_
  · exact (Table.get_erase ..).trans (if_neg other)
  · have erased : (retiredTable s.bt b r).bearers.get b = none := (Table.get_erase ..).trans (if_pos rfl)
    rw [erased] at hq
    cases hq

/-- CHAIN WRITE keeps the law: the old chain is given back, then the new one built (R17). -/
theorem chainLaw_rebuilt (h : ChainLaw T) {b : Nat} {r : Bearer} {cs : List PermContent} (live : T.bearers.get b = some r)
    (short : cs.length ≤ 16) (fits : cs.length ≤ T.freeCount + (T.chainOf r).length) :
    let built := (T.giveBack (T.chainOf r)).build cs
    ChainLaw { built.1 with bearers := built.1.bearers.set b { r with chainHead := built.2.headD 0 } } := by
  have given : ChainLaw
      { T.giveBack (T.chainOf r) with bearers := T.bearers.set b { r with chainHead := 0 } } := by
    refine chainLaw_given h live rfl (giveBack_free _) rfl (fun c other => Table.get_set_other _ _ other) fun q hq => ?_
    obtain rfl := Option.some.inj ((Table.get_set_same ..).symm.trans hq)
    rfl
  refine chainLaw_built (q := { r with chainHead := ((T.giveBack (T.chainOf r)).build cs).2.headD 0 }) given short fits
    (fun p hp => ?_) rfl rfl rfl (fun c other => ?_) (Table.get_set_same ..) rfl
  · obtain rfl := Option.some.inj ((Table.get_set_same ..).symm.trans hp)
    rfl
  · exact (Table.get_set_other _ _ other).trans (Table.get_set_other _ _ other).symm

end Law

theorem PeopleAct.chainLaw {c d : Conf} (h : PeopleAct c d) (hc : ChainLaw c.state.bt) : ChainLaw d.state.bt := by
  cases h with
  | same h _ => rwa [h.bt]
  | contexts h _ => rwa [h.bt]
  | waits h _ _ _ => rwa [h.bt]
  | calendar _ hs hh n hb =>
    rw [hb]
    exact chainLaw_of_heads hc rfl rfl rfl (fun b r hr => .inr ⟨r, hr, rfl⟩) fun b r hr => ⟨r, hr, rfl⟩
  | bearer _ b f hf hb =>
    rw [hb]
    refine chainLaw_of_heads hc rfl rfl rfl (fun c q hq => .inr ?_) fun c q hq => ?_
    · obtain ⟨r, hr, rfl⟩ := Option.map_eq_some_iff.mp ((get_modify_map ..).symm.trans hq)
      exact ⟨r, hr, by split <;> simp [(hf r).2]⟩
    · exact ⟨_, (get_modify_map ..).trans (by rw [hq]; rfl), by split <;> simp [(hf q).2]⟩
  | enrolled _ n r slot token head hb =>
    rw [hb]
    refine chainLaw_of_heads hc rfl rfl rfl (fun c q hq => ?_) fun c q hq => ?_
    · by_cases same : c = n
      · subst same
        obtain rfl := Option.some.inj ((Table.get_set_same ..).symm.trans hq)
        exact .inl head
      · exact .inr ⟨q, (Table.get_set_other _ _ same).symm.trans hq, rfl⟩
    · have other : c ≠ n := by
        rintro rfl
        cases slot.symm.trans hq
      exact ⟨q, (Table.get_set_other _ _ other).trans hq, rfl⟩
  | amended _ b r q live head token hb =>
    rw [hb]
    refine chainLaw_of_heads hc rfl rfl rfl (fun c p hp => .inr ?_) fun c p hp => ?_
    · by_cases same : c = b
      · subst same
        obtain rfl := Option.some.inj ((Table.get_set_same ..).symm.trans hp)
        exact ⟨r, live, head.symm⟩
      · exact ⟨p, (Table.get_set_other _ _ same).symm.trans hp, rfl⟩
    · by_cases same : c = b
      · subst same
        obtain rfl := Option.some.inj (live.symm.trans hp)
        exact ⟨q, Table.get_set_same .., head⟩
      · exact ⟨p, (Table.get_set_other _ _ same).trans hp, rfl⟩
  | chained _ b r cs live short fits hb => rw [hb]; exact chainLaw_rebuilt hc live short fits
  | retired b _ _ _ hb => exact chainLaw_retired hb hc
  | entries h _ _ _ => rwa [h.bt]
  | left e o _ _ _ hb =>
    rcases hb with same | retires
    · rwa [same]
    · exact chainLaw_retired retires hc
  | admitted h _ _ _ _ _ => rwa [h.bt]
  | settled _ _ => exact hc

theorem Stage.chainLaw (h : Stage w m s t) (hs : ChainLaw s.bt) : ChainLaw t.bt :=
  Stage.keeps_bt (fun _ _ => PeopleAct.chainLaw) chainLaw_cold h hs

/-- Settles O53: entries move between the free list and one bearer's chain, a whole chain at a time. -/
theorem everyStepKeepsTheChainLaw : Obligations.EveryStepKeepsTheChainLaw := fun _ _ hs h =>
  step_keeps (P := fun s => ChainLaw s.bt) (fun _ _ h => h) Stage.chainLaw h hs

end Sys2Proof.Proofs.Acts
end

section
/-! PROOFS. The law of occupancy entries (R59), kept by every act on the people's side. Between acts a bearer that has just been admitted may
still wait in a context: the debt `placed` names it. -/
namespace Sys2Proof.Proofs.Acts

open Sys2Proof Sys2Proof.Machine Sys2Proof.Safety Relation

variable {w : Allows} {s t : State} {m : Mode} {O P : Set Room} {A B : Set Nat}

/-! ### Entries in a table -/

theorem table_set_perm {α : Type} {m : Table α} {n : Nat} (a : α) (h : Table.get m n = none) : (Table.set m n a).Perm ((n, a) :: m) := by
  induction m with
  | nil => rfl
  | cons p m ih =>
    obtain ⟨k, b⟩ := p
    by_cases same : k = n
    · simp [Table.get, same] at h
    · have rest : Table.get m n = none := by simpa [Table.get, same] using h
      unfold Table.set
      split
      · rfl
      · rw [if_neg (Ne.symm same)]
        exact ((ih rest).cons _).trans (.swap ..)

/-- Under rising numbers a number has one record. -/
theorem wf_inj {α : Type} {m : Table α} (wf : m.wf = true) {p q : Nat × α} (hp : p ∈ m) (hq : q ∈ m) (same : p.1 = q.1) : p = q := by
  simp only [Table.wf, decide_eq_true_eq] at wf
  exact List.inj_on_of_nodup_map (wf.imp fun h => Nat.ne_of_lt h) hp hq same

theorem mem_erase {α : Type} {m : Table α} {n : Nat} {p : Nat × α} : p ∈ Table.erase m n ↔ p ∈ m ∧ p.1 ≠ n := by
  simp [Table.erase]

/-! ### The law with its debt -/

/-- The law of R59, but for contexts of bearers just admitted. -/
structure OccupancyHolds (c : Conf) : Prop where
  wf : c.state.roll.entries.wf = true
  once : (c.state.roll.entries.map fun p => p.2.bearer).Nodup
  live : ∀ p ∈ c.state.roll.entries, (c.state.bt.bearers.get p.2.bearer).isSome
  waits : ∀ (r : Room) n w b g, c.state.ctx[r] = .custody n w b g →
    (b ∈ c.placed ∨ c.state.entryOf b = none) ∧ (c.state.bt.bearers.get b).isSome

theorem occupancyHolds_iff : OccupancyHolds ⟨s, O, ∅⟩ ↔ OccupancyLaw s :=
  ⟨fun h => ⟨h.wf, h.once, h.live, fun r n w b g hc => (h.waits r n w b g hc).imp_left fun no => no.resolve_left (Set.notMem_empty b)⟩,
    fun ⟨wf, once, live, waits⟩ => ⟨wf, once, live, fun r n w b g hc => (waits r n w b g hc).imp_left .inr⟩⟩

theorem entryOf_of_entries (h : t.roll.entries = s.roll.entries) (b : Nat) : t.entryOf b = s.entryOf b := by
  unfold State.entryOf
  rw [h]

/-- Entries are the same, live bearers stay live, and no bearer waits that did not. -/
theorem OccupancyHolds.of_register (h : OccupancyHolds ⟨s, O, A⟩) (entries : t.roll.entries = s.roll.entries)
    (live : ∀ b, (s.bt.bearers.get b).isSome → (t.bt.bearers.get b).isSome) (hc : NoNewWaiting s t) : OccupancyHolds ⟨t, P, A⟩ where
  wf := by simpa only [entries] using h.wf
  once := by simpa only [entries] using h.once
  live := by
    intro p hp
    simp only [entries] at hp
    exact live _ (h.live p hp)
  waits := by
    intro r n w b g held
    obtain ⟨k, v, held⟩ := hc r n w b g held
    obtain ⟨outside, lives⟩ := h.waits r k v b g held
    exact ⟨by rwa [entryOf_of_entries entries], live b lives⟩

theorem NoNewWaiting.of_same (h : t.ctx = s.ctx) : NoNewWaiting s t := fun r n w b g held => ⟨n, w, by rwa [h] at held⟩

/-- Some entries are taken away, whose bearers alone may go, and no bearer waits that did not or that is gone. -/
theorem OccupancyHolds.of_fewer (h : OccupancyHolds ⟨s, O, A⟩) (entries : t.roll.entries.Sublist s.roll.entries)
    (live : ∀ p ∈ t.roll.entries, (s.bt.bearers.get p.2.bearer).isSome → (t.bt.bearers.get p.2.bearer).isSome)
    (waits : ∀ b, ¬NotWaiting t b → (s.bt.bearers.get b).isSome → (t.bt.bearers.get b).isSome) (hc : NoNewWaiting s t) :
    OccupancyHolds ⟨t, P, A⟩ where
  wf := by
    have wf := h.wf
    simp only [Table.wf, decide_eq_true_eq] at wf ⊢
    exact wf.sublist (entries.map _)
  once := h.once.sublist (entries.map _)
  live := fun p hp => live p hp (h.live p (entries.subset hp))
  waits := by
    intro r n w b g held
    obtain ⟨k, v, old⟩ := hc r n w b g held
    obtain ⟨outside, lives⟩ := h.waits r k v b g old
    refine ⟨outside.imp_right fun none => ?_, waits b (fun no => no r n w g held) lives⟩
    rw [entryOf_eq_none] at none ⊢
    exact fun p hp => none p (entries.subset hp)

/-- A retirement takes one bearer alone, and its waiting contexts. -/
theorem Retires.live {b c : Nat} (h : Retires s t b) (other : c ≠ b) (live : (s.bt.bearers.get c).isSome) :
    (t.bt.bearers.get c).isSome := by
  obtain ⟨r, -, table⟩ := h.table
  rw [table]
  show (Table.get (Table.erase _ b) c).isSome
  rwa [Table.get_erase, if_neg other]

theorem OccupancyHolds.of_retired {b : Nat} (h : OccupancyHolds ⟨s, O, A⟩) (entries : t.roll.entries.Sublist s.roll.entries)
    (outside : ∀ p ∈ t.roll.entries, p.2.bearer ≠ b) (hc : NoNewWaiting s t) (hb : Retires s t b) : OccupancyHolds ⟨t, P, A⟩ :=
  h.of_fewer entries (fun p hp => hb.live (outside p hp))
    (fun _ waits => hb.live fun same => waits (same ▸ hb.waiting)) hc

/-- A bearer leaves with its entry, which is its only one (R59). -/
theorem OccupancyHolds.of_left {e : Nat} {o : OccEntry} (h : OccupancyHolds ⟨s, O, A⟩) (entry : (e, o) ∈ s.roll.entries)
    (he : t.roll.entries = s.roll.entries.erase e) (hc : NoNewWaiting s t) (hb : t.bt = s.bt ∨ Retires s t o.bearer) :
    OccupancyHolds ⟨t, P, A⟩ := by
  have entries : t.roll.entries.Sublist s.roll.entries := by
    rw [he]
    exact List.filter_sublist
  rcases hb with same | retires
  · exact h.of_fewer entries (by simp [same]) (by simp [same]) hc
  · refine h.of_retired entries (fun p hp same => ?_) hc retires
    rw [he, mem_erase] at hp
    have own := List.inj_on_of_nodup_map h.once hp.1 entry same
    exact hp.2 (by rw [own])

/-- A bearer admitted has the only entry of its own; its contexts are owed (R49). -/
theorem OccupancyHolds.of_admitted {e : Nat} {o : OccEntry} (h : OccupancyHolds ⟨s, O, A⟩) (same : SameBearers s t)
    (slot : s.roll.entries.get e = none) (fit : Candidate s A o.bearer) (he : t.roll.entries = s.roll.entries.set e o) :
    OccupancyHolds ⟨t, P, insert o.bearer A⟩ := by
  have stored : t.roll.entries.Perm ((e, o) :: s.roll.entries) := he ▸ table_set_perm o slot
  obtain ⟨outside, live⟩ : s.entryOf o.bearer = none ∧ (s.bt.bearers.get o.bearer).isSome := by
    rcases fit with ⟨live, outside⟩ | ⟨new, waiting⟩
    · exact ⟨outside, live⟩
    · simp only [NotWaiting, not_forall, not_not] at waiting
      obtain ⟨r, n, w, g, held⟩ := waiting
      obtain ⟨outside, live⟩ := h.waits r n w _ g held
      exact ⟨outside.resolve_left new, live⟩
  have unlisted := entryOf_eq_none.mp outside
  constructor
  case wf => simpa only [he] using Table.wf_set _ _ _ h.wf
  case once =>
    refine ((stored.map fun p => p.2.bearer).nodup_iff).mpr (List.nodup_cons.mpr ⟨fun mem => ?_, h.once⟩)
    obtain ⟨p, hp, own⟩ := List.mem_map.mp mem
    exact unlisted p hp own
  case live =>
    intro p hp
    simp only [same.bt]
    rcases List.mem_cons.mp (stored.mem_iff.mp hp) with rfl | hp
    · exact live
    · exact h.live p hp
  case waits =>
    intro r n w b g held
    simp only [same.bt]
    obtain ⟨none, lives⟩ := h.waits r n w b g (by simpa only [same.ctx] using held)
    refine ⟨?_, lives⟩
    by_cases own : b = o.bearer
    · exact .inl (by simp [own])
    · refine none.imp (Set.mem_insert_of_mem _) fun none => ?_
      rw [entryOf_eq_none] at none ⊢
      intro p hp
      rcases List.mem_cons.mp (stored.mem_iff.mp hp) with rfl | hp
      · exact fun same => own same.symm
      · exact none p hp

/-- A custodian that begins to wait is live and has no entry (R53). -/
theorem OccupancyHolds.of_waits {b : Nat} (h : OccupancyHolds ⟨s, O, A⟩) (same : SameRegister s t) (none : s.entryOf b = none)
    (live : (s.bt.bearers.get b).isSome)
    (hc : ∀ (r : Room) n w c g, t.ctx[r] = .custody n w c g → c = b ∨ ∃ k v, s.ctx[r] = .custody k v c g) :
    OccupancyHolds ⟨t, P, A⟩ where
  wf := by simpa only [same.entries] using h.wf
  once := by simpa only [same.entries] using h.once
  live := by simpa only [same.entries, same.bt] using h.live
  waits := by
    intro r n w c g held
    simp only [same.bt, entryOf_of_entries same.entries]
    rcases hc r n w c g held with rfl | ⟨k, v, old⟩
    · exact ⟨.inr none, live⟩
    · exact h.waits r k v c g old

/-- Entries changed without their bearers. -/
theorem OccupancyHolds.of_entries (h : OccupancyHolds ⟨s, O, A⟩) (same : SameBearers s t) (f : Nat × OccEntry → OccEntry)
    (hf : ∀ p, (f p).bearer = p.2.bearer) (he : t.roll.entries = s.roll.entries.map fun p => (p.1, f p)) :
    OccupancyHolds ⟨t, P, A⟩ where
  wf := by
    have wf := h.wf
    simp only [Table.wf, he, List.map_map] at wf ⊢
    exact wf
  once := by
    have once := h.once
    simp only [he, List.map_map]
    simpa only [Function.comp_def, hf] using once
  live := by
    intro p hp
    simp only [he, List.mem_map] at hp
    obtain ⟨q, hq, rfl⟩ := hp
    simpa only [same.bt, hf] using h.live q hq
  waits := by
    intro r n w b g held
    obtain ⟨outside, live⟩ := h.waits r n w b g (by simpa only [same.ctx] using held)
    refine ⟨outside.imp_right fun none => ?_, by simpa only [same.bt] using live⟩
    rw [entryOf_eq_none] at none ⊢
    intro p hp
    simp only [he, List.mem_map] at hp
    obtain ⟨q, hq, rfl⟩ := hp
    simpa only [hf] using none q hq

theorem isSome_set {m : Table Bearer} {n b : Nat} {r : Bearer} (h : (m.get b).isSome) : ((m.set n r).get b).isSome := by
  rw [Table.get_set]
  split
  · rfl
  · exact h

theorem PeopleAct.occupancy {c d : Conf} (h : PeopleAct c d) (hc : OccupancyHolds c) : OccupancyHolds d := by
  cases h with
  | same h hA =>
    obtain ⟨wf, once, live, waits⟩ := hc.of_register (P := ∅) h.entries (by simp [h.bt]) (.of_same h.ctx)
    exact ⟨wf, once, live, fun r n w b g held => (waits r n w b g held).imp_left (.imp_left fun own => hA own)⟩
  | contexts h hn => exact hc.of_register h.entries (by simp [h.bt]) hn
  | waits h none live waits => exact hc.of_waits h none live waits
  | calendar h _ _ _ hb => exact hc.of_register h.entries (by simp [hb]) (.of_same h.ctx)
  | bearer h b f _ hb =>
    refine hc.of_register h.entries (fun c live => ?_) (.of_same h.ctx)
    rw [hb, get_modify_map, Option.isSome_map]
    exact live
  | enrolled h n r _ _ _ hb => exact hc.of_register h.entries (fun c live => hb ▸ isSome_set live) (.of_same h.ctx)
  | amended h b r q _ _ _ hb => exact hc.of_register h.entries (fun c live => hb ▸ isSome_set live) (.of_same h.ctx)
  | chained h b r cs _ _ _ hb => exact hc.of_register h.entries (fun c live => hb ▸ isSome_set live) (.of_same h.ctx)
  | retired b he hn outside hb => exact hc.of_retired (he ▸ .refl _) (fun p hp => outside p (he ▸ hp)) hn hb
  | entries h f hf he => exact hc.of_entries h f hf he
  | left e o entry he hn hb => exact hc.of_left entry he hn hb
  | admitted h e o slot fit he => exact hc.of_admitted h slot fit he
  | settled b h =>
    refine ⟨hc.wf, hc.once, hc.live, fun r n w c g held => (hc.waits r n w c g held).imp_left (.imp_left fun own => ⟨own, ?_⟩)⟩
    rintro rfl
    exact h r n w g held

/-- A start keeps the entries' bearers, or has no entries, and has no contexts (R74, R111, R175). -/
theorem startUp_occupancy (s : State) (cause : RestartCause) (line1 line2 : List Bool) (h : OccupancyLaw s) :
    OccupancyLaw (s.startUp cause line1 line2) := by
  obtain ⟨u, bt, ctx, -, -, entries, -⟩ := Starts.startUp_blocks s cause line1 line2
  have law : OccupancyLaw (Starts.startBase s cause) := by
    unfold Starts.startBase
    split
    · refine ⟨rfl, .nil, fun p hp => (List.not_mem_nil hp).elim, fun r n w b g held => ?_⟩
      simp [State.lost, State.cold] at held
    · obtain ⟨wf, once, live, -⟩ := h
      refine ⟨wf, once, live, fun r n w b g held => ?_⟩
      simp [State.kept] at held
  refine (occupancyHolds_iff (O := ∅)).mp (((occupancyHolds_iff (O := ∅)).mpr law).of_entries ⟨bt, ctx⟩
    (fun p => Starts.loneLoaded u p.2) (fun p => ?_) entries)
  unfold Starts.loneLoaded
  split <;> rfl

theorem Stage.occupancyLaw (h : Stage w m s t) (hs : OccupancyLaw s) : OccupancyLaw t := by
  refine occupancyHolds_iff.mp (Stage.keeps_people (I := OccupancyHolds) h (fun _ _ => PeopleAct.occupancy)
    (fun l p cause line1 line2 _ => occupancyHolds_iff.mpr (startUp_occupancy _ _ _ _ ?_)) (occupancyHolds_iff.mpr hs))
  exact hs

/-- Settles O55: a bearer is admitted only while it has no entry, and leaves its contexts as it is admitted. -/
theorem everyStepKeepsTheOccupancyLaw : Obligations.EveryStepKeepsTheOccupancyLaw := fun _ _ hs h =>
  step_keeps (P := OccupancyLaw) (fun _ _ h => h) Stage.occupancyLaw h hs

end Sys2Proof.Proofs.Acts
end

section
/-! PROOFS. The zones' side of a stage, and the law of achieved factors (R138). -/
namespace Sys2Proof.Proofs.Acts

open Sys2Proof Sys2Proof.Machine Sys2Proof.Safety Relation

variable {w : Allows} {s t : State} {m : Mode}

/-! ### The zones' side of a stage -/

theorem SameZones.of_frame (zones : t.zones = s.zones) (bank : t.bank = s.bank) (roll : t.roll = s.roll) (lines : t.lines = s.lines)
    (profiles : t.sup.profiles = s.sup.profiles) : SameZones s t :=
  ⟨⟨profiles, by rw [lines], by rw [roll]⟩, fun _ => by rw [zones], bank⟩

theorem SameZones.trans {u : State} (h : SameZones s t) (h' : SameZones t u) : SameZones s u :=
  ⟨⟨h'.profiles.trans h.profiles, h'.lines.trans h.lines, h'.rooms.trans h.rooms⟩, fun z => (h'.zones z).trans (h.zones z),
    h'.bank.trans h.bank⟩

theorem finish_profiles (o s : State) : (State.finish o s).sup.profiles = s.sup.profiles := by
  unfold State.finish State.updateCheck
  simp

theorem finish_zones (o : State) : SameZones s (State.finish o s) :=
  .of_frame (by simp) (by simp) (by simp) (by simp) (finish_profiles ..)

theorem applyNow_profiles (a : AfterSent) : (s.applyNow a).sup.profiles = s.sup.profiles := by
  unfold State.applyNow State.applyAfter
  split <;> simp

theorem answer_zones (f : RequestFrame) (code : Octet) (r : Reply) : SameZones s (s.answer f code r) := by
  unfold State.answer
  split
  · exact .of_frame (by simp) (by simp) (by simp) (by simp) (applyNow_profiles _)
  · exact .of_frame rfl rfl rfl rfl rfl

/-- What the zones' acts keep while the part runs, what does not depend on the lines once the part is stopped, and what every start keeps, a
stage keeps. -/
theorem Stage.keeps_zones {P : State → Prop} (h : Stage w m s t)
    (event : ∀ u v, u.running = true → ReflTransGen (ZoneAct m) ⟨u, ∅, ∅⟩ ⟨v, ∅, ∅⟩ → P u → P v)
    (same : ∀ u v, SameZones u v → P u → P v)
    (off : ∀ u v, v.running = false → v.zones = u.zones → v.bank = u.bank → v.sup.profiles = u.sup.profiles →
      v.roll.rooms = u.roll.rooms → P u → P v)
    (start : ∀ (l : Lines) (p : PortOne) cause line1 line2, P s → P (State.startUp { s with lines := l, p1 := p } cause line1 line2))
    (hs : P s) : P t := by
  cases h with
  | event h _ on => exact same _ _ (finish_zones s) (event _ _ on h.zones hs)
  | silent h =>
    rcases h.lines with lines | stopped
    · exact same _ _ ⟨⟨h.profiles, lines, by rw [h.roll]⟩, fun _ => by rw [h.zones], h.bank⟩ hs
    · refine off _ _ ?_ h.zones h.bank h.profiles (by rw [h.roll]) hs
      rcases stopped with stopped | stopped <;> simp [State.running, stopped]
  | @request u f rest _ code r takes h _ =>
    have on : (taken s rest).running = true := by
      have can := takes.can
      simp only [State.canTake, Bool.and_eq_true] at can
      exact can.1.1.1.1
    refine same _ _ ((finish_zones (taken s rest)).trans (answer_zones ..)) (event (taken s rest) _ on h.zones ?_)
    exact same s _ ⟨⟨rfl, rfl, rfl⟩, fun _ => rfl, rfl⟩ hs
  | asked _ => exact same s _ ⟨⟨rfl, rfl, rfl⟩, fun _ => rfl, rfl⟩ hs
  | @tested u f _ code r _ h _ on =>
    refine same _ _ ((finish_zones (testing s none)).trans (answer_zones ..)) (event (testing s none) _ on h.zones ?_)
    exact same s _ ⟨⟨rfl, rfl, rfl⟩, fun _ => rfl, rfl⟩ hs
  | transmitted _ _ => exact same _ _ (.of_frame (by simp) (by simp) (by simp) (by simp) (by simp)) hs
  | emptied _ held => exact off s _ (by simp [State.running, held]) rfl rfl rfl rfl hs
  | started _ l p cause line1 line2 => exact start l p cause line1 line2 hs

/-! ### O59 -/

/-- Each coverage record is as it was, or has the achieved factor of its sum. -/
structure Covers (s t : State) : Prop where
  profiles : t.sup.profiles = s.sup.profiles
  coverage : ∀ z : Room, t.bank.coverage[z] = s.bank.coverage[z] ∨ Achieves t.bank.coverage[z] s.sup.profiles[z]

theorem Covers.trans {u : State} (h : Covers s t) (h' : Covers t u) : Covers s u where
  profiles := h'.profiles.trans h.profiles
  coverage z := by
    rcases h'.coverage z with same | new
    · rw [same]
      exact h.coverage z
    · rw [h.profiles] at new
      exact .inr new

theorem Covers.of_same (profiles : t.sup.profiles = s.sup.profiles) (coverage : t.bank.coverage = s.bank.coverage) : Covers s t :=
  ⟨profiles, fun z => .inl (by rw [coverage])⟩

theorem Covers.after {u : State} (h : Covers t u) (profiles : t.sup.profiles = s.sup.profiles)
    (coverage : t.bank.coverage = s.bank.coverage) : Covers s u :=
  (Covers.of_same profiles coverage).trans h

theorem Covers.achieved (h : Covers s t) (hs : AchievedLaw s) : AchievedLaw t := by
  intro z
  rcases h.coverage z with same | new
  · rw [same, h.profiles]
    exact hs z
  · rw [h.profiles]
    exact new

variable (s) (z : Room)

theorem refreshCoverage_covers : Covers s (s.refreshCoverage z) := ⟨rfl, (refreshCoverage_lists s z).coverage⟩

theorem refreshAll_covers : Covers s s.refreshAll := ⟨rfl, (refreshAll_lists s).coverage⟩

theorem enterZone_covers (st : ZoneState) : Covers s (s.enterZone z st) := by
  unfold State.enterZone
  extract_lets _ set covered
  have covered_ : Covers s covered := (Covers.of_same (t := set.setCloseDemand z st.demand) (by simp [set]) (by simp [set])).trans
    (refreshCoverage_covers ..)
  split
  · exact covered_
  · exact covered_.trans (.of_same (by simp) (by simp))

theorem actOnHolds_covers : Covers s (s.actOnHolds z) := by
  unfold State.actOnHolds
  extract_lets zn
  split
  · exact (enterZone_covers ..).after (by simp) (by simp)
  · exact (enterZone_covers ..).after (by simp [State.leaveQueue]) (by simp [State.leaveQueue])
  · exact (enterZone_covers ..).after (by simp) (by simp)
  · exact .of_same rfl rfl

theorem rederive_covers : Covers s (s.rederive z) := (actOnHolds_covers ..).after (by simp) (by simp)

theorem topUp_covers : Covers s s.topUp := by
  refine Covers.trans ⟨?_, fun y => .inl ?_⟩ (refreshAll_covers _)
  · rw [foldl_sup _ (by simp)]
  · induction s.bank.reservations generalizing s with
    | nil => rfl
    | cons z zs ih =>
      rw [List.foldl_cons, ih]
      unfold State.topUpZone
      dsimp only
      split_ifs <;> rfl

theorem confirm_covers (k : SequenceKind) : Covers s (s.confirm z k) := by
  unfold State.confirm
  extract_lets _ set reserved _ loaded
  have reserved_ : Covers s reserved := by
    refine Covers.trans (t := (set.raiseAlarm (.forRoom .zoneRelease z))) (.of_same (by simp [set]) (by simp [set])) ?_
    exact (refreshAll_covers _).after rfl rfl
  exact reserved_.trans ((enterZone_covers loaded ..).after rfl rfl)

theorem grant_covers : Covers s (s.grant z) := by
  unfold State.grant
  exact (enterZone_covers ..).after (by simp) (by simp)

theorem askManifold_covers : Covers s (s.askManifold z) := by
  unfold State.askManifold
  split
  · exact grant_covers ..
  · exact (enterZone_covers ..).after rfl rfl

theorem endDischarge_covers (complete : Bool) : Covers s (s.endDischarge z complete) := by
  unfold State.endDischarge
  extract_lets _ stopped granted soak
  have granted_ : Covers s granted := by
    refine Covers.trans (t := stopped.account z complete) ?_ ?_
    · exact (refreshAll_covers _).after rfl rfl
    · show Covers _ (State.grantNext _)
      unfold State.grantNext
      split
      · exact .of_same rfl rfl
      · exact (grant_covers ..).after rfl rfl
  split
  · exact granted_.trans (enterZone_covers ..)
  · exact granted_.trans ((enterZone_covers ..).after rfl rfl)

theorem releaseReservation_covers : Covers s (s.releaseReservation z) := (topUp_covers _).after rfl rfl

theorem toNormal_covers : Covers s (toNormal s z) := by
  unfold toNormal
  exact (enterZone_covers ..).after (by simp) (by simp)

variable {s z}

/-- A law of zones, bank, profiles and rooms alone carries over. -/
theorem ZonesOf.covers {u : State} (h : ZonesOf u t) (hu : Covers s u) : Covers s t :=
  hu.trans (.of_same h.profiles (by rw [h.bank]))

theorem ZoneAct.achieved {c d : Conf} (h : ZoneAct m c d) (hc : AchievedLaw c.state) : AchievedLaw d.state := by
  cases h with
  | same h _ => exact (Covers.of_same h.profiles (by rw [h.bank])).achieved hc
  | cylinders ground _ lists _ => exact Covers.achieved ⟨ground.profiles, lists.coverage⟩ hc
  | toppedUp h => exact (h.covers (topUp_covers _)).achieved hc
  | ruled ground bank _ _ _ _ => exact (Covers.of_same ground.profiles (by rw [bank])).achieved hc
  | rederived z h => exact (h.covers (rederive_covers ..)).achieved hc
  | confirmed z k _ h => exact (h.covers (confirm_covers ..)).achieved hc
  | alerted z _ h => exact (h.covers (enterZone_covers ..)).achieved hc
  | counted _ z _ h => exact (h.covers ((askManifold_covers ..).after rfl rfl)).achieved hc
  | ended _ z complete _ h => exact (h.covers (endDischarge_covers ..)).achieved hc
  | soaked z _ h => exact (h.covers ((enterZone_covers ..).after rfl rfl)).achieved hc
  | reset z _ h => exact (h.covers (toNormal_covers ..)).achieved hc
  | resetHeld z _ h => exact (h.covers ((releaseReservation_covers ..).trans (toNormal_covers ..))).achieved hc
  | disabled z _ h => exact (h.covers (enterZone_covers ..)).achieved hc
  | enabled z _ h => exact (h.covers (enterZone_covers ..)).achieved hc
  | ticked ground _ bank => exact (Covers.of_same ground.profiles (by rw [bank])).achieved hc
  | @profile s t _ _ _ r p _ _ _ h =>
    have stored : AchievedLaw t ↔ AchievedLaw (State.refreshCoverage { s with sup := { s.sup with profiles := s.sup.profiles.set r p } } r) := by
      unfold AchievedLaw
      rw [h.profiles, h.bank]
    refine stored.mpr fun y => ?_
    by_cases same : r = y
    · subst same
      have := coverageOf_achieves { s with sup := { s.sup with profiles := s.sup.profiles.set r p } } r
      simpa [State.refreshCoverage, Achieves] using this
    · simpa [State.refreshCoverage, vset_other _ _ same] using hc y
  | room _ r x _ _ bank profiles _ _ => exact (Covers.of_same profiles (by rw [bank])).achieved hc
  | inhibited _ _ bank profiles _ => exact (Covers.of_same profiles (by rw [bank])).achieved hc

/-- Every coverage record of a start is computed afresh (R142, R176). -/
theorem startUp_achieved (s : State) (cause : RestartCause) (line1 line2 : List Bool) : AchievedLaw (s.startUp cause line1 line2) := by
  obtain ⟨_, -, -, -, -, -, -, -, -, bank⟩ := Starts.startUp_blocks s cause line1 line2
  intro z
  have := coverageOf_achieves (s.startUp cause line1 line2) z
  rw [bank]
  simpa [Achieves] using this

theorem Stage.achievedLaw (h : Stage w m s t) (hs : AchievedLaw s) : AchievedLaw t := by
  refine Stage.keeps_zones h (fun u v _ acts hu => ?_) (fun u v h hu => (Covers.of_same h.profiles (by rw [h.bank])).achieved hu)
    (fun u v _ _ bank profiles _ hu => (Covers.of_same profiles (by rw [bank])).achieved hu) (fun _ _ _ _ _ _ => startUp_achieved _ _ _ _) hs
  have all {c d : Conf} (acts : ReflTransGen (ZoneAct m) c d) (hc : AchievedLaw c.state) : AchievedLaw d.state := by
    induction acts with
    | refl => exact hc
    | tail _ act ih => exact act.achieved ih
  exact all acts hu

/-- Settles O59: wherever a coverage record is made, its factor is the capped quotient of its sum. -/
theorem everyStepKeepsTheAchievedFactor : Obligations.EveryStepKeepsTheAchievedFactor := by
  intro s t hs h
  have ht : AchievedLaw t := step_keeps (fun _ _ h => h) Stage.achievedLaw h hs
  exact ⟨ht, fun z => by rw [ht z]; exact Nat.min_le_left ..⟩

end Sys2Proof.Proofs.Acts
end

section
/-! PROOFS. What each operation on a zone makes of its record, of the manifold and of the wait queue, said once. -/
namespace Sys2Proof.Proofs.Acts

open Sys2Proof Sys2Proof.Machine Sys2Proof.Safety Relation

/-- From `s` to `t` the zone's record becomes `x`, but for fields that no law speaks of; the other zones and the ground stay. -/
structure Puts (s t : State) (z : Room) (x : Zone) : Prop extends SameGround s t where
  own : core t.zones[z] = core x
  others : ∀ y : Room, y ≠ z → core t.zones[y] = core s.zones[y]

/-- The bank but for its coverage records. -/
structure SameBank (s t : State) : Prop where
  cylinders : t.bank.cylinders = s.bank.cylinders
  reservations : t.bank.reservations = s.bank.reservations
  manifold : t.bank.manifold = s.bank.manifold
  waitQueue : t.bank.waitQueue = s.bank.waitQueue

variable {s t u : State} {z : Room} {x y : Zone}

theorem SameGround.trans (h : SameGround s t) (h' : SameGround t u) : SameGround s u :=
  ⟨h'.profiles.trans h.profiles, h'.lines.trans h.lines, h'.rooms.trans h.rooms⟩

theorem SameBank.trans (h : SameBank s t) (h' : SameBank t u) : SameBank s u :=
  ⟨h'.cylinders.trans h.cylinders, h'.reservations.trans h.reservations, h'.manifold.trans h.manifold, h'.waitQueue.trans h.waitQueue⟩

theorem SameBank.of_eq (h : t.bank = s.bank) : SameBank s t := by
  constructor <;> rw [h]

/-- An operation beside the zones' records, then a change of a zone. -/
theorem Puts.after (h : Puts t u z x) (ground : SameGround s t) (zones : t.zones = s.zones) : Puts s u z x where
  toSameGround := ground.trans h.toSameGround
  own := h.own
  others y hy := by rw [← zones]; exact h.others y hy

/-- Two records that agree but for fields no law speaks of. -/
theorem core_fields (h : core x = core y) :
    x.state = y.state ∧ x.holds = y.holds ∧ x.kind = y.kind ∧ x.remainder = y.remainder ∧ x.accumulated = y.accumulated ∧
      x.authorise = y.authorise ∧ x.inputs = y.inputs ∧ x.countdownDue = y.countdownDue := by
  simp only [core, Zone.mk.injEq] at h
  tauto

/-- Hold reasons are derived the same where inputs, release kind and Authorise flag are (R119). -/
theorem SameGround.deriveHolds (h : SameGround s t) (z : Room) (inputs : t.zones[z].inputs = s.zones[z].inputs)
    (kind : t.zones[z].kind = s.zones[z].kind) (authorise : t.zones[z].authorise = s.zones[z].authorise) :
    t.deriveHolds z = s.deriveHolds z :=
  Starts.deriveHolds_congr inputs kind authorise (by rw [h.rooms]) (congrArg (fun l => l.2.2) h.lines)

theorem Puts.congr (h : Puts s t z x) (same : core x = core y) : Puts s t z y := ⟨h.toSameGround, h.own.trans same, h.others⟩

/-- A change of a zone, then an operation beside the zones. -/
theorem Puts.before (h : Puts s t z x) (ground : SameGround t u) (zones : ∀ y : Room, core u.zones[y] = core t.zones[y]) :
    Puts s u z x where
  toSameGround := h.toSameGround.trans ground
  own := (zones z).trans h.own
  others y hy := (zones y).trans (h.others y hy)

/-- A zone changed twice. -/
theorem Puts.again (h : Puts t u z y) (first : Puts s t z x) : Puts s u z y where
  toSameGround := first.toSameGround.trans h.toSameGround
  own := h.own
  others y hy := (h.others y hy).trans (first.others y hy)

theorem Puts.to_zonesOf (h : Puts s t z x) (same : ZonesOf t u) : Puts s u z x where
  toSameGround := h.toSameGround.trans same.toSameGround
  own := by rw [same.zones]; exact h.own
  others y hy := by rw [same.zones]; exact h.others y hy

variable (s z)

theorem setZone_puts (x : Zone) : Puts s (s.setZone z x) z x where
  toSameGround := ⟨rfl, rfl, rfl⟩
  own := by rw [State.setZone_zones, vset_same]
  others y hy := by rw [State.setZone_zones, vset_other _ _ (Ne.symm hy)]

/-- An envelope report touches no field that a law speaks of. -/
theorem reportEnvelope_zones : SameZones s (s.reportEnvelope z) := by
  refine ⟨⟨rfl, rfl, rfl⟩, fun y => ?_, rfl⟩
  by_cases same : z = y
  · subst same
    rw [State.reportEnvelope, State.setZone_zones, vset_same]
    rfl
  · rw [State.reportEnvelope, State.setZone_zones, vset_other _ _ same]

theorem setCloseDemand_zones (demand : Bool) : SameZones s (s.setCloseDemand z demand) := by
  unfold State.setCloseDemand
  extract_lets d set
  split
  · exact .refl s
  · split
    · exact SameZones.trans (.of_frame (by simp [set]) (by simp [set]) (by simp [set]) (by simp [set]) (by simp [set]))
        (reportEnvelope_zones ..)
    · exact .of_frame rfl rfl rfl rfl rfl

theorem enterZone_bank (st : ZoneState) : SameBank s (s.enterZone z st) := by
  unfold State.enterZone
  constructor <;> dsimp only <;> split <;> simp [State.refreshCoverage]

theorem enterZone_puts (st : ZoneState) : Puts s (s.enterZone z st) z { s.zones[z] with state := st } := by
  unfold State.enterZone
  extract_lets _ set covered
  obtain ⟨⟨profiles, lines, rooms⟩, zones, -⟩ := setCloseDemand_zones set z st.demand
  have covered_ : Puts s covered z { s.zones[z] with state := st } := (setZone_puts ..).before ⟨profiles, lines, rooms⟩ zones
  split
  · exact covered_
  · exact covered_.before ⟨by simp, by simp, by simp⟩ (by simp)

variable {s z} in
/-- An operation beside the zones, then a change of a zone's state. -/
theorem enterZone_after (ground : SameGround s t) (zones : ∀ y : Room, core t.zones[y] = core s.zones[y]) (st : ZoneState) :
    Puts s (t.enterZone z st) z { s.zones[z] with state := st } := by
  have puts := enterZone_puts t z st
  refine ⟨ground.trans puts.toSameGround, puts.own.trans ?_, fun y hy => (puts.others y hy).trans (zones y)⟩
  exact congrArg (fun x : Zone => { x with state := st }) (zones z)

/-- The record set, then its state. -/
theorem enterZone_set_puts (x : Zone) (st : ZoneState) : Puts s ((s.setZone z x).enterZone z st) z { x with state := st } := by
  have := (enterZone_puts (s.setZone z x) z st).again (setZone_puts s z x)
  simpa [vset_same] using this

theorem enterZone_set_bank (x : Zone) (st : ZoneState) : SameBank s ((s.setZone z x).enterZone z st) := by
  obtain ⟨cylinders, reservations, manifold, waitQueue⟩ := enterZone_bank (s.setZone z x) z st
  exact ⟨cylinders, reservations, manifold, waitQueue⟩

/-! ### Hold reasons -/

/-- What derived hold reasons make of a zone's record (R119, R120, R122). -/
inductive HoldsAct (h : Holds) (zn : Zone) : Zone → Prop
  | paused (st : zn.state = .countdown) (any : h.any = true) :
      HoldsAct h zn { zn with holds := h, countdownDue := false, state := .held }
  | withdrawn (st : zn.state = .waitBank) (any : h.any = true) : HoldsAct h zn { zn with holds := h, remainder := 0, state := .held }
  | resumed (st : zn.state = .held) (none : h.any = false) :
      HoldsAct h zn { zn with holds := h, remainder := max zn.remainder Config.countdownRestart, state := .countdown }
  | kept (none : zn.state = .countdown ∨ zn.state = .waitBank → h.any = false) : HoldsAct h zn { zn with holds := h }

/-- What deriving a zone's hold reasons makes of the wait queue: the zone leaves it as it leaves WAIT_BANK. -/
def QueueAfterHolds (s t : State) (z : Room) (x : Zone) : Prop :=
  (x.state = s.zones[z].state ∧ t.bank.waitQueue = s.bank.waitQueue) ∨
    (s.zones[z].state ≠ .waitBank ∧ x.state ≠ .waitBank ∧ t.bank.waitQueue = s.bank.waitQueue) ∨
      (x.state ≠ .waitBank ∧ t.bank.waitQueue = s.bank.waitQueue.filter (· ≠ z))

/-- What derived hold reasons bring about: the zone's record, and of the bank the wait queue alone. -/
structure ActsOnHolds (s t : State) (z : Room) (h : Holds) (x : Zone) : Prop where
  act : HoldsAct h s.zones[z] x
  puts : Puts s t z x
  queue : QueueAfterHolds s t z x
  cylinders : t.bank.cylinders = s.bank.cylinders
  reservations : t.bank.reservations = s.bank.reservations
  manifold : t.bank.manifold = s.bank.manifold

theorem actOnHolds_acts : ∃ x, ActsOnHolds s (s.actOnHolds z) z s.zones[z].holds x := by
  unfold State.actOnHolds
  dsimp only
  split
  · next st any =>
    have bank := enterZone_bank (s.setZone z { s.zones[z] with countdownDue := false }) z .held
    exact ⟨_, .paused st any, enterZone_set_puts s z _ .held, .inr (.inl ⟨by rw [st]; decide, by simp, bank.waitQueue⟩),
      bank.cylinders, bank.reservations, bank.manifold⟩
  · next st any =>
    have bank := enterZone_bank ((s.leaveQueue z).setZone z { s.zones[z] with remainder := 0 }) z .held
    exact ⟨_, .withdrawn st any, (enterZone_set_puts (s.leaveQueue z) z _ .held).after ⟨rfl, rfl, rfl⟩ rfl, .inr (.inr ⟨by simp, bank.waitQueue⟩),
      bank.cylinders, bank.reservations, bank.manifold⟩
  · next st any =>
    have bank := enterZone_bank
      (s.setZone z { s.zones[z] with remainder := max s.zones[z].remainder Config.countdownRestart }) z .countdown
    exact ⟨_, .resumed st any, enterZone_set_puts s z _ .countdown, .inr (.inl ⟨by rw [st]; decide, by simp, bank.waitQueue⟩),
      bank.cylinders, bank.reservations, bank.manifold⟩
  · next no1 no2 no3 =>
    refine ⟨s.zones[z], .kept ?_, ⟨⟨rfl, rfl, rfl⟩, rfl, fun _ _ => rfl⟩, .inl ⟨rfl, rfl⟩, rfl, rfl, rfl⟩
    rintro (st | st)
    · exact Bool.eq_false_iff.mpr fun any => no1 st any
    · exact Bool.eq_false_iff.mpr fun any => no2 st any

theorem HoldsAct.of_set {h : Holds} {zn x : Zone} (act : HoldsAct h { zn with holds := h } x) : HoldsAct h zn x := by
  cases act with
  | paused st any => exact .paused st any
  | withdrawn st any => exact .withdrawn st any
  | resumed st none => exact .resumed st none
  | kept none => exact .kept none

theorem rederive_acts : ∃ x, ActsOnHolds s (s.rederive z) z (s.deriveHolds z) x := by
  obtain ⟨x, act, puts, queue, cylinders, reservations, manifold⟩ := actOnHolds_acts (s.setZone z { s.zones[z] with holds := s.deriveHolds z }) z
  rw [State.setZone_zones, vset_same] at act
  refine ⟨x, act.of_set, puts.again (setZone_puts ..), ?_, cylinders, reservations, manifold⟩
  unfold QueueAfterHolds at queue ⊢
  rw [State.setZone_zones, vset_same] at queue
  exact queue

/-! ### Confirmation -/

theorem reserve_zones : SameGround s (s.reserve z) ∧ (s.reserve z).zones = s.zones := ⟨⟨rfl, rfl, rfl⟩, rfl⟩

/-- What confirmation makes of a zone's record (R117). -/
def confirmed (zn : Zone) (k : SequenceKind) (delay : Nat) (h : Holds) : Zone :=
  { zn with
    kind := k, remainder := delay, accumulated := 0, countdownDue := false, holds := h
    state := if h.any then .held else .countdown }

theorem confirm_puts (k : SequenceKind) :
    Puts s (s.confirm z k) z (confirmed s.zones[z] k s.sup.profiles[z].delay ((s.confirm z k).deriveHolds z)) := by
  let kinded := s.setZone z { s.zones[z] with kind := k }
  let reserved := (kinded.raiseAlarm (.forRoom .zoneRelease z)).reserve z
  have reserved_ : Puts s reserved z { s.zones[z] with kind := k } :=
    (setZone_puts s z _).before ⟨by simp [reserved, kinded], by simp [reserved, kinded], by simp [reserved, kinded]⟩
      (by simp [reserved, kinded])
  have puts := (enterZone_set_puts reserved z
    { reserved.zones[z] with
      remainder := reserved.sup.profiles[z].delay, accumulated := 0, countdownDue := false, holds := reserved.deriveHolds z }
    (if (reserved.deriveHolds z).any then .held else .countdown)).again reserved_
  have confirm : s.confirm z k = (reserved.setZone z
      { reserved.zones[z] with
        remainder := reserved.sup.profiles[z].delay, accumulated := 0, countdownDue := false, holds := reserved.deriveHolds z }).enterZone z
      (if (reserved.deriveHolds z).any then .held else .countdown) := by
    unfold State.confirm
    simp only [State.setZone_zones, vset_same]
    rfl
  have ground := (enterZone_set_puts reserved z
    { reserved.zones[z] with
      remainder := reserved.sup.profiles[z].delay, accumulated := 0, countdownDue := false, holds := reserved.deriveHolds z }
    (if (reserved.deriveHolds z).any then .held else .countdown)).toSameGround
  rw [← confirm] at ground puts
  obtain ⟨-, -, kind, -, -, authorise, inputs, -⟩ := core_fields puts.own
  rw [ground.deriveHolds z inputs kind authorise]
  refine puts.congr ?_
  rw [reserved_.profiles]
  exact congrArg (fun x : Zone =>
    { x with
      remainder := s.sup.profiles[z].delay, accumulated := 0, countdownDue := false, holds := reserved.deriveHolds z
      state := if (reserved.deriveHolds z).any then .held else .countdown }) reserved_.own

theorem confirm_bank (k : SequenceKind) :
    (s.confirm z k).bank.manifold = s.bank.manifold ∧ (s.confirm z k).bank.waitQueue = s.bank.waitQueue ∧
      (s.confirm z k).bank.reservations = s.bank.reservations ++ [z] := by
  unfold State.confirm
  dsimp only
  rw [(enterZone_bank ..).manifold, (enterZone_bank ..).waitQueue, (enterZone_bank ..).reservations]
  refine ⟨?_, ?_, ?_⟩ <;> simp [State.reserve, State.refreshAll, State.reserveAll]

/-! ### The manifold -/

theorem grant_puts : Puts s (s.grant z) z { s.zones[z] with state := .discharging } := by
  refine enterZone_after ⟨by simp, by simp, by simp⟩ (fun y => ?_) .discharging
  by_cases same : z = y
  · subst same
    simp [core]
  · simp [vset_other _ _ same]

theorem grant_bank : (s.grant z).bank.manifold = some z ∧ (s.grant z).bank.waitQueue = s.bank.waitQueue ∧
    (s.grant z).bank.cylinders = s.bank.cylinders ∧ (s.grant z).bank.reservations = s.bank.reservations := by
  unfold State.grant
  dsimp only
  refine ⟨(enterZone_bank ..).manifold.trans (by simp), (enterZone_bank ..).waitQueue.trans (by simp),
    (enterZone_bank ..).cylinders.trans (by simp), (enterZone_bank ..).reservations.trans (by simp)⟩

/-- The zone's record at the end of its countdown (R120). -/
def counted (zn : Zone) : Zone := { zn with remainder := 0, accumulated := min Config.accumulatedTop (zn.accumulated + 1), countdownDue := false }

/-- The end of a countdown grants the manifold, or puts the zone at the tail of the wait queue (R122, R143). -/
theorem endCountdown_puts :
    (s.bank.manifold = none ∧ s.bank.waitQueue = [] ∧ Puts s (s.endCountdown z) z { counted s.zones[z] with state := .discharging } ∧
      (s.endCountdown z).bank.manifold = some z ∧ (s.endCountdown z).bank.waitQueue = []) ∨
    (Puts s (s.endCountdown z) z { counted s.zones[z] with state := .waitBank } ∧
      (s.endCountdown z).bank.manifold = s.bank.manifold ∧ (s.endCountdown z).bank.waitQueue = s.bank.waitQueue ++ [z]) := by
  let counting := s.setZone z (counted s.zones[z])
  have counting_ : Puts s counting z (counted s.zones[z]) := setZone_puts ..
  have own : counting.zones[z] = counted s.zones[z] := vset_same ..
  have asks : s.endCountdown z = counting.askManifold z := rfl
  rw [asks]
  by_cases free : s.bank.manifold = none ∧ s.bank.waitQueue = []
  · have granted : counting.askManifold z = counting.grant z := if_pos free
    have puts := (grant_puts counting z).again counting_
    obtain ⟨manifold, waitQueue, -⟩ := grant_bank counting z
    rw [own] at puts
    rw [granted]
    exact .inl ⟨free.1, free.2, puts, manifold, waitQueue.trans free.2⟩
  · let waiting : State := { counting with bank := { counting.bank with waitQueue := counting.bank.waitQueue ++ [z] } }
    have waits : counting.askManifold z = waiting.enterZone z .waitBank := if_neg free
    have puts := (enterZone_after (s := counting) (t := waiting) (z := z) ⟨rfl, rfl, rfl⟩ (fun _ => rfl) .waitBank).again counting_
    obtain ⟨-, -, manifold, waitQueue⟩ := enterZone_bank waiting z .waitBank
    rw [own] at puts
    rw [waits]
    exact .inr ⟨puts, manifold, waitQueue⟩

theorem endCountdown_bank : (s.endCountdown z).bank.cylinders = s.bank.cylinders ∧
    (s.endCountdown z).bank.reservations = s.bank.reservations := by
  unfold State.endCountdown State.askManifold
  dsimp only
  split
  · obtain ⟨-, -, cylinders, reservations⟩ := grant_bank (s.setZone z (counted s.zones[z])) z
    exact ⟨cylinders, reservations⟩
  · exact ⟨(enterZone_bank ..).cylinders, (enterZone_bank ..).reservations⟩

/-- What a grant of the freed manifold does: nothing without a zone that waits. -/
inductive GrantsNext (s t : State) : Prop
  | idle (empty : s.bank.waitQueue = []) (same : SameZones s t)
  | granted (y : Room) (rest : List Room) (head : s.bank.waitQueue = y :: rest) (puts : Puts s t y { s.zones[y] with state := .discharging })
      (manifold : t.bank.manifold = some y) (waitQueue : t.bank.waitQueue = rest) (cylinders : t.bank.cylinders = s.bank.cylinders)
      (reservations : t.bank.reservations = s.bank.reservations)

theorem grantNext_grants : GrantsNext s s.grantNext := by
  unfold State.grantNext
  split
  · next empty => exact .idle empty (.refl s)
  · next y rest head =>
    obtain ⟨manifold, waitQueue, cylinders, reservations⟩ := grant_bank { s with bank := { s.bank with waitQueue := rest } } y
    exact .granted y rest head ((grant_puts { s with bank := { s.bank with waitQueue := rest } } y).after ⟨rfl, rfl, rfl⟩ rfl) manifold waitQueue
      cylinders reservations

/-- A cylinder RESERVED to a zone, once its discharge is accounted for (R144). -/
def accounted (complete : Bool) (c : Cylinder) : Cylinder :=
  { c with state := if complete then .spent else .fault, zone := none, deferredLow := false }

/-- The end of a discharge: accounting, the manifold passed on, and SOAK or VENT (R124, R125, R144). -/
structure EndsDischarge (s a g t : State) (z : Room) (complete : Bool) (st : ZoneState) : Prop where
  ground : SameGround s a
  zones : ∀ y : Room, core a.zones[y] = core s.zones[y]
  manifold : a.bank.manifold = none
  waitQueue : a.bank.waitQueue = s.bank.waitQueue
  cylinders : ∀ p : Pos, a.bank.cylinders[p] =
    if s.bank.cylinders[p].reservedTo z then accounted complete s.bank.cylinders[p] else s.bank.cylinders[p]
  reservations : a.bank.reservations = s.bank.reservations.filter (· ≠ z)
  grants : GrantsNext a g
  puts : Puts g t z { g.zones[z] with state := st }
  bank : SameBank g t
  ends : st = .vent ∨ st = .soak

theorem endDischarge_ends (complete : Bool) : ∃ a g st, EndsDischarge s a g (s.endDischarge z complete) z complete st := by
  let stopped := s.setZone z { s.zones[z] with flowStart := none, discharge := none }
  let account := stopped.account z complete
  have zones (y : Room) : core account.zones[y] = core s.zones[y] := by
    by_cases same : z = y
    · subst same
      simp [account, stopped, core]
    · simp [account, stopped, vset_other _ _ same]
  have cylinders (p : Pos) : account.bank.cylinders[p] =
      if s.bank.cylinders[p].reservedTo z then accounted complete s.bank.cylinders[p] else s.bank.cylinders[p] := by
    refine (vgen_get ..).trans ?_
    rfl
  have grants := grantNext_grants account
  let u := account.grantNext
  let soak := u.sup.profiles[z].soak
  have ends : s.endDischarge z complete =
      if soak = 0 then u.enterZone z .vent else (u.setZone z { u.zones[z] with soak := some (60 * soak) }).enterZone z .soak := rfl
  rw [ends]
  split
  · exact ⟨account, u, .vent, ⟨rfl, rfl, rfl⟩, zones, rfl, rfl, cylinders, rfl, grants, enterZone_puts .., enterZone_bank .., .inl rfl⟩
  · exact ⟨account, u, .soak, ⟨rfl, rfl, rfl⟩, zones, rfl, rfl, cylinders, rfl, grants, (enterZone_set_puts u z _ .soak).congr rfl,
      enterZone_set_bank u z _ .soak, .inr rfl⟩

/-! ### Soak, and the way to NORMAL -/

theorem endSoak_puts : Puts s (s.endSoak z) z { s.zones[z] with state := .vent } := (enterZone_set_puts s z _ .vent).congr rfl

theorem endSoak_bank : SameBank s (s.endSoak z) := enterZone_set_bank s z _ .vent

theorem toNormal_puts : Puts s (toNormal s z) z
    { s.zones[z] with kind := .noKind, remainder := 0, accumulated := 0, authorise := false, state := .normal } := by
  let cleared := s.setZone z
    { s.zones[z] with
      kind := .noKind, remainder := 0, accumulated := 0, authorise := false, envelopeOpen := false, flowSeen := false
      unconfirmed := false }
  have puts := (enterZone_after (s := cleared) (z := z) (t := cleared.alarmsGone fun k =>
    k = .forRoom .zoneAlert z || k = .forRoom .zoneRelease z || k = .forRoom .releaseFailed z) ⟨rfl, rfl, rfl⟩ (fun _ => rfl)
      .normal).again (setZone_puts s z _)
  refine puts.congr ?_
  simp [cleared, core]

theorem toNormal_bank : SameBank s (toNormal s z) := by
  have bank (u : State) (h : u.bank = s.bank) : SameBank s (u.enterZone z .normal) := (SameBank.of_eq h).trans (enterZone_bank ..)
  exact bank _ rfl

theorem topUp_lists : (s.topUp).bank.reservations = s.bank.reservations ∧ s.topUp.bank.manifold = s.bank.manifold ∧
    s.topUp.bank.waitQueue = s.bank.waitQueue := by
  have folded (zs : List Room) (u : State) : (zs.foldl State.topUpZone u).bank.reservations = u.bank.reservations ∧
      (zs.foldl State.topUpZone u).bank.manifold = u.bank.manifold ∧ (zs.foldl State.topUpZone u).bank.waitQueue = u.bank.waitQueue := by
    induction zs generalizing u with
    | nil => exact ⟨rfl, rfl, rfl⟩
    | cons z zs ih =>
      rw [List.foldl_cons, (ih _).1, (ih _).2.1, (ih _).2.2]
      unfold State.topUpZone
      dsimp only
      split_ifs <;> exact ⟨rfl, rfl, rfl⟩
  exact folded ..

theorem topUp_ground : SameGround s s.topUp := ⟨by simp, by simp, by simp⟩

/-- A reservation released leaves the zones' records, the manifold and the wait queue (R141). -/
theorem releaseReservation_lists :
    SameGround s (s.releaseReservation z) ∧ (s.releaseReservation z).zones = s.zones ∧
      (s.releaseReservation z).bank.manifold = s.bank.manifold ∧ (s.releaseReservation z).bank.waitQueue = s.bank.waitQueue ∧
        (s.releaseReservation z).bank.reservations = s.bank.reservations.filter (· ≠ z) := by
  obtain ⟨reservations, manifold, waitQueue⟩ :=
    topUp_lists ((s.changeReserved z fun c => { c with state := .ready, zone := none }).leaveReservations z)
  exact ⟨⟨by simp, by simp, by simp⟩, by simp, manifold, waitQueue, reservations⟩

end Sys2Proof.Proofs.Acts
end

section
/-! PROOFS. The laws of the manifold (R123, R143) and of the wait queue (R143), kept by every act on the zones' side. -/
namespace Sys2Proof.Proofs.Acts

open Sys2Proof Sys2Proof.Machine Sys2Proof.Safety Relation

variable {w : Allows} {s t u : State} {m : Mode} {z : Room} {x : Zone}

theorem core_state {x y : Zone} (h : core x = core y) : x.state = y.state := (core_fields h).1

theorem Puts.state (h : Puts s t z x) : t.zones[z].state = x.state := core_state h.own

theorem Puts.other (h : Puts s t z x) {y : Room} (other : y ≠ z) : t.zones[y].state = s.zones[y].state := core_state (h.others y other)

/-- A zone after a start: in a state from which a sequence begins, or VENT (R131). -/
theorem startUp_zone (s : State) (cause : RestartCause) (line1 line2 : List Bool) (z : Room) :
    let t := s.startUp cause line1 line2
    (t.zones[z].state = .normal ∨ t.zones[z].state = .disabled ∨ t.zones[z].state = .vent) ∧ t.zones[z].countdownDue = false ∧
      t.zones[z].holds = t.deriveHolds z ∧ t.bank.waitQueue = [] ∧ t.bank.reservations = [] := by
  obtain ⟨u, -, -, -, -, -, -, -, zones, bank⟩ := Starts.startUp_blocks s cause line1 line2
  have own : (s.startUp cause line1 line2).zones[z] =
      { (Starts.startBase s cause).zones[z] with holds := (s.startUp cause line1 line2).deriveHolds z } := by
    rw [zones]
    simp
  dsimp only
  rw [own, bank]
  unfold Starts.startBase
  split
  · refine ⟨.inr (.inl ?_), ?_, rfl, rfl, rfl⟩ <;> simp [State.lost, State.cold, Zone.cold]
  · refine ⟨?_, by simp [State.kept, Zone.restarted, Zone.cold], rfl, rfl, rfl⟩
    cases st : s.zones[z.val].state <;> simp [State.kept, Zone.restarted, ZoneState.restarted, st]

/-! ### The acts by what they do to sequences -/

/-- A zone's record brought to NORMAL, ALERT, DISABLED or VENT from a state without a countdown. -/
structure Calms (old new : Zone) : Prop where
  before : old.state ≠ .countdown ∧ old.state ≠ .waitBank ∧ old.state ≠ .discharging
  after : new.state = .normal ∨ new.state = .alert ∨ new.state = .disabled ∨ new.state = .vent
  due : new.countdownDue = old.countdownDue
  holds : new.holds = old.holds
  inputs : new.inputs = old.inputs

/-- The manifold and its wait queue are the same. -/
structure SameManifold (s t : State) : Prop where
  manifold : t.bank.manifold = s.bank.manifold
  waitQueue : t.bank.waitQueue = s.bank.waitQueue

theorem SameManifold.trans (h : SameManifold s t) (h' : SameManifold t u) : SameManifold s u :=
  ⟨h'.manifold.trans h.manifold, h'.waitQueue.trans h.waitQueue⟩

theorem SameManifold.of_eq (h : t.bank = s.bank) : SameManifold s t := ⟨by rw [h], by rw [h]⟩

theorem SameBank.toManifold (h : SameBank s t) : SameManifold s t := ⟨h.manifold, h.waitQueue⟩

/-- An act on the zones' side by what it does to records, manifold and wait queue. -/
inductive ZoneMove (m : Mode) : Conf → Conf → Prop
  | still {s t O P A B} (ground : SameGround s t) (zones : ∀ y : Room, core t.zones[y] = core s.zones[y]) (bank : SameManifold s t)
      (hO : O ⊆ P) : ZoneMove m ⟨s, O, A⟩ ⟨t, P, B⟩
  | ruled {s t O A B} (z : Room) (x : Zone) (puts : Puts s t z x) (bank : SameManifold s t)
      (same : x.state = s.zones[z].state ∧ x.holds = s.zones[z].holds ∧ x.remainder = s.zones[z].remainder ∧
        x.accumulated = s.zones[z].accumulated ∧ x.countdownDue = s.zones[z].countdownDue)
      (kind : (x.kind = s.zones[z].kind ∧ x.authorise = s.zones[z].authorise) ∨ s.zones[z].state ≠ .discharging) :
      ZoneMove m ⟨s, O, A⟩ ⟨t, insert z O, B⟩
  | rederived {s t O A B} (z : Room) (x : Zone) (acts : ActsOnHolds s t z (s.deriveHolds z) x) : ZoneMove m ⟨s, O, A⟩ ⟨t, O \ {z}, B⟩
  | confirmed {s t O A B} (z : Room) (k : SequenceKind) (st : s.zones[z].state = .normal ∨ s.zones[z].state = .alert)
      (puts : Puts s t z (confirmed s.zones[z] k s.sup.profiles[z].delay (t.deriveHolds z))) (bank : SameManifold s t) :
      ZoneMove m ⟨s, O, A⟩ ⟨t, O, B⟩
  | calmed {s t O P A B} (z : Room) (x : Zone) (puts : Puts s t z x) (bank : SameManifold s t) (calms : Calms s.zones[z] x)
      (owed : (x.kind = s.zones[z].kind ∧ x.authorise = s.zones[z].authorise ∧ P = O) ∨ P = insert z O) : ZoneMove m ⟨s, O, A⟩ ⟨t, P, B⟩
  | granted {s t A B} (grants : m = .grants) (z : Room) (due : s.countdownIsDue z = true) (free : s.bank.manifold = none)
      (empty : s.bank.waitQueue = []) (puts : Puts s t z { counted s.zones[z] with state := .discharging })
      (manifold : t.bank.manifold = some z) (waitQueue : t.bank.waitQueue = []) : ZoneMove m ⟨s, ∅, A⟩ ⟨t, ∅, B⟩
  | queued {s t A B} (grants : m = .grants) (z : Room) (due : s.countdownIsDue z = true)
      (puts : Puts s t z { counted s.zones[z] with state := .waitBank }) (manifold : t.bank.manifold = s.bank.manifold)
      (waitQueue : t.bank.waitQueue = s.bank.waitQueue ++ [z]) : ZoneMove m ⟨s, ∅, A⟩ ⟨t, ∅, B⟩
  | ended {s a g t A B} (grants : m = .grants) (z : Room) (complete : Bool) (x : ZoneState) (st : s.zones[z].state = .discharging)
      (ends : EndsDischarge s a g t z complete x) : ZoneMove m ⟨s, ∅, A⟩ ⟨t, ∅, B⟩
  | ticked {s t O A B} (ground : SameGround s t) (zones : t.zones = vgen fun z => s.zones[z].tick) (bank : SameManifold s t) :
      ZoneMove m ⟨s, O, A⟩ ⟨t, O, B⟩
  | profile {s t O A B} (r : Room) (p : Profile) (st : s.zones[r].state = .normal ∨ s.zones[r].state = .disabled) (delay : p.delay ≤ 120)
      (zones : t.zones = s.zones) (bank : SameManifold s t) (profiles : t.sup.profiles = s.sup.profiles.set r p)
      (lines : (t.lines.mainOn, t.lines.resetHigh, t.lines.inhibit) = (s.lines.mainOn, s.lines.resetHigh, s.lines.inhibit))
      (rooms : t.roll.rooms = s.roll.rooms) : ZoneMove m ⟨s, O, A⟩ ⟨t, O, B⟩
  | room {s t O A B} (rolls : m = .rolls) (r : Room) (x : RoomRecord) (zones : t.zones = s.zones) (bank : SameManifold s t)
      (profiles : t.sup.profiles = s.sup.profiles) (lines : t.lines = s.lines) (rooms : t.roll.rooms = s.roll.rooms.set r x) :
      ZoneMove m ⟨s, O, A⟩ ⟨t, insert r O, B⟩
  | inhibited {s t O A B} (on : t.lines.mainOn = s.lines.mainOn ∧ t.lines.resetHigh = s.lines.resetHigh) (zones : t.zones = s.zones)
      (bank : SameManifold s t) (profiles : t.sup.profiles = s.sup.profiles) (rooms : t.roll.rooms = s.roll.rooms) :
      ZoneMove m ⟨s, O, A⟩ ⟨t, Set.univ, B⟩

theorem ZonesOf.manifold (h : ZonesOf u t) (bank : SameManifold s u) : SameManifold s t := bank.trans (.of_eq h.bank)

theorem ZonesOf.deriveHolds (h : ZonesOf u t) (z : Room) : t.deriveHolds z = u.deriveHolds z :=
  h.toSameGround.deriveHolds z (by rw [h.zones]) (by rw [h.zones]) (by rw [h.zones])

theorem ActsOnHolds.to_zonesOf {h : Holds} (acts : ActsOnHolds s u z h x) (same : ZonesOf u t) : ActsOnHolds s t z h x where
  act := acts.act
  puts := acts.puts.to_zonesOf same
  queue := by unfold QueueAfterHolds; rw [same.bank]; exact acts.queue
  cylinders := by rw [same.bank]; exact acts.cylinders
  reservations := by rw [same.bank]; exact acts.reservations
  manifold := by rw [same.bank]; exact acts.manifold

theorem EndsDischarge.to_zonesOf {a g : State} {complete : Bool} {st : ZoneState} (h : EndsDischarge s a g u z complete st)
    (same : ZonesOf u t) : EndsDischarge s a g t z complete st :=
  { h with puts := h.puts.to_zonesOf same, bank := h.bank.trans (.of_eq same.bank) }

theorem ZoneAct.move {c d : Conf} (h : ZoneAct m c d) : ZoneMove m c d := by
  cases h with
  | same h hO => exact .still h.toSameGround h.zones (.of_eq h.bank) hO
  | cylinders ground zones lists _ => exact .still ground zones ⟨lists.manifold, lists.waitQueue⟩ subset_rfl
  | @toppedUp s _ _ _ _ h =>
    obtain ⟨-, manifold, waitQueue⟩ := topUp_lists s
    exact .still ((topUp_ground s).trans h.toSameGround) (fun y => by rw [h.zones]; simp) (h.manifold ⟨manifold, waitQueue⟩) subset_rfl
  | @ruled s t _ _ _ ground bank z others sequence kind =>
    obtain ⟨state, holds, -, remainder, accumulated, -, -, due⟩ := core_fields (x := { t.zones[z] with kind := .noKind, authorise := false, inputs := .allNormal })
      (y := { s.zones[z] with kind := .noKind, authorise := false, inputs := .allNormal }) sequence
    exact .ruled z t.zones[z] ⟨ground, rfl, others⟩ (.of_eq bank) ⟨state, holds, remainder, accumulated, due⟩ kind
  | @rederived s _ _ _ _ z h =>
    obtain ⟨x, acts⟩ := rederive_acts s z
    exact .rederived z x (acts.to_zonesOf h)
  | @confirmed s t _ _ _ z k st h =>
    obtain ⟨manifold, waitQueue, -⟩ := confirm_bank s z k
    refine .confirmed z k st ?_ (h.manifold ⟨manifold, waitQueue⟩)
    rw [h.deriveHolds]
    exact (confirm_puts s z k).to_zonesOf h
  | @alerted s _ _ _ _ z st h =>
    exact .calmed z _ ((enterZone_puts s z .alert).to_zonesOf h) (h.manifold (enterZone_bank ..).toManifold)
      ⟨by rw [st]; decide, .inr (.inl rfl), rfl, rfl, rfl⟩ (.inl ⟨rfl, rfl, rfl⟩)
  | @counted s t _ _ grants z due h =>
    rcases endCountdown_puts s z with ⟨free, empty, puts, manifold, waitQueue⟩ | ⟨puts, manifold, waitQueue⟩
    · exact .granted grants z due free empty (puts.to_zonesOf h) (by rw [h.bank, manifold]) (by rw [h.bank, waitQueue])
    · exact .queued grants z due (puts.to_zonesOf h) (by rw [h.bank, manifold]) (by rw [h.bank, waitQueue])
  | @ended s t _ _ grants z complete st h =>
    obtain ⟨a, g, x, ends⟩ := endDischarge_ends s z complete
    exact .ended grants z complete x st (ends.to_zonesOf h)
  | @soaked s _ _ _ _ z st h =>
    exact .calmed z _ ((endSoak_puts s z).to_zonesOf h) (h.manifold (endSoak_bank ..).toManifold)
      ⟨by rw [st]; decide, .inr (.inr (.inr rfl)), rfl, rfl, rfl⟩ (.inl ⟨rfl, rfl, rfl⟩)
  | @reset s _ _ _ _ z st h =>
    exact .calmed z _ ((toNormal_puts s z).to_zonesOf h) (h.manifold (toNormal_bank ..).toManifold)
      ⟨by rcases st with st | st <;> rw [st] <;> decide, .inl rfl, rfl, rfl, rfl⟩ (.inr rfl)
  | @resetHeld s _ _ _ _ z st h =>
    obtain ⟨ground, zones, manifold, waitQueue, -⟩ := releaseReservation_lists s z
    have puts := (toNormal_puts (s.releaseReservation z) z).after ground zones
    rw [zones] at puts
    exact .calmed z _ (puts.to_zonesOf h) (h.manifold (SameManifold.trans ⟨manifold, waitQueue⟩ (toNormal_bank ..).toManifold))
      ⟨by rw [st]; decide, .inl rfl, rfl, rfl, rfl⟩ (.inr rfl)
  | @disabled s _ _ _ _ z st h =>
    exact .calmed z _ ((enterZone_puts s z .disabled).to_zonesOf h) (h.manifold (enterZone_bank ..).toManifold)
      ⟨by rcases st with st | st <;> rw [st] <;> decide, .inr (.inr (.inl rfl)), rfl, rfl, rfl⟩ (.inl ⟨rfl, rfl, rfl⟩)
  | @enabled s _ _ _ _ z st h =>
    exact .calmed z _ ((enterZone_puts s z .normal).to_zonesOf h) (h.manifold (enterZone_bank ..).toManifold)
      ⟨by rw [st]; decide, .inl rfl, rfl, rfl, rfl⟩ (.inl ⟨rfl, rfl, rfl⟩)
  | ticked ground zones bank => exact .ticked ground zones (.of_eq bank)
  | profile r p st delay _ h => exact .profile r p st delay h.zones (h.manifold ⟨rfl, rfl⟩) h.profiles h.lines h.rooms
  | room rolls r x _ zones bank profiles lines rooms => exact .room rolls r x zones (.of_eq bank) profiles lines rooms
  | inhibited on zones bank profiles rooms => exact .inhibited on zones (.of_eq bank) profiles rooms

/-! ### O50 -/

/-- A law of zones' states and the manifold alone. -/
theorem manifoldLaw_of_states (h : ManifoldLaw s) (zones : ∀ y : Room, t.zones[y].state = .discharging → s.zones[y].state = .discharging)
    (manifold : t.bank.manifold = s.bank.manifold) : ManifoldLaw t := fun y hy => by rw [manifold]; exact h y (zones y hy)

theorem manifoldLaw_of_puts (h : ManifoldLaw s) (puts : Puts s t z x) (manifold : t.bank.manifold = s.bank.manifold)
    (calm : x.state = .discharging → s.zones[z].state = .discharging) : ManifoldLaw t := by
  refine manifoldLaw_of_states h (fun y hy => ?_) manifold
  by_cases same : y = z
  · subst same
    exact calm (puts.state.symm.trans hy)
  · rwa [puts.other same] at hy

theorem HoldsAct.not_discharging {h : Holds} {zn : Zone} (act : HoldsAct h zn x) (hx : x.state = .discharging) : zn.state = .discharging := by
  cases act with
  | paused => cases hx
  | withdrawn => cases hx
  | resumed => cases hx
  | kept => exact hx

theorem confirmed_state (zn : Zone) (k : SequenceKind) (delay : Nat) (h : Holds) :
    (confirmed zn k delay h).state = .held ∨ (confirmed zn k delay h).state = .countdown := by
  unfold confirmed
  dsimp only
  split
  · exact .inl rfl
  · exact .inr rfl

/-- A grant of the manifold while no zone holds it (R122). -/
theorem manifoldLaw_granted (h : ManifoldLaw s) (free : s.bank.manifold = none) (puts : Puts s t z x) (manifold : t.bank.manifold = some z) :
    ManifoldLaw t := by
  intro y hy
  by_cases same : y = z
  · rw [manifold, same]
  · rw [puts.other same] at hy
    cases free.symm.trans (h y hy)

/-- The zone whose discharge ends is the only one that discharges, and the manifold passes to the next (R143). -/
theorem manifoldLaw_ended {a g : State} {complete : Bool} {st : ZoneState} (h : ManifoldLaw s) (was : s.zones[z].state = .discharging)
    (ends : EndsDischarge s a g t z complete st) : ManifoldLaw t := by
  intro y hy
  have other : y ≠ z := by
    rintro rfl
    rw [ends.puts.state] at hy
    rcases ends.ends with rfl | rfl <;> cases hy
  have alone (before : core g.zones[y] = core a.zones[y]) : False := by
    rw [ends.puts.other other, core_state before, core_state (ends.zones y)] at hy
    exact other (Option.some.inj ((h y hy).symm.trans (h z was)))
  cases ends.grants with
  | idle _ same => exact (alone (same.zones y)).elim
  | granted w rest head puts manifold =>
    by_cases next : y = w
    · rw [ends.bank.manifold, manifold, next]
    · exact (alone (puts.others y next)).elim

theorem tick_state (zn : Zone) : zn.tick.state = zn.state := by
  unfold Zone.tick
  dsimp only
  split_ifs <;> rfl

theorem ZoneMove.manifoldLaw {c d : Conf} (h : ZoneMove m c d) (hc : ManifoldLaw c.state) : ManifoldLaw d.state := by
  cases h with
  | still _ zones bank _ => exact manifoldLaw_of_states hc (fun y hy => (core_state (zones y)).symm.trans hy) bank.manifold
  | ruled z x puts bank same _ => exact manifoldLaw_of_puts hc puts bank.manifold same.1.symm.trans
  | rederived z x acts => exact manifoldLaw_of_puts hc acts.puts acts.manifold acts.act.not_discharging
  | @confirmed s t _ _ _ z k _ puts bank =>
    refine manifoldLaw_of_puts hc puts bank.manifold fun hx => ?_
    rcases confirmed_state s.zones[z] k s.sup.profiles[z].delay (t.deriveHolds z) with st | st <;> cases st.symm.trans hx
  | calmed z x puts bank calms _ =>
    refine manifoldLaw_of_puts hc puts bank.manifold fun hx => ?_
    rcases calms.after with st | st | st | st <;> cases st.symm.trans hx
  | granted _ z _ free _ puts manifold _ => exact manifoldLaw_granted hc free puts manifold
  | queued _ z _ puts manifold _ => exact manifoldLaw_of_puts hc puts manifold fun hx => by cases hx
  | ended _ z _ _ st ends => exact manifoldLaw_ended hc st ends
  | ticked _ zones bank =>
    refine manifoldLaw_of_states hc (fun y hy => ?_) bank.manifold
    rw [zones] at hy
    simpa [tick_state] using hy
  | profile _ _ _ _ zones bank _ _ _ => exact manifoldLaw_of_states hc (fun y hy => by rwa [zones] at hy) bank.manifold
  | room _ _ _ zones bank _ _ _ => exact manifoldLaw_of_states hc (fun y hy => by rwa [zones] at hy) bank.manifold
  | inhibited _ zones bank _ _ => exact manifoldLaw_of_states hc (fun y hy => by rwa [zones] at hy) bank.manifold

/-- What every move keeps, a path of acts keeps. -/
theorem zoneActs_keep {I : Conf → Prop} (move : ∀ c d, ZoneMove m c d → I c → I d) {c d : Conf} (h : ReflTransGen (ZoneAct m) c d) (hc : I c) :
    I d := by
  induction h with
  | refl => exact hc
  | tail _ act ih => exact move _ _ act.move ih

theorem Stage.manifoldLaw (h : Stage w m s t) (hs : ManifoldLaw s) : ManifoldLaw t := by
  refine Stage.keeps_zones h (fun u v _ acts hu => zoneActs_keep (I := fun c => ManifoldLaw c.state) (fun _ _ => ZoneMove.manifoldLaw) acts hu)
    (fun u v h hu => manifoldLaw_of_states hu (fun y hy => (core_state (h.zones y)).symm.trans hy) (by rw [h.bank]))
    (fun u v _ zones bank _ _ hu => manifoldLaw_of_states hu (fun y hy => by rwa [zones] at hy) (by rw [bank]))
    (fun l p cause line1 line2 _ y hy => ?_) hs
  obtain ⟨st, -⟩ := startUp_zone { s with lines := l, p1 := p } cause line1 line2 y
  rcases st with st | st | st <;> cases st.symm.trans hy

/-- Settles O50: only the zone that the manifold is granted to enters DISCHARGING, and it leaves that state as the manifold passes on. -/
theorem everyStepKeepsTheManifold : Obligations.EveryStepKeepsTheManifold := by
  intro s t hs h
  have ht : ManifoldLaw t := step_keeps (fun _ _ h => h) Stage.manifoldLaw h hs
  exact ⟨ht, fun y z hy hz => Option.some.inj ((ht y hy).symm.trans (ht z hz))⟩

end Sys2Proof.Proofs.Acts
end

section
/-! PROOFS. No zone discharges before its delay (R120). -/
namespace Sys2Proof.Proofs.Acts

open Sys2Proof Sys2Proof.Machine Sys2Proof.Safety Relation

variable {w : Allows} {s t u : State} {m : Mode} {z : Room} {x : Zone}

/-! ### The wait queue -/

/-- The queue is the same, and no zone leaves WAIT_BANK. -/
theorem waitLaw_of_states (h : WaitLaw s) (zones : ∀ y : Room, s.zones[y].state = .waitBank → t.zones[y].state = .waitBank)
    (queue : t.bank.waitQueue = s.bank.waitQueue) : WaitLaw t := by
  unfold WaitLaw
  rw [queue]
  exact ⟨h.1, fun z hz => zones z (h.2 z hz)⟩

/-- Queued zones stay in WAIT_BANK while a zone outside the queue, or leaving it, changes. -/
theorem waitLaw_of_puts {zs : List Room} (puts : Puts s t z x) (nodup : zs.Nodup) (waits : ∀ y ∈ zs, s.zones[y].state = .waitBank)
    (own : z ∉ zs ∨ x.state = .waitBank) (queue : t.bank.waitQueue = zs) : WaitLaw t := by
  unfold WaitLaw
  rw [queue]
  refine ⟨nodup, fun y hy => ?_⟩
  by_cases same : y = z
  · subst same
    exact puts.state.trans (own.resolve_left fun no => no hy)
  · rw [puts.other same]
    exact waits y hy

theorem not_queued (h : WaitLaw s) (st : s.zones[z].state ≠ .waitBank) : z ∉ s.bank.waitQueue := fun mem => st (h.2 z mem)

theorem waitLaw_acts {h : Holds} (hs : WaitLaw s) (acts : ActsOnHolds s t z h x) : WaitLaw t := by
  rcases acts.queue with ⟨st, queue⟩ | ⟨st, -, queue⟩ | ⟨-, queue⟩
  · refine waitLaw_of_states hs (fun y hy => ?_) queue
    by_cases same : y = z
    · subst same
      rw [acts.puts.state, st]
      exact hy
    · rwa [acts.puts.other same]
  · exact waitLaw_of_puts acts.puts hs.1 hs.2 (.inl (not_queued hs st)) queue
  · refine waitLaw_of_puts acts.puts (hs.1.filter _) (fun y hy => hs.2 y (List.mem_of_mem_filter hy)) (.inl ?_) queue
    simp

/-- The head of the queue leaves it as the manifold is granted to it; the zone that had discharged does not wait. -/
theorem waitLaw_ended {a g : State} {complete : Bool} {st : ZoneState} (h : WaitLaw s) (was : s.zones[z].state = .discharging)
    (ends : EndsDischarge s a g t z complete st) : WaitLaw t := by
  have a_ : WaitLaw a := waitLaw_of_states h (fun y hy => (core_state (ends.zones y)).trans hy) ends.waitQueue
  have queue {q : List Room} (hq : g.bank.waitQueue = q) : t.bank.waitQueue = q := ends.bank.waitQueue.trans hq
  cases ends.grants with
  | idle empty same =>
    refine waitLaw_of_puts (zs := []) ends.puts List.nodup_nil (by simp) (.inl (by simp)) (queue ?_)
    rw [same.bank, empty]
  | granted w rest head puts _ waitQueue =>
    rw [WaitLaw, head, List.nodup_cons] at a_
    have g_ : WaitLaw g := waitLaw_of_puts puts a_.1.2 (fun y hy => a_.2 y (List.mem_cons_of_mem _ hy)) (.inl a_.1.1) waitQueue
    refine waitLaw_of_puts ends.puts g_.1 g_.2 (.inl fun mem => ?_) (queue rfl)
    rw [waitQueue] at mem
    have waits := a_.2 z (List.mem_cons_of_mem _ mem)
    rw [core_state (ends.zones z), was] at waits
    cases waits

theorem ZoneMove.waitLaw {c d : Conf} (h : ZoneMove m c d) (hc : WaitLaw c.state) : WaitLaw d.state := by
  cases h with
  | still _ zones bank _ => exact waitLaw_of_states hc (fun y hy => (core_state (zones y)).trans hy) bank.waitQueue
  | @ruled s t _ _ _ z x puts bank same _ =>
    refine waitLaw_of_puts puts hc.1 hc.2 ?_ bank.waitQueue
    rw [same.1]
    by_cases st : s.zones[z].state = .waitBank
    · exact .inr st
    · exact .inl (not_queued hc st)
  | rederived z x acts => exact waitLaw_acts hc acts
  | confirmed z k st puts bank =>
    refine waitLaw_of_puts puts hc.1 hc.2 (.inl (not_queued hc ?_)) bank.waitQueue
    rcases st with st | st <;> rw [st] <;> decide
  | calmed z x puts bank calms _ => exact waitLaw_of_puts puts hc.1 hc.2 (.inl (not_queued hc calms.before.2.1)) bank.waitQueue
  | granted _ z _ _ empty puts _ queue => exact waitLaw_of_puts (zs := []) puts List.nodup_nil (by simp) (.inl (by simp)) queue
  | queued _ z due puts _ queue =>
    simp only [State.countdownIsDue, Bool.and_eq_true, decide_eq_true_eq] at due
    have out := not_queued hc (z := z) (by rw [due.1]; decide)
    unfold WaitLaw
    rw [queue]
    refine ⟨hc.1.append (List.nodup_singleton z) (by simpa using out), fun y hy => ?_⟩
    by_cases same : y = z
    · subst same
      exact puts.state
    · rw [puts.other same]
      exact hc.2 y (by simpa [same] using hy)
  | ended _ z _ _ st ends => exact waitLaw_ended hc st ends
  | ticked _ zones bank => exact waitLaw_of_states hc (fun y hy => by rw [zones]; simpa [tick_state] using hy) bank.waitQueue
  | profile _ _ _ _ zones bank _ _ _ => exact waitLaw_of_states hc (fun y hy => by rwa [zones]) bank.waitQueue
  | room _ _ _ zones bank _ _ _ => exact waitLaw_of_states hc (fun y hy => by rwa [zones]) bank.waitQueue
  | inhibited _ zones bank _ _ => exact waitLaw_of_states hc (fun y hy => by rwa [zones]) bank.waitQueue

/-! ### O56 -/

/-- A zone's part of the law of R120; `old` says that it discharged already. -/
structure DelayOk (old : Prop) (p : Profile) (zn : Zone) : Prop where
  delay : p.delay ≤ 120
  due : zn.countdownDue = true → zn.state = .countdown ∧ zn.remainder ≤ 1
  counts : zn.state = .held ∨ zn.state = .countdown → p.delay ≤ zn.remainder + zn.accumulated
  waits : zn.state = .waitBank → p.delay ≤ zn.accumulated
  enters : zn.state = .discharging → old ∨ p.delay ≤ zn.accumulated

variable {old : Prop} {p : Profile} {zn : Zone}

theorem DelayOk.congr (h : DelayOk old p zn) (state : x.state = zn.state) (remainder : x.remainder = zn.remainder)
    (accumulated : x.accumulated = zn.accumulated) (due : x.countdownDue = zn.countdownDue) : DelayOk old p x := by
  constructor
  · exact h.delay
  all_goals rw [state]
  · rw [due, remainder]; exact h.due
  · rw [remainder, accumulated]; exact h.counts
  · rw [accumulated]; exact h.waits
  · rw [accumulated]; exact h.enters

theorem DelayOk.of_core (h : DelayOk old p zn) (same : core x = core zn) : DelayOk old p x := by
  obtain ⟨state, -, -, remainder, accumulated, -, -, due⟩ := core_fields same
  exact h.congr state remainder accumulated due

/-- A zone outside the sequence owes nothing. -/
theorem DelayOk.of_calm (delay : p.delay ≤ 120) (due : zn.countdownDue = false)
    (st : zn.state = .normal ∨ zn.state = .disabled ∨ zn.state = .vent ∨ zn.state = .alert ∨ zn.state = .soak) : DelayOk old p zn := by
  constructor
  · exact delay
  · simp [due]
  all_goals rcases st with st | st | st | st | st <;> simp [st]

theorem DelayOk.not_due (h : DelayOk old p zn) (st : zn.state ≠ .countdown) : zn.countdownDue = false :=
  Bool.eq_false_iff.mpr fun due => st (h.due due).1

theorem DelayOk.of_holds {h : Holds} (hz : DelayOk old p zn) (act : HoldsAct h zn x) : DelayOk old p x := by
  cases act with
  | paused st => exact ⟨hz.delay, nofun, fun _ => hz.counts (.inr st), nofun, nofun⟩
  | withdrawn st =>
    have due := hz.not_due (by rw [st]; decide)
    exact ⟨hz.delay, by simp [due], fun _ => by simpa using hz.waits st, nofun, nofun⟩
  | resumed st =>
    have due := hz.not_due (by rw [st]; decide)
    refine ⟨hz.delay, by simp [due], fun _ => ?_, nofun, nofun⟩
    have := hz.counts (.inl st)
    dsimp only
    omega
  | kept => exact hz.congr rfl rfl rfl rfl

theorem DelayOk.counted (h : DelayOk old p zn) (st : zn.state = .countdown) (due : zn.countdownDue = true) :
    p.delay ≤ (counted zn).accumulated := by
  have last := (h.due due).2
  have counts := h.counts (.inr st)
  have top := h.delay
  simp only [Acts.counted, Config.accumulatedTop]
  omega

theorem DelayOk.tick (h : DelayOk old p zn) : DelayOk old p zn.tick := by
  unfold Zone.tick
  dsimp only
  split
  · next st =>
    split
    · next last => exact ⟨h.delay, fun _ => ⟨st, last⟩, h.counts, h.waits, h.enters⟩
    · next more =>
      have counts := h.counts (.inr st)
      have top := h.delay
      have due : zn.countdownDue = false := Bool.eq_false_iff.mpr fun due => more (h.due due).2
      refine ⟨h.delay, by simp [due], fun _ => ?_, by simp [st], by simp [st]⟩
      simp only [Config.accumulatedTop]
      omega
  · exact h.congr rfl rfl rfl rfl

/-- The law of R120 from a state `o` on, in which a zone may discharge already. -/
def DelayFrom (o s : State) : Prop :=
  WaitLaw s ∧ ∀ z : Room, DelayOk (o.zones[z].state = .discharging) s.sup.profiles[z] s.zones[z]

theorem delayFrom_self : DelayFrom s s ↔ DelayLaw s :=
  ⟨fun ⟨wait, ok⟩ => ⟨wait, fun z => ⟨(ok z).delay, (ok z).due, (ok z).counts, (ok z).waits⟩⟩,
    fun ⟨wait, ok⟩ => ⟨wait, fun z => by
      obtain ⟨delay, due, counts, waits⟩ := ok z
      exact ⟨delay, due, counts, waits, .inl⟩⟩⟩

section Delay

variable {o : State}

theorem delay_of_puts (h : ∀ y : Room, DelayOk (o.zones[y].state = .discharging) s.sup.profiles[y] s.zones[y]) (puts : Puts s t z x)
    (own : DelayOk (o.zones[z].state = .discharging) s.sup.profiles[z] x) (y : Room) :
    DelayOk (o.zones[y].state = .discharging) t.sup.profiles[y] t.zones[y] := by
  rw [puts.profiles]
  by_cases same : y = z
  · subst same
    exact own.of_core puts.own
  · exact (h y).of_core (puts.others y same)

theorem delay_of_zones (h : ∀ y : Room, DelayOk (o.zones[y].state = .discharging) s.sup.profiles[y] s.zones[y])
    (profiles : t.sup.profiles = s.sup.profiles) (zones : ∀ y : Room, core t.zones[y] = core s.zones[y]) (y : Room) :
    DelayOk (o.zones[y].state = .discharging) t.sup.profiles[y] t.zones[y] := by
  rw [profiles]
  exact (h y).of_core (zones y)

/-- The zone that has discharged goes on to SOAK or VENT; the one granted next has waited its delay. -/
theorem delay_ended {a g : State} {complete : Bool} {st : ZoneState} (h : DelayFrom o s) (was : s.zones[z].state = .discharging)
    (ends : EndsDischarge s a g t z complete st) (y : Room) :
    DelayOk (o.zones[y].state = .discharging) t.sup.profiles[y] t.zones[y] := by
  have a_ := delay_of_zones h.2 ends.ground.profiles ends.zones
  have g_ : ∀ y : Room, DelayOk (o.zones[y].state = .discharging) g.sup.profiles[y] g.zones[y] := by
    cases ends.grants with
    | idle _ same => exact delay_of_zones a_ same.profiles same.zones
    | granted w rest head puts =>
      have waits : a.zones[w].state = .waitBank := by
        rw [core_state (ends.zones w)]
        exact h.1.2 w (by rw [← ends.waitQueue, head]; exact List.mem_cons_self)
      refine delay_of_puts a_ puts ⟨(a_ w).delay, fun due => ?_, nofun, nofun, fun _ => .inr ((a_ w).waits waits)⟩
      cases ((a_ w).not_due (by rw [waits]; decide)).symm.trans due
  have gz : g.zones[z].state ≠ .countdown := by
    cases ends.grants with
    | idle _ same => rw [core_state (same.zones z), core_state (ends.zones z), was]; decide
    | granted w _ _ puts =>
      by_cases same : z = w
      · subst same
        rw [puts.state]
        nofun
      · rw [puts.other same, core_state (ends.zones z), was]
        decide
  refine delay_of_puts g_ ends.puts (.of_calm (g_ z).delay ((g_ z).not_due gz) ?_) y
  rcases ends.ends with st | st <;> simp [st]

theorem ZoneMove.delayFrom {c d : Conf} (h : ZoneMove m c d) (hc : DelayFrom o c.state) : DelayFrom o d.state := by
  refine ⟨h.waitLaw hc.1, ?_⟩
  obtain ⟨wait, ok⟩ := hc
  cases h with
  | still ground zones _ _ => exact delay_of_zones ok ground.profiles zones
  | ruled z x puts _ same _ =>
    obtain ⟨state, -, remainder, accumulated, due⟩ := same
    exact delay_of_puts ok puts ((ok z).congr state remainder accumulated due)
  | rederived z x acts => exact delay_of_puts ok acts.puts ((ok z).of_holds acts.act)
  | @confirmed s t _ _ _ z k _ puts _ =>
    have sequence := confirmed_state s.zones[z] k s.sup.profiles[z].delay (t.deriveHolds z)
    refine delay_of_puts ok puts ⟨(ok z).delay, nofun, fun _ => Nat.le_add_right .., fun st => ?_, fun st => ?_⟩
    all_goals rcases sequence with held | counting <;> simp_all
  | calmed z x puts _ calms _ =>
    refine delay_of_puts ok puts (.of_calm (ok z).delay (calms.due.trans ((ok z).not_due calms.before.1)) ?_)
    rcases calms.after with st | st | st | st <;> simp [st]
  | granted _ z due _ _ puts _ _ =>
    simp only [State.countdownIsDue, Bool.and_eq_true, decide_eq_true_eq] at due
    exact delay_of_puts ok puts ⟨(ok z).delay, nofun, nofun, nofun, fun _ => .inr ((ok z).counted due.1 due.2)⟩
  | queued _ z due puts _ _ =>
    simp only [State.countdownIsDue, Bool.and_eq_true, decide_eq_true_eq] at due
    exact delay_of_puts ok puts ⟨(ok z).delay, nofun, nofun, fun _ => (ok z).counted due.1 due.2, nofun⟩
  | ended _ z _ _ st ends => exact delay_ended ⟨wait, ok⟩ st ends
  | ticked ground zones _ =>
    intro y
    rw [ground.profiles, zones]
    simpa using (ok y).tick
  | profile r p st delay zones _ profiles _ _ =>
    intro y
    rw [zones, profiles]
    by_cases same : r = y
    · subst same
      rw [vset_same]
      have due := (ok r).not_due (by rcases st with st | st <;> rw [st] <;> decide)
      exact .of_calm delay due (st.imp_right .inl)
    · rw [vset_other _ _ same]
      exact ok y
  | room _ _ _ zones _ profiles _ _ => exact delay_of_zones ok profiles fun y => by rw [zones]
  | inhibited _ zones _ profiles _ => exact delay_of_zones ok profiles fun y => by rw [zones]

end Delay

/-- The profiles after a start are those before it, or the ones of a cold start. -/
theorem startUp_profiles (s : State) (cause : RestartCause) (line1 line2 : List Bool) :
    (s.startUp cause line1 line2).sup.profiles = s.sup.profiles ∨
      (s.startUp cause line1 line2).sup.profiles = Vector.replicate 16 .default := by
  obtain ⟨_, -, -, -, -, -, -, profiles, -⟩ := Starts.startUp_blocks s cause line1 line2
  rw [profiles]
  unfold Starts.startBase
  split
  · exact .inr rfl
  · exact .inl rfl

theorem startUp_delay (cause : RestartCause) (line1 line2 : List Bool) (o : State) (h : ∀ z : Room, s.sup.profiles[z].delay ≤ 120) :
    DelayFrom o (s.startUp cause line1 line2) := by
  have delay (z : Room) : (s.startUp cause line1 line2).sup.profiles[z].delay ≤ 120 := by
    rcases startUp_profiles s cause line1 line2 with same | cold
    · rw [same]
      exact h z
    · rw [cold]
      simp [Profile.default]
  obtain ⟨-, -, -, empty, -⟩ := startUp_zone s cause line1 line2 0
  refine ⟨by simp [WaitLaw, empty], fun z => ?_⟩
  obtain ⟨st, due, -⟩ := startUp_zone s cause line1 line2 z
  exact .of_calm (delay z) due (st.imp_right (.imp_right .inl))

theorem Stage.delayFrom {o : State} (h : Stage w m s t) (hs : DelayFrom o s) : DelayFrom o t := by
  have quiet {u v : State} (zones : ∀ y : Room, core v.zones[y] = core u.zones[y]) (bank : v.bank = u.bank)
      (profiles : v.sup.profiles = u.sup.profiles) (hu : DelayFrom o u) : DelayFrom o v :=
    ⟨waitLaw_of_states hu.1 (fun y hy => (core_state (zones y)).trans hy) (by rw [bank]), delay_of_zones hu.2 profiles zones⟩
  refine Stage.keeps_zones h (fun u v _ acts hu => zoneActs_keep (I := fun c => DelayFrom o c.state) (fun _ _ => ZoneMove.delayFrom) acts hu)
    (fun u v h hu => quiet h.zones h.bank h.profiles hu)
    (fun u v _ zones bank profiles _ hu => quiet (fun y => by rw [zones]) bank profiles hu)
    (fun l p cause line1 line2 hs => startUp_delay cause line1 line2 o fun z => (hs.2 z).delay) hs

/-- Settles O56: remainder and accumulated ticks make up the delay until the last tick is counted, whatever pauses the countdown. -/
theorem noZoneDischargesBeforeItsDelay : Obligations.NoZoneDischargesBeforeItsDelay := by
  intro s t hs h
  obtain ⟨wait, ok⟩ : DelayFrom s t := step_keeps (P := DelayFrom s) (fun _ _ h => h) Stage.delayFrom h (delayFrom_self.mpr hs)
  refine ⟨⟨wait, fun z => ⟨(ok z).delay, (ok z).due, (ok z).counts, (ok z).waits⟩⟩, fun z before after => ?_⟩
  exact ((ok z).enters after).resolve_left before

end Sys2Proof.Proofs.Acts
end

section
/-! PROOFS. No Automatic zone discharges while its strongroom is Occupied, unless authorised (R121). -/
namespace Sys2Proof.Proofs.Acts

open Sys2Proof Sys2Proof.Machine Sys2Proof.Safety Relation

variable {w : Allows} {s t u : State} {m : Mode} {z : Room} {x : Zone}

/-- The zone may have entered DISCHARGING: its release is not Automatic, or is authorised, or nobody is in its strongroom. -/
def Allowed (s : State) (z : Room) : Prop :=
  s.zones[z].kind = .automatic → s.zones[z].authorise = false → s.occupied z = false

/-- A zone that discharges now did so in `o`, or was allowed to, by a command that changes no strongroom. -/
def EntersBy (m : Mode) (o s : State) (z : Room) : Prop :=
  s.zones[z].state = .discharging → o.zones[z].state = .discharging ∨ (m = .grants ∧ Allowed s z)

/-- A zone's part of the law of R121, its hold reasons owed or not. -/
structure HoldOk (m : Mode) (o s : State) (O : Set Room) (z : Room) : Prop where
  derived : z ∉ O → s.zones[z].holds = s.deriveHolds z
  free : s.zones[z].state = .countdown ∨ s.zones[z].state = .waitBank → s.zones[z].holds.any = false
  enters : EntersBy m o s z

/-- The law of R121 within an event, from a state `o` on. -/
structure HoldsFrom (m : Mode) (o : State) (c : Conf) : Prop where
  running : c.state.running = true
  wait : WaitLaw c.state
  ok : ∀ z, HoldOk m o c.state c.owed z

variable {o : State} {O P : Set Room} {A B : Set Nat}

theorem occupied_congr (h : SameGround s t) (z : Room) : t.occupied z = s.occupied z := by
  unfold State.occupied State.headCount
  rw [h.rooms]

theorem running_of_lines_fields (h : (t.lines.mainOn, t.lines.resetHigh, t.lines.inhibit) = (s.lines.mainOn, s.lines.resetHigh, s.lines.inhibit)) :
    t.running = s.running := by
  have main := congrArg (fun l => l.1) h
  have reset := congrArg (fun l => l.2.1) h
  dsimp only at main reset
  unfold State.running
  rw [main, reset]

theorem running_of_ground (h : SameGround s t) : t.running = s.running := running_of_lines_fields h.lines

/-- A tick touches no field that hold reasons are derived from. -/
theorem tick_fields (zn : Zone) : zn.tick.state = zn.state ∧ zn.tick.holds = zn.holds ∧ zn.tick.kind = zn.kind ∧
    zn.tick.authorise = zn.authorise ∧ zn.tick.inputs = zn.inputs := by
  unfold Zone.tick
  dsimp only
  split_ifs <;> exact ⟨rfl, rfl, rfl, rfl, rfl⟩

/-- Nothing stands in the way of a zone whose derived hold reasons are none. -/
theorem allowed_of_derived (derived : s.zones[z].holds = s.deriveHolds z) (free : s.zones[z].holds.any = false) : Allowed s z := by
  intro kind authorise
  rw [derived] at free
  simp only [Holds.any, State.deriveHolds, Bool.or_eq_false_iff] at free
  simpa [kind, authorise, -Fin.getElem_fin] using free.1.1.2

/-- The fields that the law speaks of are the same. -/
theorem HoldOk.of_fields (h : HoldOk m o s O z) (state : t.zones[z].state = s.zones[z].state) (holds : t.zones[z].holds = s.zones[z].holds)
    (kind : t.zones[z].kind = s.zones[z].kind) (authorise : t.zones[z].authorise = s.zones[z].authorise)
    (derive : z ∉ P → z ∉ O ∧ t.deriveHolds z = s.deriveHolds z) (occupied : m = .grants → t.occupied z = s.occupied z) :
    HoldOk m o t P z := by
  constructor
  · intro out
    obtain ⟨out, same⟩ := derive out
    rw [holds, same, h.derived out]
  · rw [state, holds]
    exact h.free
  · intro discharging
    refine (h.enters (state.symm.trans discharging)).imp_right fun ⟨grants, allowed⟩ => ⟨grants, ?_⟩
    unfold Allowed
    rw [kind, authorise, occupied grants]
    exact allowed

/-- The zone's record, but for fields that no law speaks of, and the ground are the same. -/
theorem HoldOk.of_core (h : HoldOk m o s O z) (ground : SameGround s t) (same : core t.zones[z] = core s.zones[z]) (hO : z ∈ O → z ∈ P) :
    HoldOk m o t P z := by
  obtain ⟨state, holds, kind, -, -, authorise, inputs, -⟩ := core_fields same
  exact h.of_fields state holds kind authorise (fun out => ⟨fun mem => out (hO mem), ground.deriveHolds z inputs kind authorise⟩)
    fun _ => occupied_congr ground z

theorem holdOk_of_puts (h : ∀ y, HoldOk m o s O y) (puts : Puts s t z x) (own : HoldOk m o t P z) (hO : ∀ y, y ≠ z → y ∈ O → y ∈ P) (y : Room) :
    HoldOk m o t P y := by
  by_cases same : y = z
  · subst same
    exact own
  · exact (h y).of_core puts.toSameGround (puts.others y same) (hO y same)

/-- Hold reasons just derived, and acted on. -/
theorem holdOk_acts (h : HoldOk m o s O z) (acts : ActsOnHolds s t z (s.deriveHolds z) x) : HoldOk m o t (O \ {z}) z := by
  obtain ⟨state, holds, kind, -, -, authorise, inputs, -⟩ := core_fields acts.puts.own
  have ground := acts.puts.toSameGround
  have old : x.kind = s.zones[z].kind ∧ x.authorise = s.zones[z].authorise ∧ x.inputs = s.zones[z].inputs ∧ x.holds = s.deriveHolds z := by
    cases acts.act <;> exact ⟨rfl, rfl, rfl, rfl⟩
  obtain ⟨kind', authorise', inputs', holds'⟩ := old
  have derive := ground.deriveHolds z (inputs.trans inputs') (kind.trans kind') (authorise.trans authorise')
  constructor
  · intro _
    rw [holds, holds', derive]
  · rw [state, holds, holds']
    cases acts.act with
    | paused => nofun
    | withdrawn => nofun
    | resumed _ none => exact fun _ => none
    | kept none => exact none
  · intro discharging
    have before := acts.act.not_discharging (state.symm.trans discharging)
    refine (h.enters before).imp_right fun ⟨grants, allowed⟩ => ⟨grants, ?_⟩
    unfold Allowed
    rw [kind.trans kind', authorise.trans authorise', occupied_congr ground]
    exact allowed

/-- A zone in a state without a countdown has no more to keep than its derived hold reasons. -/
theorem HoldOk.of_calm (derived : z ∉ O → s.zones[z].holds = s.deriveHolds z)
    (st : s.zones[z].state ≠ .countdown ∧ s.zones[z].state ≠ .waitBank ∧ s.zones[z].state ≠ .discharging) : HoldOk m o s O z :=
  ⟨derived, fun seq => (seq.elim st.1 st.2.1).elim, fun discharging => (st.2.2 discharging).elim⟩

/-- A zone whose state and timers alone changed derives the same hold reasons. -/
theorem holdOk_moved (h : HoldOk m o s ∅ z) (puts : Puts s t z x) (same : x.holds = s.zones[z].holds ∧ x.kind = s.zones[z].kind ∧
    x.authorise = s.zones[z].authorise ∧ x.inputs = s.zones[z].inputs) (free : x.state ≠ .countdown)
    (waits : x.state = .waitBank → s.zones[z].holds.any = false)
    (enters : x.state = .discharging → m = .grants ∧ s.zones[z].holds.any = false) : HoldOk m o t ∅ z := by
  obtain ⟨state, holds, kind, -, -, authorise, inputs, -⟩ := core_fields puts.own
  obtain ⟨holds', kind', authorise', inputs'⟩ := same
  have derive := puts.toSameGround.deriveHolds z (inputs.trans inputs') (kind.trans kind') (authorise.trans authorise')
  constructor
  · intro out
    rw [holds, holds', derive]
    exact h.derived out
  · rw [state, holds, holds']
    exact fun seq => waits (seq.resolve_left free)
  · intro discharging
    obtain ⟨grants, none⟩ := enters (state.symm.trans discharging)
    refine .inr ⟨grants, ?_⟩
    unfold Allowed
    rw [kind.trans kind', authorise.trans authorise', occupied_congr puts.toSameGround]
    exact allowed_of_derived (h.derived (by simp)) none

theorem holdsFrom_ended {a g : State} {complete : Bool} {st : ZoneState} (grants : m = .grants) (h : HoldsFrom m o ⟨s, ∅, A⟩)
    (was : s.zones[z].state = .discharging) (ends : EndsDischarge s a g t z complete st) : HoldsFrom m o ⟨t, ∅, B⟩ := by
  have a_ (y : Room) : HoldOk m o a ∅ y := (h.ok y).of_core ends.ground (ends.zones y) id
  have g_ : SameGround a g ∧ ∀ y : Room, HoldOk m o g ∅ y := by
    cases ends.grants with
    | idle _ same => exact ⟨same.toSameGround, fun y => (a_ y).of_core same.toSameGround (same.zones y) id⟩
    | granted w rest head puts =>
      have waits : a.zones[w].state = .waitBank := by
        rw [core_state (ends.zones w)]
        exact h.wait.2 w (by rw [← ends.waitQueue, head]; exact List.mem_cons_self)
      refine ⟨puts.toSameGround, holdOk_of_puts a_ puts (holdOk_moved (a_ w) puts ⟨rfl, rfl, rfl, rfl⟩ nofun nofun fun _ => ?_) fun _ _ => id⟩
      exact ⟨grants, (a_ w).free (.inr waits)⟩
  refine ⟨?_, waitLaw_ended h.wait was ends, holdOk_of_puts g_.2 ends.puts ?_ fun _ _ => id⟩
  · rw [running_of_ground ((ends.ground.trans g_.1).trans ends.puts.toSameGround)]
    exact h.running
  · refine holdOk_moved (g_.2 z) ends.puts ⟨rfl, rfl, rfl, rfl⟩ ?_ ?_ ?_ <;> rcases ends.ends with rfl | rfl <;> nofun

theorem ZoneMove.holdsFrom {c d : Conf} (h : ZoneMove m c d) (hc : HoldsFrom m o c) : HoldsFrom m o d := by
  have wait := h.waitLaw hc.wait
  obtain ⟨running, queue, ok⟩ := hc
  cases h with
  | still ground zones _ hO =>
    exact ⟨(running_of_ground ground).trans running, wait, fun z => (ok z).of_core ground (zones z) fun mem => hO mem⟩
  | @ruled s t O A B z x puts _ same kind =>
    refine ⟨(running_of_ground puts.toSameGround).trans running, wait, holdOk_of_puts ok puts ⟨by simp, ?_, ?_⟩ fun y _ => Set.mem_insert_of_mem z⟩
    · rw [puts.state, same.1, (core_fields puts.own).2.1, same.2.1]
      exact (ok z).free
    · intro discharging
      have before : s.zones[z].state = .discharging := same.1.symm.trans (puts.state.symm.trans discharging)
      obtain ⟨kind', authorise'⟩ := kind.resolve_right fun no => no before
      obtain ⟨-, -, kind, -, -, authorise, -⟩ := core_fields puts.own
      refine ((ok z).enters before).imp_right fun ⟨grants, allowed⟩ => ⟨grants, ?_⟩
      unfold Allowed
      rw [kind.trans kind', authorise.trans authorise', occupied_congr puts.toSameGround]
      exact allowed
  | rederived z x acts =>
    exact ⟨(running_of_ground acts.puts.toSameGround).trans running, wait,
      holdOk_of_puts ok acts.puts (holdOk_acts (ok z) acts) fun y other mem => ⟨mem, other⟩⟩
  | @confirmed s t O A B z k _ puts _ =>
    refine ⟨(running_of_ground puts.toSameGround).trans running, wait, holdOk_of_puts ok puts ?_ fun _ _ => id⟩
    obtain ⟨state, holds, -⟩ := core_fields puts.own
    refine ⟨fun _ => holds, ?_, ?_⟩
    · rw [state, holds]
      unfold Acts.confirmed
      dsimp only
      split
      · nofun
      · next none => exact fun _ => Bool.eq_false_iff.mpr none
    · intro discharging
      rcases confirmed_state s.zones[z] k s.sup.profiles[z].delay (t.deriveHolds z) with held | counting
      · cases held.symm.trans (state.symm.trans discharging)
      · cases counting.symm.trans (state.symm.trans discharging)
  | @calmed s t O P A B z x puts _ calms owed =>
    refine ⟨(running_of_ground puts.toSameGround).trans running, wait, holdOk_of_puts ok puts (.of_calm (fun out => ?_) ?_) fun y _ mem => ?_⟩
    · rcases owed with ⟨kind', authorise', rfl⟩ | rfl
      · obtain ⟨-, holds, kind, -, -, authorise, inputs, -⟩ := core_fields puts.own
        rw [holds, calms.holds, puts.toSameGround.deriveHolds z (inputs.trans calms.inputs) (kind.trans kind') (authorise.trans authorise')]
        exact (ok z).derived out
      · exact (out (Set.mem_insert ..)).elim
    · rw [puts.state]
      rcases calms.after with st | st | st | st <;> rw [st] <;> decide
    · rcases owed with ⟨-, -, rfl⟩ | rfl
      · exact mem
      · exact Set.mem_insert_of_mem _ mem
  | granted grants z due _ _ puts _ _ =>
    simp only [State.countdownIsDue, Bool.and_eq_true, decide_eq_true_eq] at due
    refine ⟨(running_of_ground puts.toSameGround).trans running, wait, holdOk_of_puts ok puts ?_ fun _ _ => id⟩
    exact holdOk_moved (ok z) puts ⟨rfl, rfl, rfl, rfl⟩ nofun nofun fun _ => ⟨grants, (ok z).free (.inl due.1)⟩
  | queued grants z due puts _ _ =>
    simp only [State.countdownIsDue, Bool.and_eq_true, decide_eq_true_eq] at due
    refine ⟨(running_of_ground puts.toSameGround).trans running, wait, holdOk_of_puts ok puts ?_ fun _ _ => id⟩
    exact holdOk_moved (ok z) puts ⟨rfl, rfl, rfl, rfl⟩ nofun (fun _ => (ok z).free (.inl due.1)) nofun
  | ended grants z _ _ st ends => exact holdsFrom_ended grants ⟨running, queue, ok⟩ st ends
  | @ticked s t O A B ground zones _ =>
    refine ⟨(running_of_ground ground).trans running, wait, fun z => ?_⟩
    have own : t.zones[z] = s.zones[z].tick := by rw [zones]; exact vgen_get ..
    obtain ⟨state, holds, kind, authorise, inputs⟩ := tick_fields s.zones[z]
    rw [← own] at state holds kind authorise inputs
    exact (ok z).of_fields state holds kind authorise (fun out => ⟨out, ground.deriveHolds z inputs kind authorise⟩)
      fun _ => occupied_congr ground z
  | profile r p st delay zones _ profiles lines rooms =>
    refine ⟨(running_of_lines_fields lines).trans running, wait, fun z => ?_⟩
    refine (ok z).of_fields (by rw [zones]) (by rw [zones]) (by rw [zones]) (by rw [zones]) (fun out => ⟨out, ?_⟩) fun _ => ?_
    · exact Starts.deriveHolds_congr (by rw [zones]) (by rw [zones]) (by rw [zones]) (by rw [rooms]) (congrArg (fun l => l.2.2) lines)
    · unfold State.occupied State.headCount
      rw [rooms]
  | room rolls r x zones _ profiles lines rooms =>
    refine ⟨?_, wait, fun z => ?_⟩
    · unfold State.running at running ⊢
      rwa [lines]
    · refine (ok z).of_fields (by rw [zones]) (by rw [zones]) (by rw [zones]) (by rw [zones]) (fun out => ?_) fun grants => ?_
      · obtain ⟨other, out⟩ := not_or.mp out
        refine ⟨out, Starts.deriveHolds_congr (by rw [zones]) (by rw [zones]) (by rw [zones]) ?_ (by rw [lines])⟩
        rw [rooms, vset_other _ _ (Ne.symm other)]
      · cases rolls.symm.trans grants
  | inhibited on zones _ profiles rooms =>
    refine ⟨?_, wait, fun z => ?_⟩
    · unfold State.running at running ⊢
      rwa [on.1, on.2]
    · refine (ok z).of_fields (by rw [zones]) (by rw [zones]) (by rw [zones]) (by rw [zones]) (fun out => (out (Set.mem_univ z)).elim) fun _ => ?_
      unfold State.occupied State.headCount
      rw [rooms]

/-! ### Stages -/

/-- The law of R121 between commands, from a state `o` on. -/
structure HoldsSince (m : Mode) (o s : State) : Prop where
  law : HoldLaw s
  enters : ∀ z, EntersBy m o s z

theorem HoldsSince.conf (h : HoldsSince m o s) (running : s.running = true) : HoldsFrom m o ⟨s, ∅, A⟩ := by
  have on := running
  simp only [State.running, Bool.and_eq_true] at on
  obtain ⟨wait, ok⟩ := h.law
  exact ⟨running, wait, fun z => ⟨fun _ => (ok on.1 on.2 z).1, (ok on.1 on.2 z).2, h.enters z⟩⟩

theorem HoldsFrom.since (h : HoldsFrom m o ⟨s, ∅, A⟩) : HoldsSince m o s :=
  ⟨⟨h.wait, fun _ _ z => ⟨(h.ok z).derived (Set.notMem_empty z), (h.ok z).free⟩⟩, fun z => (h.ok z).enters⟩

theorem entersBy_of_zones (zones : ∀ y : Room, core t.zones[y] = core s.zones[y]) (rooms : t.roll.rooms = s.roll.rooms)
    (h : EntersBy m o s z) : EntersBy m o t z := by
  obtain ⟨state, -, kind, -, -, authorise, -⟩ := core_fields (zones z)
  unfold EntersBy Allowed State.occupied State.headCount
  rw [state, kind, authorise, rooms]
  exact h

theorem Stage.holdsSince (h : Stage w m s t) (hs : HoldsSince m o s) : HoldsSince m o t := by
  refine Stage.keeps_zones h (fun u v on acts hu => (zoneActs_keep (I := HoldsFrom m o) (fun _ _ => ZoneMove.holdsFrom) acts (hu.conf on)).since)
    (fun u v h hu => ?_) (fun u v off zones bank _ rooms hu => ?_) (fun l p cause line1 line2 _ => ?_) hs
  · refine ⟨⟨waitLaw_of_states hu.law.1 (fun y hy => (core_state (h.zones y)).trans hy) (by rw [h.bank]), fun main reset z => ?_⟩,
      fun z => entersBy_of_zones h.zones h.rooms (hu.enters z)⟩
    have running : v.running = true := by simp [State.running, main, reset]
    rw [running_of_ground h.toSameGround] at running
    obtain ⟨derived, free, -⟩ := ((hu.conf (A := ∅) running).ok z).of_core (P := ∅) h.toSameGround (h.zones z) id
    exact ⟨derived (Set.notMem_empty z), free⟩
  · refine ⟨⟨waitLaw_of_states hu.law.1 (fun y hy => by rwa [zones]) (by rw [bank]), fun main reset => ?_⟩,
      fun z => entersBy_of_zones (fun y => by rw [zones]) rooms (hu.enters z)⟩
    simp [State.running, main, reset] at off
  · have zone := startUp_zone { s with lines := l, p1 := p } cause line1 line2
    refine ⟨⟨by simp [WaitLaw, (zone 0).2.2.2.1], fun _ _ z => ?_⟩, fun z discharging => ?_⟩
    · obtain ⟨st, -, derived, -⟩ := zone z
      refine ⟨derived, fun seq => ?_⟩
      rcases st with st | st | st <;> rcases seq with seq | seq <;> cases st.symm.trans seq
    · obtain ⟨st, -⟩ := zone z
      rcases st with st | st | st <;> cases st.symm.trans discharging

/-- Settles O57: the manifold is granted only to a zone without hold reasons, and no command that grants it changes who is in a strongroom. -/
theorem noAutomaticDischargeWhileOccupied : Obligations.NoAutomaticDischargeWhileOccupied := by
  intro s t hs h
  obtain ⟨m, ht⟩ := step_keeps_in (P := fun m => HoldsSince m s) (fun _ _ _ h => ⟨h.law, h.enters⟩) Stage.holdsSince h
    fun _ => ⟨hs, fun _ => .inl⟩
  refine ⟨ht.law, fun z before after kind authorise => ?_⟩
  exact ((ht.enters z after).resolve_left before).2 kind authorise

end Sys2Proof.Proofs.Acts
end

section
/-! PROOFS. The walk over cylinders (R137), and the law of reservations (R133, R139 to R141, R144). -/
namespace Sys2Proof.Proofs.Acts

open Sys2Proof Sys2Proof.Machine Sys2Proof.Safety Relation

variable {w : Allows} {s t u : State} {m : Mode} {z : Room} {x : Zone}

/-! ### The walk -/

/-- The walk takes some of the READY positions in order, and no more than the limit. -/
theorem bankWalk_taken (cyls : Vector Cylinder 48) (required limit : Nat) (ps : List Pos) (w : BankWalk) :
    ∃ qs, (bankWalk cyls required limit ps w).taken = w.taken ++ qs ∧ qs.Sublist ps ∧ (∀ p ∈ qs, cyls[p].state = .ready) ∧
      (bankWalk cyls required limit ps w).count = w.count + qs.length ∧ (w.count ≤ limit → w.count + qs.length ≤ limit) := by
  induction ps generalizing w with
  | nil => exact ⟨[], by simp [bankWalk], .refl _, by simp, by simp [bankWalk], by simp⟩
  | cons p ps ih =>
    unfold bankWalk
    split
    · exact ⟨[], by simp, List.nil_sublist _, by simp, by simp, by simp⟩
    · next goes =>
      simp only [Bool.or_eq_true, decide_eq_true_eq, not_or] at goes
      split
      · next ready =>
        obtain ⟨qs, taken, sub, all, count, fits⟩ := ih ⟨w.sum + cyls[p].charge.getD 0, w.count + 1, w.taken ++ [p]⟩
        dsimp only at count fits
        refine ⟨p :: qs, taken.trans (List.append_cons ..).symm, sub.cons_cons p, List.forall_mem_cons.mpr ⟨ready, all⟩, ?_, fun _ => ?_⟩
        · rw [count, List.length_cons]
          omega
        · rw [List.length_cons]
          have := fits (by omega)
          omega
      · obtain ⟨qs, taken, sub, rest⟩ := ih w
        exact ⟨qs, taken, sub.cons p, rest⟩

theorem fins_nodup (n : Nat) : (fins n).Nodup := by
  induction n with
  | zero => exact List.nodup_nil
  | succ n ih => exact List.nodup_cons.mpr ⟨by simp, ih.map (Fin.succ_injective n)⟩

/-! ### The bank's part of the law -/

/-- Every RESERVED cylinder names a zone of the list, and no zone has more than its limit. -/
structure BankOk (b : AgentBank) (ps : Vector Profile 16) : Prop where
  names : ∀ p : Pos, b.cylinders[p].state = .reserved → ∃ z ∈ b.reservations, b.cylinders[p].zone = some z
  within : ∀ z : Room, (b.reservedPositions z).length ≤ ps[z].limit

variable {b c : AgentBank} {ps : Vector Profile 16}

theorem reservedTo_iff {c : Cylinder} : c.reservedTo z = true ↔ c.state = .reserved ∧ c.zone = some z := by
  simp [Cylinder.reservedTo]

/-- No cylinder is newly reserved, and the list keeps the zones of those that stay. -/
theorem BankOk.of_fewer (h : BankOk b ps)
    (fewer : ∀ p : Pos, c.cylinders[p].state = .reserved → b.cylinders[p].state = .reserved ∧ c.cylinders[p].zone = b.cylinders[p].zone)
    (kept : ∀ (p : Pos) z, c.cylinders[p].state = .reserved → b.cylinders[p].zone = some z → z ∈ b.reservations → z ∈ c.reservations) :
    BankOk c ps where
  names p hp := by
    obtain ⟨before, same⟩ := fewer p hp
    obtain ⟨z, listed, zone⟩ := h.names p before
    exact ⟨z, kept p z hp zone listed, same.trans zone⟩
  within z := by
    refine le_trans ?_ (h.within z)
    refine List.Sublist.length_le (List.monotone_filter_right _ fun p hp => ?_)
    obtain ⟨st, zone⟩ := reservedTo_iff.mp hp
    obtain ⟨before, same⟩ := fewer p st
    exact reservedTo_iff.mpr ⟨before, same.symm.trans zone⟩

theorem BankOk.congr (h : BankOk b ps) (cylinders : c.cylinders = b.cylinders) (reservations : c.reservations = b.reservations) :
    BankOk c ps :=
  h.of_fewer (by simp [cylinders]) (by simp [reservations])

/-- A zone off the list has no cylinder. -/
theorem BankOk.none (h : BankOk b ps) (off : z ∉ b.reservations) : b.reservedPositions z = [] := by
  refine List.filter_eq_nil_iff.mpr fun p _ reserved => ?_
  obtain ⟨st, zone⟩ := reservedTo_iff.mp reserved
  obtain ⟨y, listed, named⟩ := h.names p st
  obtain rfl : y = z := Option.some.inj (named.symm.trans zone)
  exact off listed

/-- READY positions reserved to a zone of the list, within its limit. -/
theorem BankOk.reserve {qs : List Pos} (h : BankOk b ps)
    (fits : (b.reservedPositions z).length + qs.length ≤ ps[z].limit)
    (cylinders : ∀ p : Pos, c.cylinders[p] = if qs.contains p then { b.cylinders[p] with state := .reserved, zone := some z } else b.cylinders[p])
    (listed : ∀ y ∈ b.reservations, y ∈ c.reservations) (own : z ∈ c.reservations) : BankOk c ps where
  names p hp := by
    rw [cylinders] at hp ⊢
    split
    · exact ⟨z, own, rfl⟩
    · next old =>
      rw [if_neg old] at hp
      obtain ⟨y, on, zone⟩ := h.names p hp
      exact ⟨y, listed y on, zone⟩
  within y := by
    have read (p : Pos) : c.cylinders[p].reservedTo y = true → (y = z ∧ p ∈ qs) ∨ b.cylinders[p].reservedTo y = true := by
      rw [cylinders]
      split
      · next new =>
        intro reserved
        obtain ⟨-, zone⟩ := reservedTo_iff.mp reserved
        exact .inl ⟨(Option.some.inj zone).symm, by simpa using new⟩
      · exact .inr
    by_cases same : y = z
    · subst same
      refine le_trans ?_ fits
      have subset : c.reservedPositions y ⊆ b.reservedPositions y ++ qs := by
        intro p hp
        obtain ⟨all, reserved⟩ := List.mem_filter.mp hp
        rw [List.mem_append]
        rcases read p reserved with ⟨-, new⟩ | old
        · exact .inr new
        · exact .inl (List.mem_filter.mpr ⟨all, old⟩)
      have length := (List.subperm_of_subset ((fins_nodup 48).filter _) subset).length_le
      rwa [List.length_append] at length
    · refine le_trans (List.Sublist.length_le (List.monotone_filter_right _ fun p hp => ?_)) (h.within y)
      exact (read p hp).resolve_left fun own => same own.1

/-! ### Top-ups, confirmation and accounting -/

theorem reserveAll_cylinders (s : State) (z : Room) (qs : List Pos) (p : Pos) : (s.reserveAll z qs).bank.cylinders[p] =
    if qs.contains p then { s.bank.cylinders[p] with state := .reserved, zone := some z } else s.bank.cylinders[p] := vgen_get ..

/-- A top-up goes on from the cylinders that a zone has, up to its limit (R140). -/
theorem bankOk_topUpZone (h : BankOk s.bank s.sup.profiles) (listed : z ∈ s.bank.reservations) :
    BankOk (s.topUpZone z).bank s.sup.profiles := by
  unfold State.topUpZone
  dsimp only
  split
  · exact h
  split
  · exact h
  · obtain ⟨qs, taken, -, -, -, fits⟩ := bankWalk_taken s.bank.cylinders s.sup.profiles[z].required s.sup.profiles[z].limit (fins 48)
      ⟨s.bank.chargeSum (s.bank.reservedPositions z), (s.bank.reservedPositions z).length, []⟩
    rw [taken, List.nil_append]
    exact h.reserve (fits (h.within z)) (reserveAll_cylinders s z qs) (fun y hy => hy) listed

theorem bankOk_topUp (h : BankOk s.bank s.sup.profiles) : BankOk s.topUp.bank s.sup.profiles := by
  have folded (zs : List Room) (u : State) (hu : BankOk u.bank u.sup.profiles) (listed : ∀ z ∈ zs, z ∈ u.bank.reservations) :
      BankOk (zs.foldl State.topUpZone u).bank u.sup.profiles := by
    induction zs generalizing u with
    | nil => exact hu
    | cons z zs ih =>
      have lists : (u.topUpZone z).bank.reservations = u.bank.reservations := by
        unfold State.topUpZone
        dsimp only
        split_ifs <;> rfl
      have profiles : (u.topUpZone z).sup = u.sup := by simp
      have := ih (u.topUpZone z) (by rw [profiles]; exact bankOk_topUpZone hu (listed z List.mem_cons_self))
        (fun y hy => by rw [lists]; exact listed y (List.mem_cons_of_mem _ hy))
      rwa [profiles] at this
  exact (folded s.bank.reservations s h fun _ hz => hz).congr rfl rfl

/-- Confirmation reserves for a zone that had no cylinder (R139). -/
theorem bankOk_confirm (h : BankOk s.bank s.sup.profiles) (off : z ∉ s.bank.reservations) (k : SequenceKind) :
    BankOk (s.confirm z k).bank s.sup.profiles := by
  let kinded := (s.setZone z { s.zones[z] with kind := k }).raiseAlarm (.forRoom .zoneRelease z)
  have bank : kinded.bank = s.bank := by simp [kinded]
  have sup : kinded.sup = s.sup := by simp [kinded]
  have reserved : BankOk (kinded.reserve z).bank s.sup.profiles := by
    obtain ⟨qs, taken, -, -, -, fits⟩ := bankWalk_taken kinded.bank.cylinders kinded.sup.profiles[z].required kinded.sup.profiles[z].limit
      (fins 48) ⟨0, 0, []⟩
    unfold State.reserve
    dsimp only
    rw [taken, List.nil_append]
    refine h.reserve (z := z) (qs := qs) ?_ (fun p => ?_) (fun y hy => ?_) ?_
    · rw [h.none off]
      simpa [sup] using fits (Nat.zero_le _)
    · rw [← bank]
      exact reserveAll_cylinders { kinded with bank := { kinded.bank with reservations := kinded.bank.reservations ++ [z] } } z qs p
    · show y ∈ kinded.bank.reservations ++ [z]
      rw [bank]
      exact List.mem_append_left _ hy
    · show z ∈ kinded.bank.reservations ++ [z]
      simp
  unfold State.confirm
  exact reserved.congr (enterZone_bank ..).cylinders (enterZone_bank ..).reservations

theorem changeReserved_cylinders (s : State) (z : Room) (f : Cylinder → Cylinder) (p : Pos) :
    (s.changeReserved z f).bank.cylinders[p] = if s.bank.cylinders[p].reservedTo z then f s.bank.cylinders[p] else s.bank.cylinders[p] :=
  vgen_get ..

/-- A zone's cylinders leave their reservation, and it leaves the list (R141, R144). -/
theorem BankOk.leave {f : Cylinder → Cylinder} (h : BankOk b ps) (out : ∀ c, (f c).state ≠ .reserved)
    (cylinders : ∀ p : Pos, c.cylinders[p] = if b.cylinders[p].reservedTo z then f b.cylinders[p] else b.cylinders[p])
    (reservations : c.reservations = b.reservations.filter (· ≠ z)) : BankOk c ps := by
  have kept (p : Pos) (hp : c.cylinders[p].state = .reserved) :
      ¬b.cylinders[p].reservedTo z = true ∧ c.cylinders[p] = b.cylinders[p] := by
    rw [cylinders] at hp ⊢
    split
    · next own =>
      rw [if_pos own] at hp
      exact (out _ hp).elim
    · next other => exact ⟨other, rfl⟩
  refine h.of_fewer (fun p hp => ?_) fun p y hp zone listed => ?_
  · obtain ⟨-, same⟩ := kept p hp
    rw [same] at hp ⊢
    exact ⟨hp, rfl⟩
  · obtain ⟨other, same⟩ := kept p hp
    rw [reservations, List.mem_filter]
    refine ⟨listed, ?_⟩
    rw [same] at hp
    simp only [ne_eq, decide_not, Bool.not_eq_eq_eq_not, Bool.not_true, decide_eq_false_iff_not]
    rintro rfl
    exact other (reservedTo_iff.mpr ⟨hp, zone⟩)

theorem bankOk_release (h : BankOk s.bank s.sup.profiles) : BankOk (s.releaseReservation z).bank s.sup.profiles := by
  refine bankOk_topUp (s := (s.changeReserved z fun c => { c with state := .ready, zone := none }).leaveReservations z) ?_
  exact h.leave (z := z) (f := fun c => { c with state := .ready, zone := none }) (fun c => nofun)
    (changeReserved_cylinders s z fun c => { c with state := .ready, zone := none }) rfl

theorem bankOk_ended {a g : State} {complete : Bool} {st : ZoneState} (h : BankOk s.bank s.sup.profiles)
    (ends : EndsDischarge s a g t z complete st) : BankOk t.bank s.sup.profiles := by
  have a_ : BankOk a.bank s.sup.profiles :=
    h.leave (f := accounted complete) (fun c => by unfold accounted; cases complete <;> nofun) ends.cylinders ends.reservations
  have g_ : BankOk g.bank s.sup.profiles := by
    cases ends.grants with
    | idle _ same => rw [same.bank]; exact a_
    | granted w rest _ _ _ _ cylinders reservations => exact a_.congr cylinders reservations
  exact g_.congr ends.bank.cylinders ends.bank.reservations

/-! ### The list's part of the law -/

/-- The list holds exactly the zones of a reserving state. -/
def ListOk (s : State) : Prop := ∀ z : Room, z ∈ s.bank.reservations ↔ s.zones[z].state.reserving = true

theorem listOk_of_states (h : ListOk s) (zones : ∀ y : Room, t.zones[y].state = s.zones[y].state)
    (reservations : t.bank.reservations = s.bank.reservations) : ListOk t := fun y => by rw [reservations, zones]; exact h y

theorem listOk_of_puts {zs : List Room} (h : ListOk s) (puts : Puts s t z x) (reservations : t.bank.reservations = zs)
    (others : ∀ y, y ≠ z → (y ∈ zs ↔ y ∈ s.bank.reservations)) (own : z ∈ zs ↔ x.state.reserving = true) : ListOk t := by
  intro y
  rw [reservations]
  by_cases same : y = z
  · subst same
    rw [puts.state]
    exact own
  · rw [others y same, puts.other same]
    exact h y

/-- A zone goes from one state to another, both reserving or neither. -/
theorem listOk_moved (h : ListOk s) (puts : Puts s t z x) (reservations : t.bank.reservations = s.bank.reservations)
    (same : x.state.reserving = s.zones[z].state.reserving) : ListOk t :=
  listOk_of_puts h puts reservations (fun _ _ => .rfl) (by rw [same]; exact h z)

theorem listOk_left (h : ListOk s) (puts : Puts s t z x) (reservations : t.bank.reservations = s.bank.reservations.filter (· ≠ z))
    (out : x.state.reserving = false) : ListOk t :=
  listOk_of_puts h puts reservations (fun y other => by simp [other]) (by simp [out])

theorem HoldsAct.reserving {h : Holds} {zn : Zone} (act : HoldsAct h zn x) : x.state.reserving = zn.state.reserving := by
  cases act with
  | paused st => rw [st]; rfl
  | withdrawn st => rw [st]; rfl
  | resumed st => rw [st]; rfl
  | kept => rfl

/-- The zone that has discharged leaves the list; the one granted next stays on it. -/
theorem listOk_ended {a g : State} {complete : Bool} {st : ZoneState} (h : ListOk s) (wait : WaitLaw s) (ends : EndsDischarge s a g t z complete st) :
    ListOk t := by
  intro y
  rw [ends.bank.reservations]
  have a_ : a.zones[y].state = s.zones[y].state := core_state (ends.zones y)
  by_cases own : y = z
  · subst own
    rw [ends.puts.state]
    have gone : y ∉ g.bank.reservations := by
      cases ends.grants with
      | idle _ same => rw [same.bank, ends.reservations]; simp
      | granted _ _ _ _ _ _ _ reservations => rw [reservations, ends.reservations]; simp
    have out : st.reserving = false := by rcases ends.ends with rfl | rfl <;> rfl
    simp [gone, out]
  · rw [ends.puts.other own]
    have kept : y ∈ a.bank.reservations ↔ s.zones[y].state.reserving = true := by
      rw [ends.reservations, ← h y]
      simp [own]
    cases ends.grants with
    | idle _ same => rw [same.bank, core_state (same.zones y), a_]; exact kept
    | granted w rest head puts _ _ _ reservations =>
      rw [reservations, kept]
      by_cases next : y = w
      · subst next
        have waits := wait.2 y (by rw [← ends.waitQueue, head]; exact List.mem_cons_self)
        rw [puts.state, waits]
        exact iff_of_true rfl rfl
      · rw [puts.other next, a_]

/-! ### O58 -/

theorem reservationLaw_iff : ReservationLaw s ↔ WaitLaw s ∧ ListOk s ∧ BankOk s.bank s.sup.profiles :=
  ⟨fun ⟨wait, list, names, within⟩ => ⟨wait, list, names, within⟩, fun ⟨wait, list, ok⟩ => ⟨wait, list, ok.names, ok.within⟩⟩

/-- The list's and the bank's part of the law. -/
def ReservesOk (s : State) : Prop := ListOk s ∧ BankOk s.bank s.sup.profiles

theorem reservesOk_of_same (h : ReservesOk s) (zones : ∀ y : Room, t.zones[y].state = s.zones[y].state) (bank : t.bank = s.bank)
    (profiles : t.sup.profiles = s.sup.profiles) : ReservesOk t :=
  ⟨listOk_of_states h.1 zones (by rw [bank]), by rw [bank, profiles]; exact h.2⟩

theorem reservesOk_of_zonesOf (h : ReservesOk u) (same : ZonesOf u t) : ReservesOk t :=
  reservesOk_of_same h (fun y => by rw [same.zones]) same.bank same.profiles

/-- A zone that neither had nor gets a reservation. -/
theorem reservesOk_calmed {st : ZoneState} (h : ReservesOk s) (puts : Puts s u z x) (bank : SameBank s u) (was : s.zones[z].state = st)
    (before : st.reserving = false) (after : x.state.reserving = false) : ReservesOk u :=
  ⟨listOk_moved h.1 puts bank.reservations (by rw [after, was, before]), by
    rw [puts.profiles]
    exact h.2.congr bank.cylinders bank.reservations⟩

theorem ZoneAct.reservesOk {c d : Conf} (h : ZoneAct m c d) (wait : WaitLaw c.state) (hc : ReservesOk c.state) : ReservesOk d.state := by
  obtain ⟨list, ok⟩ := hc
  cases h with
  | same h _ => exact reservesOk_of_same ⟨list, ok⟩ (fun y => core_state (h.zones y)) h.bank h.profiles
  | cylinders ground zones lists free =>
    refine ⟨listOk_of_states list (fun y => core_state (zones y)) lists.reservations, ?_⟩
    rw [ground.profiles]
    exact ok.of_fewer free fun p z _ _ listed => by rwa [lists.reservations]
  | @toppedUp s _ _ _ _ h =>
    refine reservesOk_of_zonesOf ⟨listOk_of_states list (fun y => by simp) (topUp_lists s).1, ?_⟩ h
    rw [(topUp_ground s).profiles]
    exact bankOk_topUp ok
  | @ruled s t _ _ _ ground bank z others sequence _ =>
    refine reservesOk_of_same ⟨list, ok⟩ (fun y => ?_) bank ground.profiles
    by_cases same : y = z
    · subst same
      exact (congrArg Zone.state sequence :)
    · exact core_state (others y same)
  | @rederived s _ _ _ _ z h =>
    obtain ⟨x, acts⟩ := rederive_acts s z
    refine reservesOk_of_zonesOf ⟨listOk_moved list acts.puts acts.reservations acts.act.reserving, ?_⟩ h
    rw [acts.puts.profiles]
    exact ok.congr acts.cylinders acts.reservations
  | @confirmed s t _ _ _ z k st h =>
    have puts := confirm_puts s z k
    have off : z ∉ s.bank.reservations := fun listed => by
      have reserving := (list z).mp listed
      rcases st with st | st <;> rw [st] at reserving <;> cases reserving
    refine reservesOk_of_zonesOf ⟨listOk_of_puts list puts (confirm_bank s z k).2.2 (fun y other => by simp [other]) ?_, ?_⟩ h
    · refine iff_of_true (by simp) ?_
      rcases confirmed_state s.zones[z] k s.sup.profiles[z].delay ((s.confirm z k).deriveHolds z) with held | counting
      · rw [held]; rfl
      · rw [counting]; rfl
    · rw [puts.profiles]
      exact bankOk_confirm ok off k
  | @alerted s _ _ _ _ z st h => exact reservesOk_of_zonesOf (reservesOk_calmed ⟨list, ok⟩ (enterZone_puts s z .alert) (enterZone_bank ..) st rfl rfl) h
  | @counted s _ _ _ _ z due h =>
    simp only [State.countdownIsDue, Bool.and_eq_true, decide_eq_true_eq] at due
    obtain ⟨cylinders, reservations⟩ := endCountdown_bank s z
    have was : s.zones[z].state.reserving = true := by rw [due.1]; rfl
    refine reservesOk_of_zonesOf ?_ h
    rcases endCountdown_puts s z with ⟨-, -, puts, -⟩ | ⟨puts, -⟩ <;>
      exact ⟨listOk_moved list puts reservations was.symm, by rw [puts.profiles]; exact ok.congr cylinders reservations⟩
  | @ended s _ _ _ _ z complete st h =>
    obtain ⟨a, g, x, ends⟩ := endDischarge_ends s z complete
    refine reservesOk_of_zonesOf ⟨listOk_ended list wait ends, ?_⟩ h
    have profiles : (s.endDischarge z complete).sup.profiles = s.sup.profiles := by simp
    rw [profiles]
    exact bankOk_ended ok ends
  | @soaked s _ _ _ _ z st h => exact reservesOk_of_zonesOf (reservesOk_calmed ⟨list, ok⟩ (endSoak_puts s z) (endSoak_bank ..) st rfl rfl) h
  | @reset s _ _ _ _ z st h =>
    refine reservesOk_of_zonesOf ?_ h
    rcases st with st | st <;> exact reservesOk_calmed ⟨list, ok⟩ (toNormal_puts s z) (toNormal_bank ..) st rfl rfl
  | @resetHeld s _ _ _ _ z st h =>
    obtain ⟨ground, zones, -, -, reservations⟩ := releaseReservation_lists s z
    have puts := (toNormal_puts (s.releaseReservation z) z).after ground zones
    have bank := toNormal_bank (s.releaseReservation z) z
    refine reservesOk_of_zonesOf ⟨listOk_left list puts (bank.reservations.trans reservations) rfl, ?_⟩ h
    rw [puts.profiles]
    exact (bankOk_release ok).congr bank.cylinders bank.reservations
  | @disabled s _ _ _ _ z st h =>
    refine reservesOk_of_zonesOf ?_ h
    rcases st with st | st <;> exact reservesOk_calmed ⟨list, ok⟩ (enterZone_puts s z .disabled) (enterZone_bank ..) st rfl rfl
  | @enabled s _ _ _ _ z st h => exact reservesOk_of_zonesOf (reservesOk_calmed ⟨list, ok⟩ (enterZone_puts s z .normal) (enterZone_bank ..) st rfl rfl) h
  | @ticked s t _ _ _ ground zones bank =>
    refine reservesOk_of_same ⟨list, ok⟩ (fun y => ?_) bank ground.profiles
    have own : t.zones[y] = s.zones[y].tick := by rw [zones]; exact vgen_get ..
    rw [own, tick_state]
  | @profile s t _ _ _ r p st _ _ h =>
    refine ⟨listOk_of_states list (fun y => by rw [h.zones]; rfl) (by rw [h.bank]; rfl), ?_⟩
    rw [h.profiles, h.bank]
    refine ⟨ok.names, fun z => ?_⟩
    show (s.bank.reservedPositions z).length ≤ _
    by_cases same : r = z
    · subst same
      rw [ok.none fun listed => ?_]
      · exact Nat.zero_le _
      · have reserving := (list r).mp listed
        rcases st with st | st <;> rw [st] at reserving <;> cases reserving
    · show _ ≤ (s.sup.profiles.set r p)[z].limit
      rw [vset_other _ _ same]
      exact ok.within z
  | room _ r x _ zones bank profiles _ _ => exact reservesOk_of_same ⟨list, ok⟩ (fun y => by rw [zones]) bank profiles
  | inhibited _ zones bank profiles _ => exact reservesOk_of_same ⟨list, ok⟩ (fun y => by rw [zones]) bank profiles

/-- No cylinder is RESERVED after a restart (R146). -/
theorem restarted_free (zones : Vector Zone 16) (c : Cylinder) : (c.restarted zones).state ≠ .reserved := by
  unfold Cylinder.restarted
  split
  · dsimp only
    split
    · nofun
    · split_ifs <;> nofun
  · assumption

theorem startUp_reserves (s : State) (cause : RestartCause) (line1 line2 : List Bool) : ReservesOk (s.startUp cause line1 line2) := by
  have zone := startUp_zone s cause line1 line2
  obtain ⟨_, -, -, -, -, -, -, -, -, bank⟩ := Starts.startUp_blocks s cause line1 line2
  have none (p : Pos) : (s.startUp cause line1 line2).bank.cylinders[p].state ≠ .reserved := by
    rw [bank]
    unfold Starts.startBase
    split
    · simp [State.lost, State.cold, AgentBank.cold, Cylinder.cold]
    · have restarted : (s.kept cause).bank.cylinders[p] = s.bank.cylinders[p].restarted s.zones := vgen_get ..
      show (s.kept cause).bank.cylinders[p].state ≠ _
      rw [restarted]
      exact restarted_free _ _
  refine ⟨fun z => ?_, ⟨fun p hp => (none p hp).elim, fun z => ?_⟩⟩
  · obtain ⟨st, -, -, -, empty⟩ := zone z
    rw [empty]
    refine iff_of_false List.not_mem_nil ?_
    rcases st with st | st | st <;> rw [st] <;> nofun
  · have empty : (s.startUp cause line1 line2).bank.reservedPositions z = [] :=
      List.filter_eq_nil_iff.mpr fun p _ reserved => none p (reservedTo_iff.mp reserved).1
    rw [empty]
    exact Nat.zero_le _

theorem Stage.reservationLaw (h : Stage w m s t) (hs : ReservationLaw s) : ReservationLaw t := by
  rw [reservationLaw_iff] at hs ⊢
  refine Stage.keeps_zones (P := fun s => WaitLaw s ∧ ReservesOk s) h (fun u v _ acts hu => ?_) (fun u v h hu => ?_)
    (fun u v _ zones bank profiles _ hu => ?_) (fun l p cause line1 line2 _ => ?_) hs
  · have all {c d : Conf} (acts : ReflTransGen (ZoneAct m) c d) (hc : WaitLaw c.state ∧ ReservesOk c.state) :
        WaitLaw d.state ∧ ReservesOk d.state := by
      induction acts with
      | refl => exact hc
      | tail _ act ih => exact ⟨act.move.waitLaw ih.1, act.reservesOk ih.1 ih.2⟩
    exact all acts hu
  · exact ⟨waitLaw_of_states hu.1 (fun y hy => (core_state (h.zones y)).trans hy) (by rw [h.bank]),
      reservesOk_of_same hu.2 (fun y => core_state (h.zones y)) h.bank h.profiles⟩
  · exact ⟨waitLaw_of_states hu.1 (fun y hy => by rwa [zones]) (by rw [bank]), reservesOk_of_same hu.2 (fun y => by rw [zones]) bank profiles⟩
  · have empty := (startUp_zone { s with lines := l, p1 := p } cause line1 line2 0).2.2.2.1
    exact ⟨by simp [WaitLaw, empty], startUp_reserves ..⟩

/-- Settles O58: a zone joins the list as it is confirmed and leaves it as its sequence ends, and cylinders are reserved only along the walk. -/
theorem everyStepKeepsTheReservationLaw : Obligations.EveryStepKeepsTheReservationLaw := fun _ _ hs h =>
  step_keeps (fun _ _ h => h) Stage.reservationLaw h hs

end Sys2Proof.Proofs.Acts
end

section
/-! PROOFS. The law of capacities (R72). -/
namespace Sys2Proof.Proofs.Acts

open Sys2Proof Sys2Proof.Machine Sys2Proof.Safety Relation

variable {w : Allows} {s t u : State} {m : Mode}

theorem capacityLaw_of_same (h : CapacityLaw s) (rooms : t.roll.rooms = s.roll.rooms) (profiles : t.sup.profiles = s.sup.profiles) :
    CapacityLaw t := by
  intro r
  have := h r
  unfold State.headCount at this ⊢
  rwa [rooms, profiles]

theorem capacityLaw_of_ground (h : CapacityLaw s) (ground : SameGround s t) : CapacityLaw t :=
  capacityLaw_of_same h ground.rooms ground.profiles

/-- An operation that leaves roll and profiles alone, as its frame says. -/
theorem ZonesOf.capacity (h : ZonesOf u t) (hs : CapacityLaw s) (roll : u.roll = s.roll) (sup : u.sup = s.sup) : CapacityLaw t :=
  capacityLaw_of_same hs (by rw [h.rooms, roll]) (by rw [h.profiles, sup])

/-- A profile is loaded only for a capacity that the strongroom's list fits (R172). -/
theorem capacityLaw_profile {r : Room} {p : Profile} (h : CapacityLaw s) (fits : s.headCount r ≤ p.capacity)
    (rooms : t.roll.rooms = s.roll.rooms) (profiles : t.sup.profiles = s.sup.profiles.set r p) : CapacityLaw t := by
  intro y
  have old := h y
  unfold State.headCount at old fits ⊢
  rw [rooms, profiles]
  by_cases same : r = y
  · subst same
    rwa [vset_same]
  · rwa [vset_other _ _ same]

/-- A strongroom's list grows only within its capacity (R48, R71). -/
theorem capacityLaw_room {r : Room} {x : RoomRecord} (h : CapacityLaw s)
    (fits : x.list.length ≤ s.headCount r ∨ x.list.length ≤ s.sup.profiles[r].capacity) (rooms : t.roll.rooms = s.roll.rooms.set r x)
    (profiles : t.sup.profiles = s.sup.profiles) : CapacityLaw t := by
  intro y
  have old := h y
  unfold State.headCount at old fits ⊢
  rw [rooms, profiles]
  by_cases same : r = y
  · subst same
    rw [vset_same]
    exact fits.elim (fun shorter => le_trans shorter old) id
  · rwa [vset_other _ _ same]

theorem ZoneAct.capacityLaw {c d : Conf} (h : ZoneAct m c d) (hc : CapacityLaw c.state) : CapacityLaw d.state := by
  cases h with
  | same h _ => exact capacityLaw_of_ground hc h.toSameGround
  | cylinders ground _ _ _ => exact capacityLaw_of_ground hc ground
  | toppedUp h => exact h.capacity hc (by simp) (by simp)
  | ruled ground _ _ _ _ _ => exact capacityLaw_of_ground hc ground
  | rederived _ h => exact h.capacity hc (by simp) (by simp)
  | confirmed _ _ _ h => exact h.capacity hc (by simp) (by simp)
  | alerted _ _ h => exact h.capacity hc (by simp) (by simp)
  | counted _ _ _ h => exact h.capacity hc (by simp) (by simp)
  | ended _ _ _ _ h => exact h.capacity hc (by simp) (by simp)
  | soaked _ _ h => exact h.capacity hc (by simp) (by simp)
  | reset _ _ h => exact capacityLaw_of_ground hc ((toNormal_puts ..).toSameGround.trans h.toSameGround)
  | resetHeld _ _ h =>
    exact capacityLaw_of_ground hc (((releaseReservation_lists ..).1.trans (toNormal_puts ..).toSameGround).trans h.toSameGround)
  | disabled _ _ h => exact h.capacity hc (by simp) (by simp)
  | enabled _ _ h => exact h.capacity hc (by simp) (by simp)
  | ticked ground _ _ => exact capacityLaw_of_ground hc ground
  | profile r p _ _ fits h => exact capacityLaw_profile hc fits h.rooms h.profiles
  | room _ r x fits _ _ profiles _ rooms => exact capacityLaw_room hc fits rooms profiles
  | inhibited _ _ _ profiles rooms => exact capacityLaw_of_same hc rooms profiles

/-- A start keeps lists and profiles, or empties the lists (R74, R175). -/
theorem startUp_capacity (cause : RestartCause) (line1 line2 : List Bool) (h : CapacityLaw s) : CapacityLaw (s.startUp cause line1 line2) := by
  obtain ⟨_, -, -, rooms, -, -, -, profiles, -⟩ := Starts.startUp_blocks s cause line1 line2
  have base : CapacityLaw (Starts.startBase s cause) := by
    unfold Starts.startBase
    split
    · intro r
      simp [State.headCount, State.lost, State.cold, Roll.cold]
    · exact h
  intro r
  have lists : (s.startUp cause line1 line2).headCount r = (Starts.startBase s cause).headCount r := by
    unfold State.headCount
    rw [rooms]
    simp [Starts.startedRoom]
  rw [lists, profiles]
  exact base r

theorem Stage.capacityLaw (h : Stage w m s t) (hs : CapacityLaw s) : CapacityLaw t := by
  refine Stage.keeps_zones h (fun u v _ acts hu => ?_) (fun u v h hu => capacityLaw_of_ground hu h.toSameGround)
    (fun u v _ _ _ profiles rooms hu => capacityLaw_of_same hu rooms profiles)
    (fun l p cause line1 line2 hs => startUp_capacity (s := { s with lines := l, p1 := p }) cause line1 line2 hs) hs
  have all {c d : Conf} (acts : ReflTransGen (ZoneAct m) c d) (hc : CapacityLaw c.state) : CapacityLaw d.state := by
    induction acts with
    | refl => exact hc
    | tail _ act ih => exact act.capacityLaw ih
  exact all acts hu

/-- Settles O54: a list grows by admissions alone, which ask for room, and a profile is loaded only for a capacity that the list fits. -/
theorem everyStepKeepsTheCapacityLaw : Obligations.EveryStepKeepsTheCapacityLaw := fun _ _ hs h =>
  step_keeps (fun _ _ h => h) Stage.capacityLaw h hs

end Sys2Proof.Proofs.Acts
end

section
/-! PROOFS. What a step is, and the state after reset. -/
namespace Sys2Proof.Proofs.Acts

open Sys2Proof Sys2Proof.Machine Sys2Proof.Safety Relation

variable {w : Allows} {s t : State} {m : Mode}

/-! ### O45 -/

theorem Stage.pending (h : Stage w m s t) : t.pending = s.pending := by
  cases h with
  | event _ port => simpa using port.pending
  | silent h => exact h.pending
  | request _ _ _ _ _ port =>
    unfold State.answer
    split <;> exact Eq.trans (by simp) port.pending
  | asked _ => rfl
  | tested _ _ _ _ _ port =>
    unfold State.answer
    split <;> exact Eq.trans (by simp) port.pending
  | transmitted _ _ => simp
  | emptied _ _ => rfl
  | started _ l p cause line1 line2 => simp

/-- No command touches what waits behind it. -/
theorem exec_pending {c : Instr} (h : exec c s = .next t) : t.pending = s.pending := by
  obtain ⟨m, stages⟩ := exec_stages h
  clear h
  induction stages with
  | refl => rfl
  | tail _ last ih => exact last.pending.trans ih

theorem serveWhen_next (test : List Octet → Bool) (body : RequestFrame → State → State × Reply) (s : State) :
    ∃ t, serveWhen test body s = .next t := by
  unfold serveWhen
  split <;> exact ⟨_, rfl⟩

theorem serveFields_next {α : Type} (code : Nat) (a : Option α) (body : α → State → State × Reply) (s : State) :
    ∃ t, serveFields code a body s = .next t := serveWhen_next ..

theorem serveBare_next (code : Nat) (body : RequestFrame → State → State × Reply) (s : State) :
    ∃ t, serveBare code body s = .next t := serveWhen_next ..

/-- Every command answers a next state. -/
theorem exec_next (c : Instr) (s : State) : ∃ t, exec c s = .next t := by
  cases c with
  | enrol => exact serveWhen_next ..
  | unknownRequest => exact serveWhen_next ..
  | holidayRead | clockRead | bankRead | status => exact serveBare_next ..
  | linkTest =>
    show ∃ t, execLinkTest s = .next t
    unfold execLinkTest
    split <;> exact ⟨_, rfl⟩
  | restart line1 line2 =>
    show ∃ t, execRestart line1 line2 s = .next t
    unfold execRestart
    split <;> exact ⟨_, rfl⟩
  | amend | suspend | reinstate | revoke | readBearer | findToken | retentionSet | chainWrite | chainRead | scheduleWrite | scheduleRead
  | holidayAdd | holidayRemove | clockSet | siteSet | siteOverride | rollConfirm | rollSweep | rollRemove | rollRead | doorRelease
  | doorLockdown | doorRestore | doorRead | alarmAck | alarmReset | alarmRead | zoneReset | zoneDisable | zoneEnable | releaseAuthorise
  | zoneRead | cylinderInstall | cylinderIsolate | cylinderReturn | cylinderRemove | cylinderRead | stationConfigure | stationRead
  | linkSet | linkRead | addressSet | profileLoad | profileRead => exact serveFields_next ..
  | _ => exact ⟨_, rfl⟩

/-- Settles O45: a step is defined by the front of the queue, and the stages of a command keep what waits behind it. -/
theorem stepTakesTheFrontCommand : Obligations.StepTakesTheFrontCommand := by
  refine ⟨fun c s rest front => ?_, fun s empty => ?_, exec_next, fun c s t h => exec_pending h⟩
  · unfold step
    rw [front]
  · unfold step
    rw [empty]

/-! ### O60 -/

theorem reset_zone (z : Room) : State.reset.zones[z] = .cold := by simp [State.reset, State.cold]

/-- Settles O60: after reset every table is empty and every zone is DISABLED. -/
theorem resetMeetsTheLaws : Obligations.ResetMeetsTheLaws := by
  have wait : WaitLaw State.reset := ⟨List.nodup_nil, fun z hz => (List.not_mem_nil hz).elim⟩
  have profile (z : Room) : State.reset.sup.profiles[z] = .default := by simp [State.reset, State.cold]
  have cylinder (p : Pos) : State.reset.bank.cylinders[p] = .cold := by simp [State.reset, State.cold, AgentBank.cold]
  have coverage (z : Room) : State.reset.bank.coverage[z] = .cold := by
    simp [State.reset, State.cold, AgentBank.cold]
  have count (r : Room) : State.reset.headCount r = 0 := by simp [State.headCount, State.reset, State.cold, Roll.cold]
  have holds (z : Room) : State.reset.deriveHolds z = Zone.cold.holds := by
    unfold State.deriveHolds
    rw [reset_zone]
    simp [Zone.cold, ZoneInputs.allNormal, State.reset, State.cold]
  refine ⟨⟨List.nodup_singleton _, by decide⟩, ⟨rfl, rfl⟩, ⟨Nat.zero_le _, by decide, nofun⟩, fun z hz => ?_, rfl, tokenLaw_cold, chainLaw_cold,
    fun r => ?_, ⟨rfl, .nil, nofun, fun r n w b g held => ?_⟩, ⟨wait, fun z => ?_⟩, ⟨wait, fun _ _ z => ?_⟩,
    reservationLaw_iff.mpr ⟨wait, fun z => ?_, fun p hp => ?_, fun z => ?_⟩, fun z => ?_⟩
  · rw [reset_zone] at hz
    cases hz
  · rw [count]
    exact Nat.zero_le _
  · simp [State.reset, State.cold] at held
  · rw [reset_zone, profile]
    exact ⟨by decide, nofun, nofun, nofun⟩
  · rw [reset_zone, holds]
    exact ⟨rfl, nofun⟩
  · rw [reset_zone]
    exact iff_of_false List.not_mem_nil (by decide)
  · rw [cylinder] at hp
    cases hp
  · have empty : State.reset.bank.reservedPositions z = [] := List.filter_eq_nil_iff.mpr fun p _ => by rw [cylinder]; nofun
    rw [empty]
    exact Nat.zero_le _
  · rw [coverage, profile]
    rfl

end Sys2Proof.Proofs.Acts
end

section
/-! PROOFS. The rules by which a request is settled: a body whose effect is known brings it about, up to the notices, and with the Alarm
Table in play also up to the outputs. Then RETENTION SET and ADDRESS SET (R14, R171), and the reads that name a record of a table (R11, R18,
R21, R23, R69, R130, R150, R162, R171, R173). -/
namespace Sys2Proof.Proofs.Reads

open Sys2Proof Sys2Proof.Machine Sys2Proof.Safety Sys2Proof.Laws Sys2Proof.Proofs.RecordReads

variable {s : State} {f : RequestFrame} {rest : List RequestFrame} {code : Octet} {n : Nat} {α : Type}

/-! ### Requests with an effect -/

/-- What a request with fields does that leaves the coverage records and the Alarm Table alone (R170). -/
theorem serveFields_accepted (w : WaitsWith s f rest code) (hn : code = BitVec.ofNat 8 n) (a : α)
    (body : α → State → State × Reply) {u : State} {r : Reply} (hb : body a (taken s rest) = (u, r)) (hok : r.code = .ok)
    (hc : u.bank.coverage = s.bank.coverage) (ha : u.alarms = s.alarms) :
    Accepted (serveFields n (some a) body s) u f code r.contents r.after :=
  serve_accepted w.toWaits hn _ u r ((if_pos w.fields).trans hb) hok hc ha

/-- What a bare request does that leaves the coverage records and the Alarm Table alone (R170). -/
theorem serveBare_accepted (w : Waits s f rest code) (hn : code = BitVec.ofNat 8 n) (hl : f.payload.length = 1)
    (body : RequestFrame → State → State × Reply) {u : State} {r : Reply} (hb : body f (taken s rest) = (u, r))
    (hok : r.code = .ok) (hc : u.bank.coverage = s.bank.coverage) (ha : u.alarms = s.alarms) :
    Accepted (serveBare n body s) u f code r.contents r.after :=
  serve_accepted w hn _ u r (by rw [if_pos hl, hb]) hok hc ha

/-- What a request with fields does that leaves the coverage records alone (R170); the notices it owes do not show. -/
theorem serveFields_acceptedWithAlarms (w : WaitsWith s f rest code) (hn : code = BitVec.ofNat 8 n) (a : α)
    (body : α → State → State × Reply) {u u' : State} {x : Contents} (hb : body a (taken s rest) = (u, .ok x))
    (hc : u.bank.coverage = s.bank.coverage) (hu : u = { u' with due := u.due }) :
    AcceptedWithAlarms (serveFields n (some a) body s) u' f code x := by
  obtain ⟨v, hv, ho⟩ := serve_accepted_with_alarms w.toWaits hn (fun f t => if 2 ≤ f.payload.length then body a t else refuse .format t) u x
    ((if_pos w.fields).trans hb) hc
  exact ⟨v, upToOutputs_due hv hu, ho⟩

/-! ### RETENTION SET and ADDRESS SET -/

/-- RETENTION SET of 0 to 90 days (R14). -/
theorem exec_retentionSet (w : WaitsWith s f rest 0x17) {days : Nat} (h : days ≤ 90) :
    Accepted (exec (.retentionSet (some days)) s) { taken s rest with bt := { s.bt with retention := days } } f 0x17
      (.retention days) .nothing :=
  serveFields_accepted w rfl days retentionSetBody (r := .ok (.retention days)) (if_neg (Nat.not_lt.mpr h)) rfl rfl rfl

/-- RETENTION SET above 90 days (R14). -/
theorem exec_retentionSet_format (w : WaitsWith s f rest 0x17) {days : Nat} (h : 90 < days) :
    exec (.retentionSet (some days)) s = .next (refused s f rest 0x17 .format) :=
  serveFields_refused w rfl days retentionSetBody .format (if_pos h)

/-- ADDRESS SET of 1 to 254 (R171). -/
theorem exec_addressSet (w : WaitsWith s f rest 0xA2) (h1 : 1 ≤ n) (h2 : n ≤ 254) :
    Accepted (exec (.addressSet (some n)) s) { taken s rest with sup := { s.sup with unitAddress := BitVec.ofNat 8 n } } f 0xA2
      .nothing (.unitAddress (BitVec.ofNat 8 n)) :=
  serveFields_accepted w rfl n addressSetBody (r := ⟨.ok, .nothing, .unitAddress (BitVec.ofNat 8 n)⟩)
    (if_neg (by omega)) rfl rfl rfl

/-- ADDRESS SET of no unit address (R171). -/
theorem exec_addressSet_format (w : WaitsWith s f rest 0xA2) (h : n = 0 ∨ 255 ≤ n) :
    exec (.addressSet (some n)) s = .next (refused s f rest 0xA2 .format) :=
  serveFields_refused w rfl n addressSetBody .format (if_pos h)

/-- Settles O6: either value is stored or refused, as its range check says. -/
theorem retentionAndAddressAreStored : Obligations.RetentionAndAddressAreStored :=
  ⟨fun _ _ _ _ w => ⟨exec_retentionSet w, exec_retentionSet_format w⟩,
    fun _ _ _ _ w => ⟨exec_addressSet w, exec_addressSet_format w⟩⟩

/-! ### Reads of the Bearer Table -/

/-- READ BEARER of a valid number (R11). -/
theorem exec_readBearer (w : WaitsWith s f rest 0x15) {b : Nat} (h1 : 1 ≤ b) (h2 : b ≤ 4095) :
    exec (.readBearer (some b)) s = .next (answered (taken s rest) f 0x15 .ok (s.viewBearer b) .nothing) :=
  serveFields_unchanged w rfl b readBearerBody (.ok (s.viewBearer b)) (if_pos ((bearerValid_iff b).mpr ⟨h1, h2⟩))

theorem tokenValid_of {t : Token} (h0 : t ≠ 0) (h1 : t ≠ BitVec.allOnes 40) : tokenValid t = true :=
  (tokenValid_iff t).mpr ⟨h0, h1⟩

/-- A valid token is found by the index (R4). -/
theorem findToken_valid (t : State) {k : Token} (h0 : k ≠ 0) (h1 : k ≠ BitVec.allOnes 40) :
    t.findToken k = t.bt.index.get k.toNat := if_pos (tokenValid_of h0 h1)

theorem findTokenBody_held {t : State} {k : Token} {b : Nat} (h0 : k ≠ 0) (h1 : k ≠ BitVec.allOnes 40)
    (h : t.bt.index.get k.toNat = some b) : findTokenBody k t = (t, .ok (t.viewBearer b)) := by
  rw [findTokenBody, if_pos (tokenValid_of h0 h1), findToken_valid t h0 h1, h]

theorem findTokenBody_unknown {t : State} {k : Token} (h0 : k ≠ 0) (h1 : k ≠ BitVec.allOnes 40)
    (h : t.bt.index.get k.toNat = none) : findTokenBody k t = refuse .notFound t := by
  rw [findTokenBody, if_pos (tokenValid_of h0 h1), findToken_valid t h0 h1, h]

theorem scheduleReadBody_val (i : Sched) (t : State) :
    scheduleReadBody i.val t = (t, .ok (.schedule (i.val = 0) (if i.val = 0 then [] else t.bt.schedules[i]))) := by
  rw [scheduleReadBody, sched?_val]

theorem rollReadBody_inRange (r : Room) {start : Nat} (h1 : 1 ≤ start) (h2 : start ≤ 32) (t : State) :
    rollReadBody ⟨num r, start⟩ t =
      (t, .ok (.roll (t.headCount r) t.sup.profiles[r].capacity t.roll.rooms[r].unreconciled (t.lapsedCount r) t.roll.tick
        (((t.entriesIn r).drop (start - 1)).take 8 |>.map rollView))) := by
  rw [rollReadBody, withRoom_num]
  exact if_pos ⟨h1, h2⟩

theorem stationReadBody_num (a : Addr) (t : State) :
    stationReadBody (num a) t =
      (t, .ok (.stationRead t.loop.stations[a].type t.loop.stations[a].room t.loop.stations[a].state
        t.loop.stations[a].misses (t.loop.stations[a].points.map Point.view) t.loop.stations[a].lastEvent
        t.loop.stations[a].slots.marks)) := by
  rw [stationReadBody, addr?_num]

/-- FIND TOKEN of a token that the index holds (R11). -/
theorem exec_findToken_held (w : WaitsWith s f rest 0x16) {t : Token} {b : Nat} (h0 : t ≠ 0) (h1 : t ≠ BitVec.allOnes 40)
    (h : s.bt.index.get t.toNat = some b) :
    exec (.findToken (some t)) s = .next (answered (taken s rest) f 0x16 .ok (s.viewBearer b) .nothing) :=
  serveFields_unchanged w rfl t findTokenBody _ (findTokenBody_held (t := taken s rest) h0 h1 h)

/-- FIND TOKEN of a token that no live record holds (R11). -/
theorem exec_findToken_unknown (w : WaitsWith s f rest 0x16) {t : Token} (h0 : t ≠ 0) (h1 : t ≠ BitVec.allOnes 40)
    (h : s.bt.index.get t.toNat = none) :
    exec (.findToken (some t)) s = .next (refused s f rest 0x16 .notFound) :=
  serveFields_refused w rfl t findTokenBody .notFound (findTokenBody_unknown (t := taken s rest) h0 h1 h)

/-- CHAIN READ of a live record (R18). -/
theorem exec_chainRead (w : WaitsWith s f rest 0x19) {b : Nat} {r : Bearer} (h1 : 1 ≤ b) (h2 : b ≤ 4095)
    (h : s.bt.bearers.get b = some r) :
    exec (.chainRead (some b)) s =
      .next (answered (taken s rest) f 0x19 .ok
        (.chain ((s.bt.chainOf r).filterMap fun e => (s.bt.entries.get e).map fun x => (e, x.content))) .nothing) :=
  serveFields_unchanged w rfl b chainReadBody _ (withBearer_live (taken s rest) _ h1 h2 h)

/-- SCHEDULE READ of a schedule (R21). -/
theorem exec_scheduleRead (w : WaitsWith s f rest 0x1B) (i : Sched) :
    exec (.scheduleRead (some i.val)) s =
      .next (answered (taken s rest) f 0x1B .ok (.schedule (i.val = 0) (if i.val = 0 then [] else s.bt.schedules[i])) .nothing) :=
  serveFields_unchanged w rfl i.val scheduleReadBody _ (scheduleReadBody_val i _)

/-- HOLIDAY READ (R23). -/
theorem exec_holidayRead (w : Waits s f rest 0x1E) (hl : f.payload.length = 1) :
    exec .holidayRead s = .next (answered (taken s rest) f 0x1E .ok (.holidays s.bt.holidays) .nothing) :=
  serveBare_unchanged w rfl hl holidayReadBody _ rfl

/-! ### Reads of the roll, a zone, a station, a link and a profile -/

/-- ROLL READ from a start in range (R69). -/
theorem exec_rollRead (w : WaitsWith s f rest 0x33) (r : Room) {start : Nat} (h1 : 1 ≤ start) (h2 : start ≤ 32) :
    exec (.rollRead (some ⟨num r, start⟩)) s =
      .next (answered (taken s rest) f 0x33 .ok
        (.roll (s.headCount r) s.sup.profiles[r].capacity s.roll.rooms[r].unreconciled (s.lapsedCount r) s.roll.tick
          (((s.entriesIn r).drop (start - 1)).take 8 |>.map rollView)) .nothing) :=
  serveFields_unchanged w rfl _ rollReadBody _ (rollReadBody_inRange r h1 h2 _)

/-- ZONE READ of a zone (R130). -/
theorem exec_zoneRead (w : WaitsWith s f rest 0x64) (z : Room) :
    exec (.zoneRead (some (num z))) s =
      .next (answered (taken s rest) f 0x64 .ok (.zone s.zones[z].view (s.bank.place z) s.bank.coverage[z]) .nothing) :=
  serveFields_unchanged w rfl (num z) zoneReadBody _ (withRoom_num z (taken s rest) _)

/-- STATION READ of a station (R150). -/
theorem exec_stationRead (w : WaitsWith s f rest 0x81) (a : Addr) :
    exec (.stationRead (some (num a))) s =
      .next (answered (taken s rest) f 0x81 .ok
        (.stationRead s.loop.stations[a].type s.loop.stations[a].room s.loop.stations[a].state s.loop.stations[a].misses
          (s.loop.stations[a].points.map fun p => ⟨p.accepted, p.candidate, p.count⟩) s.loop.stations[a].lastEvent
          s.loop.stations[a].slots.marks) .nothing) :=
  serveFields_unchanged w rfl (num a) stationReadBody _ (stationReadBody_num a _)

/-- LINK READ of a number that is no port's (R162). -/
theorem exec_linkRead_format (w : WaitsWith s f rest 0x91) (h1 : n ≠ 1) (h2 : n ≠ 2) :
    exec (.linkRead (some n)) s = .next (refused s f rest 0x91 .format) :=
  serveFields_refused w rfl n linkReadBody .format (by unfold linkReadBody; split <;> simp_all)

/-- LINK READ of either port (R162). -/
theorem exec_linkRead (w : WaitsWith s f rest 0x91) :
    exec (.linkRead (some 1)) s =
        .next (answered (taken s rest) f 0x91 .ok (.linkRead1 s.p1.pair s.p1.mode s.p1.rx.state s.p1.tx) .nothing) ∧
      exec (.linkRead (some 2)) s =
        .next (answered (taken s rest) f 0x91 .ok (.linkRead2 s.p2.pair s.p2.rate s.p2.rx.state s.p2.tx) .nothing) :=
  ⟨serveFields_unchanged w rfl 1 linkReadBody _ rfl, serveFields_unchanged w rfl 2 linkReadBody _ rfl⟩

/-- PROFILE READ of a strongroom (R173). -/
theorem exec_profileRead (w : WaitsWith s f rest 0xA4) (r : Room) :
    exec (.profileRead (some (num r))) s =
      .next (answered (taken s rest) f 0xA4 .ok (.profile s.sup.profiles[r]) .nothing) :=
  serveFields_unchanged w rfl (num r) profileReadBody _ (withRoom_num r (taken s rest) _)

theorem statusBody_addressed (h : f.broadcast = false) (t : State) :
    statusBody f t = (t.setPortOne { t.p1 with errorMark := false, overrun := false }, .ok t.statusContents) := by
  simp [statusBody, h]

/-- STATUS answers the marks as they stood and clears the error mark and the Overrun mark (R171). -/
theorem exec_status (w : Waits s f rest 0xA0) (hl : f.payload.length = 1) :
    Accepted (exec .status s) { taken s rest with p1 := { (taken s rest).p1 with errorMark := false, overrun := false } } f 0xA0
      (.status 0x0E16 1 s.sup.cause s.clk.isSet s.clk.siteState s.clk.override s.bt.retention s.sup.unitAddress
        s.alarms.overflow s.p1.errorMark s.p1.overrun (rooms.map fun z => s.zones[z].state)
        (rooms.map fun d => s.doors[d].state)) .nothing :=
  serveBare_accepted w rfl hl statusBody (r := .ok _) (statusBody_addressed (broadcast_of_waits w) _) rfl rfl rfl

/-- Settles O2: each read is served by a body that returns the state it was given. -/
theorem tableReadsAndStatus : Obligations.TableReadsAndStatus :=
  ⟨⟨fun _ _ _ =>
      ⟨fun _ w => exec_readBearer w, fun _ _ w => exec_findToken_held w, fun _ w => exec_findToken_unknown w,
        fun _ _ w => exec_chainRead w, fun i w => exec_scheduleRead w i, exec_holidayRead⟩,
      fun _ _ _ =>
        ⟨fun r _ w => exec_rollRead w r, fun z w => exec_zoneRead w z, fun a w => exec_stationRead w a,
          fun w => ⟨(exec_linkRead w).1, (exec_linkRead w).2, fun _ => exec_linkRead_format w⟩, fun r w => exec_profileRead w r⟩⟩,
    fun _ _ _ => exec_status⟩

end Sys2Proof.Proofs.Reads
end

section
/-! PROOFS. The requests on bearer records: ENROL, AMEND, SUSPEND, REINSTATE, REVOKE and CHAIN WRITE (R5 to R10, R13, R16 to R18). Each
body is put through its checks in their order; what an accepted one leaves is its own effect. -/
namespace Sys2Proof.Proofs.BearerRequests

open Sys2Proof Sys2Proof.Machine Sys2Proof.Safety Sys2Proof.Laws Sys2Proof.Proofs.RecordReads Sys2Proof.Proofs.Reads

variable {s t : State} {f : RequestFrame} {rest : List RequestFrame} {b n : Nat} {r : Bearer}

/-! ### What a raise does to the Alarm Table -/

/-- A raise reads the Alarm Table and the clock alone. -/
theorem raiseAlarm_alarms (k : AlarmKey) (ha : t.alarms = s.alarms) (hc : t.clk = s.clk) :
    (t.raiseAlarm k).alarms = (s.raiseAlarm k).alarms := by
  unfold State.raiseAlarm
  rw [ha, hc]
  dsimp only
  split
  · rfl
  · split
    · rfl
    · split <;> rfl

/-- What a raise leaves: the Alarm Table that it makes, and the notices it owes. -/
theorem raiseAlarm_acts (k : AlarmKey) (ha : t.alarms = s.alarms) (hc : t.clk = s.clk) :
    t.raiseAlarm k = { t with alarms := (s.raiseAlarm k).alarms, due := (t.raiseAlarm k).due } := by
  rw [← raiseAlarm_alarms k ha hc]
  obtain ⟨_, _, _, h⟩ := t.raiseAlarm_eq k
  rw [h]

/-- The conditions of a group that are gone read the Alarm Table alone. -/
theorem alarmsGone_acts (g : AlarmKey → Bool) (ha : t.alarms = s.alarms) :
    t.alarmsGone g = { t with alarms := (s.alarmsGone g).alarms, due := (t.alarmsGone g).due } := by
  rw [State.alarmsGone, State.alarmsGone, ha]

/-! ### ENROL -/

/-- The lowest free number is free, and every number before it is taken. -/
theorem lowestFree_eq {α : Type} (m : Table α) {lo k : Nat} (below : lo + n > k) (above : lo ≤ k) (free : m.get k = none)
    (first : ∀ j, lo ≤ j → j < k → (m.get j).isSome) : m.lowestFree lo n = some k := by
  induction n generalizing lo with
  | zero => omega
  | succ n ih =>
    unfold Table.lowestFree
    by_cases here : lo = k
    · subst here
      simp [free]
    · rw [if_pos (first lo (le_refl lo) (by omega))]
      exact ih (by omega) (by omega) fun j h1 => first j (by omega)

/-- A table with every number taken has no free one. -/
theorem lowestFree_none {α : Type} (m : Table α) {lo : Nat} (all : ∀ j, lo ≤ j → j < lo + n → (m.get j).isSome) :
    m.lowestFree lo n = none := by
  induction n generalizing lo with
  | zero => rfl
  | succ n ih =>
    unfold Table.lowestFree
    rw [if_pos (all lo (le_refl lo) (by omega))]
    exact ih fun j h1 h2 => all j (by omega) (by omega)

/-- The slot of an ENROL that names one, or names 0 and takes the lowest free one (R6). -/
theorem slot_ok {k : Nat} (h1 : 1 ≤ n) (h2 : n ≤ 4095) (free : t.bt.bearers.get n = none)
    (h : k = n ∨ (k = 0 ∧ ∀ m, 1 ≤ m → m < n → (t.bt.bearers.get m).isSome)) : t.slot k = .ok n := by
  obtain rfl | ⟨rfl, first⟩ := h
  · rw [State.slot, if_neg (by omega), if_neg (by simp [free])]
  · rw [State.slot, if_pos rfl, lowestFree_eq _ (by simp only [Config.maxBearers]; omega) h1 free first]

theorem slot_full (all : ∀ m, 1 ≤ m → m ≤ 4095 → (t.bt.bearers.get m).isSome) : t.slot 0 = .error .full := by
  rw [State.slot, if_pos rfl, lowestFree_none _ fun j h1 h2 => all j h1 (by simp only [Config.maxBearers] at h2; omega)]

theorem slot_taken (h0 : n ≠ 0) (h : (t.bt.bearers.get n).isSome) : t.slot n = .error .state := by
  rw [State.slot, if_neg h0, if_pos h]

/-- The class of an ENROL in range is one of the five. -/
theorem class?_of_inRange {a : EnrolArgs} (h : EnrolInRange a) : ∃ cls, class? a.cls = some cls := by
  have ok := (enrol_formatOk_iff a).mpr h
  refine Option.isSome_iff_exists.mp ?_
  simp only [EnrolArgs.formatOk, Bool.and_eq_true] at ok
  tauto

section Bodies

variable {a : EnrolArgs} {cls : Sys2Proof.Class}

theorem enrolBody_format (h : ¬EnrolInRange a) (t : State) : enrolBody a t = refuse .format t := by
  have no : a.formatOk = false := by simpa [← enrol_formatOk_iff] using h
  rw [enrolBody, no]

theorem enrolBody_noSlot {c : AnswerCode} (h : EnrolInRange a) (hs : t.slot a.bearer = .error c) :
    enrolBody a t = refuse c t := by
  obtain ⟨cls, hcls⟩ := class?_of_inRange h
  simp only [enrolBody, (enrol_formatOk_iff a).mpr h, hcls, hs]

theorem enrolBody_conflict (h : EnrolInRange a) (hs : t.slot a.bearer = .ok n) (hi : (t.bt.index.get a.token.toNat).isSome) :
    enrolBody a t = refuse .conflict t := by
  obtain ⟨cls, hcls⟩ := class?_of_inRange h
  simp only [enrolBody, (enrol_formatOk_iff a).mpr h, hcls, hs, if_pos hi]

theorem enrolBody_fills (h : EnrolInRange a) (hcls : class? a.cls = some cls) (hs : t.slot a.bearer = .ok n)
    (hi : t.bt.index.get a.token.toNat = none) :
    enrolBody a t =
      ({ t with
          bt :=
            { t.bt with
              bearers := t.bt.bearers.set n (EnrolArgs.record a cls), index := t.bt.index.set a.token.toNat n } },
        .ok (.enrolled n (clampInterval a.interval))) := by
  simp only [enrolBody, (enrol_formatOk_iff a).mpr h, hcls, hs, hi, Option.isSome_none, Bool.false_eq_true, if_false]
  rfl

/-- An ENROL is served by the operands that its payload spells (R170). -/
theorem exec_enrol (w : Waits s f rest 0x10) (hd : EnrolArgs.decode f.payload = some a) :
    exec (.enrol (some a)) s = serve 0x10 (fun _ t => enrolBody a t) s := by
  rw [serve_of_waits w rfl]
  have hc := w.code
  have head : f.payload.headD 0 = 0x10 := by cases hp : f.payload <;> simp_all
  show serveWhen _ _ s = _
  rw [serveWhen_taken _ _ _ f rest w.head (by simp [enrolMatches, hasCode, hc, hd]) (canTake_of_waits w), head]
  rfl

theorem exec_enrol_refused {c : AnswerCode} (w : Waits s f rest 0x10) (hd : EnrolArgs.decode f.payload = some a)
    (hb : enrolBody a (taken s rest) = refuse c (taken s rest)) :
    exec (.enrol (some a)) s = .next (refused s f rest 0x10 c) := by
  rw [exec_enrol w hd]
  exact serve_refused w rfl _ c hb

/-- An accepted ENROL (R6). -/
theorem exec_enrol_fills (w : Waits s f rest 0x10) (hd : EnrolArgs.decode f.payload = some a) (h : EnrolInRange a)
    (hcls : class? a.cls = some cls) (h1 : 1 ≤ n) (h2 : n ≤ 4095) (free : s.bt.bearers.get n = none)
    (hs : a.bearer = n ∨ (a.bearer = 0 ∧ ∀ m, 1 ≤ m → m < n → (s.bt.bearers.get m).isSome))
    (hi : s.bt.index.get a.token.toNat = none) :
    Accepted (exec (.enrol (some a)) s)
      { taken s rest with
        bt :=
          { s.bt with
            bearers := s.bt.bearers.set n (EnrolArgs.record a cls), index := s.bt.index.set a.token.toNat n } }
      f 0x10 (.enrolled n (clampInterval a.interval)) .nothing := by
  rw [exec_enrol w hd]
  exact serve_accepted w rfl (fun _ t => enrolBody a t) _ (.ok (.enrolled n (clampInterval a.interval)))
    (enrolBody_fills (t := taken s rest) h hcls (slot_ok h1 h2 free hs) hi) rfl rfl rfl

end Bodies

/-! ### The octets of an ENROL -/

/-- Five octets of a token code, joined again (R4). -/
theorem token_octets (k : Token) :
    (k >>> 32).setWidth 8 ++ (k >>> 24).setWidth 8 ++ (k >>> 16).setWidth 8 ++ (k >>> 8).setWidth 8 ++ k.setWidth 8 = k := by
  apply BitVec.eq_of_getElem_eq
  intro i hi
  simp only [BitVec.getElem_append, BitVec.getElem_setWidth, BitVec.getLsbD_ushiftRight, BitVec.getLsbD_eq_getElem hi]
  split
  · exact BitVec.getLsbD_eq_getElem hi
  · split
    · rw [show 8 + (i - 8) = i by omega, BitVec.getLsbD_eq_getElem hi]
    · split
      · rw [show 16 + (i - 8 - 8) = i by omega, BitVec.getLsbD_eq_getElem hi]
      · split
        · rw [show 24 + (i - 8 - 8 - 8) = i by omega, BitVec.getLsbD_eq_getElem hi]
        · rw [show 32 + (i - 8 - 8 - 8 - 8) = i by omega, BitVec.getLsbD_eq_getElem hi]

/-- Two octets of a PIN, joined again (R13). -/
theorem pin_octets (p : PinBcd) : (p >>> 8).setWidth 8 ++ p.setWidth 8 = p := by
  apply BitVec.eq_of_getElem_eq
  intro i hi
  simp only [BitVec.getElem_append, BitVec.getElem_setWidth, BitVec.getLsbD_ushiftRight]
  split
  · exact BitVec.getLsbD_eq_getElem hi
  · rw [show 8 + (i - 8) = i by omega, BitVec.getLsbD_eq_getElem hi]

/-- A number below 65536 is spelt by two octets, low octet first. -/
theorem number_octets (h : n < 65536) : (BitVec.ofNat 8 n).toNat + 256 * (BitVec.ofNat 8 (n / 256)).toNat = n := by
  simp only [BitVec.toNat_ofNat]
  omega

theorem octet_number (h : n < 256) : (BitVec.ofNat 8 n).toNat = n := Nat.mod_eq_of_lt h

/-- An ENROL's payload spells what it was made from (R170). -/
theorem decode_encode (a : EnrolArgs) (hb : a.bearer < 65536) (he : a.escortLimit < 256) (hi : a.interval < 256) :
    EnrolArgs.decode a.encode = some a := by
  obtain ⟨bearer, token, cls, pin, ⟨fy, fm, fd⟩, until_, escort, interval⟩ := a
  simp only [EnrolArgs.encode, EnrolArgs.decode, number_octets hb, octet_number he, octet_number hi, token_octets, pin_octets]
  cases pin <;> cases until_ <;> simp

/-- The answer to an ENROL in octets (R170). -/
theorem enrolled_octets {i : Nat} (hn : n < 65536) (hi : i < 256) :
    ∃ low high interval : Octet, Contents.octets (.enrolled n i) = [low, high, interval] ∧
      low.toNat + 256 * high.toNat = n ∧ interval.toNat = i :=
  ⟨_, _, _, rfl, number_octets hn, octet_number hi⟩

/-- Settles O3: the slot of an ENROL is the named one or the lowest free one, and each check refuses before the next. -/
theorem enrolFillsAFreeSlotOrRefuses : Obligations.EnrolFillsAFreeSlotOrRefuses :=
  ⟨fun _ _ _ _ _ _ w hd h hcls h1 h2 free hs hi => exec_enrol_fills w hd h hcls h1 h2 free hs hi,
    fun s _ rest _ w hd =>
      ⟨fun h => exec_enrol_refused w hd (enrolBody_format h _),
        fun h h0 all => exec_enrol_refused w hd (enrolBody_noSlot h (h0 ▸ slot_full (t := taken s rest) all)),
        fun h h0 hb => exec_enrol_refused w hd (enrolBody_noSlot h (slot_taken (t := taken s rest) h0 hb)),
        fun h h0 hb hi => exec_enrol_refused w hd (enrolBody_conflict (t := taken s rest) h
          (show State.slot _ _ = _ by rw [State.slot, if_neg h0, if_neg (by simp [taken, hb])]) hi)⟩,
    decode_encode, fun _ _ => enrolled_octets⟩

end Sys2Proof.Proofs.BearerRequests
end

section
/-! PROOFS. AMEND, SUSPEND, REINSTATE, REVOKE and CHAIN WRITE (R7 to R10, R12, R13, R16, R17): what the body of each does to a live
record, and the checks that refuse it. -/
namespace Sys2Proof.Proofs.BearerRecords

open Sys2Proof Sys2Proof.Machine Sys2Proof.Safety Sys2Proof.Laws Sys2Proof.Proofs.RecordReads Sys2Proof.Proofs.Reads
open Sys2Proof.Proofs.BearerRequests Sys2Proof.Proofs.Acts

variable {s t : State} {f : RequestFrame} {rest : List RequestFrame} {b : Nat} {r : Bearer}

/-! ### Records that a request names -/

theorem withBearer_free (t : State) (body : Bearer → State × Reply) (h1 : 1 ≤ b) (h2 : b ≤ 4095)
    (hr : t.bt.bearers.get b = none) : withBearer b t body = refuse .notFound t := by
  rw [withBearer, if_pos ((bearerValid_iff b).mpr ⟨h1, h2⟩), hr]

/-! ### AMEND -/

section Amend

variable {a : AmendArgs}

theorem amend_names (h : AmendInRange a) : 1 ≤ a.bearer ∧ a.bearer ≤ 4095 := by
  have ok := (amend_formatOk_iff a).mpr h
  simp only [AmendArgs.formatOk, Bool.and_eq_true] at ok
  exact (bearerValid_iff _).mp (by tauto)

theorem amendBody_format (h : ¬AmendInRange a) (t : State) : amendBody a t = refuse .format t := by
  have no : a.formatOk = false := by simpa [← amend_formatOk_iff] using h
  simp [amendBody, no]

/-- An AMEND in range of a live record goes to the checks on the record it would leave (R7). -/
theorem amendBody_live (h : AmendInRange a) (hr : t.bt.bearers.get a.bearer = some r) :
    amendBody a t =
      if (AmendArgs.apply a r).datesInOrder = false then refuse .format t
      else if r.state = .retiring then refuse .state t
      else if (AmendArgs.apply a r).token ≠ r.token ∧ (t.bt.index.get (AmendArgs.apply a r).token.toNat).isSome then
        refuse .conflict t
      else
        ({ t with
            bt :=
              { t.bt with
                bearers := t.bt.bearers.set a.bearer (AmendArgs.apply a r)
                index := (t.bt.index.erase r.token.toNat).set (AmendArgs.apply a r).token.toNat a.bearer } },
          .ok (.amended (AmendArgs.apply a r).interval r.state)) := by
  rw [amendBody, (amend_formatOk_iff a).mpr h]
  refine (withBearer_live t _ (amend_names h).1 (amend_names h).2 hr).trans ?_
  simp only [Bool.not_eq_true']
  rfl

theorem amendBody_free (h : AmendInRange a) (hr : t.bt.bearers.get a.bearer = none) :
    amendBody a t = refuse .notFound t := by
  rw [amendBody, (amend_formatOk_iff a).mpr h]
  exact withBearer_free t _ (amend_names h).1 (amend_names h).2 hr

/-- An accepted AMEND (R7). -/
theorem exec_amend (w : WaitsWith s f rest 0x11) (h : AmendInRange a) (hr : s.bt.bearers.get a.bearer = some r)
    (live : r.state ≠ .retiring) (dates : (AmendArgs.apply a r).datesInOrder = true)
    (token : (AmendArgs.apply a r).token = r.token ∨ s.bt.index.get (AmendArgs.apply a r).token.toNat = none) :
    Accepted (exec (.amend (some a)) s)
      { taken s rest with
        bt :=
          { s.bt with
            bearers := s.bt.bearers.set a.bearer (AmendArgs.apply a r)
            index := (s.bt.index.erase r.token.toNat).set (AmendArgs.apply a r).token.toNat a.bearer } }
      f 0x11 (.amended (AmendArgs.apply a r).interval r.state) .nothing := by
  refine serveFields_accepted w rfl a amendBody (r := .ok (.amended (AmendArgs.apply a r).interval r.state)) ?_ rfl rfl rfl
  rw [amendBody_live (t := taken s rest) h hr, if_neg (by simp [dates]), if_neg live, if_neg]
  · rfl
  · rintro ⟨changed, held⟩
    obtain same | free := token
    · exact changed same
    · have held : (s.bt.index.get (AmendArgs.apply a r).token.toNat).isSome := held
      simp [free] at held

/-- An AMEND of a live record that one of the checks on the record refuses (R7). -/
theorem exec_amend_refused {c : AnswerCode} (w : WaitsWith s f rest 0x11)
    (hb : amendBody a (taken s rest) = refuse c (taken s rest)) :
    exec (.amend (some a)) s = .next (refused s f rest 0x11 c) :=
  serveFields_refused w rfl a amendBody c hb

end Amend

/-! ### SUSPEND and REINSTATE -/

theorem suspendBody_live (h1 : 1 ≤ b) (h2 : b ≤ 4095) (hr : t.bt.bearers.get b = some r) :
    suspendBody b t =
      if r.state = .active then
        ((t.modBearer b fun r => { r with state := .suspended }).dropBearerContexts b, .ok .nothing)
      else refuse .state t :=
  withBearer_live t _ h1 h2 hr

theorem reinstateBody_live (h1 : 1 ≤ b) (h2 : b ≤ 4095) (hr : t.bt.bearers.get b = some r) :
    reinstateBody b t =
      if r.state = .suspended then
        ((t.modBearer b fun r => { r with state := .active, failedPin := 0 }).alarmGone (.forBearer .pinLockout b),
          .ok .nothing)
      else refuse .state t :=
  withBearer_live t _ h1 h2 hr

/-- SUSPEND of an ACTIVE record (R8). -/
theorem exec_suspend (w : WaitsWith s f rest 0x12) (h1 : 1 ≤ b) (h2 : b ≤ 4095) (hr : s.bt.bearers.get b = some r)
    (active : r.state = .active) :
    Accepted (exec (.suspend (some b)) s)
      { taken s rest with
        bt := { s.bt with bearers := s.bt.bearers.modify b fun x => { x with state := .suspended } }
        ctx := withoutBearer s b }
      f 0x12 .nothing .nothing :=
  serveFields_accepted w rfl b suspendBody (r := .ok .nothing)
    ((suspendBody_live (t := taken s rest) h1 h2 hr).trans (if_pos active)) rfl rfl rfl

/-- REINSTATE of a SUSPENDED record (R8, R13). -/
theorem exec_reinstate (w : WaitsWith s f rest 0x13) (h1 : 1 ≤ b) (h2 : b ≤ 4095) (hr : s.bt.bearers.get b = some r)
    (suspended : r.state = .suspended) :
    AcceptedWithAlarms (exec (.reinstate (some b)) s)
      { taken s rest with
        bt := { s.bt with bearers := s.bt.bearers.modify b fun x => { x with state := .active, failedPin := 0 } }
        alarms := (s.alarmGone (.forBearer .pinLockout b)).alarms }
      f 0x13 .nothing :=
  serveFields_acceptedWithAlarms w rfl b reinstateBody
    ((reinstateBody_live (t := taken s rest) h1 h2 hr).trans (if_pos suspended)) rfl rfl

/-- Settles O4: AMEND by the checks on the record it would leave, SUSPEND and REINSTATE by the record's state. -/
theorem amendSuspendAndReinstate : Obligations.AmendSuspendAndReinstate :=
  ⟨fun _ _ _ _ _ w h hr live dates token => ⟨exec_amend w h hr live dates token, rfl, rfl, rfl⟩,
    fun s _ rest _ w =>
      ⟨fun h => exec_amend_refused w (amendBody_format h _),
        fun h hr => exec_amend_refused w (amendBody_free (t := taken s rest) h hr),
        fun _ h hr =>
          have live := amendBody_live (t := taken s rest) h hr
          ⟨fun dates => exec_amend_refused w (live.trans (if_pos dates)),
            fun dates =>
              have dates := ne_of_eq_of_ne dates (by decide)
              ⟨fun retiring => exec_amend_refused w (live.trans ((if_neg dates).trans (if_pos retiring))),
                fun active changed held => exec_amend_refused w
                  (live.trans ((if_neg dates).trans ((if_neg active).trans (if_pos ⟨changed, held⟩))))⟩⟩⟩,
    fun s _ rest b r h1 h2 hr =>
      ⟨fun w =>
        ⟨exec_suspend w h1 h2 hr, fun other => serveFields_refused w rfl b suspendBody .state
          ((suspendBody_live (t := taken s rest) h1 h2 hr).trans (if_neg other))⟩,
        fun w =>
        ⟨exec_reinstate w h1 h2 hr, fun other => serveFields_refused w rfl b reinstateBody .state
          ((reinstateBody_live (t := taken s rest) h1 h2 hr).trans (if_neg other))⟩⟩⟩

/-! ### REVOKE -/

/-- A record that leaves the table with its chain (R10). -/
theorem completeRetirement_effect (hr : t.bt.bearers.get b = some r) :
    t.completeRetirement b =
      { t with
        bt :=
          { t.bt with
            bearers := t.bt.bearers.erase b
            index := t.bt.index.erase r.token.toNat
            entries := t.bt.entries.filter fun p => !(t.bt.chainOf r).contains p.1
            freeList := (t.bt.chainOf r).reverse ++ t.bt.freeList
            freeCount := t.bt.freeCount + (t.bt.chainOf r).length }
        ctx := withoutBearer t b
        alarms := (t.alarmsGone fun k => k = .forBearer .revokedInside b || k = .forBearer .pinLockout b).alarms
        due := (t.completeRetirement b).due } := by
  have free : (t.bt.giveBack (t.bt.chainOf r)).freeList = (t.bt.chainOf r).reverse ++ t.bt.freeList := giveBack_free _
  rw [← free]
  unfold State.completeRetirement
  rw [hr]
  rfl

theorem revokeBody_live (h1 : 1 ≤ b) (h2 : b ≤ 4095) (hr : t.bt.bearers.get b = some r) :
    revokeBody b t = if r.state = .retiring then refuse .state t else (t.retire b, .ok .nothing) :=
  withBearer_live t _ h1 h2 hr

/-- REVOKE of a bearer that is outside (R9, R10). -/
theorem exec_revoke_outside (w : WaitsWith s f rest 0x14) (h1 : 1 ≤ b) (h2 : b ≤ 4095) (hr : s.bt.bearers.get b = some r)
    (live : r.state ≠ .retiring) (outside : s.entryOf b = none) :
    AcceptedWithAlarms (exec (.revoke (some b)) s)
      { taken s rest with
        bt :=
          { s.bt with
            bearers := s.bt.bearers.erase b
            index := s.bt.index.erase r.token.toNat
            entries := s.bt.entries.filter fun p => !(s.bt.chainOf r).contains p.1
            freeList := (s.bt.chainOf r).reverse ++ s.bt.freeList
            freeCount := s.bt.freeCount + (s.bt.chainOf r).length }
        ctx := withoutBearer s b
        alarms := (s.alarmsGone fun k => k = .forBearer .revokedInside b || k = .forBearer .pinLockout b).alarms }
      f 0x14 .nothing := by
  have retires : (taken s rest).retire b = (taken s rest).completeRetirement b := by
    have outside : (taken s rest).entryOf b = none := outside
    rw [State.retire, outside]
  have effect := completeRetirement_effect (t := taken s rest) hr
  refine serveFields_acceptedWithAlarms w rfl b revokeBody
    ((revokeBody_live (t := taken s rest) h1 h2 hr).trans (if_neg live)) ?_ ?_
  · rw [retires, effect]
    rfl
  · rw [retires]
    exact effect

/-- REVOKE of a bearer that is inside (R9, R70). -/
theorem exec_revoke_inside (w : WaitsWith s f rest 0x14) (h1 : 1 ≤ b) (h2 : b ≤ 4095) (hr : s.bt.bearers.get b = some r)
    {e : Nat} {o : OccEntry} (live : r.state ≠ .retiring) (inside : s.entryOf b = some (e, o)) :
    AcceptedWithAlarms (exec (.revoke (some b)) s)
      { taken s rest with
        bt := { s.bt with bearers := s.bt.bearers.modify b fun x => { x with state := .retiring } }
        roll := { s.roll with entries := s.roll.entries.modify e fun x => { x with revokedInside := true } }
        ctx := withoutBearer s b
        alarms := (s.raiseAlarm (.forBearer .revokedInside b)).alarms }
      f 0x14 .nothing := by
  let marked : State :=
    { taken s rest with
      bt := { s.bt with bearers := s.bt.bearers.modify b fun x => { x with state := .retiring } }
      roll := { s.roll with entries := s.roll.entries.modify e fun x => { x with revokedInside := true } } }
  have retires : (taken s rest).retire b =
      ({ marked with
          alarms := (s.raiseAlarm (.forBearer .revokedInside b)).alarms
          due := (marked.raiseAlarm (.forBearer .revokedInside b)).due } : State).dropBearerContexts b := by
    have inside : (taken s rest).entryOf b = some (e, o) := inside
    have raise : marked.raiseAlarm (.forBearer .revokedInside b) = _ := raiseAlarm_acts (s := s) _ rfl rfl
    rw [State.retire, inside]
    exact congrArg (fun u => State.dropBearerContexts u b) raise
  refine serveFields_acceptedWithAlarms w rfl b revokeBody
    ((revokeBody_live (t := taken s rest) h1 h2 hr).trans (if_neg live)) ?_ ?_
  · rw [retires]
    rfl
  · rw [retires]
    rfl

/-- Settles O5: a retirement completes at once outside, waits for the exit inside, and is not begun twice. -/
theorem revokeCompletesOrRetires : Obligations.RevokeCompletesOrRetires :=
  ⟨fun _ _ _ _ _ w h1 h2 hr live outside => exec_revoke_outside w h1 h2 hr live outside,
    fun s _ rest b _ w h1 h2 hr =>
      ⟨fun _ _ live inside => exec_revoke_inside w h1 h2 hr live inside,
        fun retiring => serveFields_refused w rfl b revokeBody .state
          ((revokeBody_live (t := taken s rest) h1 h2 hr).trans (if_pos retiring))⟩⟩

/-! ### CHAIN WRITE -/

section Chains

variable {a : ChainWriteArgs}

theorem chainWriteBody_format (h : ¬ChainInRange a) (t : State) : chainWriteBody a t = refuse .format t := by
  have no : ChainWriteArgs.formatOk a = false := by simpa [← chainWrite_formatOk_iff] using h
  simp [chainWriteBody, no]

theorem chainWriteBody_free (h : ChainInRange a) (hr : t.bt.bearers.get a.bearer = none) :
    chainWriteBody a t = refuse .notFound t := by
  rw [chainWriteBody, (chainWrite_formatOk_iff a).mpr h]
  exact withBearer_free t _ h.1 h.2.1 hr

/-- A CHAIN WRITE in range of a live record (R17). -/
theorem chainWriteBody_live (h : ChainInRange a) (hr : t.bt.bearers.get a.bearer = some r) :
    chainWriteBody a t =
      if r.state = .retiring then refuse .state t
      else if t.bt.freeCount + (t.bt.chainOf r).length < a.contents.length then refuse .full t
      else
        let new := (t.bt.giveBack (t.bt.chainOf r)).build a.contents
        ({ t with bt := { new.1 with bearers := t.bt.bearers.set a.bearer { r with chainHead := new.2.headD 0 } } },
          .ok (.chainTaken new.2)) := by
  rw [chainWriteBody, (chainWrite_formatOk_iff a).mpr h]
  exact withBearer_live t _ h.1 h.2.1 hr

theorem exec_chainWrite_refused {c : AnswerCode} (w : WaitsWith s f rest 0x18)
    (hb : chainWriteBody a (taken s rest) = refuse c (taken s rest)) :
    exec (.chainWrite (some a)) s = .next (refused s f rest 0x18 c) :=
  serveFields_refused w rfl a chainWriteBody c hb

end Chains

/-- A built chain holds the contents it was built from, in order (R17). -/
theorem build_contents (t : BearerTable) {cs : List PermContent} (short : cs.length ≤ t.freeList.length)
    (distinct : t.freeList.Nodup) :
    ((t.build cs).2.map fun e => ((t.build cs).1.entries.get e).map PermEntry.content) = cs.map some := by
  have keys : (t.build cs).2 = (linkChain (t.freeList.take cs.length) cs).map Prod.fst :=
    (linkChain_keys (build_length short)).symm
  have stored := build_stored short distinct
  calc ((t.build cs).2.map fun e => ((t.build cs).1.entries.get e).map PermEntry.content)
      = (linkChain (t.freeList.take cs.length) cs).map fun p => some p.2.content := by
        rw [keys, List.map_map]
        refine List.map_congr_left fun p hp => ?_
        rw [Function.comp_apply, stored p hp]
        rfl
    _ = cs.map some := by
        conv_rhs => rw [← linkChain_contents (build_length short)]
        rw [List.map_map]
        rfl

/-- Settles O7: the checks of CHAIN WRITE in their order, and the reading of a chain that has been built. -/
theorem chainWriteReplacesTheChain : Obligations.ChainWriteReplacesTheChain := by
  refine ⟨fun s f rest a w => ⟨fun h => ?_, fun h hr => ?_⟩, fun s f rest a r w h hr => ?_,
    fun t cs h16 short distinct no zero => ?_⟩
  · exact exec_chainWrite_refused w (chainWriteBody_format h _)
  · exact exec_chainWrite_refused w (chainWriteBody_free (t := taken s rest) h hr)
  · have live := chainWriteBody_live (t := taken s rest) h hr
    refine ⟨fun active fits => ?_, fun active full => ?_, fun retiring => ?_⟩
    · exact serveFields_accepted w rfl a chainWriteBody (r := .ok (.chainTaken _))
        (live.trans ((if_neg active).trans (if_neg (Nat.not_lt.mpr fits)))) rfl rfl rfl
    · exact exec_chainWrite_refused w (live.trans ((if_neg active).trans (if_pos full)))
    · exact exec_chainWrite_refused w (live.trans (if_pos retiring))
  · exact ⟨rfl, rfl, build_chain short distinct no zero h16, build_contents t short distinct,
      fun _ => build_other short distinct⟩

end Sys2Proof.Proofs.BearerRecords
end

section
/-! PROOFS. Three layers that the requests of tier 2 share: what a state keeps of the one that its event has left, when the event is ended and
answered (`Leaves`); the one-shot commands placed at stations (R151); and the evaluation of the schedules, with all that hangs on it
(R30, R34 to R36, R84). -/
namespace Sys2Proof.Proofs.Evaluation

open Sys2Proof Sys2Proof.Machine Sys2Proof.Safety Sys2Proof.Laws Sys2Proof.Proofs.RecordReads Sys2Proof.Proofs.Reads
open Sys2Proof.Proofs.Acts

variable {s t u : State} {f : RequestFrame} {rest : List RequestFrame} {code : Octet} {n : Nat} {α : Type}

/-! ### What the end of an event leaves -/

/-- The blocks of `t` are as the event has left them in `u`, but for the Alarm Table, the transmit queue and the check value. -/
structure Leaves (u t : State) : Prop where
  bt : t.bt = u.bt
  clk : t.clk = u.clk
  ctx : t.ctx = u.ctx
  roll : t.roll = u.roll
  doors : t.doors = u.doors
  zones : t.zones = u.zones
  bank : t.bank = u.bank
  loop : t.loop = u.loop
  p2 : t.p2 = u.p2
  lines : t.lines = u.lines
  profiles : t.sup.profiles = u.sup.profiles
  settled : t.due = []

theorem finish_leaves (o u : State) : Leaves u (State.finish o u) := by
  obtain ⟨_, _, _, _, _, _, h⟩ := State.finish_eq o u
  rw [h]
  exact ⟨rfl, rfl, rfl, rfl, rfl, rfl, rfl, rfl, rfl, rfl, rfl, rfl⟩

/-- A request with fields whose body changes nothing of port 1 and of the waiting requests leaves what the body leaves, and is answered OK
behind its notices (R167, R170). -/
theorem serveFields_leaves (w : WaitsWith s f rest code) (hn : code = BitVec.ofNat 8 n) (a : α)
    (body : α → State → State × Reply) {x : Contents} (hb : body a (taken s rest) = (u, .ok x))
    (hp : u.p1 = (taken s rest).p1) :
    ∃ t, serveFields n (some a) body s = .next t ∧ Leaves u t ∧ t.p1.requests = rest ∧ AnsweredOk s t f code x := by
  refine ⟨_, serveFields_of_waits w hn a body, ?_⟩
  unfold State.carryOut
  dsimp only
  rw [hb]
  obtain ⟨g, h, q, m, v, grown, hf⟩ := State.finish_eq (taken s rest) u
  rw [hf, answer_eq _ _ w.addressed]
  rw [hp] at grown ⊢
  exact ⟨⟨rfl, rfl, rfl, rfl, rfl, rfl, rfl, rfl, rfl, rfl, rfl, rfl⟩, rfl, q, grown, rfl⟩

/-! ### One-shot commands at stations -/

/-- A command placed at a station that is not lost changes its pending commands alone (R151). -/
theorem placeAt_station (s : State) (at_ : Option Addr) (g : Slots → Slots) (a : Addr) :
    (s.placeAt at_ g).loop.stations[a] =
      if at_ = some a ∧ s.loop.stations[a].lost = false then { s.loop.stations[a] with slots := g s.loop.stations[a].slots }
      else s.loop.stations[a] := by
  cases at_ with
  | none => simp [State.placeAt]
  | some b =>
    unfold State.placeAt
    dsimp only
    by_cases same : b = a
    · subst same
      cases s.loop.stations[b].lost <;> simp
    · have other : (b : Nat) ≠ a := fun h => same (Fin.ext h)
      split <;> simp [other, same]

theorem placeAt_loop (s : State) (at_ : Option Addr) (g : Slots → Slots) :
    (s.placeAt at_ g).loop = { s.loop with stations := (s.placeAt at_ g).loop.stations } := by
  unfold State.placeAt
  split
  · rfl
  · split <;> rfl

theorem placeAt_stationBase (s : State) (at_ : Option Addr) (g : Slots → Slots) (a : Addr) :
    stationBase (s.placeAt at_ g) a = stationBase s a := by
  unfold stationBase
  rw [placeAt_station]
  split <;> rfl

/-- What a station is for is not among its pending commands (R149). -/
theorem stationOf_congr (h : ∀ a, stationBase t a = stationBase s a) (ty : StationType) (k : Nat) :
    t.stationOf ty k = s.stationOf ty k := by
  unfold State.stationOf
  congr 1
  funext a
  have ha := h a
  simp only [stationBase, Prod.mk.injEq] at ha
  obtain ⟨hty, hroom, -⟩ := ha
  rw [hty, hroom]

theorem lost_congr {a : Addr} (h : stationBase t a = stationBase s a) : t.loop.stations[a].lost = s.loop.stations[a].lost := by
  simp only [stationBase, Prod.mk.injEq] at h
  obtain ⟨-, -, hstate, -⟩ := h
  unfold Station.lost
  rw [hstate]

theorem not_lost {x : Station} (missing : x.state ≠ .missing) (wrong : x.state ≠ .wrongType) : x.lost = false := by
  simp [Station.lost, missing, wrong]

/-! ### Tones -/

/-- What tones placed in a list of strongrooms do to the stations: the check-in station of each, unless it is lost, is given the tone. -/
structure TonesGiven (s t : State) (rs : List Room) (tone : Tone) : Prop where
  polls : t.loop = { s.loop with stations := t.loop.stations }
  base : ∀ a, stationBase t a = stationBase s a
  given : ∀ r ∈ rs, ∀ a, s.stationOf .checkIn (num r) = some a → s.loop.stations[a].lost = false →
    t.loop.stations[a].slots.tone = some ⟨tone, false⟩
  kept : ∀ a, (∀ r ∈ rs, s.stationOf .checkIn (num r) ≠ some a) → t.loop.stations[a] = s.loop.stations[a]

theorem placeTone_same {a : Addr} {r : Room} (tone : Tone) (at_ : s.stationOf .checkIn (num r) = some a)
    (here : s.loop.stations[a].lost = false) : (s.placeTone r tone).loop.stations[a].slots.tone = some ⟨tone, false⟩ := by
  rw [State.placeTone, placeAt_station, if_pos ⟨at_, here⟩]

theorem placeTone_other {a : Addr} {r : Room} (tone : Tone) (elsewhere : s.stationOf .checkIn (num r) ≠ some a) :
    (s.placeTone r tone).loop.stations[a] = s.loop.stations[a] := by
  rw [State.placeTone, placeAt_station, if_neg fun h => elsewhere h.1]

theorem placeTones_given (tone : Tone) (rs : List Room) (s : State) :
    TonesGiven s (rs.foldl (fun (t : State) r => t.placeTone r tone) s) rs tone := by
  induction rs generalizing s with
  | nil => exact ⟨rfl, fun _ => rfl, by simp, fun _ _ => rfl⟩
  | cons r rs ih =>
    have base (a : Addr) : stationBase (s.placeTone r tone) a = stationBase s a := placeAt_stationBase s _ _ a
    obtain ⟨polls, base', given, kept⟩ := ih (s.placeTone r tone)
    rw [List.foldl_cons]
    refine ⟨by rw [polls, State.placeTone, placeAt_loop], fun a => (base' a).trans (base a), fun q hq a at_ here => ?_, fun a elsewhere => ?_⟩
    · have at' : (s.placeTone r tone).stationOf .checkIn (num q) = some a := by rwa [stationOf_congr base]
      have here' : (s.placeTone r tone).loop.stations[a].lost = false := by rwa [lost_congr (base a)]
      by_cases later : ∃ q ∈ rs, (s.placeTone r tone).stationOf .checkIn (num q) = some a
      · obtain ⟨q, hq, at_⟩ := later
        exact given q hq a at_ here'
      · have last : q = r := by
          rcases List.mem_cons.mp hq with h | h
          · exact h
          · exact absurd ⟨q, h, at'⟩ later
        rw [kept a fun q hq at_ => later ⟨q, hq, at_⟩]
        exact placeTone_same tone (last ▸ at_) here
    · rw [kept a fun q hq => by rw [stationOf_congr base]; exact elsewhere q (List.mem_cons_of_mem _ hq)]
      exact placeTone_other tone (elsewhere r List.mem_cons_self)

/-- The closing tones go to the Occupied strongrooms (R36). -/
theorem closingTones_given (s : State) : TonesGiven s s.closingTones (rooms.filter s.occupied) .closing :=
  placeTones_given .closing _ s

/-! ### The site state -/

/-- What a change of the site state does to the stations: the closing tones on an entry to CLOSING, else nothing (R36). -/
structure TonesFollow (s t : State) : Prop where
  entered : s.clk.siteState ≠ .closing → t.clk.siteState = .closing → TonesGiven s t (rooms.filter s.occupied) .closing
  otherwise : s.clk.siteState = .closing ∨ t.clk.siteState ≠ .closing → t.loop = s.loop

theorem TonesFollow.refl (s : State) : TonesFollow s s :=
  ⟨fun no yes => absurd yes no, fun _ => rfl⟩

theorem tonesGiven_congr {rs : List Room} {tone : Tone} (h : TonesGiven s t rs tone) (same : u.loop = t.loop) :
    TonesGiven s u rs tone := by
  obtain ⟨polls, base, given, kept⟩ := h
  exact ⟨by rw [same]; exact polls, fun a => by rw [← base a, stationBase, same]; rfl, by rw [same]; exact given, by rw [same]; exact kept⟩

theorem enterSite_tones (s : State) (st : SiteState) : TonesFollow s (s.enterSite st) := by
  have site : (s.enterSite st).clk.siteState = st := by rw [State.enterSite_clk]
  constructor
  · intro old new
    rw [site] at new
    subst new
    unfold State.enterSite
    rw [if_neg old]
    let entered : State := { s with clk := { s.clk with siteState := .closing, graceTimer := some (60 * s.clk.grace) } }
    obtain ⟨polls, base, given, kept⟩ := closingTones_given entered
    exact tonesGiven_congr (t := entered.closingTones) ⟨polls, base, given, kept⟩ (by simp [entered])
  · rw [site]
    intro h
    unfold State.enterSite
    split
    · rfl
    · next changed =>
      have not : st ≠ .closing := by
        rintro rfl
        exact h.elim changed fun no => no rfl
      simp [not]

theorem siteOpens_tones (s : State) : TonesFollow s s.siteOpens := by
  let lapsed : State := if s.clk.override = .holdOpen then { s with clk := { s.clk with override := .noOverride } } else s
  have loop : lapsed.loop = s.loop := by unfold lapsed; split <;> rfl
  have site : lapsed.clk.siteState = s.clk.siteState := by unfold lapsed; split <;> rfl
  have still : TonesFollow s lapsed := ⟨fun no yes => absurd (site ▸ yes) no, fun _ => loop⟩
  have opens : TonesFollow s (lapsed.enterSite .openHours) := by
    have closed : (lapsed.enterSite .openHours).clk.siteState ≠ .closing := by rw [State.enterSite_clk]; nofun
    exact ⟨fun _ yes => absurd yes closed, fun _ => ((enterSite_tones lapsed _).otherwise (.inr closed)).trans loop⟩
  show TonesFollow s (match lapsed.clk.siteState with
    | .openHours => lapsed
    | .closing => lapsed.enterSite .openHours
    | .afterHours => if lapsed.clk.override = .forceAfterHours then lapsed else lapsed.enterSite .openHours)
  split
  · exact still
  · exact opens
  · split
    · exact still
    · exact opens

theorem siteFollows_tones (s : State) (before : Bool) : TonesFollow s (s.siteFollows before) := by
  unfold State.siteFollows
  split
  · exact siteOpens_tones s
  · unfold State.siteCloses
    split
    · exact enterSite_tones s _
    · exact .refl s
  · exact .refl s

/-! ### Time locks -/

/-- A door with its time lock derived to a value (R84). -/
def locked (d : Door) (lock : Bool) : Door :=
  { d with
    timeLock := lock
    state :=
      match d.state, lock with
      | .secured, true => .timeLocked
      | .timeLocked, false => .secured
      | st, _ => st }

theorem deriveTimeLock_door (s : State) (r j : Room) :
    (s.deriveTimeLock r).doors[j] = if r = j then locked s.doors[j] (s.timeLockOf j) else s.doors[j] := by
  show (s.doors.set r (locked s.doors[r] (s.timeLockOf r)))[j] = _
  by_cases same : r = j
  · subst same
    rw [if_pos rfl, vset_same]
  · rw [if_neg same, vset_other _ _ same]

theorem deriveTimeLocks_door (rs : List Room) (once : rs.Nodup) (s : State) (j : Room) :
    (rs.foldl State.deriveTimeLock s).doors[j] = if j ∈ rs then locked s.doors[j] (s.timeLockOf j) else s.doors[j] := by
  induction rs generalizing s with
  | nil => simp
  | cons r rs ih =>
    obtain ⟨new, once⟩ := List.nodup_cons.mp once
    rw [List.foldl_cons, ih once, deriveTimeLock_door]
    have lock : (s.deriveTimeLock r).timeLockOf j = s.timeLockOf j := rfl
    by_cases same : r = j
    · subst same
      simp [new]
    · simp [lock, same, Ne.symm same]

/-! ### An evaluation -/

/-- What an evaluation finds: the schedules in force as before the event, the site state and its settings as the event leaves them in `c`, and
doors, stations and roll lists whose state the event has not changed. -/
structure BeforeEvaluation (s u : State) (c : SiteClock) : Prop where
  inForce : u.clk.inForce = s.clk.inForce
  state : u.clk.siteState = s.clk.siteState
  site : (c.siteState, c.override, c.graceTimer, c.grace) = (u.clk.siteState, u.clk.override, u.clk.graceTimer, u.clk.grace)
  stations : u.loop.stations = s.loop.stations
  doors : ∀ r : Room, u.doors[r].timeLock = s.doors[r].timeLock ∧ u.doors[r].state = s.doors[r].state
  profiles : u.sup.profiles = s.sup.profiles
  rooms : u.roll.rooms = s.roll.rooms

/-- The in-force table filled, before anything follows it. -/
def inForceFilled (s : State) : State := { s with clk := { s.clk with inForce := vgen s.evaluateSchedule } }

/-- The strongrooms whose time-lock schedule changes its entry at an evaluation. -/
def relocked (s : State) : List Room :=
  rooms.filter fun r => s.clk.inForce[s.sup.profiles[r].timeLock] ≠ (vgen s.evaluateSchedule)[s.sup.profiles[r].timeLock]

theorem evaluate_eq (s : State) (before : Bool) :
    s.evaluate before = (relocked s).foldl State.deriveTimeLock ((inForceFilled s).siteFollows before) := by
  have profiles : ((inForceFilled s).siteFollows before).sup = s.sup := by simp [inForceFilled]
  show ((rooms.filter fun r =>
      s.clk.inForce[((inForceFilled s).siteFollows before).sup.profiles[r].timeLock] ≠
        (vgen s.evaluateSchedule)[((inForceFilled s).siteFollows before).sup.profiles[r].timeLock]).foldl
    State.deriveTimeLock ((inForceFilled s).siteFollows before)) = _
  simp only [profiles, relocked]

theorem evaluate_loop (s : State) (before : Bool) : (s.evaluate before).loop = ((inForceFilled s).siteFollows before).loop := by
  rw [evaluate_eq, foldl_loop _ (by simp)]

theorem evaluate_clk (s : State) (before : Bool) : (s.evaluate before).clk = ((inForceFilled s).siteFollows before).clk := by
  rw [evaluate_eq, foldl_clk _ (by simp)]

/-- An evaluation changes nothing of the polls (R36). -/
theorem evaluate_polls (s : State) (before : Bool) :
    (s.evaluate before).loop = { s.loop with stations := (s.evaluate before).loop.stations } := by
  have tones := siteFollows_tones (inForceFilled s) before
  rw [evaluate_loop]
  by_cases still : s.clk.siteState = .closing ∨ ((inForceFilled s).siteFollows before).clk.siteState ≠ .closing
  · rw [tones.otherwise still]
    rfl
  · push Not at still
    exact (tones.entered still.1 still.2).polls

/-- The site state follows the site schedule at an evaluation (R34, R35). -/
theorem evaluate_site (s : State) (before : Bool) :
    ((s.evaluate before).clk.siteState, (s.evaluate before).clk.override, (s.evaluate before).clk.graceTimer) =
      followed s.clk before (siteIsOpen (s.evaluate before).clk) := by
  rw [evaluate_clk, State.siteFollows_site]
  obtain ⟨_, _, _, h⟩ := (inForceFilled s).siteFollows_clk before
  have opens : siteIsOpen ((inForceFilled s).siteFollows before).clk = (inForceFilled s).siteInForce := by rw [h]; rfl
  rw [opens]
  rfl

/-- What the evaluation's table answers depends on the schedules, the holidays and the reading of the clock alone. -/
theorem evaluateSchedule_of (hs : t.bt.schedules = s.bt.schedules) (hh : t.bt.holidays = s.bt.holidays)
    (hc : reading t.clk = reading s.clk) (ht : t.clk.holidayToday = s.clk.holidayToday) :
    t.evaluateSchedule = s.evaluateSchedule := by
  funext i
  simp only [reading, Prod.mk.injEq] at hc
  obtain ⟨hdate, htime, hday, hset⟩ := hc
  simp only [State.evaluateSchedule, hs, hh, hdate, htime, hday, hset, ht]

theorem evaluate_evaluated (s : State) (before : Bool) : Evaluated (s.evaluate before) := by
  obtain ⟨_, _, _, h⟩ := s.evaluate_clk before
  have same : (s.evaluate before).evaluateSchedule = s.evaluateSchedule :=
    evaluateSchedule_of (by simp) (by simp) (by rw [h]; rfl) (by rw [h])
  intro i
  rw [same, h]
  simp

/-- A door after an evaluation (R84). -/
theorem evaluate_door (s : State) (before : Bool) (j : Room) :
    (s.evaluate before).doors[j] =
      if j ∈ relocked s then locked s.doors[j] ((inForceFilled s).timeLockOf j) else s.doors[j] := by
  have once : (relocked s).Nodup := (fins_nodup 16).filter _
  rw [evaluate_eq, deriveTimeLocks_door _ once]
  have doors : ((inForceFilled s).siteFollows before).doors = s.doors := by simp [inForceFilled]
  have lock : ((inForceFilled s).siteFollows before).timeLockOf j = (inForceFilled s).timeLockOf j := by
    obtain ⟨_, _, _, h⟩ := (inForceFilled s).siteFollows_clk before
    simp [State.timeLockOf, h]
  rw [doors, lock]

theorem followed_congr {c d : SiteClock} (h : (c.siteState, c.override, c.graceTimer, c.grace) =
    (d.siteState, d.override, d.graceTimer, d.grace)) (before after : Bool) : followed c before after = followed d before after := by
  simp only [Prod.mk.injEq] at h
  obtain ⟨hstate, hover, htimer, hgrace⟩ := h
  unfold followed
  rw [hstate, hover, htimer, hgrace]

/-- An evaluation hands on all that it changes (R30). -/
theorem evaluate_handedOn {c : SiteClock} (h : BeforeEvaluation s u c) {before : Bool} (hb : before = siteIsOpen s.clk) :
    EvaluationHandedOn s (u.evaluate before) c := by
  have tones := siteFollows_tones (inForceFilled u) before
  have loop := evaluate_loop u before
  have clk := evaluate_clk u before
  have base (a : Addr) : stationBase (inForceFilled u) a = stationBase s a := by
    show stationBase u a = _
    unfold stationBase
    rw [h.stations]
  have occupied (r : Room) : (inForceFilled u).occupied r = s.occupied r := by
    show u.occupied r = _
    unfold State.occupied State.headCount
    rw [h.rooms]
  constructor
  case evaluated => exact evaluate_evaluated u before
  case site => rw [evaluate_site, followed_congr h.site, hb]
  case tones =>
    intro old new r a hr at_ missing wrong
    rw [clk] at new
    rw [loop]
    refine (tones.entered (by rw [← h.state] at old; exact old) new).given r ?_ a ?_ ?_
    · simpa [occupied] using hr
    · rwa [stationOf_congr base]
    · rw [lost_congr (base a)]
      exact not_lost missing wrong
  case noTones =>
    intro a none_
    rw [loop, ← h.stations]
    by_cases still : u.clk.siteState = .closing ∨ ((inForceFilled u).siteFollows before).clk.siteState ≠ .closing
    · rw [tones.otherwise still]
      rfl
    · push Not at still
      obtain ⟨old, new⟩ := still
      rw [(tones.entered old new).kept a]
      · rfl
      · intro r hr at_
        rw [stationOf_congr base] at at_
        obtain was | is | nowhere := none_
        · exact old (h.state.trans was)
        · exact is (clk ▸ new)
        · exact nowhere r (by simpa [occupied] using hr) at_
  case locks =>
    intro r
    obtain ⟨lock, state⟩ := h.doors r
    obtain ⟨_, _, _, hc⟩ := u.evaluate_clk before
    have table : (u.evaluate before).clk.inForce = vgen u.evaluateSchedule := by rw [hc]
    have mem : r ∈ relocked u ↔
        s.clk.inForce[s.sup.profiles[r].timeLock] ≠ (vgen u.evaluateSchedule)[s.sup.profiles[r].timeLock] := by
      simp only [relocked, h.profiles, h.inForce, List.mem_filter, mem_rooms, true_and, decide_eq_true_eq]
    dsimp only
    rw [table, evaluate_door]
    split
    · next same => rw [if_neg (by rw [mem]; exact fun no => no same.symm)]; exact ⟨lock, state⟩
    · next changed =>
      rw [if_pos (mem.mpr (Ne.symm changed))]
      have value : (inForceFilled u).timeLockOf r =
          (s.sup.profiles[r].timeLock ≠ 0 && !(vgen u.evaluateSchedule)[s.sup.profiles[r].timeLock]) := by
        show (u.sup.profiles[r].timeLock ≠ 0 && !(vgen u.evaluateSchedule)[u.sup.profiles[r].timeLock] : Bool) = _
        simp only [h.profiles]
      rw [← value, ← state]
      exact ⟨rfl, rfl⟩

/-- What the statement of an evaluation reads of the state it leaves. -/
theorem handedOn_congr {c : SiteClock} (h : EvaluationHandedOn s t c) (hc : u.clk = t.clk)
    (hs : u.bt.schedules = t.bt.schedules) (hh : u.bt.holidays = t.bt.holidays) (hst : u.loop.stations = t.loop.stations)
    (hd : u.doors = t.doors) : EvaluationHandedOn s u c := by
  obtain ⟨evaluated, site, tones, noTones, locks⟩ := h
  refine ⟨fun i => ?_, ?_, ?_, ?_, ?_⟩
  · rw [evaluateSchedule_of hs hh (by rw [hc]) (by rw [hc]), hc]
    exact evaluated i
  · rw [hc]; exact site
  · rw [hc, hst]; exact tones
  · rw [hc, hst]; exact noTones
  · rw [hc, hd]; exact locks

end Sys2Proof.Proofs.Evaluation
end

section
/-! PROOFS. The requests that evaluate the schedules or set the site state: CLOCK SET, SITE SET, SITE OVERRIDE, SCHEDULE WRITE, HOLIDAY ADD and
HOLIDAY REMOVE (R21 to R23, R28, R33 to R36). -/
namespace Sys2Proof.Proofs.ClockRequests

open Sys2Proof Sys2Proof.Machine Sys2Proof.Safety Sys2Proof.Laws Sys2Proof.Proofs.RecordReads Sys2Proof.Proofs.Reads
open Sys2Proof.Proofs.Evaluation

variable {s t u : State} {f : RequestFrame} {rest : List RequestFrame}

/-! ### What an evaluation leaves alone -/

/-- `t` is `u` after an evaluation, in what no evaluation changes. -/
structure Evaluates (u t : State) : Prop where
  bt : t.bt = u.bt
  ctx : t.ctx = u.ctx
  zones : t.zones = u.zones
  bank : t.bank = u.bank
  p2 : t.p2 = u.p2
  lines : t.lines = u.lines
  reads : reading t.clk = reading u.clk
  holiday : t.clk.holidayToday = u.clk.holidayToday
  settings : t.clk.siteSchedule = u.clk.siteSchedule ∧ t.clk.grace = u.clk.grace

theorem evaluates_of_leaves {before : Bool} (h : Leaves (u.evaluate before) t) : Evaluates u t := by
  obtain ⟨_, _, _, clk⟩ := u.evaluate_clk before
  exact ⟨by simp [h.bt], by simp [h.ctx], by simp [h.zones], by simp [h.bank], by simp [h.p2], by simp [h.lines],
    by rw [h.clk, clk]; rfl, by rw [h.clk, clk], by rw [h.clk, clk]; exact ⟨rfl, rfl⟩⟩

/-- An evaluation is handed on in the state that its event leaves. -/
theorem handedOn_of_leaves {c : SiteClock} {before : Bool} (h : BeforeEvaluation s u c) (hb : before = siteIsOpen s.clk)
    (hl : Leaves (u.evaluate before) t) : EvaluationHandedOn s t c :=
  handedOn_congr (evaluate_handedOn h hb) hl.clk (by rw [hl.bt]) (by rw [hl.bt]) (by rw [hl.loop]) hl.doors

/-- Before a time is handed on, what the event leaves is the same but for the Loop Master's reading. -/
theorem leaves_before_handTime (h : Leaves u.handTime t) : Leaves u { t with loop := u.loop } :=
  ⟨by simp [h.bt], by simp [h.clk], by simp [h.ctx], by simp [h.roll], by simp [h.doors], by simp [h.zones], by simp [h.bank],
    rfl, by simp [h.p2], by simp [h.lines], by simp [h.profiles], h.settled⟩

/-- The reading of the clock is handed over in the state that the event leaves (R158). -/
theorem handedOver_of_leaves {r : ClockReading} (h : Leaves u.handTime t) (current : u.loop.current = s.loop.current)
    (due : u.loop.broadcastDue = s.loop.broadcastDue) (hr : r = ⟨u.clk.date, u.clk.time, u.clk.weekday⟩) : HandedOver s t r := by
  subst hr
  obtain ⟨waiting, new⟩ := u.handTime_hands
  unfold HandedOver
  rw [h.loop]
  rw [current, due] at waiting
  rw [current] at new
  exact ⟨waiting, new⟩

theorem handTime_stations (u : State) : u.handTime.loop.stations = u.loop.stations := by
  unfold State.handTime LoopMaster.takeReading
  split <;> rfl

/-! ### CLOCK SET and SITE SET -/

/-- The clock set to a date, time and weekday, with the holiday test of the new date (R28). -/
def clockPut (s : State) (a : ClockSetArgs) : State :=
  ({ s with clk := { s.clk with date := a.date, time := a.time, weekday := a.weekday, isSet := true } } : State).takeHoliday

theorem clockSetBody_accepted {a : ClockSetArgs} (h : ClockInRange a) (t : State) :
    clockSetBody a t = (((clockPut t a).evaluate t.siteInForce).handTime, .ok (.clock a.date a.time a.weekday)) := by
  rw [clockSetBody, (clockSet_formatOk_iff a).mpr h]
  rfl

theorem clockSetBody_format {a : ClockSetArgs} (h : ¬ClockInRange a) (t : State) : clockSetBody a t = refuse .format t := by
  have no : a.formatOk = false := by simpa [← clockSet_formatOk_iff] using h
  simp [clockSetBody, no]

/-- What the clock requests find at their evaluation. -/
theorem found_taken {c : SiteClock} (bt : BearerTable) (k : SiteClock) (inForce : k.inForce = s.clk.inForce)
    (state : k.siteState = s.clk.siteState)
    (site : (c.siteState, c.override, c.graceTimer, c.grace) = (k.siteState, k.override, k.graceTimer, k.grace)) :
    BeforeEvaluation s { taken s rest with bt := bt, clk := k } c :=
  ⟨inForce, state, site, rfl, fun _ => ⟨rfl, rfl⟩, rfl, rfl⟩

/-- CLOCK SET in range (R28, R30, R158). -/
theorem exec_clockSet (w : WaitsWith s f rest 0x20) {a : ClockSetArgs} (h : ClockInRange a) :
    ∃ t, exec (.clockSet (some a)) s = .next t ∧ reading t.clk = (a.date, a.time, a.weekday, true) ∧
      t.clk.holidayToday = isHoliday s.bt.holidays a.date ∧ EvaluationHandedOn s t s.clk ∧
      HandedOver s t ⟨a.date, a.time, a.weekday⟩ ∧ t.bt = s.bt ∧ t.zones = s.zones ∧ t.bank = s.bank ∧
      t.ctx = s.ctx ∧ t.p2 = s.p2 ∧ t.lines = s.lines ∧ t.p1.requests = rest ∧
      AnsweredOk s t f 0x20 (.clock a.date a.time a.weekday) := by
  obtain ⟨t, ht, leaves, requests, ok⟩ :=
    serveFields_leaves w rfl a clockSetBody (clockSetBody_accepted h (taken s rest)) (by simp [clockPut])
  have before := leaves_before_handTime leaves
  have same := evaluates_of_leaves before
  obtain ⟨_, _, _, clk⟩ := (clockPut (taken s rest) a).evaluate_clk (taken s rest).siteInForce
  have found : BeforeEvaluation s (clockPut (taken s rest) a) s.clk := found_taken _ _ rfl rfl rfl
  refine ⟨t, ht, same.reads, same.holiday, ?_, ?_, same.bt, same.zones, same.bank, same.ctx, same.p2, same.lines, requests, ok⟩
  · exact handedOn_congr (handedOn_of_leaves found rfl before) rfl rfl rfl (by rw [leaves.loop, handTime_stations]) rfl
  · exact handedOver_of_leaves leaves (by rw [evaluate_polls]; rfl) (by rw [evaluate_polls]; rfl) (by rw [clk]; rfl)

theorem siteSetBody_accepted (i : Sched) {g : Nat} (h : g ≤ 60) (t : State) :
    siteSetBody ⟨i.val, g⟩ t =
      (({ t with clk := { t.clk with siteSchedule := i, grace := g } } : State).evaluate t.siteInForce, .ok (.site i g)) := by
  rw [siteSetBody]
  dsimp only
  rw [sched?_val]
  exact if_neg (Nat.not_lt.mpr h)

theorem siteSetBody_format {n g : Nat} (h : 63 < n ∨ 60 < g) (t : State) : siteSetBody ⟨n, g⟩ t = refuse .format t := by
  unfold siteSetBody
  dsimp only
  split
  · rfl
  · next i hi =>
    have : n < 64 := by
      by_contra no
      simp [sched?, no] at hi
    exact if_pos (by omega)

/-- SITE SET in range (R33). -/
theorem exec_siteSet (w : WaitsWith s f rest 0x22) (i : Sched) {g : Nat} (h : g ≤ 60) :
    ∃ t, exec (.siteSet (some ⟨i.val, g⟩)) s = .next t ∧ t.clk.siteSchedule = i ∧ t.clk.grace = g ∧
      EvaluationHandedOn s t { s.clk with grace := g } ∧ reading t.clk = reading s.clk ∧ t.bt = s.bt ∧
      t.zones = s.zones ∧ t.bank = s.bank ∧ t.ctx = s.ctx ∧ t.p2 = s.p2 ∧ t.lines = s.lines ∧
      t.p1.requests = rest ∧ AnsweredOk s t f 0x22 (.site i g) := by
  obtain ⟨t, ht, leaves, requests, ok⟩ :=
    serveFields_leaves w rfl _ siteSetBody (siteSetBody_accepted i h (taken s rest)) (by simp)
  obtain ⟨bt, ctx, zones, bank, p2, lines, reads, -, schedule, grace⟩ := evaluates_of_leaves leaves
  have found : BeforeEvaluation s { taken s rest with clk := { s.clk with siteSchedule := i, grace := g } } { s.clk with grace := g } :=
    found_taken s.bt { s.clk with siteSchedule := i, grace := g } rfl rfl rfl
  exact ⟨t, ht, schedule, grace, handedOn_of_leaves found rfl leaves, reads, bt, zones, bank, ctx, p2, lines, requests, ok⟩

/-- Settles O11: both requests store their values and then evaluate; what the evaluation does is said once. -/
theorem clockSetAndSiteSetEvaluate : Obligations.ClockSetAndSiteSetEvaluate :=
  ⟨fun _ _ _ a w =>
      ⟨exec_clockSet w, fun h => serveFields_refused w rfl a clockSetBody .format (clockSetBody_format h _)⟩,
    fun _ _ _ w =>
      ⟨fun i _ h => exec_siteSet w i h,
        fun _ _ h => serveFields_refused w rfl _ siteSetBody .format (siteSetBody_format h _)⟩⟩

/-! ### SCHEDULE WRITE, HOLIDAY ADD and HOLIDAY REMOVE -/

/-- What a write to the schedules or the holidays comes to: `u` is the state it evaluates. -/
theorem evaluated_write {u : State} (t : State) (found : BeforeEvaluation s u s.clk) (open_ : u.siteInForce = siteIsOpen s.clk)
    (same : Evaluates { taken s rest with bt := u.bt, clk := { s.clk with holidayToday := u.clk.holidayToday } } u)
    (leaves : Leaves u.reevaluate t) :
    t.bt = u.bt ∧ t.clk.holidayToday = u.clk.holidayToday ∧ EvaluationHandedOn s t s.clk ∧ reading t.clk = reading s.clk ∧
      t.zones = s.zones ∧ t.bank = s.bank ∧ t.ctx = s.ctx ∧ t.lines = s.lines := by
  have after := evaluates_of_leaves leaves
  exact ⟨after.bt, after.holiday, handedOn_of_leaves found open_ leaves, after.reads.trans same.reads,
    after.zones.trans same.zones, after.bank.trans same.bank, after.ctx.trans same.ctx, after.lines.trans same.lines⟩

theorem scheduleWriteBody_format {n : Nat} {ws : List Window}
    (h : n = 0 ∨ 63 < n ∨ 4 < ws.length ∨ ∃ w ∈ ws, ¬WindowInRange w) (t : State) :
    scheduleWriteBody ⟨n, ws⟩ t = refuse .format t := by
  unfold scheduleWriteBody
  dsimp only
  split
  · rfl
  · next i hi =>
    have inRange : n < 64 := by
      by_contra no
      simp [sched?, no] at hi
    refine if_pos ?_
    obtain zero | high | long | ⟨w, hw, bad⟩ := h
    · subst zero
      exact .inl (by simpa [sched?] using hi.symm)
    · omega
    · exact .inr (.inl long)
    · refine .inr (.inr (List.all_eq_false.mpr ⟨w, hw, ?_⟩))
      rwa [window_formatOk_iff]

theorem scheduleWriteBody_accepted (i : Sched) {ws : List Window} (h0 : i ≠ 0) (h4 : ws.length ≤ 4)
    (h : ∀ w ∈ ws, WindowInRange w) (t : State) :
    scheduleWriteBody ⟨i.val, ws⟩ t =
      (({ t with bt := { t.bt with schedules := t.bt.schedules.set i ws } } : State).reevaluate, .ok .nothing) := by
  have ok : ws.all Window.formatOk = true := List.all_eq_true.mpr fun w hw => (window_formatOk_iff w).mpr (h w hw)
  rw [scheduleWriteBody]
  dsimp only
  rw [sched?_val]
  exact if_neg (by simp [h0, ok]; omega)

/-- SCHEDULE WRITE in range (R21). -/
theorem exec_scheduleWrite (w : WaitsWith s f rest 0x1A) (i : Sched) {ws : List Window} (h0 : i ≠ 0) (h4 : ws.length ≤ 4)
    (h : ∀ w ∈ ws, WindowInRange w) :
    ∃ t, exec (.scheduleWrite (some ⟨i.val, ws⟩)) s = .next t ∧ t.bt = { s.bt with schedules := s.bt.schedules.set i ws } ∧
      EvaluationHandedOn s t s.clk ∧ reading t.clk = reading s.clk ∧ t.zones = s.zones ∧ t.bank = s.bank ∧ t.ctx = s.ctx ∧
      t.lines = s.lines ∧ t.p1.requests = rest ∧ AnsweredOk s t f 0x1A .nothing := by
  obtain ⟨t, ht, leaves, requests, ok⟩ :=
    serveFields_leaves w rfl _ scheduleWriteBody (scheduleWriteBody_accepted i h0 h4 h (taken s rest)) (by simp)
  obtain ⟨bt, -, handed, reads, zones, bank, ctx, lines⟩ :=
    evaluated_write (rest := rest) t (found_taken _ _ rfl rfl rfl) rfl ⟨rfl, rfl, rfl, rfl, rfl, rfl, rfl, rfl, rfl, rfl⟩ leaves
  exact ⟨t, ht, bt, handed, reads, zones, bank, ctx, lines, requests, ok⟩

section Holidays

variable {h : Holiday}

theorem holidayAddBody_format (no : ¬RealHoliday h) (t : State) : holidayAddBody h t = refuse .format t := by
  simp [holidayAddBody, mt (holiday_formatOk_iff h).mp no]

theorem holidayRemoveBody_format (no : ¬RealHoliday h) (t : State) : holidayRemoveBody h t = refuse .format t := by
  simp [holidayRemoveBody, mt (holiday_formatOk_iff h).mp no]

/-- HOLIDAY ADD of a date goes to the checks on the list (R22). -/
theorem holidayAddBody_real (real : RealHoliday h) (t : State) :
    holidayAddBody h t =
      if h ∈ t.bt.holidays then refuse .conflict t
      else if 32 ≤ t.bt.holidays.length then refuse .full t
      else (t.putHolidays (insertHoliday h t.bt.holidays), .ok .nothing) := by
  by_cases known : h ∈ t.bt.holidays
  · simp [holidayAddBody, (holiday_formatOk_iff h).mpr real, known]
  · by_cases full : 32 ≤ t.bt.holidays.length <;>
      simp [holidayAddBody, (holiday_formatOk_iff h).mpr real, Config.maxHolidays, known, full]

theorem holidayRemoveBody_real (real : RealHoliday h) (t : State) :
    holidayRemoveBody h t =
      if h ∈ t.bt.holidays then (t.putHolidays (t.bt.holidays.erase h), .ok .nothing) else refuse .notFound t := by
  simp [holidayRemoveBody, (holiday_formatOk_iff h).mpr real]

/-- What a holiday list put in place comes to (R23, R32). -/
theorem putHolidays_handedOn {hs : List Holiday} (leaves : Leaves ((taken s rest).putHolidays hs) t) :
    t.bt = { s.bt with holidays := hs } ∧ t.clk.holidayToday = isHoliday hs s.clk.date ∧ EvaluationHandedOn s t s.clk ∧
      reading t.clk = reading s.clk ∧ t.zones = s.zones ∧ t.bank = s.bank ∧ t.ctx = s.ctx ∧ t.lines = s.lines :=
  evaluated_write (rest := rest) t (found_taken { s.bt with holidays := hs } { s.clk with holidayToday := isHoliday hs s.clk.date } rfl rfl rfl)
    rfl ⟨rfl, rfl, rfl, rfl, rfl, rfl, rfl, rfl, rfl, rfl⟩ leaves

/-- HOLIDAY ADD of a new date (R22). -/
theorem exec_holidayAdd (w : WaitsWith s f rest 0x1C) (real : RealHoliday h) (new : h ∉ s.bt.holidays) (short : s.bt.holidays.length < 32) :
    ∃ t, exec (.holidayAdd (some h)) s = .next t ∧ t.bt = { s.bt with holidays := insertHoliday h s.bt.holidays } ∧
      t.clk.holidayToday = isHoliday (insertHoliday h s.bt.holidays) s.clk.date ∧ EvaluationHandedOn s t s.clk ∧
      reading t.clk = reading s.clk ∧ t.zones = s.zones ∧ t.bank = s.bank ∧ t.ctx = s.ctx ∧ t.lines = s.lines ∧
      t.p1.requests = rest ∧ AnsweredOk s t f 0x1C .nothing := by
  obtain ⟨t, ht, leaves, requests, ok⟩ := serveFields_leaves w rfl h holidayAddBody
    ((holidayAddBody_real real (taken s rest)).trans ((if_neg new).trans (if_neg (Nat.not_le.mpr short)))) (by simp)
  obtain ⟨bt, today, handed, reads, zones, bank, ctx, lines⟩ := putHolidays_handedOn leaves
  exact ⟨t, ht, bt, today, handed, reads, zones, bank, ctx, lines, requests, ok⟩

/-- HOLIDAY REMOVE of a date of the list (R23). -/
theorem exec_holidayRemove (w : WaitsWith s f rest 0x1D) (real : RealHoliday h) (old : h ∈ s.bt.holidays) :
    ∃ t, exec (.holidayRemove (some h)) s = .next t ∧ t.bt = { s.bt with holidays := s.bt.holidays.erase h } ∧
      t.clk.holidayToday = isHoliday (s.bt.holidays.erase h) s.clk.date ∧ EvaluationHandedOn s t s.clk ∧
      reading t.clk = reading s.clk ∧ t.zones = s.zones ∧ t.bank = s.bank ∧ t.ctx = s.ctx ∧ t.lines = s.lines ∧
      t.p1.requests = rest ∧ AnsweredOk s t f 0x1D .nothing := by
  obtain ⟨t, ht, leaves, requests, ok⟩ := serveFields_leaves w rfl h holidayRemoveBody
    ((holidayRemoveBody_real real (taken s rest)).trans (if_pos old)) (by simp)
  obtain ⟨bt, today, handed, reads, zones, bank, ctx, lines⟩ := putHolidays_handedOn leaves
  exact ⟨t, ht, bt, today, handed, reads, zones, bank, ctx, lines, requests, ok⟩

end Holidays

/-- Settles O13: each write changes its list, and the evaluation that follows is handed on. -/
theorem scheduleAndHolidayWritesEvaluate : Obligations.ScheduleAndHolidayWritesEvaluate := fun s _ rest =>
  ⟨fun _ _ w h => serveFields_refused w rfl _ scheduleWriteBody .format (scheduleWriteBody_format h _),
    fun i _ w h0 h4 h => exec_scheduleWrite w i h0 h4 h,
    fun _ w real new short => exec_holidayAdd w real new short,
    fun h no =>
      ⟨fun w => serveFields_refused w rfl h holidayAddBody .format (holidayAddBody_format no _),
        fun w => serveFields_refused w rfl h holidayRemoveBody .format (holidayRemoveBody_format no _)⟩,
    fun h w real =>
      have body := holidayAddBody_real real (taken s rest)
      ⟨fun old => serveFields_refused w rfl h holidayAddBody .conflict (body.trans (if_pos old)),
        fun new full => serveFields_refused w rfl h holidayAddBody .full (body.trans ((if_neg new).trans (if_pos full)))⟩,
    fun _ w real old => exec_holidayRemove w real old,
    fun h w real new => serveFields_refused w rfl h holidayRemoveBody .notFound
      ((holidayRemoveBody_real real (taken s rest)).trans (if_neg new))⟩

end Sys2Proof.Proofs.ClockRequests
end

section
/-! PROOFS. The calendar of the Site Clock (R25, R31). Every valid octet is the packed BCD of its number, so the advance of the clock is said
once on numbers: of the seconds, minutes and hours by their carry, and of a date by the next day. -/
namespace Sys2Proof.Proofs.Calendar

open Sys2Proof Sys2Proof.Machine Sys2Proof.Safety Sys2Proof.Laws

/-! ### Packed BCD on numbers -/

theorem toBcd_bcdVal (o : Octet) : bcdValid o = true → toBcd (bcdVal o) = o ∧ bcdVal o < 100 := by
  revert o
  unfold bcdValid toBcd bcdVal hiDigit loDigit
  decide +kernel

theorem bcdVal_toBcd : ∀ n : Fin 100, bcdVal (toBcd n) = n ∧ bcdValid (toBcd n) = true ∧ (toBcd n).toNat = n / 10 * 16 + n % 10 := by
  unfold bcdValid toBcd bcdVal hiDigit loDigit
  decide +kernel

variable {n k : Nat}

theorem val_toBcd (h : n < 100) : bcdVal (toBcd n) = n := (bcdVal_toBcd ⟨n, h⟩).1
theorem valid_toBcd (h : n < 100) : bcdValid (toBcd n) = true := (bcdVal_toBcd ⟨n, h⟩).2.1
theorem toNat_toBcd (h : n < 100) : (toBcd n).toNat = n / 10 * 16 + n % 10 := (bcdVal_toBcd ⟨n, h⟩).2.2

theorem toBcd_le (hn : n < 100) (hk : k < 100) : (toBcd n).toNat ≤ (toBcd k).toNat ↔ n ≤ k := by
  rw [toNat_toBcd hn, toNat_toBcd hk]
  omega

theorem toBcd_one : toBcd 1 = 0x01 := by decide

/-- One added with decimal adjust (R25). -/
theorem bcdInc_toBcd (h : n < 99) : bcdInc (toBcd n) = toBcd (n + 1) := by
  have all : ∀ n : Fin 99, bcdInc (toBcd n) = toBcd (n + 1) := by
    unfold bcdInc toBcd hiDigit loDigit
    decide +kernel
  exact all ⟨n, h⟩

/-- A count of seconds or minutes one on. -/
theorem wrapAt_sixty (h : n ≤ 59) : wrapAt 0x60 0x00 (toBcd n) = (toBcd ((n + 1) % 60), decide (n = 59)) := by
  have all : ∀ n : Fin 60, wrapAt 0x60 0x00 (toBcd n) = (toBcd ((n + 1) % 60), decide (n.val = 59)) := by
    unfold wrapAt bcdInc toBcd hiDigit loDigit
    decide +kernel
  exact all ⟨n, by omega⟩

theorem wrapAt_hour (h : n ≤ 23) : wrapAt 0x24 0x00 (toBcd n) = (toBcd ((n + 1) % 24), decide (n = 23)) := by
  have all : ∀ n : Fin 24, wrapAt 0x24 0x00 (toBcd n) = (toBcd ((n + 1) % 24), decide (n.val = 23)) := by
    unfold wrapAt bcdInc toBcd hiDigit loDigit
    decide +kernel
  exact all ⟨n, by omega⟩

theorem wrapAt_year (h : n < 100) : (wrapAt 0xA0 0x00 (toBcd n)).1 = toBcd ((n + 1) % 100) := by
  have all : ∀ n : Fin 100, (wrapAt 0xA0 0x00 (toBcd n)).1 = toBcd ((n + 1) % 100) := by
    unfold wrapAt bcdInc toBcd hiDigit loDigit
    decide +kernel
  exact all ⟨n, h⟩

/-! ### Dates on numbers -/

/-- A year, a month and a day of it, as numbers. -/
structure Day where
  year : Nat
  month : Nat
  day : Nat

/-- The day is one of the calendar (R25). -/
structure Day.Real (x : Day) : Prop where
  year : x.year < 100
  month : 1 ≤ x.month ∧ x.month ≤ 12
  day : 1 ≤ x.day ∧ x.day ≤ lastDayVal x.year x.month

/-- The date that spells a day. -/
def Day.date (x : Day) : Date := ⟨toBcd x.year, toBcd x.month, toBcd x.day⟩

/-- The day after a day; the last of year 99 goes to the first of year 0 (R25). -/
def Day.next (x : Day) : Day :=
  if x.day + 1 ≤ lastDayVal x.year x.month then ⟨x.year, x.month, x.day + 1⟩
  else if x.month + 1 ≤ 12 then ⟨x.year, x.month + 1, 1⟩
  else ⟨(x.year + 1) % 100, 1, 1⟩

/-- The number of a day on the calendar, counted from 00-01-01. -/
def Day.number (x : Day) : Nat := x.year * 365 + (x.year + 3) / 4 + daysBefore x.year x.month + x.day

variable {x : Day}

theorem lastDayVal_le (y m : Nat) : 28 ≤ lastDayVal y m ∧ lastDayVal y m ≤ 31 := by
  unfold lastDayVal
  split_ifs <;> omega

/-- Every valid date spells one day, and every day's date is valid. -/
theorem date_valid_spells (d : Date) : d.valid = true → ∃ x : Day, x.Real ∧ d = x.date := by
  intro h
  simp only [Date.valid, Bool.and_eq_true, decide_eq_true_eq] at h
  obtain ⟨⟨⟨⟨⟨⟨hy, hm⟩, hd⟩, m1⟩, m12⟩, d1⟩, dl⟩ := h
  refine ⟨⟨bcdVal d.year, bcdVal d.month, bcdVal d.day⟩, ⟨(toBcd_bcdVal _ hy).2, ⟨m1, m12⟩, d1, dl⟩, ?_⟩
  rw [Day.date, (toBcd_bcdVal _ hy).1, (toBcd_bcdVal _ hm).1, (toBcd_bcdVal _ hd).1]

section Real

variable (h : x.Real)
include h

theorem day_lt : x.day < 32 := by
  have := lastDayVal_le x.year x.month
  have := h.day
  omega

theorem date_vals : bcdVal x.date.year = x.year ∧ bcdVal x.date.month = x.month ∧ bcdVal x.date.day = x.day := by
  have := day_lt h
  have := h.month
  exact ⟨val_toBcd h.year, val_toBcd (by omega), val_toBcd (by omega)⟩

theorem date_valid : x.date.valid = true := by
  obtain ⟨hy, hm, hd⟩ := date_vals h
  have short := day_lt h
  have month := h.month
  simp only [Date.valid, hy, hm, hd, Bool.and_eq_true, decide_eq_true_eq]
  exact ⟨⟨⟨⟨⟨⟨valid_toBcd h.year, valid_toBcd (by omega)⟩, valid_toBcd (by omega)⟩, month.1⟩, month.2⟩, h.day.1⟩, h.day.2⟩

theorem dayNumber_eq : x.date.dayNumber = x.number := by
  obtain ⟨hy, hm, hd⟩ := date_vals h
  simp only [Date.dayNumber, Day.number, hy, hm, hd]

theorem next_real : x.next.Real := by
  have last := lastDayVal_le x.year
  obtain ⟨hy, ⟨m1, m12⟩, d1, dl⟩ := h
  unfold Day.next
  split_ifs with more months
  · exact ⟨hy, ⟨m1, m12⟩, by dsimp only; omega, more⟩
  · have := last (x.month + 1)
    exact ⟨hy, ⟨by dsimp only; omega, months⟩, by dsimp only; omega, by dsimp only; omega⟩
  · have := lastDayVal_le ((x.year + 1) % 100) 1
    exact ⟨by dsimp only; omega, by dsimp only; omega, by dsimp only; omega, by dsimp only; omega⟩

/-- The carry into the day is the next day of the calendar (R25). -/
theorem nextDay_date (c : SiteClock) (hc : c.date = x.date) :
    c.nextDay = { c with date := x.next.date, weekday := if c.weekday = 7 then 1 else c.weekday + 1 } := by
  obtain ⟨hy, hm, hd⟩ := date_vals h
  have short := day_lt h
  have last := lastDayVal_le x.year x.month
  obtain ⟨year, ⟨m1, m12⟩, d1, dl⟩ := h
  have dayUp : (bcdInc c.date.day).toNat ≤ (lastDay c.date.year c.date.month).toNat ↔ x.day + 1 ≤ lastDayVal x.year x.month := by
    rw [hc, lastDay, hy, hm, Day.date, bcdInc_toBcd (by omega), toBcd_le (by omega) (by omega)]
  have monthUp : (bcdInc c.date.month).toNat ≤ 0x12 ↔ x.month + 1 ≤ 12 := by
    rw [hc, Day.date, bcdInc_toBcd (by omega)]
    exact toBcd_le (k := 12) (by omega) (by omega)
  unfold SiteClock.nextDay Day.next
  by_cases more : x.day + 1 ≤ lastDayVal x.year x.month
  · rw [if_pos (dayUp.mpr more), if_pos more, hc, Day.date, bcdInc_toBcd (by omega)]
    rfl
  · rw [if_neg (mt dayUp.mp more), if_neg more]
    by_cases months : x.month + 1 ≤ 12
    · rw [if_pos (monthUp.mpr months), if_pos months, hc, Day.date, bcdInc_toBcd (by omega), Day.date, toBcd_one]
    · rw [if_neg (mt monthUp.mp months), if_neg months, hc, Day.date, wrapAt_year year, Day.date, toBcd_one]

end Real

/-- The days of the months of a year before December. -/
theorem daysBefore_twelve (y : Nat) : (y % 4 = 0 → daysBefore y 12 = 335) ∧ (y % 4 ≠ 0 → daysBefore y 12 = 334) := by
  constructor <;> intro leap <;> simp [daysBefore, lastDayVal, leapYear, leap]

/-- The days before a month and within it are at most those of the year. -/
theorem daysBefore_le {y m d : Nat} (h : Day.Real ⟨y, m, d⟩) :
    (y % 4 = 0 → daysBefore y m + d ≤ 366 ∧ (daysBefore y m + d = 366 → m = 12 ∧ d = 31)) ∧
      (y % 4 ≠ 0 → daysBefore y m + d ≤ 365 ∧ (daysBefore y m + d = 365 → m = 12 ∧ d = 31)) := by
  obtain ⟨-, ⟨m1, m12⟩, d1, dl⟩ := h
  dsimp only at m1 m12 d1 dl
  constructor <;> intro leap <;> interval_cases m <;> simp [daysBefore, lastDayVal, leapYear, leap] at dl ⊢ <;> omega

theorem number_mk (y m d : Nat) : Day.number ⟨y, m, d⟩ = y * 365 + (y + 3) / 4 + daysBefore y m + d := rfl

/-- The last day on the calendar is that of year 99. -/
theorem number_last {y m d : Nat} (h : Day.Real ⟨y, m, d⟩) :
    Day.number ⟨y, m, d⟩ ≤ 36525 ∧ (Day.number ⟨y, m, d⟩ = 36525 ↔ y = 99 ∧ m = 12 ∧ d = 31) := by
  have days := daysBefore_le h
  have hy : y < 100 := h.year
  rw [number_mk]
  refine ⟨by omega, fun last => ⟨by omega, by omega⟩, ?_⟩
  rintro ⟨rfl, rfl, rfl⟩
  rfl

/-- The next day's number is one more, but after the last day of year 99, number 36525. -/
theorem next_number (h : x.Real) : x.next.number = if x.number = 36525 then 1 else x.number + 1 := by
  obtain ⟨y, m, d⟩ := x
  obtain ⟨-, last⟩ := number_last h
  obtain ⟨hy, ⟨m1, m12⟩, d1, dl⟩ := h
  dsimp only at hy m1 m12 d1 dl
  unfold Day.next
  dsimp only
  by_cases more : d + 1 ≤ lastDayVal y m
  · have notLast : ¬Day.number ⟨y, m, d⟩ = 36525 := by
      rw [last]
      rintro ⟨-, rfl, rfl⟩
      simp [lastDayVal] at more
    rw [if_pos more, if_neg notLast, number_mk, number_mk]
    omega
  · rw [if_neg more]
    by_cases months : m + 1 ≤ 12
    · obtain ⟨k, rfl⟩ : ∃ k, m = k + 1 := ⟨m - 1, by omega⟩
      have step : daysBefore y (k + 1 + 1) = daysBefore y (k + 1) + lastDayVal y (k + 1) := rfl
      rw [if_pos months, if_neg (by rw [last]; omega), number_mk, number_mk]
      omega
    · obtain rfl : m = 12 := by omega
      have thirtyOne : lastDayVal y 12 = 31 := rfl
      rw [if_neg months]
      by_cases century : y = 99
      · subst century
        rw [if_pos (last.mpr ⟨rfl, rfl, by omega⟩)]
        rfl
      · have before := daysBefore_twelve y
        have short : (y + 1) % 100 = y + 1 := Nat.mod_eq_of_lt (by omega)
        have first : daysBefore (y + 1) 1 = 0 := rfl
        rw [if_neg (by rw [last]; omega), short, number_mk, number_mk, first]
        omega

theorem number_le (h : x.Real) : x.number ≤ 36525 := (number_last h).1

/-- The day before a day; before the first of year 0 stands the last of year 99 (R31). -/
theorem previous_spells (h : x.Real) : ∃ p : Day, p.Real ∧ x.date.previous = p.date ∧ p.next = x := by
  obtain ⟨hy, hm, hd⟩ := date_vals h
  obtain ⟨y, m, d⟩ := x
  obtain ⟨year, ⟨m1, m12⟩, d1, dl⟩ := h
  dsimp only at hy hm hd year m1 m12 d1 dl
  unfold Date.previous
  rw [hy, hm, hd]
  by_cases first : d = 1
  · subst first
    by_cases january : m = 1
    · subst january
      refine ⟨⟨(y + 99) % 100, 12, 31⟩, ⟨by dsimp only; omega, ⟨by dsimp only; omega, le_refl _⟩, by simp [lastDayVal]⟩, by simp [Day.date], ?_⟩
      have back : ((y + 99) % 100 + 1) % 100 = y := by omega
      simp [Day.next, lastDayVal, back]
    · have last := lastDayVal_le y (m - 1)
      refine ⟨⟨y, m - 1, lastDayVal y (m - 1)⟩, ⟨year, by dsimp only; omega, by dsimp only; omega, le_refl _⟩, ?_, ?_⟩
      · rw [if_neg (by simp), if_pos january, Day.date, lastDay, Day.date, val_toBcd year, val_toBcd (by omega)]
      · have up : m - 1 + 1 = m := by omega
        simp [Day.next, up, m12]
  · refine ⟨⟨y, m, d - 1⟩, ⟨year, ⟨m1, m12⟩, by dsimp only; omega, by dsimp only; omega⟩, by rw [if_pos first]; rfl, ?_⟩
    have up : d - 1 + 1 = d := by omega
    simp [Day.next, up, dl]

/-! ### The advance -/

/-- The time of day as numbers. -/
structure Clock where
  hour : Nat
  minute : Nat
  second : Nat

/-- The time is one of the day. -/
structure Clock.Real (x : Clock) : Prop where
  hour : x.hour ≤ 23
  minute : x.minute ≤ 59
  second : x.second ≤ 59

/-- The octets that spell a time. -/
def Clock.time (x : Clock) : Time := ⟨toBcd x.hour, toBcd x.minute, toBcd x.second⟩

theorem time_valid_spells (t : Time) (h : t.valid = true) : ∃ x : Clock, x.Real ∧ t = x.time := by
  simp only [Time.valid, Bool.and_eq_true, decide_eq_true_eq] at h
  obtain ⟨⟨⟨⟨⟨hh, hm⟩, hs⟩, h23⟩, m59⟩, s59⟩ := h
  refine ⟨⟨bcdVal t.hour, bcdVal t.minute, bcdVal t.second⟩, ⟨h23, m59, s59⟩, ?_⟩
  rw [Clock.time, (toBcd_bcdVal _ hh).1, (toBcd_bcdVal _ hm).1, (toBcd_bcdVal _ hs).1]

section Time

variable {y : Clock} (h : y.Real)
include h

theorem time_vals : bcdVal y.time.hour = y.hour ∧ bcdVal y.time.minute = y.minute ∧ bcdVal y.time.second = y.second := by
  obtain ⟨hh, hm, hs⟩ := h
  exact ⟨val_toBcd (by omega), val_toBcd (by omega), val_toBcd (by omega)⟩

theorem time_valid : y.time.valid = true := by
  obtain ⟨hv, mv, sv⟩ := time_vals h
  obtain ⟨hh, hm, hs⟩ := h
  simp only [Time.valid, hv, mv, sv, Bool.and_eq_true, decide_eq_true_eq]
  exact ⟨⟨⟨⟨⟨valid_toBcd (by omega), valid_toBcd (by omega)⟩, valid_toBcd (by omega)⟩, hh⟩, hm⟩, hs⟩

end Time

/-- The advance while SET, by its carries (R25). -/
theorem advance_eq {x : Day} {y : Clock} (hx : x.Real) (hy : y.Real) (c : SiteClock) (set : c.isSet = true) (hd : c.date = x.date)
    (ht : c.time = y.time) :
    c.advance =
      if y.second ≠ 59 then ⟨{ c with time := Clock.time ⟨y.hour, y.minute, y.second + 1⟩ }, false, false⟩
      else if y.minute ≠ 59 then ⟨{ c with time := Clock.time ⟨y.hour, y.minute + 1, 0⟩ }, true, false⟩
      else if y.hour ≠ 23 then ⟨{ c with time := Clock.time ⟨y.hour + 1, 0, 0⟩ }, true, false⟩
      else
        ⟨{ c with
            time := Clock.time ⟨0, 0, 0⟩, date := x.next.date, weekday := if c.weekday = 7 then 1 else c.weekday + 1 }, true, true⟩ := by
  obtain ⟨hh, hm, hs⟩ := hy
  unfold SiteClock.advance
  simp only [set, ht, Clock.time, wrapAt_sixty hs, wrapAt_sixty hm, wrapAt_hour hh, Bool.not_true, Bool.false_eq_true, if_false]
  by_cases second : y.second = 59
  · by_cases minute : y.minute = 59
    · by_cases hour : y.hour = 23
      · simp only [second, minute, hour, decide_true, Bool.not_true, Bool.false_eq_true, if_false, ne_eq, not_true_eq_false]
        exact congrArg (fun k => (⟨k, true, true⟩ : Advance)) (nextDay_date hx { c with time := Clock.time ⟨0, 0, 0⟩, isSet := true } hd)
      · have up : (y.hour + 1) % 24 = y.hour + 1 := Nat.mod_eq_of_lt (by omega)
        simp [second, minute, hour, up]
    · have up : (y.minute + 1) % 60 = y.minute + 1 := Nat.mod_eq_of_lt (by omega)
      simp [second, minute, up]
  · have up : (y.second + 1) % 60 = y.second + 1 := Nat.mod_eq_of_lt (by omega)
    simp [second, up]

/-- The seconds of the day that a time spells. -/
theorem secondOfDay_eq {y : Clock} (h : y.Real) (c : SiteClock) (ht : c.time = y.time) :
    secondOfDay c = y.hour * 3600 + y.minute * 60 + y.second := by
  obtain ⟨hv, mv, sv⟩ := time_vals h
  rw [secondOfDay, ht, hv, mv, sv]

/-- What the statement of the advance says of a clock and its advance. -/
structure OneSecondOn (c : SiteClock) (a : Advance) : Prop where
  clk : a.clk = { c with date := a.clk.date, time := a.clk.time, weekday := a.clk.weekday }
  date : a.clk.date.valid = true
  time : a.clk.time.valid = true
  minute : a.minute = true ↔ bcdVal c.time.second = 59
  day : a.day = true ↔ secondOfDay c = 86399
  weekday : a.clk.weekday = if a.day then c.weekday % 7 + 1 else c.weekday
  seconds : secondOfCentury a.clk = if secondOfCentury c = 36525 * 86400 + 86399 then 86400 else secondOfCentury c + 1

theorem advance_oneSecondOn {x : Day} {y : Clock} (hx : x.Real) (hy : y.Real) (c : SiteClock) (set : c.isSet = true)
    (hd : c.date = x.date) (ht : c.time = y.time) (w1 : 1 ≤ c.weekday) (w7 : c.weekday ≤ 7) : OneSecondOn c c.advance := by
  have second : bcdVal c.time.second = y.second := by rw [ht]; exact (time_vals hy).2.2
  have ofDay := secondOfDay_eq hy c ht
  have number : c.date.dayNumber = x.number := by rw [hd]; exact dayNumber_eq hx
  have valid : c.date.valid = true := by rw [hd]; exact date_valid hx
  have least := number_le hx
  obtain ⟨hh, hm, hs⟩ := hy
  have within {z : Clock} (hz : z.Real) (carry : Bool) (notLast : y.second ≠ 59 ∨ y.minute ≠ 59 ∨ y.hour ≠ 23)
      (carries : carry = true ↔ y.second = 59)
      (sum : z.hour * 3600 + z.minute * 60 + z.second = y.hour * 3600 + y.minute * 60 + y.second + 1) :
      OneSecondOn c ⟨{ c with time := z.time }, carry, false⟩ := by
    have day' : secondOfDay { c with time := z.time } = _ := secondOfDay_eq hz { c with time := z.time } rfl
    have short : ¬secondOfCentury c = 36525 * 86400 + 86399 := by rw [secondOfCentury, ofDay, number]; omega
    refine ⟨rfl, valid, time_valid hz, by rw [second]; exact carries, ?_, rfl, ?_⟩
    · rw [ofDay]
      exact ⟨nofun, fun all => by omega⟩
    · rw [if_neg short, secondOfCentury, secondOfCentury, day', ofDay, sum]
      exact (Nat.add_assoc ..).symm
  rw [advance_eq hx ⟨hh, hm, hs⟩ c set hd ht]
  by_cases s59 : y.second = 59
  case neg =>
    rw [if_pos s59]
    exact within (z := ⟨y.hour, y.minute, y.second + 1⟩) ⟨hh, hm, Nat.lt_of_le_of_ne hs s59⟩ false (.inl s59) (by simpa using s59)
      (by dsimp only; omega)
  rw [if_neg (not_not.mpr s59)]
  by_cases m59 : y.minute = 59
  case neg =>
    rw [if_pos m59]
    exact within (z := ⟨y.hour, y.minute + 1, 0⟩) ⟨hh, Nat.lt_of_le_of_ne hm m59, Nat.zero_le _⟩ true (.inr (.inl m59)) (by simpa using s59)
      (by dsimp only; omega)
  rw [if_neg (not_not.mpr m59)]
  by_cases h23 : y.hour = 23
  case neg =>
    rw [if_pos h23]
    exact within (z := ⟨y.hour + 1, 0, 0⟩) ⟨Nat.lt_of_le_of_ne hh h23, Nat.zero_le _, Nat.zero_le _⟩ true (.inr (.inr h23)) (by simpa using s59)
      (by dsimp only; omega)
  rw [if_neg (not_not.mpr h23)]
  have midnight : Clock.Real ⟨0, 0, 0⟩ := ⟨by decide, by decide, by decide⟩
  have day' (k : SiteClock) (hk : k.time = Clock.time ⟨0, 0, 0⟩) : secondOfDay k = 0 := secondOfDay_eq midnight k hk
  have weekday : (if c.weekday = 7 then 1 else c.weekday + 1) = c.weekday % 7 + 1 := by split_ifs <;> omega
  have full : secondOfDay c = 86399 := by omega
  refine ⟨rfl, date_valid (next_real hx), time_valid midnight, ?_, ?_, weekday, ?_⟩
  · rw [second, s59]
    exact ⟨fun _ => rfl, fun _ => rfl⟩
  · exact ⟨fun _ => full, fun _ => rfl⟩
  · have next : x.next.date.dayNumber = if x.number = 36525 then 1 else x.number + 1 :=
      (dayNumber_eq (next_real hx)).trans (next_number hx)
    rw [secondOfCentury, day' _ rfl, secondOfCentury, full, number]
    dsimp only
    rw [next]
    split_ifs <;> omega

/-- Settles O8: a valid reading spells a day and a time, whose advance is said on numbers. -/
theorem clockAdvancesOneSecond : Obligations.ClockAdvancesOneSecond := fun c => by
  refine ⟨fun unset => by simp [SiteClock.advance, unset], fun set hd ht w1 w7 => ?_⟩
  obtain ⟨x, hx, date⟩ := date_valid_spells _ hd
  obtain ⟨y, hy, time⟩ := time_valid_spells _ ht
  obtain ⟨clk, date', time', minute, day, weekday, seconds⟩ := advance_oneSecondOn hx hy c set date time w1 w7
  exact ⟨clk, date', time', minute, day, weekday, seconds⟩

end Sys2Proof.Proofs.Calendar
end

section
/-! PROOFS. What follows the schedules: the site state and its override (R27, R34, R35), the windows of a schedule (R23, R30, R31) and the chain
walk (R19, R20). -/
namespace Sys2Proof.Proofs.Schedules

open Sys2Proof Sys2Proof.Machine Sys2Proof.Safety Sys2Proof.Laws Sys2Proof.Proofs.RecordReads Sys2Proof.Proofs.Reads
open Sys2Proof.Proofs.Evaluation Sys2Proof.Proofs.Calendar

variable {s t : State} {f : RequestFrame} {rest : List RequestFrame}

/-! ### The site state -/

/-- An evaluation that leaves the site schedule's entry as it was leaves the site state. -/
theorem siteFollows_still (s : State) : s.siteFollows s.siteInForce = s := by
  unfold State.siteFollows
  cases s.siteInForce <;> rfl

/-- A forced AFTER_HOURS does not follow the site schedule (R35). -/
theorem siteFollows_forced (open_ : s.siteInForce = true) (state : s.clk.siteState = .afterHours)
    (forced : s.clk.override = .forceAfterHours) : s.siteFollows false = s := by
  simp [State.siteFollows, State.siteOpens, open_, state, forced]

/-- HoldOpen keeps the site open when the site schedule goes out of force (R35). -/
theorem siteFollows_held (shut : s.siteInForce = false) (held : s.clk.override = .holdOpen) : s.siteFollows true = s := by
  simp [State.siteFollows, State.siteCloses, shut, held]

/-- HoldOpen lapses when the site schedule comes into force (R35). -/
theorem siteFollows_lapses (open_ : s.siteInForce = true) (held : s.clk.override = .holdOpen) :
    (s.siteFollows false).clk.override = .noOverride := by
  have site := s.siteFollows_site false
  cases hs : s.clk.siteState <;> simp [followed, open_, held, hs] at site
  all_goals exact site.2.1

/-- The rows of R34's table that an evaluation takes. -/
theorem siteFollows_rows (s : State) :
    (s.siteInForce = true → s.clk.siteState = .closing →
      (s.siteFollows false).clk.siteState = .openHours ∧ (s.siteFollows false).clk.graceTimer = none) ∧
    (s.siteInForce = true → s.clk.siteState = .afterHours → s.clk.override ≠ .forceAfterHours →
      (s.siteFollows false).clk.siteState = .openHours) ∧
    (s.siteInForce = false → s.clk.siteState = .openHours → s.clk.override = .noOverride → s.clk.grace = 0 →
      (s.siteFollows true).clk.siteState = .afterHours) ∧
    (s.siteInForce = false → s.clk.siteState = .openHours → s.clk.override = .noOverride → 0 < s.clk.grace →
      (s.siteFollows true).clk.siteState = .closing ∧ (s.siteFollows true).clk.graceTimer = some (60 * s.clk.grace)) := by
  refine ⟨fun open_ state => ?_, fun open_ state free => ?_, fun shut state free none_ => ?_, fun shut state free some_ => ?_⟩
  · have site := s.siteFollows_site false
    simp only [followed, open_, state, Prod.mk.injEq] at site
    exact ⟨site.1, site.2.2⟩
  · have site := s.siteFollows_site false
    simp only [followed, open_, state, if_neg free, Prod.mk.injEq] at site
    exact site.1
  · have site := s.siteFollows_site true
    simp [followed, shut, state, free, none_] at site
    exact site.1
  · have site := s.siteFollows_site true
    simp [followed, shut, state, free, Nat.ne_of_gt some_] at site
    exact ⟨site.1, site.2.2⟩

/-! ### SITE OVERRIDE -/

/-- The site state that an override gives at once (R35). -/
def overridden (c : SiteClock) : Override → SiteState
  | .holdOpen => .openHours
  | .forceAfterHours => .afterHours
  | .noOverride => if c.isSet ∧ c.inForce[c.siteSchedule] then .openHours else .afterHours

/-- The entry to a site state other than CLOSING stops the grace timer (R34). -/
theorem enterSite_open (s : State) {st : SiteState} (h : st ≠ .closing) :
    (s.enterSite st).clk = { s.clk with siteState := st, graceTimer := none } := by
  rw [State.enterSite_clk]
  simp [h]

theorem applyOverride_eq (s : State) (o : Override) :
    s.applyOverride o = ({ s with clk := { s.clk with override := o } } : State).enterSite (overridden s.clk o) := by
  cases o with
  | holdOpen => rfl
  | forceAfterHours => rfl
  | noOverride =>
    have test : ({ s with clk := { s.clk with override := .noOverride } } : State).siteInForce = true ↔
        (s.clk.isSet ∧ s.clk.inForce[s.clk.siteSchedule]) := by simp [State.siteInForce]
    unfold State.applyOverride overridden
    dsimp only
    congr 1
    exact if_congr test rfl rfl

theorem overridden_open (c : SiteClock) (o : Override) : overridden c o ≠ .closing := by
  cases o with
  | noOverride => unfold overridden; dsimp only; split <;> nofun
  | holdOpen => nofun
  | forceAfterHours => nofun

theorem applyOverride_clk (s : State) (o : Override) :
    (s.applyOverride o).clk = { s.clk with override := o, graceTimer := none, siteState := overridden s.clk o } := by
  rw [applyOverride_eq, enterSite_open _ (overridden_open s.clk o)]

theorem siteOverrideBody_accepted {o : Override} (h : ¬(o = .holdOpen ∧ s.clk.isSet = false)) :
    siteOverrideBody o s = (s.applyOverride o, .ok (.override o (overridden s.clk o))) := by
  rw [siteOverrideBody, if_neg h]
  dsimp only
  rw [applyOverride_clk]

/-- SITE OVERRIDE (R27, R34, R35). -/
theorem exec_siteOverride (w : WaitsWith s f rest 0x23) {o : Override} (h : ¬(o = .holdOpen ∧ s.clk.isSet = false)) :
    ∃ t, exec (.siteOverride (some o)) s = .next t ∧
      t.clk = { s.clk with override := o, graceTimer := none, siteState := overridden s.clk o } ∧
      t.bt = s.bt ∧ t.doors = s.doors ∧ t.zones = s.zones ∧ t.bank = s.bank ∧ t.ctx = s.ctx ∧ t.p2 = s.p2 ∧
      t.lines = s.lines ∧ t.p1.requests = rest ∧ AnsweredOk s t f 0x23 (.override o t.clk.siteState) := by
  obtain ⟨t, ht, leaves, requests, ok⟩ :=
    serveFields_leaves w rfl o siteOverrideBody (siteOverrideBody_accepted (s := taken s rest) h) (by simp)
  have clk : t.clk = { s.clk with override := o, graceTimer := none, siteState := overridden s.clk o } :=
    leaves.clk.trans (applyOverride_clk (taken s rest) o)
  refine ⟨t, ht, clk, by simp [leaves.bt, taken], by simp [leaves.doors, taken], by simp [leaves.zones, taken],
    by simp [leaves.bank, taken], by simp [leaves.ctx, taken], by simp [leaves.p2, taken], by simp [leaves.lines, taken], requests, ?_⟩
  rw [clk]
  exact ok

/-- Settles O12: the site state by the rows of R34's table, and SITE OVERRIDE by the state that it gives. -/
theorem siteStateFollowsScheduleAndOverride : Obligations.SiteStateFollowsScheduleAndOverride := by
  refine ⟨fun s => ?_, fun s _ rest o w => ⟨fun h => ?_, fun held unset => ?_⟩⟩
  · obtain ⟨closing, afterHours, shuts, grace⟩ := siteFollows_rows s
    exact ⟨closing, fun open_ => siteFollows_forced open_, afterHours, siteFollows_lapses, shuts, grace,
      fun shut _ => siteFollows_held shut, siteFollows_still s⟩
  · obtain ⟨t, ht, clk, others⟩ := exec_siteOverride w h
    refine ⟨t, ht, clk.trans ?_, others⟩
    cases o <;> rfl
  · exact serveFields_refused w rfl o siteOverrideBody .state (if_pos ⟨held, unset⟩)

/-! ### Windows -/

section Windows

/-- The day kind of the evaluated date is that of the weekday's bit, or the holiday bit (R31). -/
theorem dayMatches_eq (days : BitVec 8) (holiday : Bool) {w : Nat} (w1 : 1 ≤ w) (w7 : w ≤ 7) :
    dayMatches days holiday w = days.getLsbD (if holiday then 7 else w - 1) := by
  unfold dayMatches
  cases holiday <;> simp [w1, w7]

theorem weekdayBefore_range {w : Nat} (w1 : 1 ≤ w) (w7 : w ≤ 7) : 1 ≤ weekdayBefore w ∧ weekdayBefore w ≤ 7 := by
  unfold weekdayBefore
  split <;> omega

theorem weekdayBefore_bit {w : Nat} (w1 : 1 ≤ w) (w7 : w ≤ 7) :
    weekdayBefore w - 1 = if w = 1 then 6 else w - 2 := by
  unfold weekdayBefore
  split <;> omega

/-- A window is in force between its start and its stop of one day, or past midnight from one day to the next (R31). -/
theorem window_inForce_iff (x : Window) (today yesterday : BitVec 8 → Bool) {now : HhMm} (hs : RealTime x.start) (he : RealTime x.stop)
    (hn : RealTime now) :
    x.inForce today yesterday now = true ↔
      (hhmm x.start < hhmm x.stop ∧ today x.days = true ∧ hhmm x.start ≤ hhmm now ∧ hhmm now < hhmm x.stop) ∨
      (hhmm x.stop < hhmm x.start ∧
        (today x.days = true ∧ hhmm x.start ≤ hhmm now ∨ yesterday x.days = true ∧ hhmm now < hhmm x.stop)) ∨
      (hhmm x.stop = hhmm x.start ∧
        (today x.days = true ∧ hhmm x.start ≤ hhmm now ∨ yesterday x.days = true ∧ hhmm now < hhmm x.start)) := by
  have startNow : x.start.number ≤ now.number ↔ hhmm x.start ≤ hhmm now := by
    rw [← Nat.not_lt, ← Nat.not_lt, hhMm_number_lt hn hs]
  unfold Window.inForce
  simp only [hhMm_number_lt hs he]
  split
  · next same =>
    simp only [Bool.and_eq_true, decide_eq_true_eq, startNow, hhMm_number_lt hn he]
    constructor
    · rintro ⟨⟨hd, h1⟩, h2⟩
      exact .inl ⟨same, hd, h1, h2⟩
    · rintro (⟨-, hd, h1, h2⟩ | ⟨past, -⟩ | ⟨equal, -⟩)
      · exact ⟨⟨hd, h1⟩, h2⟩
      · omega
      · omega
  · next notSame =>
    simp only [Bool.or_eq_true, Bool.and_eq_true, decide_eq_true_eq, startNow, hhMm_number_lt hn he]
    constructor
    · intro h
      rcases Nat.lt_or_eq_of_le (Nat.not_lt.mp notSame) with lt | eq
      · exact .inr (.inl ⟨lt, h⟩)
      · exact .inr (.inr ⟨eq, eq ▸ h⟩)
    · rintro (⟨same, -⟩ | ⟨-, h⟩ | ⟨eq, h⟩)
      · exact absurd same notSame
      · exact h
      · rw [eq]; exact h

end Windows

/-! ### Holidays and the day before -/

theorem covers_iff (h : Holiday) (d : Date) :
    h.covers d = true ↔ h = .everyYear d.month d.day ∨ h = .dated d.year d.month d.day := by
  cases h <;> simp [Holiday.covers, and_assoc]

theorem isHoliday_iff (hs : List Holiday) (d : Date) :
    isHoliday hs d = true ↔ .everyYear d.month d.day ∈ hs ∨ .dated d.year d.month d.day ∈ hs := by
  simp only [isHoliday, List.any_eq_true, covers_iff]
  constructor
  · rintro ⟨h, mem, rfl | rfl⟩
    · exact .inl mem
    · exact .inr mem
  · rintro (mem | mem)
    · exact ⟨_, mem, .inl rfl⟩
    · exact ⟨_, mem, .inr rfl⟩

/-- The day before a date is one of the calendar, and the advance from its last second leads back (R25, R31). -/
theorem previous_advances (c : SiteClock) (d : Date) (h : RealDate d) :
    RealDate d.previous ∧
      { c with date := d.previous, time := ⟨0x23, 0x59, 0x59⟩, isSet := true : SiteClock }.advance.clk.date = d := by
  obtain ⟨x, hx, rfl⟩ := date_valid_spells d ((date_valid_iff d).mpr h)
  obtain ⟨p, hp, spelt, next⟩ := previous_spells hx
  rw [spelt]
  refine ⟨(date_valid_iff _).mp (date_valid hp), ?_⟩
  have last : Clock.Real ⟨23, 59, 59⟩ := ⟨le_refl _, le_refl _, le_refl _⟩
  have lastSecond : (⟨0x23, 0x59, 0x59⟩ : Time) = Clock.time ⟨23, 59, 59⟩ := by decide
  rw [advance_eq hp last _ rfl rfl lastSecond, ← next]
  rfl

/-! ### The chain walk -/

/-- The contents of the entries that a chain visits, in order. -/
def visited (t : BearerTable) (n e : Nat) : List PermContent :=
  (t.chain n e).filterMap fun e => (t.entries.get e).map fun x => x.content

theorem visited_cons {t : BearerTable} {e : Nat} {x : PermEntry} (h : t.entries.get e = some x) (n : Nat) :
    visited t (n + 1) e = x.content :: visited t n x.next := by
  simp [visited, BearerTable.chain, h]

theorem visited_none {t : BearerTable} {e : Nat} (h : t.entries.get e = none) (n : Nat) : visited t n e = [] := by
  cases n <;> simp [visited, BearerTable.chain, h]

section Walk

variable {cls : Sys2Proof.Class} {r : Room} {need : Rights}

theorem covers_rights (given need : Rights) : given.covers need = true ↔ Covers given need := by
  obtain ⟨e, n, c, x, v⟩ := need
  cases e <;> cases n <;> cases c <;> cases x <;> cases v <;> simp [Rights.covers, Covers, and_assoc]

theorem names_iff (c : PermContent) : c.names cls r need = true ↔ NamesRoom cls r need c := by
  simp only [PermContent.names, Bool.and_eq_true, covers_rights]
  exact Iff.rfl

theorem schedInForce_iff (c : SiteClock) (n : Nat) : c.schedInForce n = true ↔ ∃ i : Sched, n = i.val ∧ c.inForce[i] = true := by
  unfold SiteClock.schedInForce sched?
  by_cases h : n < 64
  · simp only [h, dif_pos]
    exact ⟨fun on => ⟨⟨n, h⟩, rfl, on⟩, fun ⟨i, hi, on⟩ => by subst hi; exact on⟩
  · simp only [h, dif_neg, not_false_eq_true]
    exact ⟨nofun, fun ⟨i, hi, _⟩ => absurd (hi ▸ i.isLt) h⟩

theorem fits_iff (c : PermContent) :
    (c.names cls r need && s.clk.schedInForce c.schedule) = true ↔ FitsNow s cls r need c := by
  rw [Bool.and_eq_true, names_iff, schedInForce_iff]
  exact Iff.rfl

/-- The walk ends at the first entry that fits (R20). -/
theorem chainWalk_matched {n e : Nat} {named : Bool} {pre post : List PermContent} {c : PermContent}
    (split : visited s.bt n e = pre ++ c :: post) (fits : FitsNow s cls r need c) (before : ∀ x ∈ pre, ¬FitsNow s cls r need x) :
    s.chainWalk cls r need n e named = .matched (allowedTo cls c.rights) := by
  induction n generalizing e pre named with
  | zero => simp [visited, BearerTable.chain] at split
  | succ n ih =>
    cases hit : s.bt.entries.get e with
    | none => simp [visited_none hit] at split
    | some x =>
      rw [visited_cons hit] at split
      rw [State.chainWalk, hit]
      dsimp only
      cases pre with
      | nil =>
        obtain ⟨rfl, -⟩ := List.cons.inj split
        rw [if_pos (fits_iff _ |>.mpr fits)]
        rfl
      | cons y pre =>
        obtain ⟨rfl, tail⟩ := List.cons.inj split
        rw [if_neg (mt (fits_iff _).mp (before _ List.mem_cons_self))]
        exact ih tail fun z hz => before z (List.mem_cons_of_mem _ hz)

/-- A walk without an entry that fits answers whether one has named the strongroom (R20). -/
theorem chainWalk_unmatched {n e : Nat} {named : Bool} (none_ : ∀ x ∈ visited s.bt n e, ¬FitsNow s cls r need x) :
    s.chainWalk cls r need n e named =
      if named || (visited s.bt n e).any (fun c => c.names cls r need) then .named else .nothing := by
  induction n generalizing e named with
  | zero => simp [State.chainWalk, visited, BearerTable.chain]
  | succ n ih =>
    cases hit : s.bt.entries.get e with
    | none => simp [State.chainWalk, hit, visited_none hit]
    | some x =>
      rw [visited_cons hit] at none_ ⊢
      rw [State.chainWalk, hit]
      dsimp only
      rw [if_neg (mt (fits_iff _).mp (none_ _ List.mem_cons_self)), ih fun z hz => none_ z (List.mem_cons_of_mem _ hz),
        List.any_cons, Bool.or_assoc]

end Walk

/-- Settles O10: the windows on numbers, the holidays, the day before, and the walk by induction on its count. -/
theorem windowsAndTheChainWalk : Obligations.WindowsAndTheChainWalk := by
  refine ⟨fun s i => ⟨fun zero => ?_, fun other unset => ?_, fun other set now w1 w7 real => ?_⟩, isHoliday_iff, previous_advances,
    fun s rec r need => ⟨Acts.chain_length_le _ _, fun pre c post split fits before => ?_, fun none_ named => ?_, fun none_ => ?_⟩⟩
  · simp [State.evaluateSchedule, zero]
  · simp [State.evaluateSchedule, other, unset]
  · have before := weekdayBefore_range w1 w7
    simp only [State.evaluateSchedule, other, set, if_false, Bool.not_true, Bool.false_eq_true, List.any_eq_true]
    refine exists_congr fun x => and_congr_right fun hx => ?_
    obtain ⟨hs, he⟩ := real x hx
    rw [window_inForce_iff x _ _ hs he now]
    simp only [dayMatches_eq _ _ w1 w7, dayMatches_eq _ _ before.1 before.2, weekdayBefore_bit w1 w7]
  · exact chainWalk_matched split fits before
  · obtain ⟨x, hx, names⟩ := named
    refine (chainWalk_unmatched none_).trans (if_pos ?_)
    rw [Bool.false_or, List.any_eq_true]
    exact ⟨x, hx, (names_iff x).mpr names⟩
  · refine (chainWalk_unmatched fun x hx fits => none_ x hx fits.1).trans (if_neg ?_)
    rw [Bool.false_or, List.any_eq_true]
    rintro ⟨x, hx, names⟩
    exact none_ x hx ((names_iff x).mp names)

end Sys2Proof.Proofs.Schedules
end

section
/-! PROOFS. The Alarm Table: the tables of a raise and of a condition that is gone (R96, R97), the eviction of a full table (R98), and the
two requests that name a record (R99, R100). -/
namespace Sys2Proof.Proofs.AlarmTable

open Sys2Proof Sys2Proof.Machine Sys2Proof.Safety Sys2Proof.Laws Sys2Proof.Proofs.RecordReads Sys2Proof.Proofs.Reads
open Sys2Proof.Proofs.BearerRequests

variable {s t : State} {f : RequestFrame} {rest : List RequestFrame} {a : AlarmArgs} {k : AlarmKey} {r v : AlarmRecord}

/-! ### Raises and conditions that are gone -/

theorem find_none (new : ∀ x ∈ s.alarms.records, x.key ≠ k) : s.alarms.records.find? (fun x => x.key = k) = none := by
  simpa only [List.find?_eq_none, decide_eq_true_eq] using new

/-- A raise on a record that stands (R96). -/
theorem raisedAgain_eq (x : AlarmRecord) :
    x.raisedAgain =
      { x with
        repeats := min 255 (x.repeats + 1)
        state := if x.state = .restored ∨ x.state = .awaitReset then .active else x.state } := by
  unfold AlarmRecord.raisedAgain
  cases x.state <;> simp

theorem raiseAlarm_again (found : s.alarms.records.find? (fun x => x.key = k) = some r) :
    (s.raiseAlarm k).alarms.records = s.alarms.records.map fun x => if x.key = k then x.raisedAgain else x := by
  unfold State.raiseAlarm
  rw [found]

/-- Settles O17: the raise by whether a record stands, the restore by the state of each record of the group. -/
theorem raiseAndRestoreFollowTheTables : Obligations.RaiseAndRestoreFollowTheTables := by
  unfold Obligations.RaiseAndRestoreFollowTheTables
  refine ⟨fun s k => ⟨fun r found => ?_, fun new room => ?_, ?_⟩, fun s group => ?_, fun s k => rfl⟩
  · rw [raiseAlarm_again found]
    exact List.map_congr_left fun x _ => by rw [raisedAgain_eq]
  · rw [State.raiseAlarm_new s k new room]
    exact ⟨rfl, rfl⟩
  · simp
  · exact ⟨rfl, rfl⟩

/-! ### Eviction -/

/-- A full table evicts its victim, and the notices follow in order (R98). -/
theorem raiseAlarm_evicts (new : ∀ x ∈ s.alarms.records, x.key ≠ k) (full : s.alarms.records.length = 64)
    (hv : victim? s.alarms.records k.kind.priority = some v) :
    s.raiseAlarm k =
      { s with
        alarms := { s.alarms with records := s.alarms.records.erase v ++ [⟨k, .active, s.clk.stamp, 0⟩] }
        due := s.due ++ [.notice (v.goneNotice .evicted), .notice (AlarmRecord.notice ⟨k, .active, s.clk.stamp, 0⟩)] } := by
  unfold State.raiseAlarm
  rw [find_none new]
  dsimp only
  rw [if_neg (by rw [full, Config.maxAlarms]; omega), hv]

/-- A full table without a victim does not store the raise (R98). -/
theorem raiseAlarm_notStored (new : ∀ x ∈ s.alarms.records, x.key ≠ k) (full : s.alarms.records.length = 64)
    (hv : victim? s.alarms.records k.kind.priority = none) :
    s.raiseAlarm k =
      { s with
        alarms := { s.alarms with overflow := true }
        due := s.due ++ [.notice (.alarm k .notStored k.kind.priority 0 .zeros)] } := by
  unfold State.raiseAlarm
  rw [find_none new]
  dsimp only
  rw [if_neg (by rw [full, Config.maxAlarms]; omega), hv]

/-- The first class, tried for every priority. -/
def settledFault (x : AlarmRecord) : Bool := x.key.kind.priority = .fault && (x.state = .acked || x.state = .awaitReset)

/-- The second class, tried for SECURITY and LIFE. -/
def ackedSecurity (x : AlarmRecord) : Bool := x.key.kind.priority = .security && x.state = .acked

/-- The third class, tried for LIFE. -/
def openFault (x : AlarmRecord) : Bool := x.key.kind.priority = .fault && (x.state = .active || x.state = .restored)

/-- The victim, class by class (R98). -/
theorem victim_eq (rs : List AlarmRecord) (p : Priority) :
    victim? rs p =
      (rs.find? settledFault).or
        ((if p = .fault then none else rs.find? ackedSecurity).or (if p = .life then rs.find? openFault else none)) := by
  have classes : evictionSteps p =
      settledFault :: (if p = .fault then [] else [ackedSecurity]) ++ (if p = .life then [openFault] else []) := by
    cases p <;> rfl
  unfold victim?
  rw [classes]
  cases p <;> cases h1 : rs.find? settledFault <;> cases h2 : rs.find? ackedSecurity <;> cases h3 : rs.find? openFault <;>
    simp [h1, h2, h3]

theorem find_first {test : AlarmRecord → Bool} {rs pre post : List AlarmRecord} (split : rs = pre ++ v :: post) (hv : test v = true)
    (before : ∀ x ∈ pre, test x = false) : rs.find? test = some v := by
  subst split
  rw [List.find?_append, List.find?_eq_none.mpr fun x hx => by simp [before x hx], Option.none_or, List.find?_cons, hv]

theorem find_nothing {test : AlarmRecord → Bool} {rs : List AlarmRecord} (no : ∀ x ∈ rs, test x = false) : rs.find? test = none :=
  List.find?_eq_none.mpr fun x hx => by simp [no x hx]

theorem erase_first {test : AlarmRecord → Bool} {pre post : List AlarmRecord} (hv : test v = true)
    (before : ∀ x ∈ pre, test x = false) : (pre ++ v :: post).erase v = pre ++ post := by
  have away : v ∉ pre := fun h => by simp [before v h] at hv
  rw [List.erase_append_right _ away, List.erase_cons_head]

/-- Each class is of FAULT or SECURITY records (R98). -/
theorem evictionSteps_notLife (p : Priority) : ∀ test ∈ evictionSteps p, ∀ x, test x = true → x.key.kind.priority ≠ .life := by
  cases p <;> simp +contextual [evictionSteps]

theorem victim_notLife {rs : List AlarmRecord} {p : Priority} (hv : victim? rs p = some v) : v.key.kind.priority ≠ .life := by
  obtain ⟨test, member, found⟩ := List.exists_of_findSome?_eq_some hv
  exact evictionSteps_notLife p test member v (List.find?_some found)

/-- A victim found as the first of its class leaves its place (R98). -/
theorem raiseAlarm_evictsFirst (new : ∀ x ∈ s.alarms.records, x.key ≠ k) (full : s.alarms.records.length = 64)
    {test : AlarmRecord → Bool} {pre post : List AlarmRecord} (split : s.alarms.records = pre ++ v :: post)
    (hv : victim? s.alarms.records k.kind.priority = some v) (passes : test v = true) (before : ∀ x ∈ pre, test x = false) :
    (s.raiseAlarm k).alarms = { s.alarms with records := pre ++ post ++ [⟨k, .active, s.clk.stamp, 0⟩] } ∧
      (s.raiseAlarm k).due =
        s.due ++ [.notice (v.goneNotice .evicted), .notice (AlarmRecord.notice ⟨k, .active, s.clk.stamp, 0⟩)] := by
  rw [raiseAlarm_evicts new full hv, split, erase_first passes before]
  exact ⟨rfl, rfl⟩

/-- No LIFE record leaves a full table (R98). -/
theorem raiseAlarm_keepsLife (new : ∀ x ∈ s.alarms.records, x.key ≠ k) (full : s.alarms.records.length = 64) (x : AlarmRecord)
    (member : x ∈ s.alarms.records) (life : x.key.kind.priority = .life) : x ∈ (s.raiseAlarm k).alarms.records := by
  cases hv : victim? s.alarms.records k.kind.priority with
  | none =>
    rw [raiseAlarm_notStored new full hv]
    exact member
  | some v =>
    have other : x ≠ v := fun h => victim_notLife hv (h ▸ life)
    rw [raiseAlarm_evicts new full hv]
    exact List.mem_append_left _ ((List.mem_erase_of_ne other).mpr member)

theorem settledFault_iff (x : AlarmRecord) :
    settledFault x = true ↔ x.key.kind.priority = .fault ∧ (x.state = .acked ∨ x.state = .awaitReset) := by simp [settledFault]

theorem ackedSecurity_iff (x : AlarmRecord) :
    ackedSecurity x = true ↔ x.key.kind.priority = .security ∧ x.state = .acked := by simp [ackedSecurity]

theorem openFault_iff (x : AlarmRecord) :
    openFault x = true ↔ x.key.kind.priority = .fault ∧ (x.state = .active ∨ x.state = .restored) := by simp [openFault]

/-- Settles O18: class by class, the first record found is the victim. -/
theorem evictionTakesTheFirstOfItsClass : Obligations.EvictionTakesTheFirstOfItsClass := by
  unfold Obligations.EvictionTakesTheFirstOfItsClass
  intro s k new full
  simp only [← settledFault_iff, ← ackedSecurity_iff, ← openFault_iff, Bool.not_eq_true]
  refine ⟨fun pre v post split => ⟨fun passes before => ?_, fun no1 prio passes before => ?_, fun no prio passes before => ?_⟩,
    fun no => ?_, raiseAlarm_keepsLife new full⟩
  · refine raiseAlarm_evictsFirst new full split ?_ passes before
    rw [victim_eq, find_first split passes before, Option.some_or]
  · refine raiseAlarm_evictsFirst new full split ?_ passes before
    rw [victim_eq, find_nothing no1, if_neg prio, find_first split passes before, Option.none_or, Option.some_or]
  · refine raiseAlarm_evictsFirst new full split ?_ passes before
    rw [victim_eq, find_nothing fun x hx => (no x hx).1, find_nothing fun x hx => (no x hx).2, prio, if_pos rfl,
      find_first split passes before]
    rfl
  · have nothing : victim? s.alarms.records k.kind.priority = none := by
      rw [victim_eq, find_nothing fun x hx => (no x hx).1]
      cases hp : k.kind.priority with
      | fault => rfl
      | security => simp [find_nothing fun x hx => (no x hx).2.1 (by simp [hp])]
      | life => simp [find_nothing fun x hx => (no x hx).2.1 (by simp [hp]), find_nothing fun x hx => (no x hx).2.2 hp]
    rw [raiseAlarm_notStored new full nothing]
    exact ⟨rfl, rfl⟩

/-! ### ALARM ACK and ALARM RESET -/

/-- An event that changes one alarm record queues its notice, first of all in an empty queue (R102, R174). -/
theorem finish_notice (u : State) (A : AlarmTable) (n : Notice) (empty : u.p1.queue = []) (unmarked : u.p1.marks = [])
    (held : u.p1.heldOff = false) :
    (State.finish u { u with alarms := A, due := [.notice n] }).p1.queue = [.notice n] := by
  have still : ({ u with alarms := A, due := [.notice n] } : State).coverageAlarms u = { u with alarms := A, due := [.notice n] } :=
    State.coverageAlarms_same _ _ rfl
  obtain ⟨g, h, outputs⟩ := ({ u with alarms := A, due := [.notice n] } : State).deriveOutputs_eq u
  have none_ (B : AlarmTable) : changedObjects u { u with alarms := B, due := [.notice n] } = [] := changedObjects_self u
  unfold State.finish
  dsimp only
  rw [still, outputs]
  simp [State.flush, none_, State.payDue, State.queueNotice, PortOne.queueNotice, empty, unmarked, held, PortOne.free,
    Config.transmitQueueSize]

/-- A request that changes one alarm record is accepted, with the notice of the change (R102). -/
theorem serve_alarmChange {α : Type} {code : Octet} {n : Nat} (w : WaitsWith s f rest code) (hn : code = BitVec.ofNat 8 n) (b : α)
    (body : α → State → State × Reply) {A : AlarmTable} {note : Notice} {x : Contents}
    (hb : body b (taken s rest) = ({ taken s rest with alarms := A, due := (taken s rest).due ++ [.notice note] }, .ok x)) :
    AcceptedWithNotice (serveFields n (some b) body s) { taken s rest with alarms := A } f code x note := by
  have settled : (taken s rest).due = [] := w.settled
  rw [settled] at hb
  rw [serveFields_of_waits w hn]
  unfold State.carryOut
  dsimp only
  rw [hb]
  obtain ⟨g, h, q, m, v, grown, hf⟩ :=
    State.finish_eq_of_coverage (taken s rest) { taken s rest with alarms := A, due := [] ++ [.notice note] } rfl
  refine ⟨State.finish (taken s rest) { taken s rest with alarms := A, due := [] ++ [.notice note] },
    ⟨g, h, q, m, v, grown, hf⟩, fun empty unmarked => ?_, by rw [answer_eq _ _ w.addressed]; rfl⟩
  exact finish_notice (taken s rest) A note empty unmarked w.inService

theorem withAlarm_found (hk : a.key? = some k) (found : t.alarms.records.find? (fun r => r.key = k) = some r)
    (body : AlarmRecord → State × Reply) : withAlarm a t body = body r := by
  simp only [withAlarm, hk, found]

theorem withAlarm_unknown (hk : a.key? = some k) (found : t.alarms.records.find? (fun r => r.key = k) = none)
    (body : AlarmRecord → State × Reply) : withAlarm a t body = refuse .notFound t := by
  simp only [withAlarm, hk, found]

theorem withAlarm_format (hk : a.key? = none) (body : AlarmRecord → State × Reply) : withAlarm a t body = refuse .format t := by
  simp only [withAlarm, hk]

/-- The state with a record of the table replaced in place. -/
theorem putAlarm_eq (t : State) {st : AlarmState} (hk : r.key = k) :
    t.putAlarm { r with state := st } =
      { t with
        alarms := { t.alarms with records := t.alarms.records.map fun x => if x.key = k then { r with state := st } else x }
        due := t.due ++ [.notice { r with state := st : AlarmRecord }.notice] } := by
  subst hk
  rfl

theorem retireAlarm_eq (t : State) (hk : r.key = k) :
    t.retireAlarm r =
      { t with
        alarms := { t.alarms with records := t.alarms.records.filter (fun x => x.key ≠ k), overflow := false }
        due := t.due ++ [.notice (.alarm k .retired k.kind.priority 0 r.raisedAt)] } := by
  subst hk
  rfl

/-- An acknowledgement that gives the record a state (R99). -/
theorem alarmAck_puts (w : WaitsWith s f rest 0x50) (names : NamesKey a k)
    (found : s.alarms.records.find? (fun r => r.key = k) = some r) {st : AlarmState}
    (row : r.acknowledge (s.isEventRecord r) = .becomes { r with state := st }) :
    AcceptedWithNotice (exec (.alarmAck (some a)) s)
      { taken s rest with
        alarms := { s.alarms with records := s.alarms.records.map fun x => if x.key = k then { r with state := st } else x } }
      f 0x50 (.alarmAcked (.standing st)) { r with state := st : AlarmRecord }.notice := by
  have hk : r.key = k := by simpa using List.find?_some found
  refine serve_alarmChange w rfl a alarmAckBody ?_
  rw [alarmAckBody, withAlarm_found (t := taken s rest) ((alarm_key?_iff a k).mpr names) found]
  have row' : r.acknowledge ((taken s rest).isEventRecord r) = .becomes { r with state := st } := row
  simp only [row', putAlarm_eq _ hk]
  rfl

/-- An acknowledgement that retires the record (R99). -/
theorem alarmAck_retires (w : WaitsWith s f rest 0x50) (names : NamesKey a k)
    (found : s.alarms.records.find? (fun r => r.key = k) = some r) (row : r.acknowledge (s.isEventRecord r) = .retires) :
    AcceptedWithNotice (exec (.alarmAck (some a)) s)
      { taken s rest with
        alarms := { s.alarms with records := s.alarms.records.filter (fun x => x.key ≠ k), overflow := false } }
      f 0x50 (.alarmAcked .retired) (.alarm k .retired k.kind.priority 0 r.raisedAt) := by
  have hk : r.key = k := by simpa using List.find?_some found
  refine serve_alarmChange w rfl a alarmAckBody ?_
  rw [alarmAckBody, withAlarm_found (t := taken s rest) ((alarm_key?_iff a k).mpr names) found]
  have row' : r.acknowledge ((taken s rest).isEventRecord r) = .retires := row
  simp only [row', retireAlarm_eq _ hk]
  rfl

/-- An acknowledgement that the record's state does not allow (R99). -/
theorem alarmAck_refused (w : WaitsWith s f rest 0x50) (names : NamesKey a k)
    (found : s.alarms.records.find? (fun r => r.key = k) = some r) (row : r.acknowledge (s.isEventRecord r) = .refused) :
    exec (.alarmAck (some a)) s = .next (refused s f rest 0x50 .state) := by
  refine serveFields_refused w rfl a alarmAckBody .state ?_
  rw [alarmAckBody, withAlarm_found (t := taken s rest) ((alarm_key?_iff a k).mpr names) found]
  have row' : r.acknowledge ((taken s rest).isEventRecord r) = .refused := row
  simp only [row']

/-- Event records by their kind and their bearer (R95). -/
theorem isEventRecord_iff (s : State) (hk : r.key = k) :
    s.isEventRecord r = true ↔
      k.kind = .tablesLost ∨ k.kind = .restarted ∨
        ((k.kind = .duress ∨ k.kind = .manDown) ∧ ∀ b, k.bearer = some b → s.entryOf b = none) := by
  subst hk
  unfold State.isEventRecord
  cases r.key.kind <;> cases r.key.bearer <;> simp

/-- Operands with a part out of its range name no key (R94, R99). -/
theorem key?_none (bad : a.kind = none ∨ (∃ n, a.room = some n ∧ (n = 0 ∨ 16 < n)) ∨ (∃ n, a.bearer = some n ∧ (n = 0 ∨ 4095 < n)) ∨
    (∃ n, a.station = some n ∧ 96 < n) ∨ (∃ n, a.point = some n ∧ (n = 0 ∨ 4 < n))) : a.key? = none := by
  cases hk : a.key? with
  | none => rfl
  | some k =>
    obtain ⟨shape, room, bearer, station, point⟩ := (alarm_key?_iff a k).mp hk
    subst shape
    simp only [reduceCtorEq, false_or] at bad
    obtain ⟨n, e, h⟩ | ⟨n, e, h⟩ | ⟨n, e, h⟩ | ⟨n, e, h⟩ := bad
    · have := room n e; omega
    · have := bearer n e; omega
    · have := station n e; omega
    · have := point n e; omega

/-- The table of ALARM ACK (R99). -/
theorem acknowledge_rows (r : AlarmRecord) :
    (r.state = .active → r.acknowledge false = .becomes { r with state := .acked }) ∧
    (r.state = .restored → r.key.kind.latching = true → r.acknowledge false = .becomes { r with state := .awaitReset }) ∧
    (r.state = .restored → r.key.kind.latching = false → r.acknowledge false = .retires) ∧
    (r.state = .acked ∨ r.state = .awaitReset → r.acknowledge false = .refused) ∧
    (r.state ≠ .awaitReset → r.acknowledge true = .becomes { r with state := .awaitReset }) ∧
    (r.state = .awaitReset → r.acknowledge true = .refused) := by
  unfold AlarmRecord.acknowledge
  cases r.state <;> simp +contextual

theorem exec_alarmReset_retires (w : WaitsWith s f rest 0x51) (names : NamesKey a k)
    (found : s.alarms.records.find? (fun r => r.key = k) = some r) (awaits : r.state = .awaitReset) :
    AcceptedWithNotice (exec (.alarmReset (some a)) s)
      { taken s rest with
        alarms := { s.alarms with records := s.alarms.records.filter (fun x => x.key ≠ k), overflow := false } }
      f 0x51 .nothing (.alarm k .retired k.kind.priority 0 r.raisedAt) := by
  have hk : r.key = k := by simpa using List.find?_some found
  refine serve_alarmChange w rfl a alarmResetBody ?_
  rw [alarmResetBody, withAlarm_found (t := taken s rest) ((alarm_key?_iff a k).mpr names) found, if_pos awaits, retireAlarm_eq _ hk]
  rfl

theorem exec_alarmReset_refused (w : WaitsWith s f rest 0x51) (names : NamesKey a k)
    (found : s.alarms.records.find? (fun r => r.key = k) = some r) (other : r.state ≠ .awaitReset) :
    exec (.alarmReset (some a)) s = .next (refused s f rest 0x51 .state) := by
  refine serveFields_refused w rfl a alarmResetBody .state ?_
  rw [alarmResetBody, withAlarm_found (t := taken s rest) ((alarm_key?_iff a k).mpr names) found, if_neg other]

/-- Settles O19: the rows of the two requests, with the notice of each change. -/
theorem alarmAckAndResetTables : Obligations.AlarmAckAndResetTables := by
  unfold Obligations.AlarmAckAndResetTables
  refine ⟨fun s f rest a k w names => ⟨fun none_ => ?_, fun r found => ?_⟩,
    fun s f rest a k w names => ⟨fun none_ => ?_, fun r found =>
      ⟨exec_alarmReset_retires w names found, exec_alarmReset_refused w names found⟩⟩,
    fun s f rest a bad => ⟨fun w => ?_, fun w => ?_⟩⟩
  · exact serveFields_refused w rfl a alarmAckBody .notFound (withAlarm_unknown (t := taken s rest) ((alarm_key?_iff a k).mpr names) none_ _)
  · obtain ⟨active, latches, retires, refuses, event, eventRefused⟩ := acknowledge_rows r
    refine ⟨fun standing => ⟨fun h => ?_, fun h l => ?_, fun h l => ?_, fun h => ?_⟩, fun ev h => ?_, fun ev h => ?_,
      isEventRecord_iff s (by simpa using List.find?_some found)⟩
    · exact alarmAck_puts w names found (standing ▸ active h)
    · exact alarmAck_puts w names found (standing ▸ latches h l)
    · exact alarmAck_retires w names found (standing ▸ retires h l)
    · exact alarmAck_refused w names found (standing ▸ refuses h)
    · exact alarmAck_puts w names found (ev ▸ event h)
    · exact alarmAck_refused w names found (ev ▸ eventRefused h)
  · exact serveFields_refused w rfl a alarmResetBody .notFound (withAlarm_unknown (t := taken s rest) ((alarm_key?_iff a k).mpr names) none_ _)
  · exact serveFields_refused w rfl a alarmAckBody .format (withAlarm_format (key?_none bad) _)
  · exact serveFields_refused w rfl a alarmResetBody .format (withAlarm_format (key?_none bad) _)

end Sys2Proof.Proofs.AlarmTable
end

section
/-! PROOFS. The Agent Bank: the walk over READY cylinders and the top-up (R137, R140), and the four actions of CYLINDER SET (R134). -/
namespace Sys2Proof.Proofs.Cylinders

open Sys2Proof Sys2Proof.Machine Sys2Proof.Safety Sys2Proof.Laws Sys2Proof.Proofs.RecordReads Sys2Proof.Proofs.Reads
open Sys2Proof.Proofs.Evaluation

variable {s t : State} {f : RequestFrame} {rest : List RequestFrame} {z : Room} {p : Pos} {cyls : Vector Cylinder 48}
  {required limit : Nat}

/-! ### The walk -/

/-- The sum of the charges at positions. -/
def charges (cyls : Vector Cylinder 48) (ps : List Pos) : Nat := (ps.map fun p => cyls[p].charge.getD 0).sum

theorem charges_cons (cyls : Vector Cylinder 48) (p : Pos) (ps : List Pos) :
    charges cyls (p :: ps) = cyls[p].charge.getD 0 + charges cyls ps := List.sum_cons

/-- The READY positions of a list. -/
def readyAmong (cyls : Vector Cylinder 48) (ps : List Pos) : List Pos := ps.filter fun p => cyls[p].state = .ready

/-- A walk that has begun with a sum and a count takes the READY cylinders `qs` of a first part `pre` of the positions: it stops before the
rest `post` only at the quantity or the limit, and was below both before each cylinder it took (R137). -/
structure Walks (cyls : Vector Cylinder 48) (required limit sum count : Nat) (ps qs pre post : List Pos) : Prop where
  split : ps = pre ++ post
  ready : qs = readyAmong cyls pre
  stops : post = [] ∨ required ≤ sum + charges cyls qs ∨ limit ≤ count + qs.length
  below : ∀ before p, qs = before ++ [p] → sum + charges cyls before < required ∧ count + before.length < limit

theorem walks_cons_other {sum count : Nat} {ps qs pre post : List Pos} (h : Walks cyls required limit sum count ps qs pre post)
    (other : cyls[p].state ≠ .ready) : Walks cyls required limit sum count (p :: ps) qs (p :: pre) post :=
  ⟨by rw [h.split]; rfl, by rw [h.ready]; exact (List.filter_cons_of_neg (by simpa using other)).symm, h.stops, h.below⟩

theorem walks_cons_ready {sum count : Nat} {ps qs pre post : List Pos}
    (h : Walks cyls required limit (sum + cyls[p].charge.getD 0) (count + 1) ps qs pre post) (ready : cyls[p].state = .ready)
    (quantity : sum < required) (room : count < limit) :
    Walks cyls required limit sum count (p :: ps) (p :: qs) (p :: pre) post := by
  refine ⟨by rw [h.split]; rfl, by rw [h.ready]; exact (List.filter_cons_of_pos (by simpa using ready)).symm, ?_, ?_⟩
  · obtain none_ | enough | full := h.stops
    · exact .inl none_
    · exact .inr (.inl (by rw [charges_cons]; omega))
    · exact .inr (.inr (by rw [List.length_cons]; omega))
  · intro before q shape
    cases before with
    | nil => exact ⟨by simpa [charges] using quantity, room⟩
    | cons x before =>
      obtain ⟨head, tail⟩ := List.cons_eq_cons.mp shape
      have := h.below before q tail
      subst head
      rw [charges_cons, List.length_cons]
      omega

/-- What a walk takes (R137 step 2). -/
theorem bankWalk_walks (cyls : Vector Cylinder 48) (required limit : Nat) (ps : List Pos) (w : BankWalk) :
    ∃ qs pre post, Walks cyls required limit w.sum w.count ps qs pre post ∧
      bankWalk cyls required limit ps w = ⟨w.sum + charges cyls qs, w.count + qs.length, w.taken ++ qs⟩ := by
  induction ps generalizing w with
  | nil => exact ⟨[], [], [], ⟨rfl, rfl, .inl rfl, by simp⟩, by simp [bankWalk, charges]⟩
  | cons p ps ih =>
    unfold bankWalk
    by_cases stop : required ≤ w.sum ∨ limit ≤ w.count
    · refine ⟨[], [], p :: ps, ⟨rfl, rfl, .inr (by simpa [charges] using stop), by simp⟩, ?_⟩
      simp [stop, charges]
    · have go : (required ≤ w.sum || limit ≤ w.count) = false := by simpa using stop
      rw [go]
      by_cases ready : cyls[p].state = .ready
      · obtain ⟨qs, pre, post, walks, result⟩ := ih ⟨w.sum + cyls[p].charge.getD 0, w.count + 1, w.taken ++ [p]⟩
        refine ⟨p :: qs, p :: pre, post, walks_cons_ready walks ready (by omega) (by omega), ?_⟩
        simp only [Bool.false_eq_true, if_false, if_pos ready, result, charges_cons, List.length_cons, List.append_assoc,
          List.singleton_append, BankWalk.mk.injEq, and_true]
        omega
      · obtain ⟨qs, pre, post, walks, result⟩ := ih w
        exact ⟨qs, p :: pre, post, walks_cons_other walks ready, by simp only [Bool.false_eq_true, if_false, if_neg ready, result]⟩

section Facts

variable {sum count : Nat} {qs pre post : List Pos} (h : Walks cyls required limit sum count (fins 48) qs pre post)
include h

theorem Walks.sublist : qs.Sublist (fins 48) := by
  rw [h.ready, h.split]
  exact List.filter_sublist.trans (List.sublist_append_left _ _)

theorem Walks.mem (q : Pos) : q ∈ qs ↔ q ∈ pre ∧ cyls[q].state = .ready := by
  rw [h.ready, readyAmong, List.mem_filter, decide_eq_true_eq]

/-- No READY cylinder before a taken one is skipped. -/
theorem Walks.noneSkipped (p q : Pos) (taken : q ∈ qs) (before : p < q) (ready : cyls[p].state = .ready) : p ∈ qs := by
  have rising : (fins 48).Pairwise (· < ·) := by
    rw [show fins 48 = List.finRange 48 from List.ext_getElem (by simp [fins_length]) fun i h1 h2 => by simp [fins_get]]
    exact List.pairwise_lt_finRange 48
  rw [h.split] at rising
  have all := mem_fins p
  rw [h.split, List.mem_append] at all
  refine (h.mem p).mpr ⟨all.resolve_right fun late => ?_, ready⟩
  exact lt_asymm before ((List.pairwise_append.mp rising).2.2 q ((h.mem q).mp taken).1 p late)

theorem Walks.fits (start : count ≤ limit) : count + qs.length ≤ limit := by
  rcases List.eq_nil_or_concat qs with none_ | ⟨before, q, shape⟩
  · simpa [none_] using start
  · have := (h.below before q (by simpa using shape)).2
    rw [shape, List.length_concat]
    omega

/-- The walk ends at the quantity, at the limit, or with every READY cylinder taken. -/
theorem Walks.ends : required ≤ sum + charges cyls qs ∨ limit ≤ count + qs.length ∨ ∀ p : Pos, cyls[p].state = .ready → p ∈ qs := by
  obtain none_ | enough | full := h.stops
  · refine .inr (.inr fun p ready => (h.mem p).mpr ⟨?_, ready⟩)
    have all := mem_fins p
    rwa [h.split, none_, List.append_nil] at all
  · exact .inl enough
  · exact .inr (.inl full)

end Facts

/-! ### The top-up -/

theorem topUpZone_passes (h : s.zones[z].state = .discharging ∨ s.sup.profiles[z].required ≤ charges s.bank.cylinders (s.bank.reservedPositions z)) :
    s.topUpZone z = s := by
  unfold State.topUpZone
  dsimp only
  by_cases discharging : s.zones[z].state = .discharging
  · rw [if_pos discharging]
  · have enough : s.sup.profiles[z].required ≤ s.bank.chargeSum (s.bank.reservedPositions z) := h.resolve_left discharging
    rw [if_neg discharging, if_pos enough]

/-- The part of a top-up that serves one zone goes on with the walk from the zone's sum and count (R140). -/
theorem topUpZone_walks (other : s.zones[z].state ≠ .discharging)
    (short : charges s.bank.cylinders (s.bank.reservedPositions z) < s.sup.profiles[z].required) :
    ∃ qs pre post,
      Walks s.bank.cylinders s.sup.profiles[z].required s.sup.profiles[z].limit
        (charges s.bank.cylinders (s.bank.reservedPositions z)) (s.bank.reservedPositions z).length (fins 48) qs pre post ∧
      s.topUpZone z = s.reserveAll z qs := by
  obtain ⟨qs, pre, post, walks, result⟩ := bankWalk_walks s.bank.cylinders s.sup.profiles[z].required s.sup.profiles[z].limit
    (fins 48) ⟨charges s.bank.cylinders (s.bank.reservedPositions z), (s.bank.reservedPositions z).length, []⟩
  refine ⟨qs, pre, post, walks, ?_⟩
  unfold State.topUpZone
  dsimp only
  have below : ¬ s.sup.profiles[z].required ≤ s.bank.chargeSum (s.bank.reservedPositions z) := Nat.not_le.mpr short
  rw [if_neg other, if_neg below]
  have taken := congrArg BankWalk.taken result
  rw [List.nil_append] at taken
  exact congrArg (s.reserveAll z) taken

theorem reserveAll_eq (s : State) (z : Room) (qs : List Pos) :
    s.reserveAll z qs =
      { s with
        bank :=
          { s.bank with
            cylinders := vgen fun p =>
              if p ∈ qs then { s.bank.cylinders[p] with state := .reserved, zone := some z } else s.bank.cylinders[p] } } := by
  simp only [State.reserveAll, List.contains_eq_mem, decide_eq_true_eq]

/-- A position that one zone's part of a top-up leaves, or takes READY (R140). -/
theorem topUpZone_cylinder (s : State) (z : Room) (p : Pos) :
    (s.topUpZone z).bank.cylinders[p] = s.bank.cylinders[p] ∨
      (s.bank.cylinders[p].state = .ready ∧ s.zones[z].state ≠ .discharging ∧
        (s.topUpZone z).bank.cylinders[p] = { s.bank.cylinders[p] with state := .reserved, zone := some z }) := by
  by_cases passes : s.zones[z].state = .discharging ∨
      s.sup.profiles[z].required ≤ charges s.bank.cylinders (s.bank.reservedPositions z)
  · exact .inl (by rw [topUpZone_passes passes])
  · obtain ⟨other, short⟩ := not_or.mp passes
    obtain ⟨qs, pre, post, walks, result⟩ := topUpZone_walks other (Nat.not_le.mp short)
    rw [result, reserveAll_eq]
    by_cases taken : p ∈ qs
    · exact .inr ⟨((walks.mem p).mp taken).2, other, by simp [taken]⟩
    · exact .inl (by simp [taken])

/-- A position over the whole top-up: a cylinder that has been taken is not READY any more, so it is taken once (R140). -/
theorem topUps_cylinder (zs : List Room) (s : State) (p : Pos) :
    (zs.foldl State.topUpZone s).bank.cylinders[p] = s.bank.cylinders[p] ∨
      (s.bank.cylinders[p].state = .ready ∧ ∃ z ∈ zs, s.zones[z].state ≠ .discharging ∧
        (zs.foldl State.topUpZone s).bank.cylinders[p] = { s.bank.cylinders[p] with state := .reserved, zone := some z }) := by
  induction zs generalizing s with
  | nil => exact .inl rfl
  | cons z zs ih =>
    have zones : (s.topUpZone z).zones = s.zones := by simp
    rw [List.foldl_cons]
    obtain first | ⟨ready, other, first⟩ := topUpZone_cylinder s z p <;> have later := ih (s.topUpZone z) <;>
      rw [first, zones] at later
    · obtain still | ⟨ready, y, member, other, later⟩ := later
      · exact .inl still
      · exact .inr ⟨ready, y, List.mem_cons_of_mem _ member, other, later⟩
    · obtain still | ⟨again, -⟩ := later
      · exact .inr ⟨ready, z, List.mem_cons_self, other, still⟩
      · cases again

/-- A top-up leaves the reservation list, the manifold and the flags. -/
theorem topUps_lists (zs : List Room) (s : State) :
    (zs.foldl State.topUpZone s).bank =
      { s.bank with cylinders := (zs.foldl State.topUpZone s).bank.cylinders } := by
  induction zs generalizing s with
  | nil => rfl
  | cons z zs ih =>
    have first : (s.topUpZone z).bank = { s.bank with cylinders := (s.topUpZone z).bank.cylinders } := by
      unfold State.topUpZone
      dsimp only
      split
      · rfl
      · split <;> rfl
    rw [List.foldl_cons, ih, first]

/-- Settles O24: the walk, one zone's part of a top-up, and the top-up of the whole list. -/
theorem walkAndTopUpTakeReadyCylinders : Obligations.WalkAndTopUpTakeReadyCylinders := by
  unfold Obligations.WalkAndTopUpTakeReadyCylinders
  refine ⟨fun cyls required limit => ?_, fun s z => ⟨topUpZone_passes, fun other short => ?_⟩, fun s p => ?_⟩
  · obtain ⟨qs, pre, post, walks, result⟩ := bankWalk_walks cyls required limit (fins 48) ⟨0, 0, []⟩
    have fits := walks.fits (Nat.zero_le limit)
    have ends := walks.ends
    simp only [Nat.zero_add, List.nil_append] at result fits ends
    rw [result]
    refine ⟨walks.sublist, fun p taken => ((walks.mem p).mp taken).2, walks.noneSkipped, rfl, fits, rfl, ?_, fun before p shape => ?_⟩
    · obtain enough | full | all := ends
      · exact .inl enough
      · exact .inr (.inl (Nat.le_antisymm fits full))
      · exact .inr (.inr all)
    · have := (walks.below before p shape).1
      rwa [Nat.zero_add] at this
  · obtain ⟨qs, pre, post, walks, result⟩ := topUpZone_walks other short
    exact ⟨qs, walks.sublist, fun p taken => ((walks.mem p).mp taken).2, walks.noneSkipped, walks.ends, walks.below,
      by rw [result, reserveAll_eq]⟩
  · have lists := topUps_lists s.bank.reservations s
    have reservations := congrArg AgentBank.reservations lists
    have manifold := congrArg AgentBank.manifold lists
    have flags := congrArg AgentBank.flags lists
    exact ⟨rfl, topUps_cylinder s.bank.reservations s p, reservations, manifold, flags⟩

/-! ### CYLINDER SET -/

/-- A top-up reads nothing of port 1. -/
theorem topUp_taken (s : State) (rest : List RequestFrame) : (taken s rest).topUp.bank = s.topUp.bank := by
  have step (t : State) (q : PortOne) (z : Room) :
      ({ t with p1 := q } : State).topUpZone z = { t.topUpZone z with p1 := q } := by
    unfold State.topUpZone
    dsimp only
    split
    · rfl
    · split <;> rfl
  have all (zs : List Room) (t : State) (q : PortOne) :
      zs.foldl State.topUpZone { t with p1 := q } = { zs.foldl State.topUpZone t with p1 := q } := by
    induction zs generalizing t with
    | nil => rfl
    | cons z zs ih => rw [List.foldl_cons, step, ih, List.foldl_cons]
  unfold State.topUp taken
  rw [all]
  rfl

theorem afterCylinder_taken (s : State) (rest : List RequestFrame) (offered : Bool) :
    ((taken s rest).afterCylinder offered).bank = (s.afterCylinder offered).bank := by
  cases offered with
  | false => rfl
  | true => exact topUp_taken s rest

/-- CYLINDER SET has given a cylinder a new record: the bank follows, and nothing else changes (R134). -/
def Becomes (s : State) (f : RequestFrame) (rest : List RequestFrame) (p : Pos) (o : Host.Outcome State Fault Refusal)
    (new : Cylinder) (offered : Bool) : Prop :=
  TakenAndAnswered s o rest f 0x70 (.cylinderState new.state) fun t =>
    t.bank = ((s.setCylinder p new).afterCylinder offered).bank ∧ t.bt = s.bt ∧ t.clk = s.clk ∧ t.ctx = s.ctx ∧
    t.roll = s.roll ∧ t.doors = s.doors ∧ t.zones = s.zones ∧ t.loop = s.loop ∧ t.p2 = s.p2 ∧ t.lines = s.lines

/-- A body that sets one cylinder and follows it up. -/
theorem serve_becomes {α : Type} (w : WaitsWith s f rest 0x70) (a : α) (body : α → State → State × Reply) {new : Cylinder}
    {offered : Bool}
    (hb : body a (taken s rest) = (((taken s rest).setCylinder p new).afterCylinder offered, .ok (.cylinderState new.state))) :
    Becomes s f rest p (serveFields 0x70 (some a) body s) new offered := by
  obtain ⟨t, next, leaves, requests, ok⟩ := serveFields_leaves w rfl a body hb (by simp [State.setCylinder])
  refine ⟨t, next, requests, ok, leaves.bank.trans (afterCylinder_taken (s.setCylinder p new) rest offered), ?_⟩
  refine ⟨leaves.bt.trans ?_, leaves.clk.trans ?_, leaves.ctx.trans ?_, leaves.roll.trans ?_, leaves.doors.trans ?_,
    leaves.zones.trans ?_, leaves.loop.trans ?_, leaves.p2.trans ?_, leaves.lines.trans ?_⟩ <;> simp [State.setCylinder, taken]

/-- The record that a request names, by its position. -/
theorem exec_cylinderSet_format {k : Nat} (w : WaitsWith s f rest 0x70) (bad : k = 0 ∨ 48 < k) (i : Instr)
    (hi : i = .cylinderIsolate (some k) ∨ i = .cylinderReturn (some k) ∨ i = .cylinderRemove (some k)) :
    exec i s = .next (refused s f rest 0x70 .format) := by
  have none_ := pos?_none bad
  obtain rfl | rfl | rfl := hi
  · exact serveFields_refused w rfl k isolateBody .format (by rw [isolateBody, none_])
  · exact serveFields_refused w rfl k returnBody .format (by rw [returnBody, none_])
  · exact serveFields_refused w rfl k removeBody .format (by rw [removeBody, none_])

theorem installBody_format {k charge : Nat} (bad : k = 0 ∨ 48 < k ∨ charge = 0 ∨ 999 < charge) (t : State) :
    installBody ⟨k, charge⟩ t = refuse .format t := by
  unfold installBody
  dsimp only
  by_cases position : k = 0 ∨ 48 < k
  · rw [pos?_none position]
  · have outside : (charge = 0 || 999 < charge) = true := by simp; omega
    cases pos? k with
    | none => rfl
    | some p => simp only [outside, if_true]

section Bodies

variable {charge : Nat}

theorem installBody_absent (low : 1 ≤ charge) (high : charge ≤ 999) (absent : t.bank.cylinders[p].state = .absent) :
    installBody ⟨num p, charge⟩ t =
      ((t.setCylinder p { t.bank.cylinders[p] with state := t.inService p, charge := some charge }).afterCylinder
          (t.inService p = .ready), .ok (.cylinderState (t.inService p))) := by
  have inside : (charge = 0 || 999 < charge) = false := by simp; omega
  simp only [installBody, pos?_num, inside, Bool.false_eq_true, if_false, ne_eq, absent, not_true]

theorem installBody_present (low : 1 ≤ charge) (high : charge ≤ 999) (present : t.bank.cylinders[p].state ≠ .absent) :
    installBody ⟨num p, charge⟩ t = refuse .state t := by
  have inside : (charge = 0 || 999 < charge) = false := by simp; omega
  simp only [installBody, pos?_num, inside, Bool.false_eq_true, if_false, ne_eq, present, not_false_eq_true, if_true]

theorem isolateBody_ready (ready : t.bank.cylinders[p].state = .ready) :
    isolateBody (num p) t =
      ((t.setCylinder p { t.bank.cylinders[p] with state := .isolated }).afterCylinder false,
        .ok (.cylinderState .isolated)) := by
  simp only [isolateBody, pos?_num, ready]

theorem isolateBody_reserved (reserved : t.bank.cylinders[p].state = .reserved) (zone : t.bank.cylinders[p].zone = some z) :
    isolateBody (num p) t =
      if t.zones[z].state = .discharging then refuse .state t
      else
        ((t.setCylinder p { t.bank.cylinders[p] with state := .isolated, zone := none }).afterCylinder true,
          .ok (.cylinderState .isolated)) := by
  simp only [isolateBody, pos?_num, reserved, zone]

theorem isolateBody_other (notReady : t.bank.cylinders[p].state ≠ .ready) (notReserved : t.bank.cylinders[p].state ≠ .reserved) :
    isolateBody (num p) t = refuse .state t := by
  simp only [isolateBody, pos?_num]
  split
  · exact absurd ‹_› notReady
  · exact absurd ‹_› notReserved
  · rfl

theorem returnBody_out (out : t.bank.cylinders[p].state = .isolated ∨ t.bank.cylinders[p].state = .fault) :
    returnBody (num p) t =
      ((t.setCylinder p { t.bank.cylinders[p] with state := t.inService p, deferredLow := false }).afterCylinder
          (t.inService p = .ready), .ok (.cylinderState (t.inService p))) := by
  have out' : (t.bank.cylinders[p].state = .isolated || t.bank.cylinders[p].state = .fault) = true := by simpa using out
  simp only [returnBody, pos?_num, out', if_true]

theorem returnBody_in (notIsolated : t.bank.cylinders[p].state ≠ .isolated) (notFault : t.bank.cylinders[p].state ≠ .fault) :
    returnBody (num p) t = refuse .state t := by
  simp only [returnBody, pos?_num, notIsolated, notFault, decide_false, Bool.or_false, Bool.false_eq_true, if_false]

theorem removeBody_eq :
    removeBody (num p) t =
      if t.bank.cylinders[p].state = .reserved then refuse .state t
      else if t.bank.cylinders[p].state = .absent then (t, .ok (.cylinderState .absent))
      else
        ((t.setCylinder p { t.bank.cylinders[p] with state := .absent, charge := none }).afterCylinder false,
          .ok (.cylinderState .absent)) := by
  simp only [removeBody, pos?_num]

end Bodies

/-- The state of a cylinder that comes into service reads its flag alone. -/
theorem inService_taken (s : State) (rest : List RequestFrame) (p : Pos) : (taken s rest).inService p = s.inService p := rfl

theorem exec_install {charge : Nat} (w : WaitsWith s f rest 0x70) (low : 1 ≤ charge) (high : charge ≤ 999)
    (absent : s.bank.cylinders[p].state = .absent) :
    Becomes s f rest p (exec (.cylinderInstall (some ⟨num p, charge⟩)) s)
      { s.bank.cylinders[p] with state := s.inService p, charge := some charge } (s.inService p = .ready) := by
  have body := installBody_absent (t := taken s rest) low high absent
  rw [inService_taken] at body
  exact serve_becomes w _ installBody body

theorem exec_return (w : WaitsWith s f rest 0x70) (out : s.bank.cylinders[p].state = .isolated ∨ s.bank.cylinders[p].state = .fault) :
    Becomes s f rest p (exec (.cylinderReturn (some (num p))) s)
      { s.bank.cylinders[p] with state := s.inService p, deferredLow := false } (s.inService p = .ready) := by
  have body := returnBody_out (t := taken s rest) out
  rw [inService_taken] at body
  exact serve_becomes w _ returnBody body

/-- Settles O23: the four actions, by the state of the cylinder. -/
theorem cylinderSetActions : Obligations.CylinderSetActions := by
  unfold Obligations.CylinderSetActions
  intro s f rest p w
  refine ⟨fun k charge bad => ?_, fun k i bad hi => exec_cylinderSet_format w bad i hi, fun charge low high => ⟨fun absent => ?_,
    fun present => ?_⟩, fun ready => ?_, fun z reserved zone => ⟨fun other => ?_, fun discharging => ?_⟩,
    fun notReady notReserved => ?_, fun out => ?_, fun notIsolated notFault => ?_, fun notReserved notAbsent => ?_,
    fun reserved => ?_, fun absent => ?_⟩
  · exact serveFields_refused w rfl _ installBody .format (installBody_format bad _)
  · exact exec_install w low high absent
  · exact serveFields_refused w rfl _ installBody .state (installBody_present (t := taken s rest) low high present)
  · exact serve_becomes w (num p) isolateBody (isolateBody_ready (t := taken s rest) ready)
  · exact serve_becomes w (num p) isolateBody
      ((isolateBody_reserved (t := taken s rest) reserved zone).trans (if_neg other))
  · exact serveFields_refused w rfl _ isolateBody .state
      ((isolateBody_reserved (t := taken s rest) reserved zone).trans (if_pos discharging))
  · exact serveFields_refused w rfl _ isolateBody .state (isolateBody_other (t := taken s rest) notReady notReserved)
  · exact exec_return w out
  · exact serveFields_refused w rfl _ returnBody .state (returnBody_in (t := taken s rest) notIsolated notFault)
  · exact serve_becomes w (num p) removeBody
      ((removeBody_eq (t := taken s rest)).trans ((if_neg notReserved).trans (if_neg notAbsent)))
  · exact serveFields_refused w rfl _ removeBody .state ((removeBody_eq (t := taken s rest)).trans (if_pos reserved))
  · have notReserved : s.bank.cylinders[p].state ≠ .reserved := by rw [absent]; decide
    exact serveFields_unchanged w rfl _ removeBody (.ok (.cylinderState .absent))
      ((removeBody_eq (t := taken s rest)).trans ((if_neg notReserved).trans (if_pos absent)))

end Sys2Proof.Proofs.Cylinders
end

section
/-! PROOFS. What an operation at one strongroom leaves alone at the others, and what a change of its zone's state makes of its zone, its door,
its pairing context and its coverage record (R85, R86, R88, R114). -/
namespace Sys2Proof.Proofs.OneRoom

open Sys2Proof Sys2Proof.Machine Sys2Proof.Safety Sys2Proof.Laws
open Sys2Proof.Proofs.Evaluation

variable {s t u : State} {r z : Room}

/-! ### The other strongrooms -/

/-- The other strongrooms' doors, contexts, roll lists and zones are as before, and every station but its pending commands. -/
structure AtRoom (r : Room) (s t : State) : Prop where
  others : OtherRoomsKept s t r
  stations : ∀ a : Addr, stationBase t a = stationBase s a

theorem AtRoom.trans (h : AtRoom r s t) (h' : AtRoom r t u) : AtRoom r s u where
  others j hj :=
    have ⟨doors, ctx, rooms, zones⟩ := h.others j hj
    have ⟨doors', ctx', rooms', zones'⟩ := h'.others j hj
    ⟨doors'.trans doors, ctx'.trans ctx, rooms'.trans rooms, zones'.trans zones⟩
  stations a := (h'.stations a).trans (h.stations a)

theorem AtRoom.of_frame (doors : t.doors = s.doors) (ctx : t.ctx = s.ctx) (rooms : t.roll.rooms = s.roll.rooms)
    (zones : t.zones = s.zones) (loop : t.loop = s.loop) : AtRoom r s t where
  others j _ := by rw [doors, ctx, rooms, zones]; exact ⟨rfl, rfl, rfl, rfl⟩
  stations a := by simp only [stationBase, loop]

theorem AtRoom.refl (s : State) : AtRoom r s s := .of_frame rfl rfl rfl rfl rfl

theorem setDoor_atRoom (s : State) (r : Room) (d : Door) : AtRoom r s (s.setDoor r d) where
  others _ hj := ⟨vset_other _ _ hj.symm, rfl, rfl, rfl⟩
  stations _ := rfl

theorem setZone_atRoom (s : State) (r : Room) (z : Zone) : AtRoom r s (s.setZone r z) where
  others _ hj := ⟨rfl, rfl, rfl, vset_other _ _ hj.symm⟩
  stations _ := rfl

theorem setRoom_atRoom (s : State) (r : Room) (x : RoomRecord) : AtRoom r s (s.setRoom r x) where
  others _ hj := ⟨rfl, rfl, vset_other _ _ hj.symm, rfl⟩
  stations _ := rfl

theorem dropContext_atRoom (s : State) (r : Room) : AtRoom r s (s.dropContext r) where
  others _ hj := ⟨rfl, vset_other _ _ hj.symm, rfl, rfl⟩
  stations _ := rfl

theorem placeAt_atRoom (s : State) (at_ : Option Addr) (g : Slots → Slots) : AtRoom r s (s.placeAt at_ g) where
  others _ _ := by simp
  stations := placeAt_stationBase s at_ g

theorem raiseAlarm_atRoom (s : State) (k : AlarmKey) : AtRoom r s (s.raiseAlarm k) := .of_frame (by simp) (by simp) (by simp) (by simp) (by simp)

theorem alarmGone_atRoom (s : State) (k : AlarmKey) : AtRoom r s (s.alarmGone k) := .of_frame rfl rfl rfl rfl rfl

/-! ### The door of a zone that changes its state -/

/-- What a zone's change of state never changes of its door. -/
def outline (d : Door) := (d.timeLock, d.lockdown, d.envelopeClosed, d.contact, d.bolt, d.egress, d.tamper, d.unknownCause, d.openCause)

/-- An operation at the door of one strongroom, which keeps the door's outline, and the contexts, the zones and the strongroom records. -/
structure AtDoor (r : Room) (s t : State) : Prop extends AtRoom r s t where
  outline : outline t.doors[r] = outline s.doors[r]

theorem AtDoor.trans (h : AtDoor r s t) (h' : AtDoor r t u) : AtDoor r s u :=
  ⟨h.toAtRoom.trans h'.toAtRoom, h'.outline.trans h.outline⟩

theorem AtDoor.of_frame (doors : t.doors = s.doors) (ctx : t.ctx = s.ctx) (rooms : t.roll.rooms = s.roll.rooms)
    (zones : t.zones = s.zones) (loop : t.loop = s.loop) : AtDoor r s t := ⟨.of_frame doors ctx rooms zones loop, by rw [doors]⟩

theorem AtDoor.refl (s : State) : AtDoor r s s := .of_frame rfl rfl rfl rfl rfl

theorem setDoor_atDoor (s : State) (r : Room) (d : Door) (h : Proofs.OneRoom.outline d = Proofs.OneRoom.outline s.doors[r]) :
    AtDoor r s (s.setDoor r d) := ⟨setDoor_atRoom s r d, by rw [State.setDoor_doors, vset_same]; exact h⟩

theorem setZone_atDoor (s : State) (r : Room) (z : Zone) : AtDoor r s (s.setZone r z) := ⟨setZone_atRoom s r z, rfl⟩

theorem placeAt_atDoor (s : State) (at_ : Option Addr) (g : Slots → Slots) : AtDoor r s (s.placeAt at_ g) :=
  ⟨placeAt_atRoom s at_ g, by simp⟩

theorem raiseAlarm_atDoor (s : State) (k : AlarmKey) : AtDoor r s (s.raiseAlarm k) := ⟨raiseAlarm_atRoom s k, by simp⟩

theorem endExpired_atDoor (s : State) (r : Room) : AtDoor r s (s.endExpired r) := by
  unfold State.endExpired
  dsimp only
  split
  · exact (setDoor_atDoor s r _ (by rfl)).trans (.of_frame rfl rfl rfl rfl rfl)
  · exact .refl s

theorem resetHeld_atDoor (s : State) (r : Room) (h : HeldTimer) : AtDoor r s (s.resetHeld r h) :=
  (endExpired_atDoor s r).trans (setDoor_atDoor _ r _ (by rfl))

theorem dropHold_atDoor (s : State) (r : Room) : AtDoor r s (s.dropHold r) := by
  unfold State.dropHold
  dsimp only
  split
  · exact (setDoor_atDoor s r _ (by rfl)).trans (resetHeld_atDoor _ r _)
  · exact setDoor_atDoor s r _ (by rfl)

theorem cancelRelease_atDoor (s : State) (r : Room) : AtDoor r s (s.cancelRelease r) := by
  unfold State.cancelRelease
  dsimp only
  split
  · have placed : AtDoor r s (s.placeBolt r .cancel) := placeAt_atDoor s _ _
    exact placed.trans (setDoor_atDoor _ r _ (by simp [outline]))
  · exact .refl s

theorem setCloseDemand_atDoor (s : State) (r : Room) (demand : Bool) : AtDoor r s (s.setCloseDemand r demand) := by
  unfold State.setCloseDemand
  dsimp only
  split
  · exact .refl s
  · split
    · exact (((setDoor_atDoor s r _ (by rfl)).trans (dropHold_atDoor _ r)).trans (cancelRelease_atDoor _ r)).trans (setZone_atDoor _ r _)
    · exact setDoor_atDoor s r _ (by rfl)

theorem reportEnvelope_zone (u : State) (r : Room) (h : u.zones = s.zones) :
    ∃ env, (u.reportEnvelope r).zones = s.zones.set r { s.zones[r] with lastEnvelope := env } :=
  ⟨u.doors[r].envelopeClosed, by simp only [State.reportEnvelope, State.setZone_zones, h]⟩

/-- The zone's record after its door has been given the close demand: an envelope report may have come (R86). -/
theorem setCloseDemand_zone (s : State) (r : Room) (demand : Bool) :
    ∃ env, (s.setCloseDemand r demand).zones = s.zones.set r { s.zones[r] with lastEnvelope := env } ∧
      (demand = false → env = s.zones[r].lastEnvelope) := by
  have same : s.zones = s.zones.set r s.zones[r] := by simp
  unfold State.setCloseDemand
  dsimp only
  split
  · exact ⟨s.zones[r].lastEnvelope, same, fun _ => rfl⟩
  · split
    · next demanded =>
      obtain ⟨env, h⟩ := reportEnvelope_zone (s := s) (((s.setDoor r { s.doors[r] with closeDemand := demand }).dropHold r).cancelRelease r) r
        (by simp)
      exact ⟨env, h, fun h => absurd demanded (by simp [h])⟩
    · exact ⟨s.zones[r].lastEnvelope, same, fun _ => rfl⟩

theorem endExpired_demand (u : State) (r : Room) : (u.endExpired r).doors[r].closeDemand = u.doors[r].closeDemand := by
  unfold State.endExpired
  dsimp only
  split <;> simp

theorem resetHeld_demand (u : State) (r : Room) (h : HeldTimer) : (u.resetHeld r h).doors[r].closeDemand = u.doors[r].closeDemand := by
  unfold State.resetHeld
  dsimp only
  rw [State.setDoor_doors, vset_same]
  exact endExpired_demand u r

theorem dropHold_demand (u : State) (r : Room) : (u.dropHold r).doors[r].closeDemand = u.doors[r].closeDemand := by
  have unheld (d : Door) (h : d.closeDemand = u.doors[r].closeDemand) : (u.setDoor r d).doors[r].closeDemand = u.doors[r].closeDemand := by
    rw [State.setDoor_doors, vset_same, h]
  unfold State.dropHold
  dsimp only
  split
  · exact (resetHeld_demand _ r _).trans (unheld _ rfl)
  · exact unheld _ rfl

theorem cancelRelease_demand (u : State) (r : Room) : (u.cancelRelease r).doors[r].closeDemand = u.doors[r].closeDemand := by
  unfold State.cancelRelease
  dsimp only
  split <;> simp

/-- The close demand is as it was set (R85). -/
theorem setCloseDemand_demand (s : State) (r : Room) (demand : Bool) : (s.setCloseDemand r demand).doors[r].closeDemand = demand := by
  unfold State.setCloseDemand
  dsimp only
  split
  · assumption
  · have given (d : Door) (h : d.closeDemand = demand) : (s.setDoor r d).doors[r].closeDemand = demand := by
      rw [State.setDoor_doors, vset_same, h]
    split
    · exact (cancelRelease_demand _ r).trans ((dropHold_demand _ r).trans (given _ rfl))
    · exact given _ rfl

/-! ### The entry to a state -/

theorem enterZone_atDoor (s : State) (z : Room) (st : ZoneState) : AtDoor z s (s.enterZone z st) := by
  have demanded : AtDoor z s ((s.setZone z { s.zones[z] with state := st }).setCloseDemand z st.demand) :=
    (setZone_atDoor s z _).trans (setCloseDemand_atDoor _ z _)
  have covered : AtDoor z s (((s.setZone z { s.zones[z] with state := st }).setCloseDemand z st.demand).refreshCoverage z) :=
    demanded.trans (.of_frame rfl rfl rfl rfl rfl)
  unfold State.enterZone
  dsimp only
  split
  · exact covered
  · exact covered.trans ⟨dropContext_atRoom _ z, rfl⟩

/-- The zone's record: its new state, and perhaps an envelope report. -/
theorem enterZone_zone (s : State) (z : Room) (st : ZoneState) :
    ∃ env, (s.enterZone z st).zones = s.zones.set z { s.zones[z] with state := st, lastEnvelope := env } ∧
      (st.demand = false → env = s.zones[z].lastEnvelope) := by
  obtain ⟨env, zones, quiet⟩ := setCloseDemand_zone (s.setZone z { s.zones[z] with state := st }) z st.demand
  simp only [State.setZone_zones, Vector.set_set, vset_same] at zones quiet
  refine ⟨env, ?_, quiet⟩
  unfold State.enterZone
  dsimp only
  split <;> simpa using zones

/-- A state without a close demand comes alone. -/
theorem enterZone_open (s : State) (z : Room) {st : ZoneState} (h : st.demand = false) :
    (s.enterZone z st).zones = s.zones.set z { s.zones[z] with state := st } := by
  obtain ⟨env, zones, quiet⟩ := enterZone_zone s z st
  rw [zones, quiet h]

theorem enterZone_demand (s : State) (z : Room) (st : ZoneState) : (s.enterZone z st).doors[z].closeDemand = st.demand := by
  have demanded := setCloseDemand_demand (s.setZone z { s.zones[z] with state := st }) z st.demand
  unfold State.enterZone
  dsimp only
  split <;> exact demanded

theorem enterZone_ctx (s : State) (z : Room) (st : ZoneState) :
    (s.enterZone z st).ctx = if st.quiet then s.ctx else s.ctx.set z .empty := by
  unfold State.enterZone
  dsimp only
  split <;> simp [State.dropContext]

/-- The zone's coverage record is computed afresh (R142). -/
theorem enterZone_coverage (s : State) (z : Room) (st : ZoneState) :
    (s.enterZone z st).bank.coverage[z] =
      ((s.setZone z { s.zones[z] with state := st }).setCloseDemand z st.demand).coverageOf z := by
  unfold State.enterZone
  dsimp only
  split <;> simp [State.refreshCoverage, State.setCoverage]

end Sys2Proof.Proofs.OneRoom
end

section
/-! PROOFS. What the moves of a suppression zone make of its whole record, and of the strongroom's door and context: the hold reasons (R119 to
R122), the confirmation and the test of the inputs (R115 to R117); and which alarm records stand through an event (R96 to R98). -/
namespace Sys2Proof.Proofs.ZoneMoves

open Sys2Proof Sys2Proof.Machine Sys2Proof.Safety Sys2Proof.Laws
open Sys2Proof.Proofs.Evaluation Sys2Proof.Proofs.OneRoom Sys2Proof.Proofs.Acts Sys2Proof.Proofs.AlarmTable

variable {s t u : State} {r z : Room} {k : AlarmKey}

/-! ### Alarm records that stand -/

/-- At most `n` records have been added, and the record of a kind-and-key stands on as long as the table has had room for them. -/
structure KeepsAlarm (n : Nat) (k : AlarmKey) (s t : State) : Prop where
  length : t.alarms.records.length ≤ s.alarms.records.length + n
  stands : s.alarms.records.length + n ≤ 64 → Stands s k → Stands t k

theorem KeepsAlarm.of_eq (h : t.alarms = s.alarms) : KeepsAlarm 0 k s t where
  length := by rw [h]; exact Nat.le_refl _
  stands _ standing := by simpa only [Stands, h] using standing

theorem KeepsAlarm.trans {n m : Nat} (h : KeepsAlarm n k s t) (h' : KeepsAlarm m k t u) : KeepsAlarm (n + m) k s u where
  length := by have := h.length; have := h'.length; omega
  stands room standing := h'.stands (by have := h.length; omega) (h.stands (by omega) standing)

/-- Only the Alarm Tables before and after count. -/
theorem KeepsAlarm.congr {n : Nat} {s' t' : State} (h : KeepsAlarm n k s t) (hs : s.alarms = s'.alarms) (ht : t'.alarms = t.alarms) :
    KeepsAlarm n k s' t' where
  length := by rw [ht, ← hs]; exact h.length
  stands room standing := by
    rw [← hs] at room
    have := h.stands room (by simpa only [Stands, hs] using standing)
    simpa only [Stands, ht] using this

theorem KeepsAlarm.after {n : Nat} (h : KeepsAlarm n k u t) (hs : u.alarms = s.alarms) : KeepsAlarm n k s t := h.congr hs rfl

theorem KeepsAlarm.mono {n m : Nat} (h : KeepsAlarm n k s t) (le : n ≤ m) : KeepsAlarm m k s t :=
  ⟨by have := h.length; omega, fun room => h.stands (by omega)⟩

theorem raiseAlarm_length (s : State) (k : AlarmKey) :
    (s.raiseAlarm k).alarms.records.length ≤ s.alarms.records.length + 1 := by
  unfold State.raiseAlarm
  split
  · simp
  · dsimp only
    split
    · simp
    · split
      · have := (List.erase_sublist (a := ‹AlarmRecord›) (l := s.alarms.records)).length_le
        simp only [List.length_append, List.length_singleton]
        omega
      · exact Nat.le_succ _

/-- A raise in a table with room keeps every kind-and-key. -/
theorem raiseAlarm_keepsAlarm (s : State) (k' : AlarmKey) : KeepsAlarm 1 k s (s.raiseAlarm k') where
  length := raiseAlarm_length s k'
  stands room standing := by
    obtain ⟨x, member, key⟩ := standing
    cases found : s.alarms.records.find? (fun x => x.key = k') with
    | some y =>
      refine ⟨if x.key = k' then x.raisedAgain else x, ?_, ?_⟩
      · rw [raiseAlarm_again found]
        exact List.mem_map_of_mem member
      · split <;> exact key
    | none =>
      refine ⟨x, ?_, key⟩
      have new : ∀ y ∈ s.alarms.records, y.key ≠ k' := by simpa using found
      rw [State.raiseAlarm_new s k' new (by omega)]
      exact List.mem_append_left _ member

theorem alarmsGone_keepsAlarm (s : State) (g : AlarmKey → Bool) (other : g k = false) : KeepsAlarm 0 k s (s.alarmsGone g) where
  length := List.length_filterMap_le _ _
  stands := by
    rintro - ⟨x, member, key⟩
    exact ⟨x, State.alarmsGone_other s g member (by rw [key]; exact other), key⟩

theorem alarmGone_keepsAlarm (s : State) {k' : AlarmKey} (other : k.kind ≠ k'.kind) : KeepsAlarm 0 k s (s.alarmGone k') :=
  alarmsGone_keepsAlarm s _ (by simpa using fun h => other (by rw [h]))

/-- The end of an event adds at most the sixteen COVERAGE_SHORT records. -/
theorem coverageAlarms_keepsAlarm (s o : State) (other : k.kind ≠ .coverageShort) : KeepsAlarm 16 k s (s.coverageAlarms o) := by
  have one (u : State) (z : Room) : KeepsAlarm 1 k u (u.coverageAlarm o z) := by
    unfold State.coverageAlarm
    split
    · exact raiseAlarm_keepsAlarm u _
    · exact (alarmGone_keepsAlarm u other).mono (Nat.zero_le 1)
    · exact (KeepsAlarm.of_eq rfl).mono (Nat.zero_le 1)
  have all (zs : List Room) (u : State) : KeepsAlarm zs.length k u (zs.foldl (fun v z => v.coverageAlarm o z) u) := by
    induction zs generalizing u with
    | nil => exact .of_eq rfl
    | cons z zs ih =>
      have := (one u z).trans (ih (u.coverageAlarm o z))
      rwa [Nat.add_comm] at this
  exact all rooms s

theorem finish_keepsAlarm (o s : State) (other : k.kind ≠ .coverageShort) : KeepsAlarm 16 k s (State.finish o s) := by
  obtain ⟨g, f, q, m, v, -, h⟩ := State.finish_eq o s
  have same : (State.finish o s).alarms.records = (s.coverageAlarms o).alarms.records := by rw [h]
  have keeps := coverageAlarms_keepsAlarm s o other
  exact ⟨by rw [same]; exact keeps.length, fun room standing => by
    have := keeps.stands room standing
    simpa only [Stands, same] using this⟩

theorem endExpired_keepsAlarm (s : State) (r : Room) (other : k.kind ≠ .heldOpen) : KeepsAlarm 0 k s (s.endExpired r) := by
  unfold State.endExpired
  dsimp only
  split
  · exact (alarmGone_keepsAlarm (k' := .forRoom .heldOpen r) _ other).congr rfl rfl
  · exact .of_eq rfl

theorem resetHeld_keepsAlarm (s : State) (r : Room) (h : HeldTimer) (other : k.kind ≠ .heldOpen) : KeepsAlarm 0 k s (s.resetHeld r h) :=
  (endExpired_keepsAlarm s r other).congr rfl rfl

theorem dropHold_keepsAlarm (s : State) (r : Room) (other : k.kind ≠ .heldOpen) : KeepsAlarm 0 k s (s.dropHold r) := by
  unfold State.dropHold
  dsimp only
  split
  · exact (resetHeld_keepsAlarm _ r _ other).after rfl
  · exact .of_eq rfl

theorem setCloseDemand_keepsAlarm (s : State) (r : Room) (demand : Bool) (other : k.kind ≠ .heldOpen) :
    KeepsAlarm 0 k s (s.setCloseDemand r demand) := by
  unfold State.setCloseDemand
  dsimp only
  split
  · exact .of_eq rfl
  · split
    · exact (dropHold_keepsAlarm (s.setDoor r { s.doors[r] with closeDemand := demand }) r other).congr rfl (by simp)
    · exact .of_eq rfl

/-- An entry to a state ends no condition but HELD_OPEN. -/
theorem enterZone_keepsAlarm (s : State) (z : Room) (st : ZoneState) (other : k.kind ≠ .heldOpen) :
    KeepsAlarm 0 k s (s.enterZone z st) := by
  have keeps := setCloseDemand_keepsAlarm (s.setZone z { s.zones[z] with state := st }) z st.demand other
  unfold State.enterZone
  dsimp only
  split <;> exact keeps.congr rfl rfl

theorem setZone_enter_keepsAlarm (s : State) (z : Room) (x : Zone) (st : ZoneState) (other : k.kind ≠ .heldOpen) :
    KeepsAlarm 0 k s ((s.setZone z x).enterZone z st) :=
  (enterZone_keepsAlarm (s.setZone z x) z st other).after rfl

/-! ### Hold reasons -/

theorem setZone_enter_atDoor (s : State) (z : Room) (x : Zone) (st : ZoneState) : AtDoor z s ((s.setZone z x).enterZone z st) :=
  (setZone_atDoor s z x).trans (enterZone_atDoor _ z st)

theorem deriveHolds_eq (s : State) (z : Room) :
    s.deriveHolds z = holdsWith s z s.zones[z].kind s.zones[z].authorise s.lines.inhibit := rfl

theorem setZone_enter_zone (s : State) (z : Room) (x : Zone) (st : ZoneState) :
    ∃ env, ((s.setZone z x).enterZone z st).zones = s.zones.set z { x with state := st, lastEnvelope := env } ∧
      (st.demand = false → env = x.lastEnvelope) := by
  obtain ⟨env, zones, quiet⟩ := enterZone_zone (s.setZone z x) z st
  simp only [State.setZone_zones, Vector.set_set, vset_same] at zones quiet
  exact ⟨env, zones, quiet⟩

/-- What hold reasons make of a zone's record (R119 to R122). -/
def acted (h : Holds) (zn : Zone) : Zone :=
  { zn with
    holds := h
    state := heldState zn.state h.any
    remainder :=
      if zn.state = .held ∧ h.any = false then max zn.remainder 10
      else if zn.state = .waitBank ∧ h.any = true then 0 else zn.remainder
    countdownDue := if zn.state = .countdown ∧ h.any = true then false else zn.countdownDue }

/-- The zone's whole record after its hold reasons have acted. -/
theorem actOnHolds_zone (s : State) (z : Room) :
    ∃ env, (s.actOnHolds z).zones = s.zones.set z { acted s.zones[z].holds s.zones[z] with lastEnvelope := env } := by
  unfold State.actOnHolds
  dsimp only
  split
  · next st any =>
    obtain ⟨env, zones, -⟩ := setZone_enter_zone s z { s.zones[z] with countdownDue := false } .held
    exact ⟨env, by rw [zones]; simp only [acted, st, any, heldState, reduceCtorEq, false_and, true_and, if_false, if_true]⟩
  · next st any =>
    obtain ⟨env, zones, -⟩ := setZone_enter_zone (s.leaveQueue z) z { s.zones[z] with remainder := 0 } .held
    exact ⟨env, by
      rw [zones]
      simp only [acted, st, any, heldState, reduceCtorEq, false_and, and_self, if_false, if_true]
      rfl⟩
  · next st any =>
    obtain ⟨env, zones, -⟩ := setZone_enter_zone s z
      { s.zones[z] with remainder := max s.zones[z].remainder Config.countdownRestart } .countdown
    exact ⟨env, by
      rw [zones]
      simp only [acted, st, any, heldState, reduceCtorEq, and_self, if_false, if_true, Config.countdownRestart]⟩
  · next n1 n2 n3 =>
    refine ⟨s.zones[z].lastEnvelope, ?_⟩
    have still : acted s.zones[z].holds s.zones[z] = s.zones[z] := by
      have countdown : ¬(s.zones[z].state = .countdown ∧ s.zones[z].holds.any = true) := fun h => n1 h.1 h.2
      have waitBank : ¬(s.zones[z].state = .waitBank ∧ s.zones[z].holds.any = true) := fun h => n2 h.1 h.2
      have held : ¬(s.zones[z].state = .held ∧ s.zones[z].holds.any = false) := fun h => n3 h.1 h.2
      have stays : heldState s.zones[z].state s.zones[z].holds.any = s.zones[z].state := by
        unfold heldState
        split <;> simp_all
      rw [acted, if_neg countdown, if_neg waitBank, if_neg held, stays]
    rw [still]
    exact (Vector.set_getElem_self _).symm

/-- Hold reasons move no zone out of another state than HELD, COUNTDOWN and WAIT_BANK. -/
theorem actOnHolds_still (s : State) (z : Room) (other : s.zones[z].state ≠ .held ∧ s.zones[z].state ≠ .countdown ∧ s.zones[z].state ≠ .waitBank) :
    s.actOnHolds z = s := by
  obtain ⟨held, countdown, waitBank⟩ := other
  unfold State.actOnHolds
  dsimp only
  split
  · exact absurd ‹_› countdown
  · exact absurd ‹_› waitBank
  · exact absurd ‹_› held
  · rfl

theorem rederive_still (s : State) (z : Room) (other : s.zones[z].state ≠ .held ∧ s.zones[z].state ≠ .countdown ∧ s.zones[z].state ≠ .waitBank) :
    s.rederive z = s.setZone z { s.zones[z] with holds := s.deriveHolds z } := by
  unfold State.rederive
  refine actOnHolds_still _ z ?_
  rw [State.setZone_zones, vset_same]
  exact other

theorem actOnHolds_atDoor (s : State) (z : Room) : AtDoor z s (s.actOnHolds z) := by
  have left : AtDoor z s (s.leaveQueue z) := .of_frame rfl rfl rfl rfl rfl
  unfold State.actOnHolds
  dsimp only
  split
  · exact (setZone_atDoor s z _).trans (enterZone_atDoor _ z _)
  · exact (left.trans (setZone_atDoor _ z _)).trans (enterZone_atDoor _ z _)
  · exact (setZone_atDoor s z _).trans (enterZone_atDoor _ z _)
  · exact .refl s

theorem rederive_atDoor (s : State) (z : Room) : AtDoor z s (s.rederive z) :=
  (setZone_atDoor s z _).trans (actOnHolds_atDoor _ z)

theorem rederive_zone (s : State) (z : Room) :
    ∃ env, (s.rederive z).zones = s.zones.set z { acted (s.deriveHolds z) s.zones[z] with lastEnvelope := env } := by
  obtain ⟨env, zones⟩ := actOnHolds_zone (s.setZone z { s.zones[z] with holds := s.deriveHolds z }) z
  simp only [State.setZone_zones, vset_same, Vector.set_set] at zones
  exact ⟨env, zones⟩

theorem actOnHolds_keepsAlarm (s : State) (z : Room) (other : k.kind ≠ .heldOpen) : KeepsAlarm 0 k s (s.actOnHolds z) := by
  unfold State.actOnHolds
  dsimp only
  split
  · exact (enterZone_keepsAlarm _ z _ other).after rfl
  · exact (enterZone_keepsAlarm _ z _ other).after rfl
  · exact (enterZone_keepsAlarm _ z _ other).after rfl
  · exact .of_eq rfl

theorem rederive_keepsAlarm (s : State) (z : Room) (other : k.kind ≠ .heldOpen) : KeepsAlarm 0 k s (s.rederive z) :=
  (actOnHolds_keepsAlarm _ z other).after rfl

end Sys2Proof.Proofs.ZoneMoves
end

section
/-! PROOFS. The suppression zones at the supervisor's requests: the confirmation and the test of the inputs as whole records (R115 to R117),
RELEASE AUTHORISE and ZONE RESET (R121, R127), ZONE DISABLE and ZONE ENABLE (R128), and PROFILE LOAD (R173). -/
namespace Sys2Proof.Proofs.ZoneRequests

open Sys2Proof Sys2Proof.Machine Sys2Proof.Safety Sys2Proof.Laws Sys2Proof.Proofs.RecordReads
open Sys2Proof.Proofs.Evaluation Sys2Proof.Proofs.OneRoom Sys2Proof.Proofs.ZoneMoves Sys2Proof.Proofs.Acts Sys2Proof.Proofs.Cylinders

variable {s t u : State} {r z : Room} {k : SequenceKind} {f : RequestFrame} {rest : List RequestFrame}

/-! ### Confirmation -/

/-- The state in which a confirmation enters its state: the release kind set, ZONE_RELEASE raised and the cylinders reserved (R117). -/
def reservedFor (s : State) (z : Room) (k : SequenceKind) : State :=
  ((s.setZone z { s.zones[z] with kind := k }).raiseAlarm (.forRoom .zoneRelease z)).reserve z

theorem reservedFor_zones (s : State) (z : Room) (k : SequenceKind) :
    (reservedFor s z k).zones = s.zones.set z { s.zones[z] with kind := k } := by simp [reservedFor]

theorem confirm_eq (s : State) (z : Room) (k : SequenceKind) :
    s.confirm z k =
      ((reservedFor s z k).setZone z
        { (reservedFor s z k).zones[z] with
          remainder := (reservedFor s z k).sup.profiles[z].delay, accumulated := 0, countdownDue := false
          holds := (reservedFor s z k).deriveHolds z }).enterZone z
        (if ((reservedFor s z k).deriveHolds z).any then .held else .countdown) := by
  unfold State.confirm
  simp only [State.setZone_zones, vset_same]
  rfl

theorem reservedFor_holds (s : State) (z : Room) (k : SequenceKind) :
    (reservedFor s z k).deriveHolds z = holdsWith s z k s.zones[z].authorise s.lines.inhibit := by
  have roll : (reservedFor s z k).roll = s.roll := by simp [reservedFor]
  have lines : (reservedFor s z k).lines = s.lines := by simp [reservedFor]
  unfold State.deriveHolds holdsWith State.occupied State.headCount
  rw [reservedFor_zones, vset_same, roll, lines]

/-- The zone's whole record after a confirmation (R117). -/
theorem confirm_zone (s : State) (z : Room) (k : SequenceKind) :
    ∃ env, (s.confirm z k).zones = s.zones.set z
      { confirmed s.zones[z] k s.sup.profiles[z].delay (holdsWith s z k s.zones[z].authorise s.lines.inhibit) with
        lastEnvelope := env } := by
  have profiles : (reservedFor s z k).sup = s.sup := by simp [reservedFor]
  rw [confirm_eq, reservedFor_holds, profiles]
  obtain ⟨env, zones, -⟩ := setZone_enter_zone (reservedFor s z k) z
    { (reservedFor s z k).zones[z] with
      remainder := s.sup.profiles[z].delay, accumulated := 0, countdownDue := false
      holds := holdsWith s z k s.zones[z].authorise s.lines.inhibit }
    (if (holdsWith s z k s.zones[z].authorise s.lines.inhibit).any then .held else .countdown)
  refine ⟨env, ?_⟩
  rw [zones, reservedFor_zones, vset_same, Vector.set_set]
  rfl

theorem confirm_atDoor (s : State) (z : Room) (k : SequenceKind) : AtDoor z s (s.confirm z k) := by
  have reserved : AtDoor z s (reservedFor s z k) :=
    ((setZone_atDoor s z _).trans (raiseAlarm_atDoor _ _)).trans (.of_frame rfl rfl rfl rfl rfl)
  rw [confirm_eq]
  exact (reserved.trans (setZone_atDoor _ z _)).trans (enterZone_atDoor _ z _)

theorem confirm_ctx (s : State) (z : Room) (k : SequenceKind) : (s.confirm z k).ctx[z] = .empty := by
  rw [confirm_eq, enterZone_ctx]
  have busy : (if ((reservedFor s z k).deriveHolds z).any then ZoneState.held else .countdown).quiet = false := by
    split <;> rfl
  rw [busy, if_neg Bool.false_ne_true, vset_same]

theorem confirm_demand (s : State) (z : Room) (k : SequenceKind) : (s.confirm z k).doors[z].closeDemand = true := by
  rw [confirm_eq, enterZone_demand]
  split <;> rfl

theorem reservedFor_alarms (s : State) (z : Room) (k : SequenceKind) :
    (reservedFor s z k).alarms = ((s.setZone z { s.zones[z] with kind := k }).raiseAlarm (.forRoom .zoneRelease z)).alarms := by
  simp [reservedFor]

theorem reservedFor_keepsAlarm (key : AlarmKey) (s : State) (z : Room) (k : SequenceKind) :
    KeepsAlarm 1 key s (reservedFor s z k) := by
  have raised : KeepsAlarm 1 key (s.setZone z { s.zones[z] with kind := k }) _ := raiseAlarm_keepsAlarm _ (.forRoom .zoneRelease z)
  exact raised.congr (State.setZone_alarms ..) (reservedFor_alarms s z k)

theorem confirm_keepsAlarm {key : AlarmKey} (s : State) (z : Room) (k : SequenceKind) (other : key.kind ≠ .heldOpen) :
    KeepsAlarm 1 key s (s.confirm z k) := by
  rw [confirm_eq]
  exact (reservedFor_keepsAlarm key s z k).trans (setZone_enter_keepsAlarm (reservedFor s z k) z _ _ other)

/-- A confirmation in a table with room leaves ZONE_RELEASE standing (R117). -/
theorem confirm_stands (s : State) (z : Room) (k : SequenceKind) (room : s.alarms.records.length < 64) :
    Stands (s.confirm z k) (.forRoom .zoneRelease z) := by
  have raised : Stands (reservedFor s z k) (.forRoom .zoneRelease z) := by
    rw [Stands, reservedFor_alarms]
    exact State.raiseAlarm_stands _ _ room
  have length := (reservedFor_keepsAlarm (.forRoom .zoneRelease z) s z k).length
  rw [confirm_eq]
  refine (setZone_enter_keepsAlarm (reservedFor s z k) z _ _ ?_).stands (by omega) raised
  simp [AlarmKey.forRoom]

/-! ### The test of the inputs -/

theorem testInputs_confirms (s : State) (z : Room) (tested : s.zones[z].state = .normal ∨ s.zones[z].state = .alert)
    (confirms : s.zones[z].inputs.confirms s.sup.profiles[z].knock = some k) : s.testInputs z = s.confirm z k := by
  have tested' : (s.zones[z].state = .normal || s.zones[z].state = .alert) = true := by simpa using tested
  simp only [State.testInputs, tested', confirms, if_true]

theorem testInputs_alert (s : State) (z : Room) (normal : s.zones[z].state = .normal)
    (confirms : s.zones[z].inputs.confirms s.sup.profiles[z].knock = none) (active : s.zones[z].inputs.detectorActive = true) :
    s.testInputs z = (s.enterZone z .alert).raiseAlarm (.forRoom .zoneAlert z) := by
  have tested : (s.zones[z].state = .normal || s.zones[z].state = .alert) = true := by simp only [normal, decide_true, Bool.true_or]
  have alerts : (s.zones[z].state = .normal && s.zones[z].inputs.detectorActive) = true := by
    simp only [normal, active, decide_true, Bool.and_self]
  simp only [State.testInputs, tested, confirms, alerts, if_true]

theorem testInputs_still (s : State) (z : Room)
    (confirms : s.zones[z].state = .normal ∨ s.zones[z].state = .alert → s.zones[z].inputs.confirms s.sup.profiles[z].knock = none)
    (still : s.zones[z].state = .normal → s.zones[z].inputs.detectorActive = false) : s.testInputs z = s := by
  unfold State.testInputs
  dsimp only
  split
  · next tested =>
    have none_ := confirms (by simpa using tested)
    have quiet : (s.zones[z].state = .normal && s.zones[z].inputs.detectorActive) = false := by
      by_cases normal : s.zones[z].state = .normal
      · simp only [still normal, Bool.and_false]
      · simp only [normal, decide_false, Bool.false_and]
    simp only [none_, quiet, Bool.false_eq_true, if_false]
  · rfl

theorem testInputs_atDoor (s : State) (z : Room) : AtDoor z s (s.testInputs z) := by
  unfold State.testInputs
  dsimp only
  split
  · split
    · exact confirm_atDoor s z _
    · split
      · exact (enterZone_atDoor s z _).trans (raiseAlarm_atDoor _ _)
      · exact .refl s
  · exact .refl s

/-- No detector Active and no manual release: nothing confirms (R116). -/
theorem confirms_none (i : ZoneInputs) (kn : Knock) (manual : i.manual ≠ .active) (quiet : i.detectorActive = false) :
    i.confirms kn = none := by
  simp only [ZoneInputs.detectorActive, Bool.or_eq_false_iff, decide_eq_false_iff_not] at quiet
  simp [ZoneInputs.confirms, manual, quiet]

/-! ### RELEASE AUTHORISE -/

theorem releaseAuthoriseBody_moves (h : t.zones[z].state = .held ∨ t.zones[z].state = .countdown) :
    releaseAuthoriseBody (num z) t =
      ((t.setZone z { t.zones[z] with authorise := true }).rederive z,
        .ok (.authorised ((t.setZone z { t.zones[z] with authorise := true }).rederive z).zones[z].state
          ((t.setZone z { t.zones[z] with authorise := true }).rederive z).zones[z].holds)) := by
  have moves : (t.zones[z].state = .held || t.zones[z].state = .countdown) = true := by simpa using h
  rw [releaseAuthoriseBody, withRoom_num, if_pos moves]

theorem releaseAuthoriseBody_refused (held : t.zones[z].state ≠ .held) (countdown : t.zones[z].state ≠ .countdown) :
    releaseAuthoriseBody (num z) t = refuse .state t := by
  rw [releaseAuthoriseBody, withRoom_num, if_neg (by simp only [held, countdown, decide_false, Bool.or_self]; decide)]

/-- The record of an authorised zone: Occupied is no reason any more (R121). -/
theorem authorised_zone (t : State) (z : Room) :
    ∃ env, ((t.setZone z { t.zones[z] with authorise := true }).rederive z).zones =
      t.zones.set z
        { acted (holdsWith t z t.zones[z].kind true t.lines.inhibit) { t.zones[z] with authorise := true } with
          lastEnvelope := env } := by
  obtain ⟨env, zones⟩ := rederive_zone (t.setZone z { t.zones[z] with authorise := true }) z
  rw [deriveHolds_eq] at zones
  simp only [State.setZone_zones, vset_same, Vector.set_set] at zones
  refine ⟨env, zones.trans ?_⟩
  have holds : holdsWith (t.setZone z { t.zones[z] with authorise := true }) z t.zones[z].kind true t.lines.inhibit =
      holdsWith t z t.zones[z].kind true t.lines.inhibit := by
    unfold holdsWith
    rw [State.setZone_zones, vset_same]
    rfl
  rw [← holds]
  rfl

theorem acted_remainder (h : Holds) (zn : Zone) (other : zn.state ≠ .waitBank) :
    (acted h zn).remainder = if zn.state = .held ∧ h.any = false then max zn.remainder 10 else zn.remainder := by
  simp only [acted, other, false_and, if_false]

theorem deriveHolds_taken (s : State) (rest : List RequestFrame) (z : Room) (k : SequenceKind) (a i : Bool) :
    holdsWith (taken s rest) z k a i = holdsWith s z k a i := rfl

theorem exec_releaseAuthorise (w : WaitsWith s f rest 0x63) (h : s.zones[z].state = .held ∨ s.zones[z].state = .countdown) :
    let holds := holdsWith s z s.zones[z].kind true s.lines.inhibit
    TakenAndAnswered s (exec (.releaseAuthorise (some (num z))) s) rest f 0x63
      (.authorised (if holds.any then .held else .countdown) holds) fun t =>
      t.zones[z].state = (if holds.any then .held else .countdown) ∧ t.zones[z].holds = holds ∧ t.zones[z].authorise = true ∧
      t.zones[z].remainder =
        (if s.zones[z].state = .held ∧ holds.any = false then max s.zones[z].remainder 10 else s.zones[z].remainder) ∧
      (∀ j : Room, j ≠ z → t.zones[j] = s.zones[j]) ∧ t.bank.cylinders = s.bank.cylinders ∧ t.bt = s.bt ∧
      t.clk = s.clk ∧ t.roll = s.roll ∧ t.p2 = s.p2 ∧ t.lines = s.lines := by
  intro holds
  let v : State := (taken s rest).setZone z { s.zones[z] with authorise := true }
  obtain ⟨env, zones⟩ := authorised_zone (taken s rest) z
  have own : (v.rederive z).zones[z] = { acted holds { s.zones[z] with authorise := true } with lastEnvelope := env } := by
    have zones' : (v.rederive z).zones = s.zones.set z { acted holds { s.zones[z] with authorise := true } with lastEnvelope := env } :=
      zones
    rw [zones', vset_same]
  have state : heldState s.zones[z].state holds.any = if holds.any then .held else .countdown := by
    obtain st | st := h <;> rw [st] <;> cases holds.any <;> rfl
  have body := releaseAuthoriseBody_moves (t := taken s rest) (z := z) h
  have reply : Reply.ok (.authorised (v.rederive z).zones[z].state (v.rederive z).zones[z].holds) =
      .ok (.authorised (if holds.any then .held else .countdown) holds) := by
    rw [own, ← state]
    rfl
  obtain ⟨x, -, -, -, cylinders, -, -⟩ := rederive_acts v z
  obtain ⟨t, next, leaves, requests, ok⟩ := serveFields_leaves w rfl (num z) releaseAuthoriseBody
    (body.trans (congrArg (Prod.mk (v.rederive z)) reply)) (by simp [v])
  have mine : t.zones[z] = { acted holds { s.zones[z] with authorise := true } with lastEnvelope := env } := by
    rw [← own]
    simp only [leaves.zones]
  refine ⟨t, next, requests, ok, ?_, ?_, ?_, ?_, fun j hj => ?_, ?_⟩
  · rw [mine, ← state]
    rfl
  · rw [mine]
    rfl
  · rw [mine]
    rfl
  · rw [mine]
    exact acted_remainder _ _ (by obtain st | st := h <;> rw [st] <;> decide)
  · simp only [leaves.zones]
    exact ((rederive_atDoor v z).others j hj).2.2.2.trans (vset_other _ _ hj.symm)
  · refine ⟨leaves.bank ▸ cylinders, leaves.bt.trans ?_, leaves.clk.trans ?_, leaves.roll.trans ?_, leaves.p2.trans ?_,
      leaves.lines.trans ?_⟩ <;> simp [v, taken]

/-! ### ZONE RESET -/

/-- The sequence of a zone cleared (R127). -/
def cleared (zn : Zone) : Zone :=
  { zn with
    kind := .noKind, remainder := 0, accumulated := 0, authorise := false, envelopeOpen := false, flowSeen := false
    unconfirmed := false }

theorem toNormal_zones (s : State) (z : Room) : (toNormal s z).zones = s.zones.set z { cleared s.zones[z] with state := .normal } := by
  unfold toNormal
  dsimp only
  rw [enterZone_open _ z rfl]
  simp only [State.alarmsGone_frame, State.setZone_zones, vset_same, Vector.set_set]
  rfl

/-- A zone that is reset with nothing Active stays NORMAL, its hold reasons derived (R127). -/
theorem reachNormal_eq (s : State) (z : Room) (manual : s.zones[z].inputs.manual ≠ .active)
    (quiet : s.zones[z].inputs.detectorActive = false) :
    s.reachNormal z =
      (toNormal s z).setZone z
        { cleared s.zones[z] with state := .normal, holds := holdsWith s z .noKind false s.lines.inhibit } := by
  have own : (toNormal s z).zones[z] = { cleared s.zones[z] with state := .normal } := by rw [toNormal_zones, vset_same]
  have holds : (toNormal s z).deriveHolds z = holdsWith s z .noKind false s.lines.inhibit := by
    have roll : (toNormal s z).roll = s.roll := by simp [toNormal]
    have lines : (toNormal s z).lines = s.lines := by simp [toNormal]
    unfold State.deriveHolds holdsWith State.occupied State.headCount
    rw [own, roll, lines]
    rfl
  have reached : (toNormal s z).rederive z =
      (toNormal s z).setZone z
        { cleared s.zones[z] with state := .normal, holds := holdsWith s z .noKind false s.lines.inhibit } := by
    rw [rederive_still _ z (by rw [own]; exact ⟨nofun, nofun, nofun⟩), own, holds]
  show ((toNormal s z).rederive z).testInputs z = _
  rw [reached]
  refine testInputs_still _ z (fun _ => ?_) fun _ => ?_
  · rw [State.setZone_zones, vset_same]
    exact confirms_none _ _ manual quiet
  · rw [State.setZone_zones, vset_same]
    exact quiet

theorem reachNormal_zones (s : State) (z : Room) (manual : s.zones[z].inputs.manual ≠ .active)
    (quiet : s.zones[z].inputs.detectorActive = false) :
    (s.reachNormal z).zones =
      s.zones.set z { cleared s.zones[z] with state := .normal, holds := holdsWith s z .noKind false s.lines.inhibit } := by
  rw [reachNormal_eq s z manual quiet, State.setZone_zones, toNormal_zones, Vector.set_set]

theorem reachNormal_bank (s : State) (z : Room) (manual : s.zones[z].inputs.manual ≠ .active)
    (quiet : s.zones[z].inputs.detectorActive = false) : SameBank s (s.reachNormal z) := by
  rw [reachNormal_eq s z manual quiet]
  exact (toNormal_bank s z).trans (.of_eq rfl)

theorem resettable_quiet (zn : Zone) (h : zn.resettable = true) : zn.inputs.detectorActive = false := by
  unfold Zone.resettable at h
  unfold ZoneInputs.detectorActive
  cases st : zn.state <;> rw [st] at h <;> simp [ZoneInputs.detectorsNormal, ZoneInputs.detectorActive] at h <;> simp [h]

/-- A zone that has released its reservation has no cylinder and no place on the list (R141). -/
theorem releaseReservation_frees (s : State) (z : Room) :
    z ∉ (s.releaseReservation z).bank.reservations ∧ ∀ p : Pos, (s.releaseReservation z).bank.cylinders[p].reservedTo z = false := by
  let left : State := (s.changeReserved z fun c => { c with state := .ready, zone := none }).leaveReservations z
  have off : z ∉ left.bank.reservations := by
    show z ∉ s.bank.reservations.filter (· ≠ z)
    simp
  have free (p : Pos) : left.bank.cylinders[p].reservedTo z = false := by
    show (vgen fun p => if s.bank.cylinders[p].reservedTo z then _ else s.bank.cylinders[p] : Vector Cylinder 48)[p].reservedTo z = false
    simp only [Fin.getElem_fin, vgen_get]
    split
    · simp [Cylinder.reservedTo]
    · simpa using ‹¬ _ = true›
  refine ⟨fun h => off ((topUp_lists left).1 ▸ h), fun p => ?_⟩
  obtain still | ⟨-, y, member, -, taken⟩ := topUps_cylinder left.bank.reservations left p
  · exact (congrArg (Cylinder.reservedTo · z) still).trans (free p)
  · refine (congrArg (Cylinder.reservedTo · z) taken).trans ?_
    have other : y ≠ z := fun h => off (h ▸ member)
    simp [Cylinder.reservedTo, other]

/-- The state in which an accepted ZONE RESET brings the zone to NORMAL: from HELD its reservation has been released (R127). -/
def released (s : State) (z : Room) : State := if s.zones[z].state = .held then s.releaseReservation z else s

theorem released_zones (s : State) (z : Room) : (released s z).zones = s.zones := by
  unfold released
  split <;> simp

theorem released_frame (s : State) (z : Room) :
    (released s z).bt = s.bt ∧ (released s z).clk = s.clk ∧ (released s z).roll = s.roll ∧ (released s z).p1 = s.p1 ∧
      (released s z).p2 = s.p2 ∧ (released s z).lines = s.lines := by
  unfold released
  split <;> simp

theorem reachNormal_frame (s : State) (z : Room) :
    (s.reachNormal z).bt = s.bt ∧ (s.reachNormal z).clk = s.clk ∧ (s.reachNormal z).roll = s.roll ∧ (s.reachNormal z).p1 = s.p1 ∧
      (s.reachNormal z).p2 = s.p2 ∧ (s.reachNormal z).lines = s.lines := by
  unfold State.reachNormal
  simp

theorem zoneResetBody_accepted (h : t.zones[z].resettable = true) :
    zoneResetBody (num z) t = ((released t z).reachNormal z).zoneReply z := by
  rw [zoneResetBody, withRoom_num, if_pos h]
  rfl

theorem exec_zoneReset (w : WaitsWith s f rest 0x60) (h : s.zones[z].resettable = true) (manual : s.zones[z].inputs.manual ≠ .active) :
    TakenAndAnswered s (exec (.zoneReset (some (num z))) s) rest f 0x60 (.zoneState .normal) fun t =>
      t.zones = s.zones.set z { cleared s.zones[z] with state := .normal, holds := holdsWith s z .noKind false s.lines.inhibit } ∧
      (s.zones[z].state = .held → z ∉ t.bank.reservations ∧ ∀ p : Pos, t.bank.cylinders[p].reservedTo z = false) ∧
      (s.zones[z].state ≠ .held → t.bank.cylinders = s.bank.cylinders ∧ t.bank.reservations = s.bank.reservations) ∧
      t.bt = s.bt ∧ t.clk = s.clk ∧ t.roll = s.roll ∧ t.p2 = s.p2 ∧ t.lines = s.lines := by
  let v : State := released (taken s rest) z
  have vzones : v.zones = s.zones := released_zones (taken s rest) z
  obtain ⟨vbt, vclk, vroll, vp1, vp2, vlines⟩ := released_frame (taken s rest) z
  obtain ⟨bt, clk, roll, p1, p2, lines⟩ := reachNormal_frame v z
  have vmanual : v.zones[z].inputs.manual ≠ .active := by rw [vzones]; exact manual
  have vquiet : v.zones[z].inputs.detectorActive = false := by rw [vzones]; exact resettable_quiet _ h
  have zones : (v.reachNormal z).zones =
      s.zones.set z { cleared s.zones[z] with state := .normal, holds := holdsWith s z .noKind false s.lines.inhibit } := by
    have holds : holdsWith v z .noKind false v.lines.inhibit = holdsWith s z .noKind false s.lines.inhibit := by
      have roll' : v.roll = s.roll := vroll
      have lines' : v.lines = s.lines := vlines
      unfold holdsWith State.occupied State.headCount
      rw [vzones, roll', lines']
    rw [reachNormal_zones v z vmanual vquiet, holds, vzones]
  have bank := reachNormal_bank v z vmanual vquiet
  have reply : (v.reachNormal z).zoneReply z = (v.reachNormal z, .ok (.zoneState .normal)) := by
    rw [State.zoneReply, zones, vset_same]
  obtain ⟨t, next, leaves, requests, ok⟩ := serveFields_leaves w rfl (num z) zoneResetBody
    ((zoneResetBody_accepted (t := taken s rest) h).trans reply) (p1.trans vp1)
  refine ⟨t, next, requests, ok, leaves.zones.trans zones, fun held => ?_, fun other => ?_, leaves.bt.trans (bt.trans vbt),
    leaves.clk.trans (clk.trans vclk), leaves.roll.trans (roll.trans vroll), leaves.p2.trans (p2.trans vp2),
    leaves.lines.trans (lines.trans vlines)⟩
  · have from_ : v = (taken s rest).releaseReservation z := if_pos held
    rw [leaves.bank, bank.reservations, bank.cylinders, from_]
    exact releaseReservation_frees (taken s rest) z
  · have from_ : v = taken s rest := if_neg other
    rw [leaves.bank, bank.reservations, bank.cylinders, from_]
    exact ⟨rfl, rfl⟩

/-- Settles O20: the records of the zone after the two requests. -/
theorem zoneResetAndReleaseAuthorise : Obligations.ZoneResetAndReleaseAuthorise := by
  unfold Obligations.ZoneResetAndReleaseAuthorise
  refine ⟨fun s f rest z w => ⟨fun h manual => exec_zoneReset w h manual, fun h => ?_⟩,
    fun s f rest z w => ⟨fun h => exec_releaseAuthorise w h, fun held countdown => ?_⟩⟩
  · refine serveFields_refused w rfl (num z) zoneResetBody .state ((withRoom_num ..).trans (if_neg ?_))
    exact fun yes => Bool.false_ne_true (h.symm.trans yes)
  · exact serveFields_refused w rfl (num z) releaseAuthoriseBody .state
      (releaseAuthoriseBody_refused (t := taken s rest) held countdown)

end Sys2Proof.Proofs.ZoneRequests
end

section
/-! PROOFS. ZONE DISABLE and ZONE ENABLE in every state (R128), and PROFILE LOAD (R173). -/
namespace Sys2Proof.Proofs.ZoneService

open Sys2Proof Sys2Proof.Machine Sys2Proof.Safety Sys2Proof.Laws Sys2Proof.Proofs.RecordReads
open Sys2Proof.Proofs.Evaluation Sys2Proof.Proofs.OneRoom Sys2Proof.Proofs.ZoneMoves Sys2Proof.Proofs.ZoneRequests
open Sys2Proof.Proofs.Acts (SameBank enterZone_bank confirm_bank)

variable {s t u : State} {r z : Room} {k : SequenceKind} {f : RequestFrame} {rest : List RequestFrame}

/-- A request that a body has carried out ends its event and is answered. -/
theorem serveFields_ends {α : Type} {code : Octet} {n : Nat} {x : Contents} (w : WaitsWith s f rest code)
    (hn : code = BitVec.ofNat 8 n) (a : α) (body : α → State → State × Reply) (hb : body a (taken s rest) = (u, .ok x))
    (next : serveFields n (some a) body s = .next t) : t = (State.finish (taken s rest) u).answer f code (.ok x) := by
  rw [serveFields_of_waits w hn a body] at next
  unfold State.carryOut at next
  dsimp only at next
  rw [hb] at next
  exact (Host.Outcome.next.inj next).symm

/-- A request that leaves what its body leaves, and an alarm record standing that its body has raised in a table with room. -/
theorem serveFields_stands {α : Type} {code : Octet} {n m : Nat} {key : AlarmKey} {x : Contents} (w : WaitsWith s f rest code)
    (hn : code = BitVec.ofNat 8 n) (a : α) (body : α → State → State × Reply) (hb : body a (taken s rest) = (u, .ok x))
    (hp : u.p1 = (taken s rest).p1) (other : key.kind ≠ .coverageShort)
    (length : u.alarms.records.length ≤ s.alarms.records.length + m) (raised : Roomy s → Stands u key) (few : m ≤ 8) :
    ∃ t, serveFields n (some a) body s = .next t ∧ Leaves u t ∧ t.p1.requests = rest ∧ AnsweredOk s t f code x ∧
      (Roomy s → Stands t key) := by
  obtain ⟨t, next, leaves, requests, ok⟩ := serveFields_leaves w hn a body hb hp
  refine ⟨t, next, leaves, requests, ok, fun roomy => ?_⟩
  have end_ := serveFields_ends w hn a body hb next
  have same : t.alarms = (State.finish (taken s rest) u).alarms := by
    rw [end_, answer_eq _ _ w.addressed]
    rfl
  have few_ : s.alarms.records.length ≤ 40 := roomy
  have stands := (finish_keepsAlarm (taken s rest) u other).stands (by omega) (raised roomy)
  simpa only [Stands, same] using stands

/-! ### ZONE DISABLE -/

/-- ZONE_ALERT has ended where the zone was in ALERT. -/
def unalerted (s : State) (z : Room) : State :=
  if s.zones[z].state = .alert then s.alarmGone (.forRoom .zoneAlert z) else s

theorem unalerted_frame (s : State) (z : Room) :
    (unalerted s z).bt = s.bt ∧ (unalerted s z).clk = s.clk ∧ (unalerted s z).ctx = s.ctx ∧ (unalerted s z).roll = s.roll ∧
      (unalerted s z).zones = s.zones ∧ (unalerted s z).bank = s.bank ∧ (unalerted s z).p1 = s.p1 ∧ (unalerted s z).p2 = s.p2 ∧
      (unalerted s z).lines = s.lines := by
  unfold unalerted
  split <;> simp

theorem disableZone_eq (s : State) (z : Room) :
    s.disableZone z =
      (((unalerted s z).setZone z { s.zones[z] with disableCause := .request }).enterZone z .disabled).raiseAlarm
        (.forRoom .zoneDisabled z) := by
  have zones : (unalerted s z).zones = s.zones := (unalerted_frame s z).2.2.2.2.1
  rw [← zones]
  rfl

theorem disableZone_zones (s : State) (z : Room) :
    (s.disableZone z).zones = s.zones.set z { s.zones[z] with state := .disabled, disableCause := .request } := by
  obtain ⟨-, -, -, -, zones, -⟩ := unalerted_frame s z
  rw [disableZone_eq, (State.raiseAlarm_frame ..).2.2.2.2.2.2.2.2.2.2.1, enterZone_open _ z rfl]
  simp only [State.setZone_zones, vset_same, Vector.set_set, zones]

/-- A disabled zone has no basis for coverage (R142). -/
theorem coverageOf_disabled (s : State) (z : Room) (h : s.zones[z].state = .disabled) : (s.coverageOf z).basis = .noBasis := by
  simp only [State.coverageOf, h]

theorem disableZone_coverage (s : State) (z : Room) : (s.disableZone z).bank.coverage[z].basis = .noBasis := by
  have raised (u : State) (key : AlarmKey) : (u.raiseAlarm key).bank = u.bank := by simp
  rw [disableZone_eq, raised, enterZone_coverage]
  refine coverageOf_disabled _ z ?_
  obtain ⟨env, zones, -⟩ := setCloseDemand_zone
    (((unalerted s z).setZone z { s.zones[z] with disableCause := .request }).setZone z
      { ((unalerted s z).setZone z { s.zones[z] with disableCause := .request }).zones[z] with state := .disabled }) z
    (ZoneState.disabled).demand
  rw [zones, vset_same, State.setZone_zones, vset_same]

theorem disableZone_cylinders (s : State) (z : Room) : (s.disableZone z).bank.cylinders = s.bank.cylinders := by
  have raised (u : State) (key : AlarmKey) : (u.raiseAlarm key).bank = u.bank := by simp
  rw [disableZone_eq, raised, (enterZone_bank ..).cylinders, State.setZone_bank]
  exact congrArg AgentBank.cylinders (unalerted_frame s z).2.2.2.2.2.1

theorem disableZone_frame (s : State) (z : Room) :
    (s.disableZone z).bt = s.bt ∧ (s.disableZone z).clk = s.clk ∧ (s.disableZone z).ctx = s.ctx ∧ (s.disableZone z).roll = s.roll ∧
      (s.disableZone z).p1 = s.p1 ∧ (s.disableZone z).p2 = s.p2 ∧ (s.disableZone z).lines = s.lines := by
  obtain ⟨bt, clk, ctx, roll, -, -, p1, p2, lines⟩ := unalerted_frame s z
  rw [disableZone_eq]
  simp [enterZone_ctx, ZoneState.quiet, bt, clk, ctx, roll, p1, p2, lines]

theorem zoneDisableBody_accepted (h : t.zones[z].state = .normal ∨ t.zones[z].state = .alert) :
    zoneDisableBody (num z) t = (t.disableZone z, .ok (.zoneState .disabled)) := by
  have reply : (t.disableZone z).zoneReply z = (t.disableZone z, .ok (.zoneState .disabled)) := by
    rw [State.zoneReply, disableZone_zones, vset_same]
  rw [zoneDisableBody, withRoom_num, ← reply]
  obtain st | st := h <;> rw [st]

theorem zoneDisableBody_disabled (h : t.zones[z].state = .disabled) :
    zoneDisableBody (num z) t = (t, .ok (.zoneState .disabled)) := by
  simp only [zoneDisableBody, withRoom_num, h, State.zoneReply]

theorem zoneDisableBody_refused (normal : t.zones[z].state ≠ .normal) (alert : t.zones[z].state ≠ .alert)
    (disabled : t.zones[z].state ≠ .disabled) : zoneDisableBody (num z) t = refuse .state t := by
  rw [zoneDisableBody, withRoom_num]
  split
  · exact absurd ‹_› normal
  · exact absurd ‹_› alert
  · exact absurd ‹_› disabled
  · rfl

theorem exec_zoneDisable (w : WaitsWith s f rest 0x61) (h : s.zones[z].state = .normal ∨ s.zones[z].state = .alert) :
    TakenAndAnswered s (exec (.zoneDisable (some (num z))) s) rest f 0x61 (.zoneState .disabled) fun t =>
      t.zones = s.zones.set z { s.zones[z] with state := .disabled, disableCause := .request } ∧
      t.bank.cylinders = s.bank.cylinders ∧ t.bank.coverage[z].basis = .noBasis ∧ t.bt = s.bt ∧ t.clk = s.clk ∧
      t.ctx = s.ctx ∧ t.roll = s.roll ∧ t.p2 = s.p2 ∧ t.lines = s.lines := by
  obtain ⟨bt, clk, ctx, roll, p1, p2, lines⟩ := disableZone_frame (taken s rest) z
  obtain ⟨t, next, leaves, requests, ok⟩ := serveFields_leaves w rfl (num z) zoneDisableBody
    (zoneDisableBody_accepted (t := taken s rest) h) p1
  refine ⟨t, next, requests, ok, leaves.zones.trans (disableZone_zones ..), ?_, ?_, leaves.bt.trans bt, leaves.clk.trans clk,
    leaves.ctx.trans ctx, leaves.roll.trans roll, leaves.p2.trans p2, leaves.lines.trans lines⟩
  · rw [leaves.bank]
    exact disableZone_cylinders (taken s rest) z
  · simp only [leaves.bank]
    exact disableZone_coverage (taken s rest) z

/-! ### ZONE ENABLE -/

/-- The zone in NORMAL, before its inputs are tested: ZONE_DISABLED has ended where a request had disabled it (R128). -/
def enabled (s : State) (z : Room) : State :=
  (if s.zones[z].disableCause = .request then s.alarmGone (.forRoom .zoneDisabled z) else s).enterZone z .normal

theorem enabled_zones (s : State) (z : Room) : (enabled s z).zones = s.zones.set z { s.zones[z] with state := .normal } := by
  unfold enabled
  rw [enterZone_open _ z rfl]
  split <;> rfl

theorem enabled_frame (s : State) (z : Room) :
    (enabled s z).bt = s.bt ∧ (enabled s z).clk = s.clk ∧ (enabled s z).ctx = s.ctx ∧ (enabled s z).roll = s.roll ∧
      (enabled s z).p1 = s.p1 ∧ (enabled s z).p2 = s.p2 ∧ (enabled s z).sup = s.sup ∧ (enabled s z).lines = s.lines := by
  unfold enabled
  split <;> simp [enterZone_ctx, ZoneState.quiet]

theorem enabled_bank (s : State) (z : Room) : SameBank s (enabled s z) := by
  unfold enabled
  split
  · have bank := enterZone_bank (s.alarmGone (.forRoom .zoneDisabled z)) z .normal
    exact ⟨bank.cylinders, bank.reservations, bank.manifold, bank.waitQueue⟩
  · exact enterZone_bank s z .normal

/-- The table has no more records after the zone has been enabled. -/
theorem enabled_length (s : State) (z : Room) : (enabled s z).alarms.records.length ≤ s.alarms.records.length := by
  have quiet (u : State) : (u.enterZone z .normal).alarms.records.length ≤ u.alarms.records.length :=
    (enterZone_keepsAlarm (k := .bare .restarted) u z .normal (by simp [AlarmKey.bare])).length
  unfold enabled
  split
  · exact Nat.le_trans (quiet _) (List.length_filterMap_le _ _)
  · exact quiet s

theorem zoneEnableBody_accepted (h : t.zones[z].state = .disabled) :
    zoneEnableBody (num z) t = ((enabled t z).testInputs z).zoneReply z := by
  rw [zoneEnableBody, withRoom_num, if_pos h]
  rfl

theorem zoneEnableBody_refused (h : t.zones[z].state ≠ .disabled) : zoneEnableBody (num z) t = refuse .state t := by
  rw [zoneEnableBody, withRoom_num, if_neg h]

section Enable

variable (s z)

theorem enabled_own : (enabled s z).zones[z] = { s.zones[z] with state := .normal } := by rw [enabled_zones, vset_same]

/-- With nothing Active the zone stays NORMAL (R128). -/
theorem enabled_still (confirms : s.zones[z].inputs.confirms s.sup.profiles[z].knock = none)
    (quiet : s.zones[z].inputs.detectorActive = false) : (enabled s z).testInputs z = enabled s z := by
  obtain ⟨-, -, -, -, -, -, sup, -⟩ := enabled_frame s z
  refine testInputs_still _ z (fun _ => ?_) fun _ => ?_
  · rw [enabled_own, sup]
    exact confirms
  · rw [enabled_own]
    exact quiet

/-- A single Active detector brings ALERT (R115, R128). -/
theorem enabled_alert (confirms : s.zones[z].inputs.confirms s.sup.profiles[z].knock = none)
    (active : s.zones[z].inputs.detectorActive = true) :
    (enabled s z).testInputs z = ((enabled s z).enterZone z .alert).raiseAlarm (.forRoom .zoneAlert z) := by
  obtain ⟨-, -, -, -, -, -, sup, -⟩ := enabled_frame s z
  refine testInputs_alert _ z ?_ ?_ ?_
  · rw [enabled_own]
  · rw [enabled_own, sup]
    exact confirms
  · rw [enabled_own]
    exact active

/-- A confirming input confirms (R117, R128). -/
theorem enabled_confirms (confirms : s.zones[z].inputs.confirms s.sup.profiles[z].knock = some k) :
    (enabled s z).testInputs z = (enabled s z).confirm z k := by
  obtain ⟨-, -, -, -, -, -, sup, -⟩ := enabled_frame s z
  refine testInputs_confirms _ z (.inl ?_) ?_
  · rw [enabled_own]
  · rw [enabled_own, sup]
    exact confirms

end Enable

theorem exec_zoneEnable_normal (w : WaitsWith s f rest 0x62) (h : s.zones[z].state = .disabled)
    (confirms : s.zones[z].inputs.confirms s.sup.profiles[z].knock = none) (quiet : s.zones[z].inputs.detectorActive = false) :
    TakenAndAnswered s (exec (.zoneEnable (some (num z))) s) rest f 0x62 (.zoneState .normal) fun t =>
      t.zones = s.zones.set z { s.zones[z] with state := .normal } ∧ t.bank.cylinders = s.bank.cylinders ∧
      t.bt = s.bt ∧ t.clk = s.clk ∧ t.ctx = s.ctx ∧ t.roll = s.roll ∧ t.p2 = s.p2 ∧ t.lines = s.lines := by
  obtain ⟨bt, clk, ctx, roll, p1, p2, -, lines⟩ := enabled_frame (taken s rest) z
  have reply : ((enabled (taken s rest) z).testInputs z).zoneReply z = (enabled (taken s rest) z, .ok (.zoneState .normal)) := by
    rw [enabled_still (taken s rest) z confirms quiet, State.zoneReply, enabled_own]
  obtain ⟨t, next, leaves, requests, ok⟩ := serveFields_leaves w rfl (num z) zoneEnableBody
    ((zoneEnableBody_accepted (t := taken s rest) h).trans reply) p1
  refine ⟨t, next, requests, ok, leaves.zones.trans (enabled_zones ..), ?_, leaves.bt.trans bt, leaves.clk.trans clk,
    leaves.ctx.trans ctx, leaves.roll.trans roll, leaves.p2.trans p2, leaves.lines.trans lines⟩
  rw [leaves.bank]
  exact (enabled_bank (taken s rest) z).cylinders

theorem alert_frame (s : State) (z : Room) :
    let u := (s.enterZone z .alert).raiseAlarm (.forRoom .zoneAlert z)
    u.bt = s.bt ∧ u.clk = s.clk ∧ u.ctx = s.ctx ∧ u.roll = s.roll ∧ u.p1 = s.p1 ∧ u.p2 = s.p2 ∧ u.lines = s.lines ∧
      u.bank.cylinders = s.bank.cylinders ∧ u.bank.reservations = s.bank.reservations := by
  have bank := enterZone_bank s z .alert
  simp [enterZone_ctx, ZoneState.quiet, bank.cylinders, bank.reservations]

theorem exec_zoneEnable_alert (w : WaitsWith s f rest 0x62) (h : s.zones[z].state = .disabled)
    (confirms : s.zones[z].inputs.confirms s.sup.profiles[z].knock = none) (active : s.zones[z].inputs.detectorActive = true) :
    TakenAndAnswered s (exec (.zoneEnable (some (num z))) s) rest f 0x62 (.zoneState .alert) fun t =>
      t.zones = s.zones.set z { s.zones[z] with state := .alert } ∧ (Roomy s → Stands t (.forRoom .zoneAlert z)) ∧
      t.bank.cylinders = s.bank.cylinders ∧ t.bank.reservations = s.bank.reservations ∧ t.bt = s.bt ∧ t.clk = s.clk ∧
      t.ctx = s.ctx ∧ t.roll = s.roll ∧ t.p2 = s.p2 ∧ t.lines = s.lines := by
  let v : State := (enabled (taken s rest) z).enterZone z .alert
  let u : State := v.raiseAlarm (.forRoom .zoneAlert z)
  obtain ⟨bt, clk, ctx, roll, p1, p2, -, lines⟩ := enabled_frame (taken s rest) z
  have zones : u.zones = s.zones.set z { s.zones[z] with state := .alert } := by
    have alert : v.zones = (enabled (taken s rest) z).zones.set z { (enabled (taken s rest) z).zones[z] with state := .alert } :=
      enterZone_open _ z rfl
    have raised : u.zones = v.zones := by simp [u]
    rw [raised, alert, enabled_own, enabled_zones, Vector.set_set]
    rfl
  have reply : ((enabled (taken s rest) z).testInputs z).zoneReply z = (u, .ok (.zoneState .alert)) := by
    rw [enabled_alert (taken s rest) z confirms active]
    show (u, Reply.ok (.zoneState u.zones[z].state)) = _
    rw [zones, vset_same]
  obtain ⟨ubt, uclk, uctx, uroll, up1, up2, ulines, ucylinders, ureservations⟩ := alert_frame (enabled (taken s rest) z) z
  have bank := enabled_bank (taken s rest) z
  have vlength : v.alarms.records.length ≤ s.alarms.records.length :=
    Nat.le_trans (enterZone_keepsAlarm (k := .bare .restarted) _ z .alert (by simp [AlarmKey.bare])).length
      (enabled_length (taken s rest) z)
  obtain ⟨t, next, leaves, requests, ok, stands⟩ := serveFields_stands (m := 1) (key := .forRoom .zoneAlert z) w rfl (num z) zoneEnableBody
    ((zoneEnableBody_accepted (t := taken s rest) h).trans reply) (up1.trans p1) (by simp [AlarmKey.forRoom])
    (Nat.le_trans (raiseAlarm_length v _) (Nat.add_le_add_right vlength 1))
    (fun roomy => State.raiseAlarm_stands v _ (by have few : s.alarms.records.length ≤ 40 := roomy; omega)) (by omega)
  refine ⟨t, next, requests, ok, leaves.zones.trans zones, stands, ?_, ?_, leaves.bt.trans (ubt.trans bt),
    leaves.clk.trans (uclk.trans clk), leaves.ctx.trans (uctx.trans ctx), leaves.roll.trans (uroll.trans roll),
    leaves.p2.trans (up2.trans p2), leaves.lines.trans (ulines.trans lines)⟩
  · rw [leaves.bank]
    exact ucylinders.trans bank.cylinders
  · rw [leaves.bank]
    exact ureservations.trans bank.reservations

theorem exec_zoneEnable_confirms (w : WaitsWith s f rest 0x62) (h : s.zones[z].state = .disabled)
    (confirms : s.zones[z].inputs.confirms s.sup.profiles[z].knock = some k) :
    let holds := holdsWith s z k s.zones[z].authorise s.lines.inhibit
    TakenAndAnswered s (exec (.zoneEnable (some (num z))) s) rest f 0x62 (.zoneState (if holds.any then .held else .countdown))
      fun t =>
      t.zones[z].state = (if holds.any then .held else .countdown) ∧ t.zones[z].kind = k ∧ t.zones[z].holds = holds ∧
      t.zones[z].remainder = s.sup.profiles[z].delay ∧ t.zones[z].accumulated = 0 ∧
      t.bank.reservations = s.bank.reservations ++ [z] ∧ t.ctx[z] = .empty ∧ t.bt = s.bt ∧ t.clk = s.clk := by
  intro holds
  let v : State := enabled (taken s rest) z
  obtain ⟨bt, clk, ctx, roll, p1, p2, sup, lines⟩ := enabled_frame (taken s rest) z
  have holds_ : holdsWith v z k v.zones[z].authorise v.lines.inhibit = holds := by
    have own : v.zones[z] = { s.zones[z] with state := .normal } := enabled_own (taken s rest) z
    have roll' : v.roll = s.roll := roll
    have lines' : v.lines = s.lines := lines
    unfold holdsWith State.occupied State.headCount
    rw [own, roll', lines']
    rfl
  obtain ⟨env, zones⟩ := confirm_zone v z k
  have own : (v.confirm z k).zones[z] =
      { Acts.confirmed v.zones[z] k s.sup.profiles[z].delay holds with lastEnvelope := env } := by
    have sup' : v.sup = s.sup := sup
    rw [zones, vset_same, holds_, sup']
  have reply : (v.testInputs z).zoneReply z = (v.confirm z k, .ok (.zoneState (if holds.any then .held else .countdown))) := by
    rw [enabled_confirms (taken s rest) z confirms, State.zoneReply, own]
    rfl
  obtain ⟨t, next, leaves, requests, ok⟩ := serveFields_leaves w rfl (num z) zoneEnableBody
    ((zoneEnableBody_accepted (t := taken s rest) h).trans reply) (by simpa [v] using p1)
  have mine : t.zones[z] = { Acts.confirmed v.zones[z] k s.sup.profiles[z].delay holds with lastEnvelope := env } := by
    rw [← own]
    simp only [leaves.zones]
  refine ⟨t, next, requests, ok, ?_, ?_, ?_, ?_, ?_, ?_, ?_, leaves.bt.trans ?_, leaves.clk.trans ?_⟩
  · rw [mine]
    rfl
  · rw [mine]
    rfl
  · rw [mine]
    rfl
  · rw [mine]
    rfl
  · rw [mine]
    rfl
  · rw [leaves.bank, (confirm_bank v z k).2.2]
    exact congrArg (· ++ [z]) (enabled_bank (taken s rest) z).reservations
  · simp only [leaves.ctx]
    exact confirm_ctx v z k
  · exact (State.confirm_frame v z k).2.2.2.2.2.1.trans bt
  · exact (State.confirm_frame v z k).2.2.2.2.2.2.1.trans clk

/-- Settles O21: ZONE DISABLE by the state of the zone, ZONE ENABLE by what the inputs say. -/
theorem zoneDisableAndEnableByState : Obligations.ZoneDisableAndEnableByState := by
  unfold Obligations.ZoneDisableAndEnableByState
  refine ⟨fun s f rest z w => ⟨exec_zoneDisable w, fun disabled => ?_, fun normal alert disabled => ?_⟩,
    fun s f rest z w => ⟨exec_zoneEnable_normal w, exec_zoneEnable_alert w, fun k => exec_zoneEnable_confirms w, fun other => ?_⟩⟩
  · exact serveFields_unchanged w rfl (num z) zoneDisableBody _ (zoneDisableBody_disabled (t := taken s rest) disabled)
  · exact serveFields_refused w rfl (num z) zoneDisableBody .state
      (zoneDisableBody_refused (t := taken s rest) normal alert disabled)
  · exact serveFields_refused w rfl (num z) zoneEnableBody .state (zoneEnableBody_refused (t := taken s rest) other)

/-! ### PROFILE LOAD -/

variable {a : ProfileArgs} {p : Profile}

theorem coverageOf_required (s : State) (z : Room) : (s.coverageOf z).required = s.sup.profiles[z].required := by
  unfold State.coverageOf
  dsimp only
  split <;> rfl

theorem enterZone_required (s : State) (z : Room) (st : ZoneState) :
    (s.enterZone z st).bank.coverage[z].required = s.sup.profiles[z].required := by
  rw [enterZone_coverage, coverageOf_required]
  simp

/-- The test of the inputs leaves the required quantity as the profile gives it. -/
theorem testInputs_required (s : State) (z : Room) (h : s.bank.coverage[z].required = s.sup.profiles[z].required) :
    (s.testInputs z).bank.coverage[z].required = s.sup.profiles[z].required := by
  unfold State.testInputs
  dsimp only
  split
  · split
    · have sup : (reservedFor s z ‹_›).sup = s.sup := by simp [reservedFor]
      rw [confirm_eq, enterZone_required, State.setZone_sup, sup]
    · split
      · have raised (u : State) (key : AlarmKey) :
            (u.raiseAlarm key).bank.coverage[z].required = u.bank.coverage[z].required := by simp
        exact (raised _ _).trans (enterZone_required s z .alert)
      · exact h
  · exact h

/-- The state in which a loaded profile's inputs are tested (R173). -/
def loaded (s : State) (r : Room) (p : Profile) : State :=
  let s := { s with sup := { s.sup with profiles := s.sup.profiles.set r p } }
  ((s.refreshCoverage r).deriveTimeLock r).retest r

theorem loadProfile_eq (s : State) (r : Room) (p : Profile) :
    s.loadProfile r p = if (loaded s r p).zones[r].state = .normal then (loaded s r p).testInputs r else loaded s r p := rfl

theorem loaded_frame (s : State) (r : Room) (p : Profile) :
    (loaded s r p).bt = s.bt ∧ (loaded s r p).clk = s.clk ∧ (loaded s r p).p1 = s.p1 ∧ (loaded s r p).p2 = s.p2 ∧
      (loaded s r p).lines = s.lines ∧ (loaded s r p).sup = { s.sup with profiles := s.sup.profiles.set r p } := by
  simp [loaded, State.deriveTimeLock]

theorem loaded_timeLock (s : State) (r : Room) (p : Profile) :
    (loaded s r p).doors[r].timeLock = (p.timeLock ≠ 0 && !s.clk.inForce[p.timeLock]) := by
  let given : State := { s with sup := { s.sup with profiles := s.sup.profiles.set r p } }
  have doors : (loaded s r p).doors = ((given.refreshCoverage r).deriveTimeLock r).doors := by
    simp only [loaded, State.retest_frame]
    rfl
  have lock : (given.refreshCoverage r).timeLockOf r = (p.timeLock ≠ 0 && !s.clk.inForce[p.timeLock]) := by
    have own : (given.refreshCoverage r).sup.profiles[r] = p := vset_same s.sup.profiles r p
    simp only [State.timeLockOf, own]
    rfl
  rw [doors, deriveTimeLock_door, if_pos rfl, lock]
  rfl

theorem loaded_required (s : State) (r : Room) (p : Profile) : (loaded s r p).bank.coverage[r].required = p.required := by
  let given : State := { s with sup := { s.sup with profiles := s.sup.profiles.set r p } }
  have bank : (loaded s r p).bank = (given.refreshCoverage r).bank := by
    simp only [loaded, State.retest_frame]
    rfl
  have own : given.sup.profiles[r] = p := vset_same s.sup.profiles r p
  have covered : (given.refreshCoverage r).bank.coverage[r] = given.coverageOf r := vset_same _ r _
  rw [bank, covered, coverageOf_required, own]

/-- What a loaded profile leaves: the test of the inputs changes neither the time lock nor the required quantity. -/
theorem loadProfile_leaves (s : State) (r : Room) (p : Profile) :
    (s.loadProfile r p).bt = s.bt ∧ (s.loadProfile r p).clk = s.clk ∧ (s.loadProfile r p).p1 = s.p1 ∧ (s.loadProfile r p).p2 = s.p2 ∧
      (s.loadProfile r p).lines = s.lines ∧ (s.loadProfile r p).sup = { s.sup with profiles := s.sup.profiles.set r p } ∧
      (s.loadProfile r p).doors[r].timeLock = (p.timeLock ≠ 0 && !s.clk.inForce[p.timeLock]) ∧
      (s.loadProfile r p).bank.coverage[r].required = p.required := by
  obtain ⟨bt, clk, p1, p2, lines, sup⟩ := loaded_frame s r p
  have own : (loaded s r p).sup.profiles[r] = p := by
    rw [sup]
    exact vset_same s.sup.profiles r p
  rw [loadProfile_eq]
  split
  · have door := congrArg Prod.fst (testInputs_atDoor (loaded s r p) r).outline
    refine ⟨by simpa using bt, by simpa using clk, by simpa using p1, by simpa using p2, by simpa using lines, by simpa using sup,
      door.trans (loaded_timeLock s r p), ?_⟩
    rw [testInputs_required _ _ (by rw [own, loaded_required]), own]
  · exact ⟨bt, clk, p1, p2, lines, sup, loaded_timeLock s r p, loaded_required s r p⟩

theorem barsProfile_iff (s : State) (r : Room) :
    s.barsProfile r = true ↔ (s.zones[r].state ≠ .normal ∧ s.zones[r].state ≠ .disabled) ∨ s.ctx[r] ≠ .empty := by
  unfold State.barsProfile
  generalize s.zones[r].state = st
  generalize s.ctx[r] = c
  simp

theorem profileLoadBody_barred (room : a.room = num r) (barred : t.barsProfile r = true) : profileLoadBody a t = refuse .state t := by
  rw [profileLoadBody, room, withRoom_num, if_pos barred]

theorem profileLoadBody_format (room : a.room = num r) (free : ¬t.barsProfile r = true) (none_ : a.profile? = none) :
    profileLoadBody a t = refuse .format t := by
  rw [profileLoadBody, room, withRoom_num, if_neg free, none_]

theorem profileLoadBody_some (room : a.room = num r) (free : ¬t.barsProfile r = true) (some_ : a.profile? = some p) :
    profileLoadBody a t =
      if p.capacity < t.headCount r then refuse .state t else (t.loadProfile r p, .ok (.features p.features)) := by
  rw [profileLoadBody, room, withRoom_num, if_neg free, some_]

theorem exec_profileLoad (w : WaitsWith s f rest 0xA3) (room : a.room = num r) (free : ¬s.barsProfile r = true)
    (inRange : ProfileInRange a) (carries : CarriesProfile a p) (fits : s.headCount r ≤ p.capacity) :
    TakenAndAnswered s (exec (.profileLoad (some a)) s) rest f 0xA3 (.features 0) fun t =>
      t.sup.profiles = s.sup.profiles.set r p ∧ t.doors[r].timeLock = t.timeLockOf r ∧
      t.bank.coverage[r].required = (a.volume * a.factor + 99) / 100 ∧
      t.sup.unitAddress = s.sup.unitAddress ∧ t.bt = s.bt ∧ t.clk = s.clk ∧ t.p2 = s.p2 ∧ t.lines = s.lines := by
  obtain ⟨bt, clk, p1, p2, lines, sup, lock, required⟩ := loadProfile_leaves (taken s rest) r p
  obtain ⟨-, -, -, -, sizes, numbers⟩ := id carries
  simp only [Prod.mk.injEq] at sizes numbers
  obtain ⟨volume, factor, -⟩ := sizes
  obtain ⟨-, -, -, -, -, features⟩ := numbers
  have body : profileLoadBody a (taken s rest) = ((taken s rest).loadProfile r p, .ok (.features 0)) := by
    rw [profileLoadBody_some (t := taken s rest) room free ((profile?_iff a p).mpr ⟨inRange, carries⟩), ← features]
    exact if_neg (Nat.not_lt.mpr fits)
  obtain ⟨t, next, leaves, requests, ok⟩ := serveFields_leaves w rfl a profileLoadBody body p1
  have profiles : t.sup.profiles = s.sup.profiles.set r p := by
    rw [leaves.profiles, sup]
    rfl
  have address : t.sup.unitAddress = s.sup.unitAddress := by
    obtain ⟨g, h, q, m, v, -, hf⟩ := State.finish_eq (taken s rest) ((taken s rest).loadProfile r p)
    rw [serveFields_ends w rfl a profileLoadBody body next, answer_eq _ _ w.addressed, hf]
    have kept := congrArg Handler.unitAddress sup
    exact kept
  refine ⟨t, next, requests, ok, profiles, ?_, ?_, address, leaves.bt.trans bt, leaves.clk.trans clk, leaves.p2.trans p2,
    leaves.lines.trans lines⟩
  · have own : t.sup.profiles[r] = p := by
      rw [profiles]
      exact vset_same s.sup.profiles r p
    have clock : t.clk = s.clk := leaves.clk.trans clk
    simp only [leaves.doors, lock, State.timeLockOf, own, clock]
    rfl
  · simp only [leaves.bank, required, Profile.required, volume, factor]

/-- Settles O39: the checks in their order, then the profile stored. -/
theorem profileLoadStoresOrRefuses : Obligations.ProfileLoadStoresOrRefuses := by
  unfold Obligations.ProfileLoadStoresOrRefuses
  intro s f rest r a w room barred
  have bars : s.barsProfile r = true ↔ barred := barsProfile_iff s r
  refine ⟨fun h => ?_, fun h bad => ?_, fun p h inRange carries over_ => ?_, fun p h inRange carries fits => ⟨rfl, ?_⟩⟩
  · exact serveFields_refused w rfl a profileLoadBody .state (profileLoadBody_barred (t := taken s rest) room (bars.mpr h))
  · refine serveFields_refused w rfl a profileLoadBody .format
      (profileLoadBody_format (t := taken s rest) room (fun b => h (bars.mp b)) ?_)
    cases found : a.profile? with
    | none => rfl
    | some p =>
      obtain ⟨inRange, carries⟩ := (profile?_iff a p).mp found
      exact absurd carries (bad.resolve_left (not_not.mpr inRange) p)
  · refine serveFields_refused w rfl a profileLoadBody .state
      ((profileLoadBody_some (t := taken s rest) room (fun b => h (bars.mp b)) ((profile?_iff a p).mpr ⟨inRange, carries⟩)).trans ?_)
    exact if_pos over_
  · exact exec_profileLoad w room (fun b => h (bars.mp b)) inRange carries fits

end Sys2Proof.Proofs.ZoneService
end

section
/-! PROOFS. The Occupancy Roll's requests (R64, R67, R68), and what the hand-on of a strongroom's roll leaves: at the other strongrooms
everything, in the entries all but the lone-worker fields, in the bank all but the wait queue and the coverage records (R63, R107). -/
namespace Sys2Proof.Proofs.RollRequests

open Sys2Proof Sys2Proof.Machine Sys2Proof.Safety Sys2Proof.Laws Sys2Proof.Proofs.RecordReads
open Sys2Proof.Proofs.Evaluation Sys2Proof.Proofs.OneRoom Sys2Proof.Proofs.ZoneMoves
open Sys2Proof.Proofs.Acts (rederive_acts retireIf unlinked erased removeEntry_eq sweepEntry_eq offRoll)

variable {s t u : State} {r z : Room} {f : RequestFrame} {rest : List RequestFrame} {e k : Nat} {o v : OccEntry}

/-! ### The hand-on -/

/-- The entries of a roll but for their lone-worker fields (R59). -/
def baseEntries (m : Table OccEntry) : List (Nat × (Nat × Room × Nat × Option Nat × Nat × Bool × Bool)) :=
  m.map fun p => (p.1, entryBase p.2)

theorem baseEntries_modify (m : Table OccEntry) (e : Nat) (g : OccEntry → OccEntry) (keeps : ∀ o, entryBase (g o) = entryBase o) :
    baseEntries (m.modify e g) = baseEntries m := by
  simp only [baseEntries, Table.modify, List.map_map]
  refine List.map_congr_left fun p _ => ?_
  by_cases h : p.1 = e <;> simp [h, keeps]

/-- Entries that agree but for their lone-worker fields, one by one. -/
theorem get_of_baseEntries {m m' : Table OccEntry} (h : baseEntries m' = baseEntries m) (k : Nat) :
    (m'.get k).map entryBase = (m.get k).map entryBase := by
  induction m generalizing m' with
  | nil =>
    have : m' = [] := by simpa [baseEntries] using h
    rw [this]
  | cons p m ih =>
    cases m' with
    | nil => simp [baseEntries] at h
    | cons p' m' =>
      obtain ⟨n, x⟩ := p
      obtain ⟨n', x'⟩ := p'
      simp only [baseEntries, List.map_cons, List.cons.injEq, Prod.mk.injEq] at h
      obtain ⟨⟨same, base⟩, tail⟩ := h
      subst same
      by_cases here : n' = k
      · simp [Table.get, here, base]
      · simpa [Table.get, here] using ih tail

/-- What a re-test or a hand-on leaves of the roll: all but the entries' lone-worker fields. -/
structure SameRoll (s t : State) : Prop where
  rooms : t.roll.rooms = s.roll.rooms
  tick : t.roll.tick = s.roll.tick
  entries : baseEntries t.roll.entries = baseEntries s.roll.entries

theorem SameRoll.of_eq (h : t.roll = s.roll) : SameRoll s t := by constructor <;> rw [h]

theorem SameRoll.trans (h : SameRoll s t) (h' : SameRoll t u) : SameRoll s u :=
  ⟨h'.rooms.trans h.rooms, h'.tick.trans h.tick, h'.entries.trans h.entries⟩

theorem modEntry_sameRoll (s : State) (e : Nat) {g : OccEntry → OccEntry} (keeps : ∀ o, entryBase (g o) = entryBase o) :
    SameRoll s (s.modEntry e g) := ⟨rfl, rfl, baseEntries_modify _ _ _ keeps⟩

theorem retestEntry_sameRoll (s : State) (e : Nat) : SameRoll s (s.retestEntry e) := by
  unfold State.retestEntry
  split
  · exact .of_eq rfl
  · split
    · exact modEntry_sameRoll s e fun _ => rfl
    · exact .of_eq rfl
    · exact .of_eq rfl
    · have off := modEntry_sameRoll s e (g := fun x => { x with counter := 0, checkIn := .off, promptDue := false }) fun _ => rfl
      exact ⟨off.rooms, off.tick, off.entries⟩

theorem retest_sameRoll (s : State) (r : Room) : SameRoll s (s.retest r) := by
  have all (es : List Nat) (u : State) : SameRoll u (es.foldl State.retestEntry u) := by
    induction es generalizing u with
    | nil => exact .of_eq rfl
    | cons e es ih => exact (retestEntry_sameRoll u e).trans (ih _)
  exact all _ s

theorem handOn_sameRoll (s : State) (r : Room) : SameRoll s (s.handOn r) :=
  (SameRoll.of_eq (t := s.rederive r) (by simp)).trans (retest_sameRoll _ r)

theorem retest_atDoor (s : State) (r : Room) : AtDoor r s (s.retest r) :=
  .of_frame (by simp) (by simp) (retest_sameRoll s r).rooms (by simp) (by simp)

theorem handOn_atDoor (s : State) (r : Room) : AtDoor r s (s.handOn r) := (rederive_atDoor s r).trans (retest_atDoor _ r)

theorem handOn_bank (s : State) (r : Room) :
    (s.handOn r).bank.cylinders = s.bank.cylinders ∧ (s.handOn r).bank.reservations = s.bank.reservations ∧
      (s.handOn r).bank.manifold = s.bank.manifold := by
  obtain ⟨x, -, -, -, cylinders, reservations, manifold⟩ := rederive_acts s r
  have bank : (s.handOn r).bank = (s.rederive r).bank := by simp [State.handOn]
  rw [bank]
  exact ⟨cylinders, reservations, manifold⟩

theorem headCount_congr (h : t.roll.rooms = s.roll.rooms) (r : Room) : t.headCount r = s.headCount r := by
  simp only [State.headCount, h]

/-! ### ROLL CONFIRM -/

theorem rollConfirmBody_marked (h : t.roll.rooms[r].unreconciled = true) :
    rollConfirmBody (num r) t = ((t.reconcile r).handOn r, .ok (.rollConfirmed (t.headCount r) false)) := by
  have rooms : ((t.reconcile r).handOn r).roll.rooms = t.roll.rooms.set r { t.roll.rooms[r] with unreconciled := false } :=
    (handOn_sameRoll _ r).rooms
  have count : ((t.reconcile r).handOn r).headCount r = t.headCount r := by
    simp only [State.headCount, rooms, vset_same]
  rw [rollConfirmBody, withRoom_num]
  simp only [h, if_true, count, rooms, vset_same]

theorem rollConfirmBody_clear (h : t.roll.rooms[r].unreconciled = false) :
    rollConfirmBody (num r) t = (t, .ok (.rollConfirmed (t.headCount r) false)) := by
  rw [rollConfirmBody, withRoom_num]
  simp only [h, Bool.false_eq_true, if_false]

theorem exec_rollConfirm (w : WaitsWith s f rest 0x30) (h : s.roll.rooms[r].unreconciled = true) :
    TakenAndAnswered s (exec (.rollConfirm (some (num r))) s) rest f 0x30 (.rollConfirmed (s.headCount r) false) fun t =>
      t.roll.rooms = s.roll.rooms.set r { s.roll.rooms[r] with unreconciled := false } ∧
      baseEntries t.roll.entries = baseEntries s.roll.entries ∧
      t.roll.tick = s.roll.tick ∧ OtherRoomsKept s t r ∧ t.bt = s.bt ∧ t.clk = s.clk ∧ t.bank.cylinders = s.bank.cylinders ∧
      t.bank.reservations = s.bank.reservations ∧ t.bank.manifold = s.bank.manifold ∧
      (∀ a : Addr, stationBase t a = stationBase s a) ∧ t.p2 = s.p2 ∧ t.lines = s.lines := by
  let v : State := (taken s rest).reconcile r
  obtain ⟨t, next, leaves, requests, ok⟩ := serveFields_leaves w rfl (num r) rollConfirmBody
    (rollConfirmBody_marked (t := taken s rest) h) (by simp)
  obtain ⟨rooms, tick, entries⟩ := handOn_sameRoll v r
  obtain ⟨cylinders, reservations, manifold⟩ := handOn_bank v r
  have local_ : AtRoom r (taken s rest) (v.handOn r) := ((setRoom_atRoom _ r _).trans (alarmGone_atRoom _ _)).trans (handOn_atDoor v r).toAtRoom
  refine ⟨t, next, requests, ok, ?_, ?_, ?_, fun j hj => ?_, leaves.bt.trans (by simp [taken]), leaves.clk.trans (by simp [taken]), ?_, ?_, ?_,
    fun a => ?_, leaves.p2.trans (by simp [taken]), leaves.lines.trans (by simp [taken])⟩
  · rw [leaves.roll]
    exact rooms
  · rw [leaves.roll]
    exact entries
  · rw [leaves.roll]
    exact tick
  · simp only [leaves.doors, leaves.ctx, leaves.roll, leaves.zones]
    exact local_.others j hj
  · rw [leaves.bank]
    exact cylinders
  · rw [leaves.bank]
    exact reservations
  · rw [leaves.bank]
    exact manifold
  · have stations := local_.stations a
    simp only [stationBase, leaves.loop] at stations ⊢
    exact stations

/-! ### ROLL SWEEP -/

theorem sweepEntry_entries (s : State) (e k : Nat) :
    (s.sweepEntry e).roll.entries.get k = if k = e then none else s.roll.entries.get k := by
  cases entry : s.roll.entries.get e with
  | none =>
    have still : s.sweepEntry e = s := by simp [State.sweepEntry, entry]
    rw [still]
    split
    · rw [‹k = e›, entry]
    · rfl
  | some o =>
    have roll : (s.sweepEntry e).roll = (offRoll s e o).roll := by
      rw [sweepEntry_eq entry, retireIf]
      split <;> simp
    rw [roll]
    exact Table.get_erase _ e k

theorem sweepEntry_rooms (s : State) (e : Nat) :
    (s.sweepEntry e).roll.rooms = s.roll.rooms ∧ (s.sweepEntry e).roll.tick = s.roll.tick := by
  unfold State.sweepEntry
  split
  · exact ⟨rfl, rfl⟩
  · dsimp only
    split <;> simp

theorem sweepEntries_entries (es : List Nat) (s : State) (k : Nat) :
    (es.foldl State.sweepEntry s).roll.entries.get k = if k ∈ es then none else s.roll.entries.get k := by
  induction es generalizing s with
  | nil => simp
  | cons e es ih =>
    rw [List.foldl_cons, ih, sweepEntry_entries]
    by_cases here : k = e <;> by_cases later : k ∈ es <;> simp [here, later]

theorem sweepEntries_frame (es : List Nat) (s : State) :
    let t := es.foldl State.sweepEntry s
    t.roll.rooms = s.roll.rooms ∧ t.roll.tick = s.roll.tick ∧ t.doors = s.doors ∧ t.zones = s.zones ∧ t.bank = s.bank ∧
      t.loop = s.loop := by
  induction es generalizing s with
  | nil => exact ⟨rfl, rfl, rfl, rfl, rfl, rfl⟩
  | cons e es ih =>
    obtain ⟨rooms, tick, doors, zones, bank, loop⟩ := ih (s.sweepEntry e)
    obtain ⟨rooms', tick'⟩ := sweepEntry_rooms s e
    exact ⟨rooms.trans rooms', tick.trans tick', doors.trans (by simp), zones.trans (by simp), bank.trans (by simp),
      loop.trans (by simp)⟩

/-- The swept strongroom before its roll is handed on. -/
def swept (s : State) (r : Room) : State :=
  let t := s.roll.rooms[r].list.foldl State.sweepEntry s
  ((t.setRoom r { t.roll.rooms[r] with list := [] }).reconcile r).lapseGone r

theorem swept_roll (s : State) (r : Room) :
    (swept s r).roll.rooms = s.roll.rooms.set r ⟨[], false⟩ ∧ (swept s r).roll.tick = s.roll.tick ∧
      ∀ e, (swept s r).roll.entries.get e = if e ∈ s.roll.rooms[r].list then none else s.roll.entries.get e := by
  obtain ⟨rooms, tick, -⟩ := sweepEntries_frame s.roll.rooms[r].list s
  refine ⟨?_, tick, sweepEntries_entries _ s⟩
  simp only [swept, State.lapseGone_frame, State.reconcile, State.alarmGone_frame, State.setRoom, vset_same, Vector.set_set, rooms]

theorem swept_frame (s : State) (r : Room) :
    (swept s r).doors = s.doors ∧ (swept s r).zones = s.zones ∧ (swept s r).bank = s.bank ∧ (swept s r).loop = s.loop ∧
      (swept s r).clk = s.clk ∧ (swept s r).p1 = s.p1 ∧ (swept s r).p2 = s.p2 ∧ (swept s r).lines = s.lines := by
  simp [swept, State.setRoom]

/-- An empty strongroom has no entry to test again. -/
theorem retest_empty (h : s.roll.rooms[r].list = []) : s.retest r = s := by
  rw [State.retest, h]
  rfl

theorem sweep_eq (s : State) (r : Room) : s.sweep r = (swept s r).rederive r := by
  have empty : ((swept s r).rederive r).roll.rooms[r].list = [] := by
    have roll : ((swept s r).rederive r).roll = (swept s r).roll := by simp
    simp only [roll, (swept_roll s r).1, vset_same]
  show (swept s r).handOn r = _
  rw [State.handOn, retest_empty empty]

theorem exec_rollSweep (w : WaitsWith s f rest 0x31) (h : s.occupied r = true) :
    TakenAndAnswered s (exec (.rollSweep (some (num r))) s) rest f 0x31 (.rollSwept (s.headCount r)) fun t =>
      t.roll.rooms = s.roll.rooms.set r ⟨[], false⟩ ∧
      (∀ e, t.roll.entries.get e = if e ∈ s.roll.rooms[r].list then none else s.roll.entries.get e) ∧ t.roll.tick = s.roll.tick ∧
      t.clk = s.clk ∧ (∀ j : Room, j ≠ r → t.doors[j] = s.doors[j] ∧ t.zones[j] = s.zones[j]) ∧
      t.bank.cylinders = s.bank.cylinders ∧ t.bank.reservations = s.bank.reservations ∧
      t.bank.manifold = s.bank.manifold ∧ (∀ a : Addr, stationBase t a = stationBase s a) ∧ t.p2 = s.p2 ∧
      t.lines = s.lines := by
  let v : State := swept (taken s rest) r
  have body : rollSweepBody (num r) (taken s rest) = (v.rederive r, .ok (.rollSwept (s.headCount r))) := by
    have yes : (taken s rest).occupied r = true := h
    rw [rollSweepBody, withRoom_num, if_pos yes, sweep_eq]
    rfl
  obtain ⟨doors, zones, bank, loop, clk, p1, p2, lines⟩ := swept_frame (taken s rest) r
  obtain ⟨t, next, leaves, requests, ok⟩ := serveFields_leaves w rfl (num r) rollSweepBody body
    ((State.rederive_frame v r).2.2.2.1.trans p1)
  obtain ⟨rooms, tick, entries⟩ := swept_roll (taken s rest) r
  have roll : t.roll = v.roll := leaves.roll.trans (by simp)
  obtain ⟨x, -, -, -, cylinders, reservations, manifold⟩ := rederive_acts v r
  have first : AtDoor r { s with roll := v.roll, ctx := v.ctx } v := .of_frame doors rfl rfl zones loop
  have local_ := first.trans (rederive_atDoor v r)
  refine ⟨t, next, requests, ok, roll ▸ rooms, roll ▸ entries, roll ▸ tick, leaves.clk.trans ?_, fun j hj => ?_, ?_, ?_, ?_, fun a => ?_,
    leaves.p2.trans ?_, leaves.lines.trans ?_⟩
  · exact (State.rederive_frame v r).2.2.2.2.2.2.1.trans clk
  · simp only [leaves.doors, leaves.zones]
    obtain ⟨door, -, -, zone⟩ := local_.others j hj
    exact ⟨door, zone⟩
  · rw [leaves.bank, cylinders]
    exact congrArg AgentBank.cylinders bank
  · rw [leaves.bank, reservations]
    exact congrArg AgentBank.reservations bank
  · rw [leaves.bank, manifold]
    exact congrArg AgentBank.manifold bank
  · have stations := local_.stations a
    simp only [stationBase, leaves.loop] at stations ⊢
    exact stations
  · exact (State.rederive_frame v r).2.2.1.trans p2
  · exact (State.rederive_frame v r).2.1.trans lines

theorem rollSweepBody_empty (h : t.occupied r = false) : rollSweepBody (num r) t = (t, .ok (.rollSwept 0)) := by
  rw [rollSweepBody, withRoom_num, h, if_neg Bool.false_ne_true]

/-! ### ROLL REMOVE -/

/-- What the departure of an entry makes of another entry: an escort counts one visitor less, a visitor loses its link (R64). -/
def parted (e : Nat) (o : OccEntry) (k : Nat) (v : OccEntry) : OccEntry :=
  let v := if o.link = some k then { v with escorted := v.escorted - 1 } else v
  if o.escorted = 0 then v else OccEntry.lapse e v

/-- The escort of a departing visitor counts one less (R64). -/
def unescorted (s : State) (o : OccEntry) : State :=
  match o.link with
  | none => s
  | some x => s.modEntry x fun v => { v with escorted := v.escorted - 1 }

theorem unlinked_eq (s : State) (e : Nat) (o : OccEntry) :
    unlinked s e o =
      (if o.escorted = 0 then unescorted s o
        else ((unescorted s o).setEntries ((unescorted s o).roll.entries.mapAll (OccEntry.lapse e))).raiseAlarm
          (.forRoomBearer .escortLapse o.room o.bearer)).dropEscortContexts e := rfl

theorem unescorted_entries (s : State) (o : OccEntry) (k : Nat) :
    (unescorted s o).roll.entries.get k =
      (s.roll.entries.get k).map fun v => if o.link = some k then { v with escorted := v.escorted - 1 } else v := by
  unfold unescorted
  cases link : o.link with
  | none => simp
  | some x =>
    by_cases own : k = x
    · subst own
      simp [State.modEntry, Table.get_modify]
    · have other : ¬x = k := fun h => own h.symm
      simp [State.modEntry, Table.get_modify, own, other]

theorem unlinked_entries (s : State) (e : Nat) (o : OccEntry) (k : Nat) :
    (unlinked s e o).roll.entries.get k = (s.roll.entries.get k).map (parted e o k) := by
  rw [unlinked_eq]
  by_cases alone : o.escorted = 0
  · rw [if_pos alone]
    refine (unescorted_entries s o k).trans (congrArg (Option.map · _) (funext fun v => ?_))
    simp only [parted, alone, if_true]
  · rw [if_neg alone]
    simp only [State.dropEscortContexts_frame, State.raiseAlarm_frame, State.setEntries_roll, Table.get_mapAll, unescorted_entries,
      Option.map_map]
    refine congrArg (Option.map · _) (funext fun v => ?_)
    simp only [parted, alone, if_false, Function.comp]

theorem unlinked_frame (s : State) (e : Nat) (o : OccEntry) :
    (unlinked s e o).roll.rooms = s.roll.rooms ∧ (unlinked s e o).roll.tick = s.roll.tick ∧ (unlinked s e o).doors = s.doors ∧
      (unlinked s e o).zones = s.zones ∧ (unlinked s e o).bank = s.bank ∧ (unlinked s e o).loop = s.loop := by
  have first : (unescorted s o).roll.rooms = s.roll.rooms ∧ (unescorted s o).roll.tick = s.roll.tick ∧ (unescorted s o).doors = s.doors ∧
      (unescorted s o).zones = s.zones ∧ (unescorted s o).bank = s.bank ∧ (unescorted s o).loop = s.loop := by
    unfold unescorted
    split <;> exact ⟨rfl, rfl, rfl, rfl, rfl, rfl⟩
  rw [unlinked_eq]
  split <;> simpa using first

/-- The removal of one entry but for its hand-on. -/
def removed (s : State) (e : Nat) (o : OccEntry) : State := retireIf (erased (unlinked s e o) e o) o

theorem removed_frame (s : State) (e : Nat) (o : OccEntry) :
    (removed s e o).roll.rooms =
        s.roll.rooms.set o.room { s.roll.rooms[o.room] with list := s.roll.rooms[o.room].list.filter (· ≠ e) } ∧
      (removed s e o).roll.tick = s.roll.tick ∧ (removed s e o).doors = s.doors ∧ (removed s e o).zones = s.zones ∧
      (removed s e o).bank = s.bank ∧ (removed s e o).loop = s.loop ∧
      (removed s e o).roll.entries = (unlinked s e o).roll.entries.erase e := by
  obtain ⟨rooms, tick, doors, zones, bank, loop⟩ := unlinked_frame s e o
  have erased_ (u : State) : (erased u e o).roll =
      { u.roll with
        entries := u.roll.entries.erase e
        rooms := u.roll.rooms.set o.room { u.roll.rooms[o.room] with list := u.roll.rooms[o.room].list.filter (· ≠ e) } } ∧
      (erased u e o).doors = u.doors ∧ (erased u e o).zones = u.zones ∧ (erased u e o).bank = u.bank ∧ (erased u e o).loop = u.loop := by
    unfold erased
    dsimp only
    split <;> exact ⟨rfl, rfl, rfl, rfl, rfl⟩
  have retired (u : State) : (retireIf u o).roll = u.roll ∧ (retireIf u o).doors = u.doors ∧ (retireIf u o).zones = u.zones ∧
      (retireIf u o).bank = u.bank ∧ (retireIf u o).loop = u.loop := by
    unfold retireIf
    split <;> simp
  obtain ⟨roll1, doors1, zones1, bank1, loop1⟩ := erased_ (unlinked s e o)
  obtain ⟨roll2, doors2, zones2, bank2, loop2⟩ := retired (erased (unlinked s e o) e o)
  unfold removed
  rw [roll2, roll1]
  refine ⟨by simp only [rooms], tick, doors2.trans (doors1.trans doors), zones2.trans (zones1.trans zones),
    bank2.trans (bank1.trans bank), loop2.trans (loop1.trans loop), rfl⟩

/-- Every other entry after the removal, but for its lone-worker fields. -/
theorem removeEntry_other (s : State) (o : OccEntry) (other : k ≠ e) (entry : s.roll.entries.get k = some v) :
    ∃ w, (s.removeEntry e o).roll.entries.get k = some w ∧ entryBase w = entryBase (parted e o k v) := by
  have base := get_of_baseEntries (handOn_sameRoll (removed s e o) o.room).entries k
  rw [(removed_frame s e o).2.2.2.2.2.2, Table.get_erase, if_neg other, unlinked_entries, entry] at base
  cases found : ((removed s e o).handOn o.room).roll.entries.get k with
  | none => simp [found] at base
  | some w =>
    simp only [found, Option.map_some, Option.some.injEq] at base
    exact ⟨w, found, base⟩

theorem removeEntry_gone (s : State) (e : Nat) (o : OccEntry) : (s.removeEntry e o).roll.entries.get e = none := by
  have base := get_of_baseEntries (handOn_sameRoll (removed s e o) o.room).entries e
  rw [(removed_frame s e o).2.2.2.2.2.2, Table.get_erase, if_pos rfl] at base
  exact Option.map_eq_none_iff.mp base

theorem rollRemoveBody_found {b : Nat} (low : 1 ≤ b) (high : b ≤ 4095) (found : t.entryOf b = some (e, o)) :
    rollRemoveBody b t = (t.removeEntry e o, .ok (.rollRemoved o.room ((t.removeEntry e o).headCount o.room))) := by
  have valid : bearerValid b = true := by simp [bearerValid, Config.maxBearers, low, high]
  rw [rollRemoveBody, if_pos valid, found]

theorem rollRemoveBody_unknown {b : Nat} (low : 1 ≤ b) (high : b ≤ 4095) (found : t.entryOf b = none) :
    rollRemoveBody b t = refuse .notFound t := by
  have valid : bearerValid b = true := by simp [bearerValid, Config.maxBearers, low, high]
  rw [rollRemoveBody, if_pos valid, found]

theorem exec_rollRemove {b : Nat} (w : WaitsWith s f rest 0x32) (low : 1 ≤ b) (high : b ≤ 4095) (found : s.entryOf b = some (e, o)) :
    TakenAndAnswered s (exec (.rollRemove (some b)) s) rest f 0x32
      (.rollRemoved o.room (s.roll.rooms[o.room].list.filter (· ≠ e)).length) fun t =>
      t.roll.rooms = s.roll.rooms.set o.room { s.roll.rooms[o.room] with list := s.roll.rooms[o.room].list.filter (· ≠ e) } ∧
      t.roll.entries.get e = none ∧
      (∀ k v, k ≠ e → s.roll.entries.get k = some v →
        ∃ w, t.roll.entries.get k = some w ∧ entryBase w = entryBase (parted e o k v)) ∧
      t.clk = s.clk ∧ t.roll.tick = s.roll.tick ∧
      (∀ j : Room, j ≠ o.room → t.doors[j] = s.doors[j] ∧ t.zones[j] = s.zones[j]) ∧
      t.bank.cylinders = s.bank.cylinders ∧ t.bank.reservations = s.bank.reservations ∧
      t.bank.manifold = s.bank.manifold ∧ (∀ a : Addr, stationBase t a = stationBase s a) ∧ t.p2 = s.p2 ∧
      t.lines = s.lines := by
  let v : State := removed (taken s rest) e o
  obtain ⟨rooms, tick, doors, zones, bank, loop, -⟩ := removed_frame (taken s rest) e o
  have handed : (taken s rest).removeEntry e o = v.handOn o.room := rfl
  obtain ⟨rooms', tick', -⟩ := handOn_sameRoll v o.room
  have allRooms : ((taken s rest).removeEntry e o).roll.rooms =
      s.roll.rooms.set o.room { s.roll.rooms[o.room] with list := s.roll.rooms[o.room].list.filter (· ≠ e) } := rooms'.trans rooms
  have count : ((taken s rest).removeEntry e o).headCount o.room = (s.roll.rooms[o.room].list.filter (· ≠ e)).length := by
    simp only [State.headCount, allRooms, vset_same]
  obtain ⟨-, lines, p2, p1, -, clk⟩ := State.removeEntry_frame (taken s rest) e o
  obtain ⟨t, next, leaves, requests, ok⟩ := serveFields_leaves w rfl b rollRemoveBody
    ((rollRemoveBody_found (t := taken s rest) low high found).trans (by rw [count])) p1
  obtain ⟨cylinders, reservations, manifold⟩ := handOn_bank v o.room
  have first : AtDoor o.room { s with roll := v.roll, ctx := v.ctx } v := .of_frame doors rfl rfl zones loop
  have local_ := first.trans (handOn_atDoor v o.room)
  refine ⟨t, next, requests, ok, leaves.roll ▸ allRooms, ?_, fun k x other entry => ?_, leaves.clk.trans clk, ?_, fun j hj => ?_, ?_, ?_, ?_,
    fun a => ?_, leaves.p2.trans p2, leaves.lines.trans lines⟩
  · rw [leaves.roll]
    exact removeEntry_gone (taken s rest) e o
  · rw [leaves.roll]
    exact removeEntry_other (taken s rest) o other entry
  · rw [leaves.roll]
    exact tick'.trans tick
  · simp only [leaves.doors, leaves.zones]
    obtain ⟨door, -, -, zone⟩ := local_.others j hj
    exact ⟨door, zone⟩
  · rw [leaves.bank, handed, cylinders]
    exact congrArg AgentBank.cylinders bank
  · rw [leaves.bank, handed, reservations]
    exact congrArg AgentBank.reservations bank
  · rw [leaves.bank, handed, manifold]
    exact congrArg AgentBank.manifold bank
  · have stations := local_.stations a
    simp only [stationBase, leaves.loop] at stations ⊢
    exact stations

theorem parted_visitor (link : v.link = some e) (escorts : 0 < o.escorted) :
    (parted e o k v).link = none ∧ (parted e o k v).lapsed = true ∧ (parted e o k v).bearer = v.bearer ∧ (parted e o k v).room = v.room := by
  have some_ : o.escorted ≠ 0 := by omega
  by_cases escort : o.link = some k <;> simp [parted, some_, OccEntry.lapse, escort, link]

theorem parted_other (h : v.link ≠ some e ∨ o.escorted = 0) :
    parted e o k v = { v with escorted := if o.link = some k then v.escorted - 1 else v.escorted } := by
  by_cases alone : o.escorted = 0
  · by_cases escort : o.link = some k <;> simp [parted, alone, escort]
  · have unlinked := h.resolve_right alone
    by_cases escort : o.link = some k <;> simp [parted, alone, OccEntry.lapse, escort, unlinked]

/-- Settles O14: the three requests, by whether the strongroom or the roll has what they clear. -/
theorem rollRequestsClearSweepAndRemove : Obligations.RollRequestsClearSweepAndRemove := by
  unfold Obligations.RollRequestsClearSweepAndRemove
  refine ⟨fun s f rest r w => ⟨exec_rollConfirm w, fun clear => ?_⟩, fun s f rest r w => ⟨exec_rollSweep w, fun empty => ?_⟩,
    fun s f rest b w low high => ⟨fun e o found => ?_, fun found => ?_⟩⟩
  · exact serveFields_unchanged w rfl (num r) rollConfirmBody _ (rollConfirmBody_clear (t := taken s rest) clear)
  · exact serveFields_unchanged w rfl (num r) rollSweepBody _ (rollSweepBody_empty (t := taken s rest) empty)
  · obtain ⟨t, next, requests, ok, rooms, gone, others, more⟩ := exec_rollRemove w low high found
    refine ⟨t, next, requests, ok, rooms, gone, fun k v other entry link escorts => ?_, fun k v other entry h => ?_, more⟩
    · obtain ⟨x, here, base⟩ := others k v other entry
      obtain ⟨noLink, lapsed, bearer, room⟩ := parted_visitor (k := k) link escorts
      simp only [entryBase, Prod.mk.injEq, noLink, lapsed, bearer, room] at base
      exact ⟨x, here, base.2.2.2.1, base.2.2.2.2.2.2, base.1, base.2.1⟩
    · obtain ⟨x, here, base⟩ := others k v other entry
      exact ⟨x, here, by rw [base, parted_other h]⟩
  · exact serveFields_refused w rfl b rollRemoveBody .notFound (rollRemoveBody_unknown (t := taken s rest) low high found)

end Sys2Proof.Proofs.RollRequests
end

section
/-! PROOFS. The expiries of timers as events (R34, R56, R78, R82, R108), and the requests at a door: DOOR RELEASE, LOCKDOWN and RESTORE (R87,
R88), with the door's record after each operation. -/
namespace Sys2Proof.Proofs.DoorRequests

open Sys2Proof Sys2Proof.Machine Sys2Proof.Safety Sys2Proof.Laws Sys2Proof.Proofs.RecordReads Sys2Proof.Proofs.Reads
open Sys2Proof.Proofs.BearerRequests Sys2Proof.Proofs.Evaluation Sys2Proof.Proofs.OneRoom

variable {s t u : State} {r : Room} {f : RequestFrame} {rest : List RequestFrame} {e : Nat} {o : OccEntry}

/-! ### Events beside requests -/

/-- An expiry that is due is one event while the part runs. -/
theorem expiry_taken {due : Bool} (g : State → State) (runs : Runs s) (h : due = true) : expiry due g s = State.finish s (g s) := by
  have running : (s.running && due) = true := by simp [State.running, runs.1, runs.2, h]
  rw [expiry, running]
  rfl

theorem finish_upToNotices (hc : u.bank.coverage = s.bank.coverage) (ha : u.alarms = s.alarms) : UpToNotices u (State.finish s u) := by
  obtain ⟨q, m, v, grown, h⟩ := State.finish_quiet s u hc ha
  exact ⟨q, m, v, grown, h⟩

theorem finish_upToOutputs (hc : u.bank.coverage = s.bank.coverage) : UpToOutputs u (State.finish s u) := by
  obtain ⟨g, h, q, m, v, grown, hf⟩ := State.finish_eq_of_coverage s u hc
  exact ⟨g, h, q, m, v, grown, hf⟩

/-- A one-shot command placed changes the Loop Master alone, and by the Loop Master's state alone. -/
theorem placeAt_eq (s : State) (at_ : Option Addr) (g : Slots → Slots) : s.placeAt at_ g = { s with loop := (s.placeAt at_ g).loop } := by
  unfold State.placeAt
  split
  · rfl
  · split <;> rfl

theorem placeAt_congr (h : t.loop = s.loop) (at_ : Option Addr) (g : Slots → Slots) : (t.placeAt at_ g).loop = (s.placeAt at_ g).loop := by
  unfold State.placeAt
  split
  · exact h
  · simp only [h]
    split
    · exact h
    · simp [h]

theorem placeBolt_eq (s : State) (r : Room) (c : BoltCommand) : s.placeBolt r c = { s with loop := (s.placeBolt r c).loop } :=
  placeAt_eq s _ _

theorem placeBolt_congr (h : t.loop = s.loop) (r : Room) (c : BoltCommand) : (t.placeBolt r c).loop = (s.placeBolt r c).loop := by
  have address : t.stationOf .doorUnit (num r) = s.stationOf .doorUnit (num r) := by simp only [State.stationOf, h]
  unfold State.placeBolt
  rw [address]
  exact placeAt_congr h _ _

theorem placeTone_eq (s : State) (r : Room) (c : Tone) : s.placeTone r c = { s with loop := (s.placeTone r c).loop } := placeAt_eq s _ _

theorem placeTone_congr (h : t.loop = s.loop) (r : Room) (c : Tone) : (t.placeTone r c).loop = (s.placeTone r c).loop := by
  have address : t.stationOf .checkIn (num r) = s.stationOf .checkIn (num r) := by simp only [State.stationOf, h]
  unfold State.placeTone
  rw [address]
  exact placeAt_congr h _ _

/-! ### The expiries -/

theorem exec_unlockTimerExpiry (runs : Runs s) (released : s.doors[r].state = .released) (due : s.doors[r].unlock = some 0) :
    ∃ t, exec (.unlockTimerExpiry r) s = .next t ∧
      UpToNotices
        { s with
          doors := s.doors.set r
            { s.doors[r] with state := s.doors[r].closedState, releaseKind := none, unlock := none, hold := false } } t := by
  have isDue : s.unlockIsDue r = true := by rw [State.unlockIsDue, released, due]; rfl
  exact ⟨_, congrArg Host.Outcome.next (expiry_taken (·.endRelease r) runs isDue), finish_upToNotices rfl rfl⟩

theorem exec_heldOpenTimerExpiry (runs : Runs s) (due : s.doors[r].heldOpen = .running 0) (isOpen : s.doors[r].isOpen = true) :
    ∃ t, exec (.heldOpenTimerExpiry r) s = .next t ∧
      UpToOutputs
        { s with
          doors := s.doors.set r
            { s.doors[r] with
              heldOpen := .expired, state := if s.doors[r].state = .opened then .held else s.doors[r].state }
          alarms := (s.raiseAlarm (.forRoom .heldOpen r)).alarms } t := by
  have isDue : s.heldOpenIsDue r = true := by rw [State.heldOpenIsDue, due, isOpen]; rfl
  refine ⟨_, congrArg Host.Outcome.next (expiry_taken (·.expireHeld r) runs isDue), ?_⟩
  have raised : s.expireHeld r = { s with
      doors := s.doors.set r
        { s.doors[r] with heldOpen := .expired, state := if s.doors[r].state = .opened then .held else s.doors[r].state }
      alarms := (s.raiseAlarm (.forRoom .heldOpen r)).alarms, due := (s.expireHeld r).due } :=
    raiseAlarm_acts (s := s) (.forRoom .heldOpen r) rfl rfl
  exact upToOutputs_due (finish_upToOutputs (by rw [raised])) raised

theorem exec_pairingWindowExpiry (runs : Runs s) (due : s.ctx[r].window? = some 0) :
    ∃ t, exec (.pairingWindowExpiry r) s = .next t ∧ UpToNotices { s with ctx := s.ctx.set r .empty } t := by
  have isDue : s.windowIsDue r = true := by rw [State.windowIsDue, due]; rfl
  exact ⟨_, congrArg Host.Outcome.next (expiry_taken (·.dropContext r) runs isDue), finish_upToNotices rfl rfl⟩

theorem exec_graceTimerExpiry (runs : Runs s) (closing : s.clk.siteState = .closing) (due : s.clk.graceTimer = some 0) :
    ∃ t, exec .graceTimerExpiry s = .next t ∧ t.clk = { s.clk with siteState := .afterHours, graceTimer := none } ∧
      t.bt = s.bt ∧ t.doors = s.doors ∧ t.zones = s.zones ∧ t.bank = s.bank ∧ t.ctx = s.ctx ∧ t.p2 = s.p2 ∧ t.lines = s.lines := by
  have isDue : s.graceIsDue = true := by rw [State.graceIsDue, closing, due]; rfl
  refine ⟨_, rfl, ?_, ?_⟩
  · rw [State.takeGraceExpiry, expiry_taken _ runs isDue, (State.finish_frame ..).2.2.2.2.1, Schedules.enterSite_open s (by decide)]
  · obtain ⟨-, lines, p2, bt, ctx, doors, zones, bank⟩ := State.takeGraceExpiry_frame s
    exact ⟨bt, doors, zones, bank, ctx, p2, lines⟩

theorem exec_loneWorkerPrompt (runs : Runs s) (entry : s.roll.entries.get e = some o) (on : o.checkIn ≠ .off) (due : o.promptDue = true) :
    ∃ t, exec (.loneWorkerPrompt e) s = .next t ∧
      UpToNotices
        { s with
          roll :=
            { s.roll with
              entries := s.roll.entries.modify e fun x =>
                { x with promptDue := false, checkIn := if x.checkIn = .running then .prompted else x.checkIn } }
          loop := (s.placeTone o.room .prompt).loop } t := by
  have isDue : s.promptIsDue e = true := by simp [State.promptIsDue, entry, due, on]
  refine ⟨_, congrArg Host.Outcome.next (expiry_taken (·.prompt e) runs isDue), ?_⟩
  let v : State := s.modEntry e fun x =>
    { x with promptDue := false, checkIn := if x.checkIn = .running then .prompted else x.checkIn }
  have prompted : s.prompt e = { v with loop := (s.placeTone o.room .prompt).loop } := by
    have placed : s.prompt e = v.placeTone o.room .prompt := by rw [State.prompt, entry]
    rw [placed, placeTone_eq, placeTone_congr (s := s) (t := v) rfl]
  show UpToNotices _ (State.finish s (s.prompt e))
  rw [prompted]
  exact finish_upToNotices rfl rfl

theorem exec_loneWorkerExpiry (runs : Runs s) (entry : s.roll.entries.get e = some o) (on : o.checkIn ≠ .off) (due : o.counter = 0) :
    ∃ t, exec (.loneWorkerExpiry e) s = .next t ∧
      t.roll.entries.get e = some { o with counter := s.loneLoad o, checkIn := .overdue, promptDue := false } ∧
      (∀ k, k ≠ e → t.roll.entries.get k = s.roll.entries.get k) ∧
      t.alarms.records = (s.raiseAlarm (.forRoomBearer .overdue o.room o.bearer)).alarms.records ∧ t.bt = s.bt ∧
      t.clk = s.clk ∧ t.doors = s.doors ∧ t.zones = s.zones ∧ t.bank = s.bank ∧ t.loop = s.loop ∧ t.p2 = s.p2 := by
  have isDue : s.overdueIsDue e = true := by simp [State.overdueIsDue, entry, due, on]
  let v : State := (s.loadCounter e o).modEntry e fun x => { x with checkIn := .overdue }
  have overdue : s.overdue e = { v with alarms := (s.raiseAlarm o.overdueKey).alarms, due := (s.overdue e).due } := by
    have raised : s.overdue e = v.raiseAlarm o.overdueKey := by rw [State.overdue, entry]
    rw [raised]
    exact raiseAlarm_acts (s := s) o.overdueKey rfl rfl
  have taken_ : exec (.loneWorkerExpiry e) s = .next (State.finish s (s.overdue e)) :=
    congrArg Host.Outcome.next (expiry_taken (·.overdue e) runs isDue)
  obtain ⟨g, h, q, m, w, -, hf⟩ := State.finish_eq_of_coverage s (s.overdue e) (by rw [overdue]; rfl)
  rw [overdue] at hf
  refine ⟨_, taken_, ?_, fun k other => ?_, ?_, ?_⟩
  · rw [overdue, hf]
    simp [v, State.loadCounter, State.modEntry, Table.get_modify, entry]
  · rw [overdue, hf]
    simp [v, State.loadCounter, State.modEntry, Table.get_modify, other]
  · rw [overdue, hf]
    rfl
  · rw [overdue, hf]
    exact ⟨rfl, rfl, rfl, rfl, rfl, rfl, rfl⟩

/-- Settles O16: each expiry is one event. -/
theorem doorGraceAndLoneWorkerExpiries : Obligations.DoorGraceAndLoneWorkerExpiries := by
  unfold Obligations.DoorGraceAndLoneWorkerExpiries
  exact ⟨fun s r runs => ⟨exec_unlockTimerExpiry runs, exec_heldOpenTimerExpiry runs, exec_pairingWindowExpiry runs⟩,
    fun s runs => exec_graceTimerExpiry runs,
    fun s e o runs entry on => ⟨exec_loneWorkerPrompt runs entry on, exec_loneWorkerExpiry runs entry on⟩⟩

/-! ### The door's record after each operation -/

theorem setDoor_own (s : State) (r : Room) (d : Door) : (s.setDoor r d).doors[r] = d := vset_same s.doors r d

theorem endExpired_door (s : State) (r : Room) :
    (s.endExpired r).doors[r] =
      { s.doors[r] with
        state := if s.doors[r].heldOpen = .expired ∧ s.doors[r].state = .held then .opened else s.doors[r].state } := by
  unfold State.endExpired
  dsimp only
  by_cases expired : s.doors[r].heldOpen = .expired
  · rw [if_pos expired]
    simp only [State.alarmGone_frame, State.setDoor_doors, vset_same, expired, true_and]
  · rw [if_neg expired]
    simp only [expired, false_and, if_false]

theorem resetHeld_door (s : State) (r : Room) (h : HeldTimer) :
    (s.resetHeld r h).doors[r] =
      { s.doors[r] with
        state := if s.doors[r].heldOpen = .expired ∧ s.doors[r].state = .held then .opened else s.doors[r].state
        heldOpen := h } := by
  rw [State.resetHeld]
  dsimp only
  rw [State.setDoor_doors, vset_same, endExpired_door]

theorem dropHold_shut (h : s.doors[r].isOpen = false) : s.dropHold r = s.setDoor r { s.doors[r] with hold := false } := by
  have shut : (s.setDoor r { s.doors[r] with hold := false }).doors[r].isOpen = false := by
    rw [State.setDoor_doors, vset_same]
    exact h
  unfold State.dropHold
  dsimp only
  rw [shut, if_neg Bool.false_ne_true]

theorem dropHold_hold (s : State) (r : Room) : (s.dropHold r).doors[r].hold = false := by
  unfold State.dropHold
  dsimp only
  split
  · exact (congrArg Door.hold (resetHeld_door _ r _)).trans (congrArg Door.hold (setDoor_own s r _))
  · exact congrArg Door.hold (setDoor_own s r _)

theorem cancelRelease_door (s : State) (r : Room) :
    (s.cancelRelease r).doors[r] =
      if s.doors[r].cancellable then { s.doors[r] with state := s.doors[r].closedState, releaseKind := none, unlock := none }
      else s.doors[r] := by
  unfold State.cancelRelease
  dsimp only
  split
  · exact setDoor_own _ r _
  · rfl

/-! ### DOOR RELEASE -/

/-- A release has placed its command at the door unit; an egress push places none (R76, R77). -/
def commanded (s : State) (r : Room) (k : ReleaseKind) : State :=
  if k = .egress then s else s.placeBolt r (.release s.sup.profiles[r].unlock)

theorem commanded_doors (s : State) (r : Room) (k : ReleaseKind) : (commanded s r k).doors = s.doors := by
  unfold commanded
  split <;> simp

/-- A release of a closed door (R77). -/
theorem release_closed (k : ReleaseKind) (hs : s.doors[r].state = .secured ∨ s.doors[r].state = .timeLocked) :
    s.release r k =
      (commanded s r k).setDoor r
        { s.doors[r] with state := .released, releaseKind := some k, unlock := some s.sup.profiles[r].unlock } := by
  have doors := commanded_doors s r k
  unfold commanded at doors
  unfold State.release
  obtain hs | hs := hs <;> simp only [doors, hs] <;> rfl

/-- A release of a released door: the higher kind stands, and the unlock timer is loaded again (R77). -/
theorem release_released (k : ReleaseKind) (hs : s.doors[r].state = .released) :
    s.release r k =
      (commanded s r k).setDoor r
        { s.doors[r] with
          releaseKind := some ((s.doors[r].releaseKind.getD k).higher k), unlock := some s.sup.profiles[r].unlock } := by
  have doors := commanded_doors s r k
  unfold commanded at doors
  unfold State.release
  simp only [doors, hs]
  rfl

/-- The command of DOOR RELEASE placed, and the door's record set. -/
theorem commanded_setDoor (s : State) (r : Room) (d : Door) :
    (commanded s r .command).setDoor r d =
      { s with doors := s.doors.set r d, loop := (s.placeBolt r (.release s.sup.profiles[r].unlock)).loop } := by
  have placed := placeBolt_eq s r (.release s.sup.profiles[r].unlock)
  have commanded_ : commanded s r .command = s.placeBolt r (.release s.sup.profiles[r].unlock) := rfl
  rw [commanded_, placed]
  rfl

/-- The Hold option on a door that is not open only stands in its record (R87). -/
theorem applyHold_shut (hold : Bool) (h : s.doors[r].isOpen = false) :
    s.applyHold r hold = s.setDoor r { s.doors[r] with hold := hold } := by
  have shut : (s.setDoor r { s.doors[r] with hold := hold }).doors[r].isOpen = false := by
    rw [State.setDoor_doors, vset_same]
    exact h
  unfold State.applyHold
  dsimp only
  rw [shut, if_neg Bool.false_ne_true]

theorem doorReleaseBody_refused {hold : Bool} (h : t.doors[r].refusesRelease = true) :
    doorReleaseBody ⟨num r, hold⟩ t = refuse .state t := by
  rw [doorReleaseBody, withRoom_num, if_pos h]

/-- An accepted DOOR RELEASE whose release leaves the door in a record `d` that is not open (R87). -/
theorem exec_doorRelease {hold : Bool} {d : Door} (w : WaitsWith s f rest 0x40) (h : s.doors[r].refusesRelease = false)
    (shut : d.state = .released)
    (hr : (taken s rest).release r .command =
      { taken s rest with doors := s.doors.set r d, loop := (s.placeBolt r (.release s.sup.profiles[r].unlock)).loop }) :
    Accepted (exec (.doorRelease (some ⟨num r, hold⟩)) s)
      { taken s rest with
        doors := s.doors.set r { d with hold := hold }
        loop := (s.placeBolt r (.release s.sup.profiles[r].unlock)).loop }
      f 0x40 (.doorReleased .released hold) .nothing := by
  have notOpen : ((taken s rest).release r .command).doors[r].isOpen = false := by
    simp only [hr, vset_same, Door.isOpen, shut]
    rfl
  have held : ((taken s rest).release r .command).applyHold r hold =
      { taken s rest with
        doors := s.doors.set r { d with hold := hold }
        loop := (s.placeBolt r (.release s.sup.profiles[r].unlock)).loop } := by
    rw [applyHold_shut hold notOpen, hr]
    simp only [State.setDoor, vset_same, Vector.set_set]
  have no : (taken s rest).doors[r].refusesRelease = false := h
  have body : doorReleaseBody ⟨num r, hold⟩ (taken s rest) =
      ({ taken s rest with
          doors := s.doors.set r { d with hold := hold }
          loop := (s.placeBolt r (.release s.sup.profiles[r].unlock)).loop }, .ok (.doorReleased .released hold)) := by
    rw [doorReleaseBody, withRoom_num, no, if_neg Bool.false_ne_true]
    dsimp only
    rw [held]
    simp only [vset_same, shut]
  exact serveFields_accepted w rfl _ doorReleaseBody body rfl rfl rfl

theorem placeBolt_taken (s : State) (rest : List RequestFrame) (r : Room) (c : BoltCommand) :
    ((taken s rest).placeBolt r c).loop = (s.placeBolt r c).loop := placeBolt_congr (s := s) (t := taken s rest) rfl r c

/-! ### DOOR LOCKDOWN -/

/-- A notice owed is nothing that an event leaves. -/
theorem leaves_owe {d : Due} (h : Leaves (u.owe d) t) : Leaves u t :=
  ⟨h.bt, h.clk, h.ctx, h.roll, h.doors, h.zones, h.bank, h.loop, h.p2, h.lines, h.profiles, h.settled⟩

/-- A request with fields whose body owes one notice beside what it brings about. -/
theorem serveFields_leavesOwing {α : Type} {n : Nat} {code : Octet} {d : Due} (w : WaitsWith s f rest code)
    (hn : code = BitVec.ofNat 8 n) (a : α) (body : α → State → State × Reply) {x : Contents}
    (hb : body a (taken s rest) = (u.owe d, .ok x)) (hp : u.p1 = (taken s rest).p1) :
    ∃ t, serveFields n (some a) body s = .next t ∧ Leaves u t ∧ t.p1.requests = rest ∧ AnsweredOk s t f code x := by
  obtain ⟨t, next, leaves, answered⟩ := serveFields_leaves w hn a body hb hp
  exact ⟨t, next, leaves_owe leaves, answered⟩

/-- What DOOR LOCKDOWN does before its notice is owed (R88). -/
def lockedDown (s : State) (r : Room) : State :=
  ((((s.setDoor r { s.doors[r] with lockdown := true }).dropContext r).cancelRelease r).dropHold r)

theorem doorLockdownBody_eq : doorLockdownBody (num r) t = ((lockedDown t r).owe (.object (.door r)), .ok .nothing) := by
  rw [doorLockdownBody, withRoom_num]
  rfl

theorem lockedDown_atRoom (s : State) (r : Room) : AtRoom r s (lockedDown s r) :=
  (((setDoor_atRoom s r _).trans (dropContext_atRoom _ r)).trans (cancelRelease_atDoor _ r).toAtRoom).trans
    (dropHold_atDoor _ r).toAtRoom

theorem lockedDown_frame (s : State) (r : Room) :
    (lockedDown s r).bt = s.bt ∧ (lockedDown s r).clk = s.clk ∧ (lockedDown s r).roll = s.roll ∧ (lockedDown s r).zones = s.zones ∧
      (lockedDown s r).bank = s.bank ∧ (lockedDown s r).p1 = s.p1 ∧ (lockedDown s r).p2 = s.p2 ∧ (lockedDown s r).lines = s.lines ∧
      (lockedDown s r).ctx = s.ctx.set r .empty := by
  simp [lockedDown, State.dropContext]

/-- The door under the mark, its release cancelled where it can be, before Hold is dropped. -/
def cancelled (s : State) (r : Room) : State := ((s.setDoor r { s.doors[r] with lockdown := true }).dropContext r).cancelRelease r

theorem cancelled_door (s : State) (r : Room) :
    (cancelled s r).doors[r] =
      if s.doors[r].cancellable then
        { s.doors[r] with lockdown := true, state := s.doors[r].closedState, releaseKind := none, unlock := none }
      else { s.doors[r] with lockdown := true } := by
  have marked : ((s.setDoor r { s.doors[r] with lockdown := true }).dropContext r).doors[r] = { s.doors[r] with lockdown := true } :=
    vset_same _ _ _
  rw [cancelled, cancelRelease_door, marked]
  rfl

theorem lockedDown_lockdown (s : State) (r : Room) : (lockedDown s r).doors[r].lockdown = true := by
  have kept := congrArg (fun x => x.2.1) (dropHold_atDoor (cancelled s r) r).outline
  refine Eq.trans kept ?_
  show (cancelled s r).doors[r].lockdown = true
  rw [cancelled_door]
  split <;> rfl

/-- A released door under lockdown: an Entry or Command release is cancelled, an Exit or Egress release stands (R88). -/
theorem lockedDown_released (h : s.doors[r].state = .released) :
    (lockedDown s r).doors[r] = { (cancelled s r).doors[r] with hold := false } := by
  have shut : (cancelled s r).doors[r].isOpen = false := by
    rw [cancelled_door]
    split
    · unfold Door.isOpen Door.closedState
      split <;> rfl
    · unfold Door.isOpen
      rw [h]
      rfl
  show ((cancelled s r).dropHold r).doors[r] = _
  rw [dropHold_shut shut, State.setDoor_doors, vset_same]

/-- An Entry or Command release is cancelled (R88). -/
theorem lockedDown_cancels (st : s.doors[r].state = .released)
    (kind : s.doors[r].releaseKind = some .entry ∨ s.doors[r].releaseKind = some .command) :
    (lockedDown s r).doors[r].state = s.doors[r].closedState ∧ (lockedDown s r).doors[r].releaseKind = none ∧
      (lockedDown s r).doors[r].unlock = none := by
  have cancels : s.doors[r].cancellable = true := by
    unfold Door.cancellable
    obtain h | h := kind <;> simp only [st, h, decide_true, Bool.true_and, Bool.true_or, Bool.or_true]
  rw [lockedDown_released st, cancelled_door, if_pos cancels]
  exact ⟨rfl, rfl, rfl⟩

/-- An Exit or Egress release stands (R88). -/
theorem lockedDown_stands (st : s.doors[r].state = .released)
    (kind : s.doors[r].releaseKind = some .exit ∨ s.doors[r].releaseKind = some .egress) :
    (lockedDown s r).doors[r].state = .released ∧ (lockedDown s r).doors[r].releaseKind = s.doors[r].releaseKind ∧
      (lockedDown s r).doors[r].unlock = s.doors[r].unlock := by
  have stands : s.doors[r].cancellable = false := by
    unfold Door.cancellable
    obtain h | h := kind <;> rw [h] <;> exact Bool.and_false _
  rw [lockedDown_released st, cancelled_door, stands, if_neg Bool.false_ne_true]
  exact ⟨st, rfl, rfl⟩

theorem exec_doorLockdown (w : WaitsWith s f rest 0x41) :
    TakenAndAnswered s (exec (.doorLockdown (some (num r))) s) rest f 0x41 .nothing fun t =>
      t.doors[r].lockdown = true ∧ t.doors[r].hold = false ∧ t.ctx[r] = .empty ∧
      (s.doors[r].state = .released → s.doors[r].releaseKind = some .entry ∨ s.doors[r].releaseKind = some .command →
        t.doors[r].state = s.doors[r].closedState ∧ t.doors[r].releaseKind = none ∧ t.doors[r].unlock = none) ∧
      (s.doors[r].state = .released → s.doors[r].releaseKind = some .exit ∨ s.doors[r].releaseKind = some .egress →
        t.doors[r].state = .released ∧ t.doors[r].releaseKind = s.doors[r].releaseKind ∧ t.doors[r].unlock = s.doors[r].unlock) ∧
      OtherRoomsKept s t r ∧ t.bt = s.bt ∧ t.clk = s.clk ∧ t.roll = s.roll ∧ t.zones = s.zones ∧ t.bank = s.bank ∧
      t.p2 = s.p2 ∧ t.lines = s.lines := by
  obtain ⟨bt, clk, roll, zones, bank, p1, p2, lines, ctx⟩ := lockedDown_frame (taken s rest) r
  have body := doorLockdownBody_eq (t := taken s rest) (r := r)
  obtain ⟨t, next, leaves, requests, ok⟩ := serveFields_leavesOwing w rfl (num r) doorLockdownBody body p1
  have door : t.doors[r] = (lockedDown (taken s rest) r).doors[r] := by simp only [leaves.doors]
  refine ⟨t, next, requests, ok, ?_, ?_, ?_, fun st kind => ?_, fun st kind => ?_, fun j hj => ?_, leaves.bt.trans bt, leaves.clk.trans clk,
    leaves.roll.trans roll, leaves.zones.trans zones, leaves.bank.trans bank, leaves.p2.trans p2, leaves.lines.trans lines⟩
  · rw [door]
    exact lockedDown_lockdown (taken s rest) r
  · rw [door]
    exact dropHold_hold (cancelled (taken s rest) r) r
  · have ctx' : t.ctx = s.ctx.set r .empty := leaves.ctx.trans ctx
    rw [ctx', vset_same]
  · rw [door]
    exact lockedDown_cancels (s := taken s rest) st kind
  · rw [door]
    exact lockedDown_stands (s := taken s rest) st kind
  · simp only [leaves.doors, leaves.ctx, leaves.roll, leaves.zones]
    exact (lockedDown_atRoom (taken s rest) r).others j hj

theorem exec_doorRestore (w : WaitsWith s f rest 0x42) :
    Accepted (exec (.doorRestore (some (num r))) s)
      { taken s rest with doors := s.doors.set r { s.doors[r] with lockdown := false } } f 0x42 .nothing .nothing :=
  serveFields_accepted w rfl (num r) doorRestoreBody (r := .ok .nothing) (withRoom_num ..) rfl rfl rfl

theorem exec_doorRelease_secured {hold : Bool} (w : WaitsWith s f rest 0x40) (h : s.doors[r].refusesRelease = false)
    (st : s.doors[r].state = .secured) :
    Accepted (exec (.doorRelease (some ⟨num r, hold⟩)) s)
      { taken s rest with
        doors := s.doors.set r
          { s.doors[r] with
            state := .released, releaseKind := some .command, unlock := some s.sup.profiles[r].unlock, hold := hold }
        loop := (s.placeBolt r (.release s.sup.profiles[r].unlock)).loop }
      f 0x40 (.doorReleased .released hold) .nothing := by
  have released : (taken s rest).release r .command = _ :=
    (release_closed (s := taken s rest) .command (.inl st)).trans (commanded_setDoor ..)
  rw [placeBolt_taken] at released
  exact exec_doorRelease w h rfl released

theorem exec_doorRelease_released {hold : Bool} {k : ReleaseKind} (w : WaitsWith s f rest 0x40) (h : s.doors[r].refusesRelease = false)
    (st : s.doors[r].state = .released) (kind : s.doors[r].releaseKind = some k) :
    Accepted (exec (.doorRelease (some ⟨num r, hold⟩)) s)
      { taken s rest with
        doors := s.doors.set r
          { s.doors[r] with
            releaseKind := some (if k = .entry then .command else k), unlock := some s.sup.profiles[r].unlock, hold := hold }
        loop := (s.placeBolt r (.release s.sup.profiles[r].unlock)).loop }
      f 0x40 (.doorReleased .released hold) .nothing := by
  have higher : (s.doors[r].releaseKind.getD .command).higher .command = if k = .entry then .command else k := by
    rw [kind]
    cases k <;> rfl
  have released : (taken s rest).release r .command = _ :=
    (release_released (s := taken s rest) .command st).trans (commanded_setDoor ..)
  rw [placeBolt_taken] at released
  rw [← higher]
  exact exec_doorRelease w h (by exact st) released

theorem exec_doorRelease_refused {hold : Bool} (w : WaitsWith s f rest 0x40) (h : s.doors[r].refusesRelease = true) :
    exec (.doorRelease (some ⟨num r, hold⟩)) s = .next (refused s f rest 0x40 .state) :=
  serveFields_refused w rfl _ doorReleaseBody .state (doorReleaseBody_refused (t := taken s rest) h)

/-- Settles O15: the release by the state of the door, the lockdown by the kind of the release. -/
theorem doorRequestsReleaseLockAndRestore : Obligations.DoorRequestsReleaseLockAndRestore := by
  unfold Obligations.DoorRequestsReleaseLockAndRestore
  refine ⟨fun s f rest r hold w => ⟨fun h => ?_, fun h st => ?_, fun k h st kind => ?_⟩, fun s f rest r => ⟨fun w => ?_, fun w => ?_⟩⟩
  · have refusal := exec_doorRelease_refused (hold := hold) w h
    exact refusal
  · have accepted := exec_doorRelease_secured (hold := hold) w h st
    exact accepted
  · have accepted := exec_doorRelease_released (hold := hold) (k := k) w h st kind
    exact accepted
  · have accepted := exec_doorLockdown (r := r) w
    exact accepted
  · have accepted := exec_doorRestore (r := r) w
    exact accepted

end Sys2Proof.Proofs.DoorRequests
end

section
/-! PROOFS. Requests as a whole (R170): one whose payload does not spell its fields, or that has no known code, is FORMAT, and one addressed to
255 is carried out without an answer. Both rest on the way each request command is served, said once for all of them. -/
namespace Sys2Proof.Proofs.RequestForms

open Sys2Proof Sys2Proof.Machine Sys2Proof.Safety Sys2Proof.Laws Sys2Proof.Proofs.RecordReads Sys2Proof.Proofs.Reads
open Sys2Proof.Proofs.Evaluation Sys2Proof.Proofs.OneRoom

variable {s t : State} {f : RequestFrame} {rest : List RequestFrame} {code : Octet} {n : Nat}

/-! ### Bodies whose answer brings nothing about after it -/

/-- The body's answers bring about nothing once they have been sent. -/
def EndsWithAnswer {α : Type} (body : α → State → State × Reply) : Prop := ∀ a t, (body a t).2.after = .nothing

theorem withRoom_ends {body : Room → State × Reply} (h : ∀ r, (body r).2.after = .nothing) :
    (withRoom n t body).2.after = .nothing := by
  unfold withRoom
  split
  · rfl
  · exact h _

theorem withBearer_ends {body : Bearer → State × Reply} (h : ∀ r, (body r).2.after = .nothing) :
    (withBearer n t body).2.after = .nothing := by
  unfold withBearer
  split
  · split
    · rfl
    · exact h _
  · rfl

theorem withAlarm_ends {a : AlarmArgs} {body : AlarmRecord → State × Reply} (h : ∀ r, (body r).2.after = .nothing) :
    (withAlarm a t body).2.after = .nothing := by
  unfold withAlarm
  split
  · rfl
  · split
    · rfl
    · exact h _

/-- A choice between bodies that refuse or answer ends with the answer when both sides do. -/
theorem ite_ends {p : Prop} [Decidable p] {x y : State × Reply} (hx : x.2.after = .nothing) (hy : y.2.after = .nothing) :
    (if p then x else y).2.after = .nothing := by
  split
  · exact hx
  · exact hy

theorem zoneResetBody_ends : EndsWithAnswer zoneResetBody := fun _ _ => withRoom_ends fun _ => ite_ends rfl rfl

theorem zoneEnableBody_ends : EndsWithAnswer zoneEnableBody := fun _ _ => withRoom_ends fun _ => ite_ends rfl rfl

theorem releaseAuthoriseBody_ends : EndsWithAnswer releaseAuthoriseBody := fun _ _ => withRoom_ends fun _ => ite_ends rfl rfl

theorem rollSweepBody_ends : EndsWithAnswer rollSweepBody := fun _ _ => withRoom_ends fun _ => ite_ends rfl rfl

theorem rollReadBody_ends : EndsWithAnswer rollReadBody := fun _ _ => withRoom_ends fun _ => ite_ends rfl rfl

theorem doorReleaseBody_ends : EndsWithAnswer doorReleaseBody := fun _ _ => withRoom_ends fun _ => ite_ends rfl rfl

theorem zoneReadBody_ends : EndsWithAnswer zoneReadBody := fun _ _ => withRoom_ends fun _ => rfl

theorem rollConfirmBody_ends : EndsWithAnswer rollConfirmBody := fun _ _ => withRoom_ends fun _ => rfl

theorem doorLockdownBody_ends : EndsWithAnswer doorLockdownBody := fun _ _ => withRoom_ends fun _ => rfl

theorem doorRestoreBody_ends : EndsWithAnswer doorRestoreBody := fun _ _ => withRoom_ends fun _ => rfl

theorem doorReadBody_ends : EndsWithAnswer doorReadBody := fun _ _ => withRoom_ends fun _ => rfl

theorem profileReadBody_ends : EndsWithAnswer profileReadBody := fun _ _ => withRoom_ends fun _ => rfl

theorem suspendBody_ends : EndsWithAnswer suspendBody := fun _ _ => withBearer_ends fun _ => ite_ends rfl rfl

theorem reinstateBody_ends : EndsWithAnswer reinstateBody := fun _ _ => withBearer_ends fun _ => ite_ends rfl rfl

theorem revokeBody_ends : EndsWithAnswer revokeBody := fun _ _ => withBearer_ends fun _ => ite_ends rfl rfl

theorem chainReadBody_ends : EndsWithAnswer chainReadBody := fun _ _ => withBearer_ends fun _ => rfl

theorem alarmResetBody_ends : EndsWithAnswer alarmResetBody := fun _ _ => withAlarm_ends fun _ => ite_ends rfl rfl

theorem alarmReadBody_ends : EndsWithAnswer alarmReadBody := fun _ _ => ite_ends rfl rfl

theorem readBearerBody_ends : EndsWithAnswer readBearerBody := fun _ _ => ite_ends rfl rfl

theorem retentionSetBody_ends : EndsWithAnswer retentionSetBody := fun _ _ => ite_ends rfl rfl

theorem siteOverrideBody_ends : EndsWithAnswer siteOverrideBody := fun _ _ => ite_ends rfl rfl

theorem clockSetBody_ends : EndsWithAnswer clockSetBody := fun _ _ => ite_ends rfl rfl

theorem holidayAddBody_ends : EndsWithAnswer holidayAddBody := fun _ _ => ite_ends rfl (ite_ends rfl (ite_ends rfl rfl))

theorem holidayRemoveBody_ends : EndsWithAnswer holidayRemoveBody := fun _ _ => ite_ends rfl (ite_ends rfl rfl)

theorem amendBody_ends : EndsWithAnswer amendBody := fun _ _ =>
  ite_ends rfl (withBearer_ends fun _ => ite_ends rfl (ite_ends rfl (ite_ends rfl rfl)))

theorem chainWriteBody_ends : EndsWithAnswer chainWriteBody := fun _ _ =>
  ite_ends rfl (withBearer_ends fun _ => ite_ends rfl (ite_ends rfl rfl))

theorem installBody_ends : EndsWithAnswer installBody := by
  intro a t
  unfold installBody
  split
  · rfl
  · exact ite_ends rfl (ite_ends rfl rfl)

theorem isolateBody_ends : EndsWithAnswer isolateBody := by
  intro a t
  unfold isolateBody
  split
  · rfl
  · dsimp only
    split
    · rfl
    · exact ite_ends rfl rfl
    · rfl

theorem returnBody_ends : EndsWithAnswer returnBody := by
  intro a t
  unfold returnBody
  split
  · rfl
  · exact ite_ends rfl rfl

theorem removeBody_ends : EndsWithAnswer removeBody := by
  intro a t
  unfold removeBody
  split
  · rfl
  · exact ite_ends rfl (ite_ends rfl rfl)

theorem cylinderReadBody_ends : EndsWithAnswer cylinderReadBody := by
  intro a t
  unfold cylinderReadBody
  split
  · rfl
  · rfl

theorem scheduleReadBody_ends : EndsWithAnswer scheduleReadBody := by
  intro a t
  unfold scheduleReadBody
  split
  · rfl
  · rfl

theorem stationReadBody_ends : EndsWithAnswer stationReadBody := by
  intro a t
  unfold stationReadBody
  split
  · rfl
  · rfl

theorem zoneDisableBody_ends : EndsWithAnswer zoneDisableBody := by
  intro a t
  unfold zoneDisableBody
  refine withRoom_ends fun z => ?_
  split
  · rfl
  · rfl
  · rfl
  · rfl

theorem alarmAckBody_ends : EndsWithAnswer alarmAckBody := by
  intro a t
  unfold alarmAckBody
  refine withAlarm_ends fun r => ?_
  split
  · rfl
  · rfl
  · rfl

theorem enrolBody_ends : EndsWithAnswer enrolBody := by
  intro a t
  unfold enrolBody
  split
  · split
    · rfl
    · exact ite_ends rfl rfl
  · rfl

theorem findTokenBody_ends : EndsWithAnswer findTokenBody := by
  intro a t
  unfold findTokenBody
  split
  · split
    · rfl
    · rfl
  · rfl

theorem rollRemoveBody_ends : EndsWithAnswer rollRemoveBody := by
  intro a t
  unfold rollRemoveBody
  split
  · split
    · rfl
    · rfl
  · rfl

theorem siteSetBody_ends : EndsWithAnswer siteSetBody := by
  intro a t
  unfold siteSetBody
  split
  · rfl
  · exact ite_ends rfl rfl

theorem scheduleWriteBody_ends : EndsWithAnswer scheduleWriteBody := by
  intro a t
  unfold scheduleWriteBody
  split
  · rfl
  · exact ite_ends rfl rfl

theorem stationConfigureBody_ends : EndsWithAnswer stationConfigureBody := by
  intro a t
  unfold stationConfigureBody
  split
  · exact ite_ends rfl (ite_ends rfl (ite_ends rfl (ite_ends rfl rfl)))
  · rfl

theorem linkReadBody_ends : EndsWithAnswer linkReadBody := by
  intro a t
  unfold linkReadBody
  split
  · rfl
  · rfl
  · rfl

theorem profileLoadBody_ends : EndsWithAnswer profileLoadBody := by
  intro a t
  unfold profileLoadBody
  refine withRoom_ends fun r => ite_ends rfl ?_
  split
  · rfl
  · exact ite_ends rfl rfl

/-! ### How each request with fields is served -/

/-- A request with fields is served under its code by a body on its operand; all but LINK SET and ADDRESS SET end with their answer. -/
structure FieldServed (i : Instr) (code : Octet) (spelled : Bool) : Prop where
  served : ∃ (α : Type) (n : Nat) (a : Option α) (body : α → State → State × Reply),
    code = BitVec.ofNat 8 n ∧ a.isSome = spelled ∧ (∀ s, exec i s = serveFields n a body s) ∧
      (code ≠ 0x90 → code ≠ 0xA2 → EndsWithAnswer body)

theorem FieldServed.of {α : Type} {i : Instr} {a : Option α} {body : α → State → State × Reply} (ends : EndsWithAnswer body)
    (h : ∀ s, exec i s = serveFields n a body s) : FieldServed i (BitVec.ofNat 8 n) a.isSome :=
  ⟨α, n, a, body, rfl, rfl, h, fun _ _ => ends⟩

theorem fieldRequest_served {i : Instr} {spelled : Bool} (h : fieldRequest i = some (code, spelled)) :
    FieldServed i code spelled := by
  cases i <;> cases h
  case amend => exact .of amendBody_ends fun _ => rfl
  case suspend => exact .of suspendBody_ends fun _ => rfl
  case reinstate => exact .of reinstateBody_ends fun _ => rfl
  case revoke => exact .of revokeBody_ends fun _ => rfl
  case readBearer => exact .of readBearerBody_ends fun _ => rfl
  case findToken => exact .of findTokenBody_ends fun _ => rfl
  case retentionSet => exact .of retentionSetBody_ends fun _ => rfl
  case chainWrite => exact .of chainWriteBody_ends fun _ => rfl
  case chainRead => exact .of chainReadBody_ends fun _ => rfl
  case scheduleWrite => exact .of scheduleWriteBody_ends fun _ => rfl
  case scheduleRead => exact .of scheduleReadBody_ends fun _ => rfl
  case holidayAdd => exact .of holidayAddBody_ends fun _ => rfl
  case holidayRemove => exact .of holidayRemoveBody_ends fun _ => rfl
  case clockSet => exact .of clockSetBody_ends fun _ => rfl
  case siteSet => exact .of siteSetBody_ends fun _ => rfl
  case siteOverride => exact .of siteOverrideBody_ends fun _ => rfl
  case rollConfirm => exact .of rollConfirmBody_ends fun _ => rfl
  case rollSweep => exact .of rollSweepBody_ends fun _ => rfl
  case rollRemove => exact .of rollRemoveBody_ends fun _ => rfl
  case rollRead => exact .of rollReadBody_ends fun _ => rfl
  case doorRelease => exact .of doorReleaseBody_ends fun _ => rfl
  case doorLockdown => exact .of doorLockdownBody_ends fun _ => rfl
  case doorRestore => exact .of doorRestoreBody_ends fun _ => rfl
  case doorRead => exact .of doorReadBody_ends fun _ => rfl
  case alarmAck => exact .of alarmAckBody_ends fun _ => rfl
  case alarmReset => exact .of alarmResetBody_ends fun _ => rfl
  case alarmRead => exact .of alarmReadBody_ends fun _ => rfl
  case zoneReset => exact .of zoneResetBody_ends fun _ => rfl
  case zoneDisable => exact .of zoneDisableBody_ends fun _ => rfl
  case zoneEnable => exact .of zoneEnableBody_ends fun _ => rfl
  case releaseAuthorise => exact .of releaseAuthoriseBody_ends fun _ => rfl
  case zoneRead => exact .of zoneReadBody_ends fun _ => rfl
  case cylinderInstall => exact .of installBody_ends fun _ => rfl
  case cylinderIsolate => exact .of isolateBody_ends fun _ => rfl
  case cylinderReturn => exact .of returnBody_ends fun _ => rfl
  case cylinderRemove => exact .of removeBody_ends fun _ => rfl
  case cylinderRead => exact .of cylinderReadBody_ends fun _ => rfl
  case stationConfigure => exact .of stationConfigureBody_ends fun _ => rfl
  case stationRead => exact .of stationReadBody_ends fun _ => rfl
  case linkRead => exact .of linkReadBody_ends fun _ => rfl
  case profileLoad => exact .of profileLoadBody_ends fun _ => rfl
  case profileRead => exact .of profileReadBody_ends fun _ => rfl
  case linkSet a => exact ⟨_, 0x90, a, linkSetBody, rfl, rfl, fun _ => rfl, fun h => absurd rfl h⟩
  case addressSet a => exact ⟨_, 0xA2, a, addressSetBody, rfl, rfl, fun _ => rfl, fun _ h => absurd rfl h⟩

end Sys2Proof.Proofs.RequestForms
end

section
/-! PROOFS. MALFORMED REQUESTS (R170): the request that no command of its own serves, and the FORMAT of every payload that does not spell the
fields of its code. -/
namespace Sys2Proof.Proofs.MalformedRequests

open Sys2Proof Sys2Proof.Machine Sys2Proof.Safety Sys2Proof.Laws Sys2Proof.Proofs.RequestForms

variable {s t : State} {f : RequestFrame} {rest : List RequestFrame} {code : Octet} {n : Nat}

theorem unknownPayload_of {payload : List Octet} (h : ∀ c, payload.head? = some c → c.toNat ∉ requestCodes) :
    unknownPayload payload = true := by
  cases payload with
  | nil => rfl
  | cons c rest => simpa [unknownPayload] using h c rfl

/-- A taken request that is refused with FORMAT ends with the state as it was taken (R170). -/
theorem carryOut_refused {c : AnswerCode} {u : State} (settled : Settled u) :
    u.carryOut f code (fun _ t => refuse c t) = u.answer f code ⟨c, .nothing, .nothing⟩ := by
  unfold State.carryOut refuse
  dsimp only
  rw [State.finish_self u settled]

theorem exec_unknownRequest (head : s.p1.requests = f :: rest) (can : s.canTake f = true) (settled : Settled s)
    (h : ∀ c, f.payload.head? = some c → c.toNat ∉ requestCodes) :
    exec .unknownRequest s = .next ((taken s rest).answer f (f.payload.headD 0) ⟨.format, .nothing, .nothing⟩) := by
  have served := serveWhen_taken unknownPayload (fun _ t => refuse .format t) s f rest head (unknownPayload_of h) can
  exact served.trans (congrArg _ (carryOut_refused settled))

/-- A request with fields whose operand they do not spell, or that is its code alone (R170). -/
theorem exec_fields_malformed {i : Instr} {spelled : Bool} (w : Waits s f rest code)
    (h : fieldRequest i = some (code, spelled)) (malformed : spelled = false ∨ f.payload.length = 1) :
    exec i s = .next (refused s f rest code .format) := by
  obtain ⟨α, n, a, body, hn, rfl, served, -⟩ := (fieldRequest_served h).served
  rw [served s]
  refine serve_refused w hn _ .format ?_
  cases a with
  | none => rfl
  | some a =>
    have short : ¬2 ≤ f.payload.length := by
      obtain none_ | one := malformed
      · cases none_
      · omega
    exact if_neg short

theorem exec_linkTest_taken (w : Waits s f rest 0x92) :
    exec .linkTest s = .next (
      if f.payload.length = 1 then { taken s rest with sup := { s.sup with linkTest := some f } }
      else (taken s rest).carryOut f 0x92 fun _ t => refuse .format t) := by
  show execLinkTest s = _
  rw [execLinkTest, takeRequest_of_waits w rfl]
  rfl

theorem exec_restart_taken {line1 line2 : List Bool} (w : Waits s f rest 0xA1) :
    exec (.restart line1 line2) s = .next (
      if f.payload.length ≠ 1 then (taken s rest).carryOut f 0xA1 fun _ t => refuse .format t
      else if f.broadcast then (taken s rest).startUp .request line1 line2
      else (taken s rest).carryOut f 0xA1 fun _ t => (t, ⟨.ok, .nothing, .restart⟩)) := by
  show execRestart line1 line2 s = _
  rw [execRestart, takeRequest_of_waits w rfl]

theorem taken_refused {c : AnswerCode} (w : Waits s f rest code) :
    (taken s rest).carryOut f code (fun _ t => refuse c t) = refused s f rest code c :=
  (carryOut_refused (u := taken s rest) w.settled).trans (answer_eq _ _ w.addressed)

/-- A request that carries no fields, with an octet behind its code (R170). -/
theorem exec_bare_malformed {i : Instr} (w : Waits s f rest code) (h : bareRequest i = some code) (long : f.payload.length ≠ 1) :
    exec i s = .next (refused s f rest code .format) := by
  cases i <;> cases h
  case holidayRead => exact serve_refused w rfl _ .format (if_neg long)
  case clockRead => exact serve_refused w rfl _ .format (if_neg long)
  case bankRead => exact serve_refused w rfl _ .format (if_neg long)
  case status => exact serve_refused w rfl _ .format (if_neg long)
  case linkTest =>
    rw [exec_linkTest_taken w, if_neg long, taken_refused w]
  case restart =>
    rw [exec_restart_taken w, if_pos long, taken_refused w]

/-- An ENROL payload of another length than 20 octets spells nothing (R170). -/
theorem decode_length {payload : List Octet} (h : payload.length ≠ 20) : EnrolArgs.decode payload = none := by
  unfold EnrolArgs.decode
  split
  · exact absurd rfl h
  · rfl

theorem exec_enrol_malformed (w : Waits s f rest 0x10) (h : EnrolArgs.decode f.payload = none) :
    exec (.enrol none) s = .next (refused s f rest 0x10 .format) := by
  have matches_ : enrolMatches none f.payload = true := by
    simp only [enrolMatches, hasCode, w.code, h, decide_true, Bool.and_true]
    rfl
  have head : f.payload.headD 0 = 0x10 := by
    rw [List.headD_eq_head?_getD, w.code]
    rfl
  have served := serveWhen_taken (enrolMatches none) (fun _ t => refuse .format t) s f rest w.head matches_ (canTake_of_waits w)
  rw [head] at served
  exact served.trans (congrArg _ (taken_refused w))

/-- Settles O40: each way in which a payload is malformed, at the command that serves it. -/
theorem malformedRequestsAreFormat : Obligations.MalformedRequestsAreFormat :=
  ⟨fun _ _ _ head can addressed settled h => (exec_unknownRequest head can settled h).trans (congrArg _ (answer_eq _ _ addressed)),
    fun _ _ _ _ _ w => ⟨fun _ h malformed => exec_fields_malformed w h malformed, fun h long => exec_bare_malformed w h long⟩,
    fun _ _ _ w => ⟨decode_length, exec_enrol_malformed w⟩⟩

end Sys2Proof.Proofs.MalformedRequests
end

section
/-! PROOFS. BROADCAST REQUESTS (R170): a request addressed to 255 is carried out as it would be for this unit and brings no answer; what an
answer's end would have brought about follows at once. -/
namespace Sys2Proof.Proofs.BroadcastRequests

open Sys2Proof Sys2Proof.Machine Sys2Proof.Safety Sys2Proof.Laws Sys2Proof.Proofs.RequestForms Sys2Proof.Proofs.MalformedRequests

variable {s t : State} {f : RequestFrame} {rest : List RequestFrame} {code : Octet} {n : Nat}

/-! ### What follows at once -/

@[simp] theorem place_without (new : AfterSent) (e : TxEntry) : place (e.without new) = place e := by
  cases e <;> rfl

theorem map_place_without (new : AfterSent) (queue : List TxEntry) : (queue.map (TxEntry.without new)).map place = queue.map place := by
  simp only [List.map_map, Function.comp_def, place_without]

/-- What a newer setting overrides does not wait any more. -/
theorem overrides_without (new : AfterSent) (e : TxEntry) : new.overrides (e.without new).after = false := by
  cases e with
  | notice _ => cases new <;> rfl
  | answer a old =>
    show new.overrides (if new.overrides old then .nothing else old) = false
    split
    · cases new <;> rfl
    · next h => exact Bool.eq_false_iff.mpr h

@[simp] theorem without_nothing (e : TxEntry) : e.without .nothing = e := by
  cases e <;> rfl

theorem portWithout_nothing (p : PortOne) : p.without .nothing = p := by
  have entry : (fun fr : SentFrame => { fr with entry := fr.entry.without .nothing }) = id := by
    funext fr
    rw [without_nothing]
    rfl
  have entries : TxEntry.without .nothing = id := funext without_nothing
  unfold PortOne.without
  rw [entry, entries, List.map_id, Option.map_id]
  rfl

theorem applyNow_nothing (s : State) : s.applyNow .nothing = s := by
  show { s with p1 := s.p1.without .nothing } = s
  rw [portWithout_nothing]

theorem answer_broadcast (h : f.address = 255) (u : State) (r : Reply) : u.answer f code r = u.applyNow r.after := by
  have broadcast : f.broadcast = true := decide_eq_true h
  rw [State.answer, if_pos broadcast]

/-- An event that has changed port 1 and the settings of the part alone queues no notice. -/
theorem finish_port (o : State) (p : PortOne) (u : Handler) (h : Settled o) :
    ∃ v, State.finish o { o with p1 := p, sup := u } = { o with p1 := p, sup := { u with checkValue := v } } := by
  have outputs : ({ o with p1 := p, sup := u } : State).deriveOutputs o = { o with p1 := p, sup := u } := by
    simp [State.deriveOutputs, State.sameTable]
  have unchanged : changedObjects o { o with p1 := p, sup := u } = changedObjects o o := rfl
  have coverage := State.coverageAlarms_same { o with p1 := p, sup := u } o rfl
  unfold State.finish
  dsimp only
  rw [coverage, outputs]
  simp only [State.flush, unchanged, changedObjects_self, List.map_nil, List.append_nil]
  rw [show o.due = [] from h]
  exact ⟨_, rfl⟩

/-! ### The same request addressed to 255 -/

/-- The state with the request at the head of the queue addressed to 255. -/
def toAll (s : State) (f : RequestFrame) (rest : List RequestFrame) : State :=
  { s with p1 := { s.p1 with requests := { f with address := 255 } :: rest } }

theorem canTake_toAll (w : Waits s f rest code) : (toAll s f rest).canTake { f with address := 255 } = true := by
  have can := canTake_of_waits w
  unfold State.canTake at can ⊢
  simp only [Bool.and_eq_true] at can ⊢
  exact ⟨can.1, rfl⟩

/-- A request that brings nothing about after its answer is carried out alike to either address, and answered to its own alone. -/
theorem serveWhen_toAll {test : List Octet → Bool} {body : RequestFrame → State → State × Reply} (w : Waits s f rest code)
    (ht : test f.payload = true) (same : ∀ t, body { f with address := 255 } t = body f t)
    (ends : (body f (taken s rest)).2.after = .nothing) :
    ∃ t answer contents, serveWhen test body (toAll s f rest) = .next t ∧
      serveWhen test body s = .next (answered t f code answer contents .nothing) := by
  have head : f.payload.headD 0 = code := by
    rw [List.headD_eq_head?_getD, w.code]
    rfl
  have broadcast := serveWhen_taken test body (toAll s f rest) { f with address := 255 } rest rfl ht (canTake_toAll w)
  have addressed := serveWhen_taken test body s f rest w.head ht (canTake_of_waits w)
  refine ⟨State.finish (taken s rest) (body f (taken s rest)).1, (body f (taken s rest)).2.code, (body f (taken s rest)).2.contents,
    broadcast.trans (congrArg Host.Outcome.next ?_), addressed.trans (congrArg Host.Outcome.next ?_)⟩
  · show ((State.finish (taken s rest) (body _ (taken s rest)).1).answer _ _ (body _ (taken s rest)).2) = _
    rw [same, answer_broadcast rfl, ends, applyNow_nothing]
  · show ((State.finish (taken s rest) (body f (taken s rest)).1).answer f _ (body f (taken s rest)).2) = _
    rw [answer_eq _ _ w.addressed, ends, head]

theorem hasCode_of (w : Waits s f rest code) (h : code = BitVec.ofNat 8 n) : hasCode n f.payload = true := by
  rw [hasCode, w.code, h]
  exact decide_eq_true rfl

/-- The same of a request with fields. -/
theorem serveFields_toAll {α : Type} {a : Option α} {body : α → State → State × Reply} (w : Waits s f rest code)
    (hn : code = BitVec.ofNat 8 n) (ends : EndsWithAnswer body) :
    ∃ t answer contents, serveFields n a body (toAll s f rest) = .next t ∧
      serveFields n a body s = .next (answered t f code answer contents .nothing) := by
  refine serveWhen_toAll w (hasCode_of w hn) (fun _ => rfl) ?_
  cases a with
  | none => rfl
  | some a => exact ite_ends (ends ..) rfl

/-- The same of a request that carries no fields. -/
theorem serveBare_toAll {body : RequestFrame → State → State × Reply} (w : Waits s f rest code) (hn : code = BitVec.ofNat 8 n)
    (same : ∀ t, body { f with address := 255 } t = body f t) (ends : ∀ t, (body f t).2.after = .nothing) :
    ∃ t answer contents, serveBare n body (toAll s f rest) = .next t ∧
      serveBare n body s = .next (answered t f code answer contents .nothing) := by
  refine serveWhen_toAll w (hasCode_of w hn) (fun t => ?_) (ite_ends (ends _) rfl)
  show (if _ then body { f with address := 255 } t else _) = _
  rw [same]

theorem exec_toAll {i : Instr} (w : Waits s f rest code)
    (h : (∃ spelled, fieldRequest i = some (code, spelled) ∧ code ≠ 0x90 ∧ code ≠ 0xA2) ∨
      i = .enrol (EnrolArgs.decode f.payload) ∧ code = 0x10 ∨ i = .holidayRead ∧ code = 0x1E ∨ i = .clockRead ∧ code = 0x21 ∨
      i = .bankRead ∧ code = 0x72) :
    ∃ t answer contents, exec i (toAll s f rest) = .next t ∧ exec i s = .next (answered t f code answer contents .nothing) := by
  obtain ⟨spelled, fields, link, address⟩ | ⟨rfl, rfl⟩ | ⟨rfl, rfl⟩ | ⟨rfl, rfl⟩ | ⟨rfl, rfl⟩ := h
  · obtain ⟨α, n, a, body, hn, -, served, ends⟩ := (fieldRequest_served fields).served
    rw [served, served]
    exact serveFields_toAll w hn (ends link address)
  · refine serveWhen_toAll w ?_ (fun _ => rfl) ?_
    · rw [enrolMatches, hasCode_of w rfl]
      exact decide_eq_true rfl
    · cases EnrolArgs.decode f.payload with
      | none => rfl
      | some a => exact enrolBody_ends ..
  · exact serveBare_toAll w rfl (fun _ => rfl) fun _ => rfl
  · exact serveBare_toAll w rfl (fun _ => rfl) fun _ => rfl
  · exact serveBare_toAll w rfl (fun _ => rfl) fun _ => rfl

/-! ### Requests addressed to 255 -/

section

variable (head : s.p1.requests = f :: rest) (all : f.address = 255) (can : s.canTake f = true) (settled : Settled s)

include head all can

/-- A broadcast request is carried out, and what its answer would bring about follows at once (R170). -/
theorem serve_broadcast {test : List Octet → Bool} (ht : test f.payload = true) (body : RequestFrame → State → State × Reply) :
    serveWhen test body s =
      .next ((State.finish (taken s rest) (body f (taken s rest)).1).applyNow (body f (taken s rest)).2.after) := by
  have served := serveWhen_taken test body s f rest head ht can
  exact served.trans (congrArg _ (answer_broadcast all ..))

/-- The same of a request with fields, carried out by what they spell. -/
theorem serveFields_broadcast {α : Type} (a : α) (body : α → State → State × Reply)
    (hc : f.payload.head? = some (BitVec.ofNat 8 n)) (fields : 2 ≤ f.payload.length) :
    serveFields n (some a) body s =
      .next ((State.finish (taken s rest) (body a (taken s rest)).1).applyNow (body a (taken s rest)).2.after) := by
  have coded : hasCode n f.payload = true := by
    rw [hasCode, hc]
    exact decide_eq_true rfl
  refine (serve_broadcast head all can coded _).trans ?_
  dsimp only
  rw [if_pos fields]

include settled

/-- A broadcast request that changes nothing and brings nothing about is taken, and that is all. -/
theorem serve_broadcast_quiet {test : List Octet → Bool} (ht : test f.payload = true)
    {body : RequestFrame → State → State × Reply} (quiet : (body f (taken s rest)).1 = taken s rest)
    (ends : (body f (taken s rest)).2.after = .nothing) : serveWhen test body s = .next (taken s rest) := by
  rw [serve_broadcast head all can ht, quiet, ends, applyNow_nothing, State.finish_self (taken s rest) settled]

theorem exec_status_broadcast (h : f.payload = [0xA0]) : exec .status s = .next (taken s rest) := by
  have coded : hasCode 0xA0 f.payload = true := by
    rw [h]
    rfl
  have one : f.payload.length = 1 := by rw [h]; rfl
  have broadcast : f.broadcast = true := decide_eq_true all
  refine serve_broadcast_quiet head all can settled coded ?_ ?_
  · show (if f.payload.length = 1 then statusBody f (taken s rest) else _).1 = _
    rw [if_pos one, statusBody, if_pos broadcast]
  · exact ite_ends rfl rfl

theorem exec_unknown_broadcast (h : ∀ c, f.payload.head? = some c → c.toNat ∉ requestCodes) :
    exec .unknownRequest s = .next (taken s rest) :=
  serve_broadcast_quiet head all can settled (unknownPayload_of h) rfl rfl

omit settled in
theorem exec_retentionSet_broadcast {days : Nat} (hc : f.payload.head? = some 0x17) (fields : 2 ≤ f.payload.length) (h : days ≤ 90) :
    ∃ t, exec (.retentionSet (some days)) s = .next t ∧
      UpToNotices { taken s rest with bt := { s.bt with retention := days } } t := by
  have body : retentionSetBody days (taken s rest) =
      ({ taken s rest with bt := { s.bt with retention := days } }, .ok (.retention days)) := if_neg (by omega)
  have served := serveFields_broadcast (n := 0x17) head all can days retentionSetBody hc fields
  rw [body] at served
  obtain ⟨q, m, v, grown, h⟩ := State.finish_quiet (taken s rest) { taken s rest with bt := { s.bt with retention := days } } rfl rfl
  exact ⟨_, served, q, m, v, grown, (applyNow_nothing _).trans h⟩

theorem exec_addressSet_broadcast (hc : f.payload.head? = some 0xA2) (fields : 2 ≤ f.payload.length) (low : 1 ≤ n) (high : n ≤ 254) :
    ∃ t q sending v, exec (.addressSet (some n)) s = .next t ∧
      t =
        { taken s rest with
          p1 := { (taken s rest).p1 with queue := q, sending := sending }
          sup := { s.sup with unitAddress := BitVec.ofNat 8 n, sentAddress := BitVec.ofNat 8 n, checkValue := v } } ∧
      q.map place = s.p1.queue.map place ∧ (∀ e ∈ q, ∀ a, e.after ≠ .unitAddress a) ∧
      ∀ fr, sending = some fr → ∀ a, fr.entry.after ≠ .unitAddress a := by
  have body : addressSetBody n (taken s rest) =
      ({ taken s rest with sup := { s.sup with unitAddress := BitVec.ofNat 8 n } },
        ⟨.ok, .nothing, .unitAddress (BitVec.ofNat 8 n)⟩) := if_neg (by omega)
  have served := serveFields_broadcast (n := 0xA2) head all can n addressSetBody hc fields
  rw [body] at served
  obtain ⟨v, h⟩ := finish_port (taken s rest) (taken s rest).p1 { s.sup with unitAddress := BitVec.ofNat 8 n } settled
  have overridden {e : TxEntry} {a : Octet} (h : (AfterSent.unitAddress (BitVec.ofNat 8 n)).overrides e.after = false) :
      e.after ≠ .unitAddress a := by
    intro after
    rw [after] at h
    cases h
  have final := served.trans (congrArg (fun u => Host.Outcome.next (State.applyNow u _)) h)
  let port : PortOne := (taken s rest).p1.without (.unitAddress (BitVec.ofNat 8 n))
  refine ⟨_, port.queue, port.sending, v, final, rfl, map_place_without .., ?_, ?_⟩
  · intro e he a
    obtain ⟨old, -, rfl⟩ := List.mem_map.mp he
    exact overridden (overrides_without ..)
  · intro fr hfr a
    obtain ⟨old, -, rfl⟩ := Option.map_eq_some_iff.mp hfr
    exact overridden (overrides_without ..)

theorem exec_linkSet_broadcast {x y : Octet} {m : LinkMode} (hc : f.payload.head? = some 0x90) (fields : 2 ≤ f.payload.length)
    (valid : SyncPair.valid ⟨x, y⟩ = true) :
    ∃ t, exec (.linkSet (some ⟨1, x, y, .mode (some m)⟩)) s = .next t ∧ t.p1.pair = ⟨x, y⟩ ∧ t.p1.mode = m ∧
      t.p1.txPair = ⟨x, y⟩ ∧ t.p1.txMode = m ∧ t.p1.requests = rest ∧ t.p1.queue.map place = s.p1.queue.map place ∧
      (∀ e ∈ t.p1.queue, ∀ pair mode, e.after ≠ .linkSettings pair mode) ∧ t.bt = s.bt ∧ t.clk = s.clk ∧
      t.loop = s.loop ∧ t.p2 = s.p2 := by
  have body : linkSetBody ⟨1, x, y, .mode (some m)⟩ (taken s rest) =
      ({ taken s rest with p1 := { (taken s rest).p1 with pair := ⟨x, y⟩, mode := m } },
        ⟨.ok, .link1 ⟨x, y⟩ m, .linkSettings ⟨x, y⟩ m⟩) := by
    rw [linkSetBody]
    simp only [valid, Bool.not_true, Bool.false_eq_true, if_false]
    rfl
  have served := serveFields_broadcast (n := 0x90) head all can ⟨1, x, y, .mode (some m)⟩ linkSetBody hc fields
  rw [body] at served
  obtain ⟨v, h⟩ := finish_port (taken s rest) { (taken s rest).p1 with pair := ⟨x, y⟩, mode := m } s.sup settled
  have final := served.trans (congrArg (fun u => Host.Outcome.next (State.applyNow u _)) h)
  refine ⟨_, final, rfl, rfl, rfl, rfl, rfl, map_place_without .., ?_, rfl, rfl, rfl, rfl⟩
  intro e he pair mode after
  obtain ⟨old, -, rfl⟩ := List.mem_map.mp he
  have overridden := overrides_without (.linkSettings ⟨x, y⟩ m) old
  rw [after] at overridden
  cases overridden

end

/-! ### A request that no entry is free for -/

theorem canTake_full (addressed : f.address ≠ 255) (full : 16 ≤ s.p1.queue.length) : s.canTake f = false := by
  have broadcast : f.broadcast = false := decide_eq_false addressed
  have free : s.p1.free = 0 := Nat.sub_eq_zero_of_le full
  simp [State.canTake, broadcast, free]

/-- A request waits while no entry of the transmit queue is free for its answer (R167). -/
theorem exec_heldBack {i : Instr} {spelled : Bool} (head : s.p1.requests = f :: rest) (addressed : f.address ≠ 255)
    (full : 16 ≤ s.p1.queue.length) (h : fieldRequest i = some (code, spelled)) : exec i s = .next s := by
  obtain ⟨α, n, a, body, -, -, served, -⟩ := (fieldRequest_served h).served
  have none_ : s.takeRequest (hasCode n) = none := by
    rw [State.takeRequest, head]
    simp [canTake_full addressed full]
  rw [served, serveFields, serve, serveWhen, none_]

/-- Settles O41: a request to 255 against the same request to this unit, and what follows at once. -/
theorem broadcastRequestsAreNotAnswered : Obligations.BroadcastRequestsAreNotAnswered := by
  unfold Obligations.BroadcastRequestsAreNotAnswered
  refine ⟨fun s f rest i code w => exec_toAll w, fun s f rest head all can settled => ⟨?_, ?_, ?_, ?_, ?_⟩,
    fun s f rest i code spelled head addressed full h => exec_heldBack head addressed full h⟩
  · exact exec_status_broadcast head all can settled
  · exact exec_unknown_broadcast head all can settled
  · exact fun days hc fields h => exec_retentionSet_broadcast head all can hc fields h
  · exact fun n hc fields low high => exec_addressSet_broadcast head all can settled hc fields low high
  · exact fun x y m hc fields valid => exec_linkSet_broadcast head all can settled hc fields valid

end Sys2Proof.Proofs.BroadcastRequests
end

section
/-! PROOFS. SUPPLIES AND LINES (R172, R175, R177): what the supplies, RESET_N, INHIBIT and MAINS_OK bring about, and RESTART. INHIBIT is handed
to every zone in turn; an operation that touches one strongroom at a time leaves at each strongroom what its own turn left there. -/
namespace Sys2Proof.Proofs.SuppliesAndLines

open Sys2Proof Sys2Proof.Machine Sys2Proof.Safety Sys2Proof.Laws Sys2Proof.Proofs.BearerRequests Sys2Proof.Proofs.OneRoom
open Sys2Proof.Proofs.ZoneMoves Sys2Proof.Proofs.DoorRequests Sys2Proof.Proofs.MalformedRequests
open Sys2Proof.Proofs.Starts (deriveHolds_congr)
open Sys2Proof.Proofs.Acts (fins_nodup rederive_acts)

variable {s t u : State} {f : RequestFrame} {rest : List RequestFrame} {r z : Room}

/-! ### One strongroom after another -/

/-- The door, the context, the roll record and the zone of a strongroom are the same. -/
def SameAt (z : Room) (s t : State) : Prop :=
  t.doors[z] = s.doors[z] ∧ t.ctx[z] = s.ctx[z] ∧ t.roll.rooms[z] = s.roll.rooms[z] ∧ t.zones[z] = s.zones[z]

theorem SameAt.refl (z : Room) (s : State) : SameAt z s s := ⟨rfl, rfl, rfl, rfl⟩

theorem SameAt.trans (h : SameAt z s t) (h' : SameAt z t u) : SameAt z s u :=
  ⟨h'.1.trans h.1, h'.2.1.trans h.2.1, h'.2.2.1.trans h.2.2.1, h'.2.2.2.trans h.2.2.2⟩

/-- The strongrooms that have no turn stay as they are. -/
theorem foldl_sameAt {g : State → Room → State} (others : ∀ u r, OtherRoomsKept u (g u r) r) {l : List Room} (h : z ∉ l) (s : State) :
    SameAt z s (l.foldl g s) := by
  induction l generalizing s with
  | nil => exact .refl z s
  | cons r l ih =>
    obtain ⟨other, later⟩ := not_or.mp (mt List.mem_cons.mpr h)
    exact .trans (others s r z other) (ih later _)

/-- Each strongroom has its turn at a state that has it as it was, and keeps what its turn leaves there. -/
theorem foldl_turn {g : State → Room → State} (others : ∀ u r, OtherRoomsKept u (g u r) r) {Kept : State → State → Prop}
    (refl : ∀ u, Kept u u) (trans : ∀ {u v w}, Kept u v → Kept v w → Kept u w) (kept : ∀ u r, Kept u (g u r)) {l : List Room}
    (nodup : l.Nodup) (h : z ∈ l) (s : State) :
    ∃ u, Kept s u ∧ SameAt z s u ∧ SameAt z (g u z) (l.foldl g s) := by
  induction l generalizing s with
  | nil => cases h
  | cons r l ih =>
    obtain ⟨new, rest⟩ := List.nodup_cons.mp nodup
    by_cases own : z = r
    · subst own
      exact ⟨s, refl s, .refl z s, foldl_sameAt others new _⟩
    · obtain ⟨u, before, same, after⟩ := ih rest ((List.mem_cons.mp h).resolve_left own) (g s r)
      exact ⟨u, trans (kept s r) before, .trans (others s r z own) same, after⟩

theorem rooms_nodup : rooms.Nodup := fins_nodup 16

/-! ### INHIBIT -/

/-- Every zone derives its hold reasons and moves by them (R113, R119 to R122). -/
theorem rederiveAll_zone (s : State) (z : Room) :
    ∃ env, (rooms.foldl State.rederive s).zones[z] = { acted (s.deriveHolds z) s.zones[z] with lastEnvelope := env } := by
  obtain ⟨u, ⟨lines, roll⟩, ⟨-, -, room, zone⟩, ⟨-, -, -, after⟩⟩ :=
    foldl_turn (z := z) (g := State.rederive) (fun u r => (rederive_atDoor u r).toAtRoom.others)
      (Kept := fun u v => v.lines = u.lines ∧ v.roll = u.roll) (fun _ => ⟨rfl, rfl⟩)
      (fun h h' => ⟨h'.1.trans h.1, h'.2.trans h.2⟩) (fun u r => ⟨(State.rederive_frame u r).2.1, by simp⟩)
      rooms_nodup (mem_rooms z) s
  obtain ⟨env, zones⟩ := rederive_zone u z
  have holds : u.deriveHolds z = s.deriveHolds z := deriveHolds_congr (by rw [zone]) (by rw [zone]) (by rw [zone]) room (by rw [lines])
  rw [after, zones, vset_same, holds, zone]
  exact ⟨env, rfl⟩

theorem rederiveAll_cylinders (s : State) : (rooms.foldl State.rederive s).bank.cylinders = s.bank.cylinders := by
  refine List.foldlRecOn (motive := fun u => u.bank.cylinders = s.bank.cylinders) rooms State.rederive rfl fun u h r _ => ?_
  obtain ⟨x, acts⟩ := rederive_acts (s := u) (z := r)
  exact acts.cylinders.trans h

theorem exec_inhibitChange {a : Bool} (runs : Runs s) :
    ∃ t, exec (.inhibitChange a) s = .next t ∧ t.lines = { s.lines with inhibit := a } ∧
      (∀ z : Room, t.zones[z].holds = holdsWith s z s.zones[z].kind s.zones[z].authorise a ∧
        t.zones[z].state = heldState s.zones[z].state (holdsWith s z s.zones[z].kind s.zones[z].authorise a).any) ∧
      t.bank.cylinders = s.bank.cylinders ∧ t.bt = s.bt ∧ t.clk = s.clk ∧ t.roll = s.roll ∧ t.p2 = s.p2 := by
  have running : s.running = true := by simp [State.running, runs.1, runs.2]
  refine ⟨_, congrArg Host.Outcome.next (if_pos running), by simp, fun z => ?_, ?_, by simp, by simp, by simp, by simp⟩
  · obtain ⟨env, zone⟩ := rederiveAll_zone { s with lines := { s.lines with inhibit := a } } z
    rw [(State.finish_frame ..).2.2.2.2.2.2.2.2.1, zone]
    exact ⟨rfl, rfl⟩
  · rw [(State.finish_frame ..).2.2.2.2.2.2.2.2.2.1]
    exact rederiveAll_cylinders _

theorem exec_inhibitChange_stopped {a : Bool} (stopped : ¬Runs s) :
    exec (.inhibitChange a) s = .next { s with lines := { s.lines with inhibit := a } } := by
  have running : ¬s.running = true := by simpa [State.running, Runs] using stopped
  exact congrArg Host.Outcome.next (if_neg running)

/-! ### MAINS_OK -/

/-- A level of MAINS_OK that repeats the one held is no change (R177; assumption 8). -/
theorem exec_mainsOkChange_same : exec (.mainsOkChange s.lines.mainsOk) s = .next s := by
  show Host.Outcome.next (if s.running && s.lines.mainsOk != s.lines.mainsOk then _ else s) = .next s
  rw [bne_self_eq_false, Bool.and_false]
  rfl

theorem exec_mainsOkChange {a : Bool} (runs : Runs s) (change : s.lines.mainsOk ≠ a) :
    ∃ t, exec (.mainsOkChange a) s = .next t ∧
      UpToOutputs
        { s with
          lines := { s.lines with mainsOk := a }
          alarms := if a then (s.alarmGone (.bare .mainsFail)).alarms else (s.raiseAlarm (.bare .mainsFail)).alarms } t := by
  have taken_ : (s.running && s.lines.mainsOk != a) = true := by simp [State.running, runs.1, runs.2, change]
  refine ⟨_, congrArg Host.Outcome.next (if_pos taken_), ?_⟩
  cases a with
  | true =>
    have gone : ({ s with lines := { s.lines with mainsOk := true } } : State).alarmGone (.bare .mainsFail) = _ :=
      alarmsGone_acts (s := s) _ rfl
    exact upToOutputs_due (finish_upToOutputs rfl) gone
  | false =>
    have raised : ({ s with lines := { s.lines with mainsOk := false } } : State).raiseAlarm (.bare .mainsFail) = _ :=
      raiseAlarm_acts (s := s) _ rfl rfl
    exact upToOutputs_due (finish_upToOutputs (congrArg (·.bank.coverage) raised)) raised

/-! ### The supplies, RESET_N and RESTART -/

theorem exec_powerUp_underReset {line1 line2 : List Bool} (off : s.lines.mainOn = false) (low : s.lines.resetHigh = false) :
    exec (.powerUp line1 line2) s =
      .next
        { s with
          lines := { s.lines with mainOn := true }
          alarms := { records := [], overflow := false, general := false, fault := false } } := by
  show Host.Outcome.next (if s.lines.mainOn = true then s else if s.lines.resetHigh = true then _ else _) = _
  rw [off, low]
  rfl

theorem exec_restart_answered {line1 line2 : List Bool} (w : Waits s f rest 0xA1) (one : f.payload.length = 1) :
    exec (.restart line1 line2) s = .next (answered (taken s rest) f 0xA1 .ok .nothing .restart) := by
  have addressed : ¬f.broadcast = true := by simp [broadcast_of_waits w]
  have unchanged : (taken s rest).carryOut f 0xA1 (fun _ t => (t, ⟨.ok, .nothing, .restart⟩)) =
      (taken s rest).answer f 0xA1 ⟨.ok, .nothing, .restart⟩ := by
    unfold State.carryOut
    dsimp only
    rw [State.finish_self (taken s rest) w.settled]
  rw [exec_restart_taken w, if_neg (not_not.mpr one), if_neg addressed, unchanged, answer_eq _ _ w.addressed]

/-- Settles O42: each line and supply at its command. -/
theorem suppliesAndLinesAct : Obligations.SuppliesAndLinesAct :=
  ⟨fun _ =>
      ⟨fun on => congrArg Host.Outcome.next (if_pos on), fun high => congrArg Host.Outcome.next (if_pos high),
        fun _ _ off low => exec_powerUp_underReset off low, rfl⟩,
    fun _ _ _ _ _ w => ⟨exec_restart_answered w, fun long => exec_bare_malformed w rfl long⟩,
    fun _ _ => ⟨exec_inhibitChange, exec_inhibitChange_stopped⟩,
    fun _ _ runs => ⟨exec_mainsOkChange runs, fun same => same ▸ exec_mainsOkChange_same⟩⟩

end Sys2Proof.Proofs.SuppliesAndLines
end

section
/-! PROOFS. RECEPTION at port 1 (R163, R164, R166): the line bits run the receiver, and the end of a frame has one effect by its outcome. -/
namespace Sys2Proof.Proofs.Reception

open Sys2Proof Sys2Proof.Machine Sys2Proof.Safety Sys2Proof.Laws

variable {s : State} {line : List Bool} {p q : RxPhase} {e : RxEvent}

theorem running_of (runs : Runs s) : s.running = true := by simp [State.running, runs.1, runs.2]

theorem not_running_of (stopped : ¬Runs s) : ¬s.running = true := by simpa [State.running, Runs] using stopped

theorem exec_received (runs : Runs s) : exec (.supervisorFrameReceived line) s = .next (s.hear line) :=
  congrArg Host.Outcome.next (if_pos (running_of runs))

/-- Bits without the end of a frame leave the receiver in the phase they bring. -/
theorem hear_phase (on : s.p1.rx = .on p) (heard : receive s.rxConfig p line = .inl q) :
    s.hear line = { s with p1 := { s.p1 with rx := .on q } } := by
  unfold State.hear Receiver.take
  rw [on]
  dsimp only
  rw [heard]
  rfl

/-- The end of a frame returns the receiver to HUNT. -/
theorem hear_ends (on : s.p1.rx = .on p) (heard : receive s.rxConfig p line = .inr e) :
    s.hear line = { s with p1 := PortOne.frameEnds { s.p1 with rx := .hunting } e } := by
  unfold State.hear Receiver.take
  rw [on]
  dsimp only
  rw [heard]
  rfl

theorem hear_off (off : s.p1.rx = .off) : s.hear line = s := by
  unfold State.hear Receiver.take
  rw [off]
  show { s with p1 := { s.p1 with rx := Receiver.off } } = s
  rw [← off]

theorem isKind_one (k : Octet) : isKind 1 k = true ↔ (k &&& 0xE0#8) = 0#8 ∧ (k &&& 0x0F#8) = 1#8 := by
  simp [isKind]

theorem takeFrame_eq (p : PortOne) (fr : LinkFrame) :
    p.takeFrame fr =
      if (fr.kind &&& 0xE0#8) = 0#8 ∧ (fr.kind &&& 0x0F#8) = 1#8 then
        if p.requests.length < 8 then { p with requests := p.requests ++ [⟨fr.address, fr.tag, fr.payload⟩] }
        else { p with overrun := true }
      else p := by
  unfold PortOne.takeFrame
  simp only [isKind_one]
  rfl

/-- Settles O36: bits without an end, the three outcomes of an end, and a receiver that takes none. -/
theorem supervisorFrameEndsByItsOutcome : Obligations.SupervisorFrameEndsByItsOutcome := by
  refine ⟨fun s line p runs on => ⟨fun q heard => ?_, fun e heard => ?_⟩, fun s line h => ?_⟩
  · exact (exec_received runs).trans (congrArg _ (hear_phase on heard))
  · refine (exec_received runs).trans (congrArg _ ((hear_ends on heard).trans ?_))
    cases e with
    | accepted fr =>
      unfold PortOne.frameEnds
      dsimp only
      rw [takeFrame_eq]
      split
      · split
        · rfl
        · rfl
      · rfl
    | dropped => rfl
    | discarded => rfl
  · by_cases runs : Runs s
    · obtain off | stopped := h
      · exact (exec_received runs).trans (congrArg _ (hear_off off))
      · exact absurd runs stopped
    · exact congrArg Host.Outcome.next (if_neg (not_running_of runs))

end Sys2Proof.Proofs.Reception
end

section
/-! PROOFS. THE LINE CODE (R159 to R164): what the transmitter sends, the receiver takes. The transmitter's bits fall into those of one data bit
each, the receiver takes each such group as its data bit, and the data bits octet by octet. -/
namespace Sys2Proof.Proofs.LineCode

open Sys2Proof Sys2Proof.Machine Sys2Proof.Safety

variable {accepts : Octet → Bool} {f g : RxFrame} {e : RxEvent} {l l' : List Bool} {b : Bool} {r : Nat} {o : Octet}

/-! ### Line bits one after another -/

theorem take_append (f : RxFrame) (l l' : List Bool) :
    RxFrame.take accepts f (l ++ l') =
      match RxFrame.take accepts f l with
      | .inl g => RxFrame.take accepts g l'
      | .inr e => .inr e := by
  induction l generalizing f with
  | nil => rfl
  | cons b l ih =>
    simp only [List.cons_append, RxFrame.take]
    cases f.step accepts b with
    | inl g => exact ih g
    | inr e => rfl

theorem take_goes (h : RxFrame.take accepts f l = .inl g) (l' : List Bool) :
    RxFrame.take accepts f (l ++ l') = RxFrame.take accepts g l' := by
  rw [take_append, h]

/-- The last of the line bits ends the frame. -/
def Ends (accepts : Octet → Bool) (f : RxFrame) (l : List Bool) (e : RxEvent) : Prop :=
  ∃ before b g, l = before ++ [b] ∧ RxFrame.take accepts f before = .inl g ∧ g.step accepts b = .inr e

theorem Ends.after (goes : RxFrame.take accepts f l = .inl g) (h : Ends accepts g l' e) : Ends accepts f (l ++ l') e := by
  obtain ⟨before, b, last, rfl, taken, ends⟩ := h
  exact ⟨l ++ before, b, last, (List.append_assoc ..).symm, (take_goes goes before).trans taken, ends⟩

/-! ### The line bits of one data bit (R161) -/

/-- The zeros that the transmitter has counted after a data bit. -/
def runAfter (r : Nat) (b : Bool) : Nat := if b then 0 else if r + 1 = 7 then 0 else r + 1

/-- The line bits of one data bit: an inserted one follows the seventh zero. -/
def lineOf (r : Nat) (b : Bool) : List Bool := if b then [true] else if r + 1 = 7 then [false, true] else [false]

theorem stuff_cons (r : Nat) (b : Bool) (bs : List Bool) : stuff r (b :: bs) = lineOf r b ++ stuff (runAfter r b) bs := by
  cases b with
  | true => rfl
  | false =>
    by_cases seventh : r + 1 = 7
    · simp [stuff, lineOf, runAfter, seventh]
    · simp [stuff, lineOf, runAfter, seventh]

theorem runAfter_le (h : r ≤ 6) : runAfter r b ≤ 6 := by
  unfold runAfter
  split_ifs <;> omega

theorem step_one (few : f.run < 7) : f.step accepts true = RxFrame.dataBit accepts { f with run := 0 } true := by
  have h : ¬f.run = 7 := by omega
  have h' : ¬8 ≤ f.run := by omega
  simp only [RxFrame.step, if_true, h, h', if_false]

theorem step_zero (few : f.run < 7) : f.step accepts false = RxFrame.dataBit accepts { f with run := f.run + 1 } false := by
  have h : ¬11 ≤ f.run := by omega
  have h' : ¬7 ≤ f.run := by omega
  simp only [RxFrame.step, Bool.false_eq_true, if_false, h, h']

/-- The inserted one is deleted, or shows that the frame is at its end. -/
theorem step_inserted (seven : f.run = 7) :
    f.step accepts true = if f.complete then .inr f.ended else .inl { f with run := 0 } := by
  simp only [RxFrame.step, if_true, seven]

theorem take_one (f : RxFrame) (b : Bool) : RxFrame.take accepts f [b] = f.step accepts b := by
  unfold RxFrame.take
  cases f.step accepts b with
  | inl g => rfl
  | inr e => rfl

theorem take_two (h : f.step accepts b = .inl g) (b' : Bool) : RxFrame.take accepts f [b, b'] = g.step accepts b' :=
  (take_goes ((take_one f b).trans h) [b']).trans (take_one g b')

/-- What a data bit makes of a frame does not read the zeros counted, unless it completes the last octet. -/
theorem take_lineOf {next : Nat → RxFrame} (run : f.run = r) (low : r ≤ 6)
    (data : ∀ n, RxFrame.dataBit accepts { f with run := n } b = .inl (next n))
    (counted : ∀ n, (next n).run = n ∧ (next n).complete = false ∧ { next n with run := 0 } = next 0) :
    RxFrame.take accepts f (lineOf r b) = .inl (next (runAfter r b)) := by
  subst run
  have few : f.run < 7 := by omega
  cases b with
  | true => exact (take_one f true).trans ((step_one few).trans (data 0))
  | false =>
    have zero : f.step accepts false = .inl (next (f.run + 1)) := (step_zero few).trans (data _)
    by_cases seventh : f.run + 1 = 7
    · obtain ⟨seven, open_, reset⟩ := counted (f.run + 1)
      simp only [lineOf, runAfter, Bool.false_eq_true, if_false, if_pos seventh]
      rw [take_two zero true, step_inserted (seven.trans seventh), open_, reset]
      rfl
    · simp only [lineOf, runAfter, Bool.false_eq_true, if_false, if_neg seventh]
      exact (take_one f false).trans zero

/-- A data bit within an octet. -/
theorem take_bit (run : f.run = r) (low : r ≤ 6) (within : f.bits.length < 7) (open_ : f.complete = false) :
    RxFrame.take accepts f (lineOf r b) = .inl { f with run := runAfter r b, bits := f.bits ++ [b] } := by
  refine take_lineOf (next := fun n => { f with run := n, bits := f.bits ++ [b] }) run low (fun n => ?_) fun n => ⟨rfl, open_, rfl⟩
  have more : ¬(f.bits ++ [b]).length = 8 := by
    rw [List.length_append, List.length_singleton]
    omega
  exact if_neg more

/-! ### Octets -/

/-- The zeros counted after data bits. -/
def runAfterAll (r : Nat) (bs : List Bool) : Nat := bs.foldl runAfter r

theorem stuff_append (r : Nat) (bs bs' : List Bool) : stuff r (bs ++ bs') = stuff r bs ++ stuff (runAfterAll r bs) bs' := by
  induction bs generalizing r with
  | nil => rfl
  | cons b bs ih =>
    rw [List.cons_append, stuff_cons, stuff_cons, ih, List.append_assoc]
    rfl

theorem runAfterAll_le (low : r ≤ 6) (bs : List Bool) : runAfterAll r bs ≤ 6 := by
  induction bs generalizing r with
  | nil => exact low
  | cons b bs ih => exact ih (runAfter_le low)

/-- Data bits within an octet. -/
theorem take_bits (run : f.run = r) (low : r ≤ 6) (open_ : f.complete = false) (bs : List Bool) (within : f.bits.length + bs.length < 8) :
    RxFrame.take accepts f (stuff r bs) = .inl { f with run := runAfterAll r bs, bits := f.bits ++ bs } := by
  induction bs generalizing f r with
  | nil =>
    subst run
    simp only [List.append_nil]
    rfl
  | cons b bs ih =>
    rw [List.length_cons] at within
    rw [stuff_cons, take_goes (take_bit run low (by omega) open_)]
    have rest := ih (f := { f with run := runAfter r b, bits := f.bits ++ [b] }) rfl (runAfter_le low) open_
      (by rw [List.length_append, List.length_singleton]; omega)
    rw [rest, List.append_assoc]
    rfl

theorem octetOf_bitsOf (o : Octet) : octetOf (bitsOf o) = o := by
  revert o
  decide +kernel

/-- The first seven bits of an octet and its last. -/
theorem bitsOf_split (o : Octet) : ∃ seven last, bitsOf o = seven ++ [last] ∧ seven.length = 7 :=
  ⟨[o.getLsbD 0, o.getLsbD 1, o.getLsbD 2, o.getLsbD 3, o.getLsbD 4, o.getLsbD 5, o.getLsbD 6], o.getLsbD 7, rfl, rfl⟩

/-- A frame between two octets. -/
def between (r : Nat) (octets : List Octet) : RxFrame := ⟨r, [], octets, false⟩

theorem dataBit_last {seven : List Bool} (n : Nat) (octets : List Octet) (split : bitsOf o = seven ++ [b]) :
    RxFrame.dataBit accepts ⟨n, seven, octets, false⟩ b = RxFrame.octetTaken accepts (between n (octets ++ [o])) := by
  have eight : (seven ++ [b]).length = 8 := by
    rw [← split]
    rfl
  unfold RxFrame.dataBit
  dsimp only
  rw [if_pos eight, ← split, octetOf_bitsOf]
  rfl

/-- The octets taken so far do not end the frame, and the address, once it is there, is accepted. -/
structure Goes (accepts : Octet → Bool) (octets : List Octet) : Prop where
  address : octets.length = 1 → accepts ((octets[0]?).getD 0) = true
  short : octets.length = 4 → (between 0 octets).payloadLength ≤ 120
  open_ : (between 0 octets).complete = false

theorem octetTaken_goes {octets : List Octet} (h : Goes accepts octets) (n : Nat) :
    RxFrame.octetTaken accepts (between n octets) = .inl (between n octets) := by
  have open_ : (between n octets).complete = false := h.open_
  unfold RxFrame.octetTaken
  split_ifs with one long complete
  · have address : accepts (((between n octets).octets[0]?).getD 0) = true := h.address one
    rw [address]
    rfl
  · simp only [Bool.and_eq_true, decide_eq_true_eq] at long
    have short : (between n octets).payloadLength ≤ 120 := h.short long.1.1
    exact absurd long.2 (Nat.not_lt.mpr short)
  · rw [open_] at complete
    cases complete
  · rfl

theorem take_octet {octets : List Octet} (low : r ≤ 6) (before : (between 0 octets).complete = false)
    (goes : Goes accepts (octets ++ [o])) :
    RxFrame.take accepts (between r octets) (stuff r (bitsOf o)) = .inl (between (runAfterAll r (bitsOf o)) (octets ++ [o])) := by
  obtain ⟨seven, last, split, length⟩ := bitsOf_split o
  have first : RxFrame.take accepts (between r octets) (stuff r seven) = .inl ⟨runAfterAll r seven, seven, octets, false⟩ :=
    take_bits (f := between r octets) rfl low before seven (by rw [length]; exact Nat.lt_succ_self 7)
  have data (n : Nat) : RxFrame.dataBit accepts ⟨n, seven, octets, false⟩ last = .inl (between n (octets ++ [o])) :=
    (dataBit_last n octets split).trans (octetTaken_goes goes n)
  have second := take_lineOf (f := ⟨runAfterAll r seven, seven, octets, false⟩) (next := fun n => between n (octets ++ [o])) rfl
    (runAfterAll_le low seven) data fun n => ⟨rfl, goes.open_, rfl⟩
  rw [split, stuff_append, take_goes first, stuff_cons, stuff, List.append_nil, second]
  simp only [runAfterAll, List.foldl_append, List.foldl_cons, List.foldl_nil]

/-- The check is tested with the last octet, unless an inserted one has still to be deleted. -/
theorem octetTaken_complete {octets : List Octet} (many : 5 ≤ octets.length) (complete : (between 0 octets).complete = true) (n : Nat) :
    RxFrame.octetTaken accepts (between n octets) = if n = 7 then .inl (between n octets) else .inr (between 0 octets).ended := by
  have complete' : (between n octets).complete = true := complete
  have one : ¬(between n octets).octets.length = 1 := by show ¬octets.length = 1; omega
  have four : ¬(between n octets).octets.length = 4 := by show ¬octets.length = 4; omega
  unfold RxFrame.octetTaken
  rw [if_neg one, decide_eq_false four, complete']
  by_cases seven : n = 7
  · subst seven
    rfl
  · have other : ((between n octets).run != 7) = true := bne_iff_ne.mpr seven
    rw [other, if_neg seven]
    rfl

/-- The last data bit of the frame ends it with its last line bit. -/
theorem ends_lineOf {next : Nat → RxFrame} (run : f.run = r) (low : r ≤ 6)
    (data : ∀ n, RxFrame.dataBit accepts { f with run := n } b = if n = 7 then .inl (next n) else .inr e)
    (seven : (next 7).run = 7 ∧ (next 7).complete = true ∧ (next 7).ended = e) : Ends accepts f (lineOf r b) e := by
  subst run
  have few : f.run < 7 := by omega
  cases b with
  | true => exact ⟨[], true, f, rfl, rfl, (step_one few).trans (data 0)⟩
  | false =>
    have zero := (step_zero (accepts := accepts) few).trans (data _)
    by_cases seventh : f.run + 1 = 7
    · obtain ⟨run, complete, ended⟩ := seven
      rw [seventh, if_pos rfl] at zero
      refine ⟨[false], true, next 7, ?_, (take_one f false).trans zero, ?_⟩
      · simp only [lineOf, Bool.false_eq_true, if_false, if_pos seventh]
        rfl
      · rw [step_inserted run, if_pos complete, ended]
    · rw [if_neg seventh] at zero
      refine ⟨[], false, f, ?_, rfl, zero⟩
      simp only [lineOf, Bool.false_eq_true, if_false, if_neg seventh]
      rfl

/-- The last octet ends the frame with its last line bit. -/
theorem ends_octet {octets : List Octet} (low : r ≤ 6) (before : (between 0 octets).complete = false) (four : 4 ≤ octets.length)
    (complete : (between 0 (octets ++ [o])).complete = true) :
    Ends accepts (between r octets) (stuff r (bitsOf o)) (between 0 (octets ++ [o])).ended := by
  obtain ⟨seven, last, split, length⟩ := bitsOf_split o
  have first : RxFrame.take accepts (between r octets) (stuff r seven) = .inl ⟨runAfterAll r seven, seven, octets, false⟩ :=
    take_bits (f := between r octets) rfl low before seven (by rw [length]; exact Nat.lt_succ_self 7)
  have many : 5 ≤ (octets ++ [o]).length := by rw [List.length_append, List.length_singleton]; omega
  have second : Ends accepts ⟨runAfterAll r seven, seven, octets, false⟩ (lineOf (runAfterAll r seven) last) _ :=
    ends_lineOf (next := fun n => between n (octets ++ [o])) rfl (runAfterAll_le low seven)
      (fun n => (dataBit_last n octets split).trans (octetTaken_complete many complete n)) ⟨rfl, complete, rfl⟩
  rw [split, stuff_append, stuff_cons, stuff, List.append_nil]
  exact .after first second

/-! ### Frames -/

/-- Octets that follow one another up to the end of a frame. -/
theorem ends_octets {rest octets : List Octet} (low : r ≤ 6) (before : (between 0 octets).complete = false) (some_ : rest ≠ [])
    (goes : ∀ front o behind, rest = front ++ o :: behind → behind ≠ [] → Goes accepts (octets ++ front ++ [o]))
    (long : 5 ≤ (octets ++ rest).length) (complete : (between 0 (octets ++ rest)).complete = true) :
    Ends accepts (between r octets) (stuff r (octetBits rest)) (between 0 (octets ++ rest)).ended := by
  induction rest generalizing octets r with
  | nil => exact absurd rfl some_
  | cons o behind ih =>
    have bits : octetBits (o :: behind) = bitsOf o ++ octetBits behind := rfl
    rw [bits, stuff_append]
    cases behind with
    | nil =>
      rw [List.length_append, List.length_singleton] at long
      rw [show octetBits [] = [] from rfl, stuff, List.append_nil]
      exact ends_octet low before (by omega) complete
    | cons o' behind =>
      have now : Goes accepts (octets ++ [o]) := by
        have := goes [] o (o' :: behind) rfl (List.cons_ne_nil _ _)
        rwa [List.append_nil] at this
      have shift (l : List Octet) : octets ++ o :: l = octets ++ [o] ++ l := List.append_cons ..
      rw [shift] at long complete ⊢
      refine .after (take_octet low before now) (ih (runAfterAll_le low _) now.open_ (List.cons_ne_nil _ _) ?_ long complete)
      intro front p last split more
      have := goes (o :: front) p last (by rw [split]; rfl) more
      rwa [shift] at this

section

variable {fr : LinkFrame} (short : fr.payload.length ≤ 120)

theorem octets_length (fr : LinkFrame) : fr.octets.length = fr.payload.length + 6 := by
  simp only [LinkFrame.octets, LinkFrame.covered, crcOctets, List.length_append, List.length_cons, List.length_nil]
  omega

theorem octets_eq (fr : LinkFrame) :
    fr.octets = fr.address :: fr.kind :: fr.tag :: BitVec.ofNat 8 fr.payload.length :: (fr.payload ++ crcOctets (crc fr.covered)) := rfl

theorem prefix_get {front behind : List Octet} (split : fr.octets = front ++ behind) {i : Nat} (h : i < front.length) :
    front[i]? = fr.octets[i]? := by
  rw [split, List.getElem?_append_left h]

include short

/-- The length octet, once taken, gives the length of the payload. -/
theorem payloadLength_prefix {front behind : List Octet} (split : fr.octets = front ++ behind) (h : 4 ≤ front.length) (n : Nat) :
    (between n front).payloadLength = fr.payload.length := by
  show ((front[3]?).getD 0).toNat = _
  rw [prefix_get split h, octets_eq]
  show (BitVec.ofNat 8 fr.payload.length).toNat = _
  rw [BitVec.toNat_ofNat]
  exact Nat.mod_eq_of_lt (by omega)

theorem goes_prefix {front behind : List Octet} (split : fr.octets = front ++ behind) (more : behind ≠ [])
    (address : accepts fr.address = true) : Goes accepts front where
  address one := by
    rw [prefix_get split (by omega), octets_eq]
    exact address
  short four := by
    rw [payloadLength_prefix short split (by omega)]
    exact short
  open_ := by
    have total := congrArg List.length split
    rw [octets_length, List.length_append] at total
    have some_ := List.length_pos_of_ne_nil more
    refine Bool.and_eq_false_iff.mpr ?_
    by_cases four : 4 ≤ front.length
    · refine .inr (decide_eq_false ?_)
      show ¬front.length = _
      rw [payloadLength_prefix short split four]
      omega
    · exact .inl (decide_eq_false four)

theorem complete_octets : (between 0 fr.octets).complete = true := by
  have four : 4 ≤ fr.octets.length := by rw [octets_length]; omega
  refine Bool.and_eq_true_iff.mpr ⟨decide_eq_true four, decide_eq_true ?_⟩
  rw [payloadLength_prefix short (List.append_nil _).symm four]
  exact octets_length fr

/-- The check of a frame taken whole is that of its octets (R160, R163). -/
theorem ended_octets : (between 0 fr.octets).ended = .accepted fr := by
  have four : 4 ≤ fr.octets.length := by rw [octets_length]; omega
  have length := payloadLength_prefix short (List.append_nil fr.octets).symm four 0
  have covered : fr.covered.length = fr.payload.length + 4 := by
    simp only [LinkFrame.covered, List.length_append, List.length_cons, List.length_nil]
    omega
  have taken : fr.octets.take (fr.payload.length + 4) = fr.covered := by
    rw [LinkFrame.octets, ← covered, List.take_left]
  have check : fr.octets.drop (fr.payload.length + 4) = crcOctets (crc fr.covered) := by
    rw [LinkFrame.octets, ← covered, List.drop_left]
  have kept : ¬(between 0 fr.octets).discarding = true := Bool.false_ne_true
  unfold RxFrame.ended
  rw [if_neg kept, length]
  show (if fr.octets.drop _ = crcOctets (crc (fr.octets.take _)) then RxEvent.accepted ⟨_, _, _, (fr.octets.take _).drop 4⟩ else _) = _
  rw [taken, check, if_pos rfl]
  rfl

/-- The line bits of a frame end it, accepted, at their last one. -/
theorem ends_frame (address : accepts fr.address = true) : Ends accepts RxFrame.start fr.line (.accepted fr) := by
  have some_ : fr.octets ≠ [] := by
    rw [octets_eq]
    exact List.cons_ne_nil _ _
  have ends := ends_octets (accepts := accepts) (octets := []) (rest := fr.octets) (Nat.zero_le 6) rfl some_
    (fun front o behind split more => goes_prefix short (front := [] ++ front ++ [o]) (by simpa using split) more address)
    (by rw [List.nil_append, octets_length]; omega) (complete_octets short)
  rw [List.nil_append, ended_octets short] at ends
  exact ends

end

/-! ### The start of a frame (R163) -/

theorem receive_append (c : RxConfig) (p : RxPhase) (l l' : List Bool) :
    receive c p (l ++ l') =
      match receive c p l with
      | .inl q => receive c q l'
      | .inr e => .inr e := by
  induction l generalizing p with
  | nil => rfl
  | cons b l ih =>
    simp only [List.cons_append, receive]
    cases p.step c b with
    | inl q => exact ih q
    | inr e => rfl

theorem receive_goes {c : RxConfig} {p q : RxPhase} (h : receive c p l = .inl q) (l' : List Bool) :
    receive c p (l ++ l') = receive c q l' := by
  rw [receive_append, h]

/-- Within a frame the receiver takes line bits as the frame does. -/
theorem receive_frame (c : RxConfig) (f : RxFrame) (l : List Bool) :
    receive c (.frame f) l =
      match RxFrame.take c.accepts f l with
      | .inl g => .inl (.frame g)
      | .inr e => .inr e := by
  induction l generalizing f with
  | nil => rfl
  | cons b l ih =>
    simp only [receive, RxPhase.step, RxFrame.take]
    cases f.step c.accepts b with
    | inl g => exact ih g
    | inr e => rfl

/-- A receiver that has seen the first bits of a sync pair is aligned once it has seen the others. -/
theorem receive_hunt {c : RxConfig} {seen : List Bool} (some_ : l ≠ []) (h : seen ++ l = c.pair.bits) :
    receive c (.hunt seen) l = .inl (.aligned []) := by
  have sixteen : (seen ++ l).length = 16 := by
    rw [h]
    rfl
  induction l generalizing seen with
  | nil => exact absurd rfl some_
  | cons b l ih =>
    rw [List.length_append, List.length_cons] at sixteen
    cases l with
    | nil =>
      have all : (seen ++ [b]).length = 16 := by simpa using sixteen
      simp only [receive, RxPhase.step, if_pos all, if_pos h]
    | cons b' l =>
      have part : ¬(seen ++ [b]).length = 16 := by
        simp only [List.length_append, List.length_cons, List.length_nil] at sixteen ⊢
        omega
      have whole : seen ++ [b] ++ (b' :: l) = c.pair.bits := by rw [← h, ← List.append_cons]
      rw [receive]
      simp only [RxPhase.step, if_neg part]
      exact ih (List.cons_ne_nil _ _) whole (by rw [whole]; rfl)

/-- A group of 16 bits at an aligned receiver. -/
theorem receive_group {c : RxConfig} {group : List Bool} (some_ : l ≠ []) (sixteen : (group ++ l).length = 16) :
    receive c (.aligned group) l =
      if group ++ l = c.pair.bits then .inl (.aligned []) else receive c (.frame RxFrame.start) (group ++ l) := by
  induction l generalizing group with
  | nil => exact absurd rfl some_
  | cons b l ih =>
    cases l with
    | nil =>
      rw [receive]
      simp only [RxPhase.step, if_pos sixteen, receive]
      split_ifs with pair
      · rfl
      · rw [receive_frame]
        cases RxFrame.take c.accepts RxFrame.start (group ++ [b]) with
        | inl g => rfl
        | inr e => rfl
    | cons b' l =>
      have part : ¬(group ++ [b]).length = 16 := by
        simp only [List.length_append, List.length_cons, List.length_nil] at sixteen ⊢
        omega
      rw [receive]
      simp only [RxPhase.step, if_neg part]
      rw [ih (List.cons_ne_nil _ _) (by rw [← List.append_cons]; exact sixteen), ← List.append_cons]

/-- Line bits that fall behind the last one of a receiver's frame. -/
def EndsAt (c : RxConfig) (p : RxPhase) (l : List Bool) (e : RxEvent) : Prop :=
  ∃ before b q, l = before ++ [b] ∧ receive c p before = .inl q ∧ receive c q [b] = .inr e

theorem EndsAt.after {c : RxConfig} {p q : RxPhase} (goes : receive c p l = .inl q) (h : EndsAt c q l' e) : EndsAt c p (l ++ l') e := by
  obtain ⟨before, b, last, rfl, taken, ends⟩ := h
  exact ⟨l ++ before, b, last, (List.append_assoc ..).symm, (receive_goes goes before).trans taken, ends⟩

theorem EndsAt.receive {c : RxConfig} {p : RxPhase} (h : EndsAt c p l e) (l' : List Bool) : receive c p (l ++ l') = .inr e := by
  obtain ⟨before, b, last, rfl, taken, ends⟩ := h
  rw [List.append_assoc, receive_goes taken, receive_append, ends]

/-- Fewer bits do not end the frame. -/
theorem EndsAt.open_ {c : RxConfig} {p : RxPhase} (h : EndsAt c p l e) {n : Nat} (fewer : n < l.length) :
    ∃ q, Machine.receive c p (l.take n) = .inl q := by
  obtain ⟨before, b, last, rfl, taken, -⟩ := h
  rw [List.length_append, List.length_singleton] at fewer
  rw [List.take_append_of_le_length (Nat.le_of_lt_succ fewer)]
  have whole := receive_append c p (before.take n) (before.drop n)
  rw [List.take_append_drop, taken] at whole
  cases h : Machine.receive c p (before.take n) with
  | inl q => exact ⟨q, rfl⟩
  | inr e =>
    rw [h] at whole
    cases whole

/-- A frame begins at an aligned receiver with the group that is no sync pair. -/
theorem endsAt_aligned {c : RxConfig} (h : Ends c.accepts RxFrame.start l e) (long : 16 < l.length) (other : l.take 16 ≠ c.pair.bits) :
    EndsAt c (.aligned []) l e := by
  obtain ⟨before, b, g, rfl, taken, ends⟩ := h
  rw [List.length_append, List.length_singleton] at long
  rw [List.take_append_of_le_length (by omega)] at other
  have some_ : before.take 16 ≠ [] := List.ne_nil_of_length_pos (by rw [List.length_take]; omega)
  have sixteen : ([] ++ before.take 16).length = 16 := by rw [List.nil_append, List.length_take]; omega
  have group : receive c (.aligned []) (before.take 16) = receive c (.frame RxFrame.start) (before.take 16) := by
    rw [receive_group some_ sixteen, List.nil_append, if_neg other]
  have whole : receive c (.aligned []) before = receive c (.frame RxFrame.start) before := by
    conv_lhs => rw [← List.take_append_drop 16 before, receive_append, group, ← receive_append]
    rw [List.take_append_drop]
  refine ⟨before, b, .frame g, rfl, ?_, ?_⟩
  · rw [whole, receive_frame, taken]
  · rw [receive_frame, take_one, ends]

/-! ### A frame is no sync pair (R161, R162) -/

theorem hasSevenZeros_of (x y : List Bool) : hasSevenZeros (x ++ (List.replicate 7 false ++ y)) = true := by
  induction x with
  | nil => rfl
  | cons b x ih => rw [List.cons_append, hasSevenZeros, ih, Bool.or_true]

/-- Line bits are the data bits as long as they hold no seven zeros in a row. -/
theorem stuff_take (n : Nat) (bs : List Bool) (low : r ≤ 6) :
    (stuff r bs).take n = bs.take n ∨
      ∃ x y, List.replicate r false ++ (stuff r bs).take n = x ++ (List.replicate 7 false ++ y) := by
  induction bs generalizing r n with
  | nil => exact .inl rfl
  | cons b bs ih =>
    cases n with
    | zero => exact .inl rfl
    | succ n =>
      cases b with
      | true =>
        show true :: (stuff 0 bs).take n = true :: bs.take n ∨ ∃ x y, List.replicate r false ++ true :: (stuff 0 bs).take n = _
        obtain same | ⟨x, y, zeros⟩ := ih n (Nat.zero_le 6)
        · exact .inl (congrArg _ same)
        · rw [List.replicate_zero, List.nil_append] at zeros
          exact .inr ⟨List.replicate r false ++ true :: x, y, by rw [zeros, List.append_assoc, List.cons_append]⟩
      | false =>
        by_cases seventh : r + 1 = 7
        · obtain rfl : r = 6 := by omega
          exact .inr ⟨[], _, rfl⟩
        · have line : stuff r (false :: bs) = false :: stuff (r + 1) bs := by simp only [stuff, seventh, if_false]
          rw [line, List.take_succ_cons, List.take_succ_cons]
          obtain same | ⟨x, y, zeros⟩ := ih n (show r + 1 ≤ 6 by omega)
          · exact .inl (congrArg _ same)
          · rw [List.replicate_succ', List.append_assoc] at zeros
            exact .inr ⟨x, y, zeros⟩

theorem bitsOf_injective {o o' : Octet} (h : bitsOf o = bitsOf o') : o = o' := by
  rw [← octetOf_bitsOf o, ← octetOf_bitsOf o', h]

/-- The first 16 line bits of a frame are no valid sync pair: unlimited they would show the kind octet, whose highest bits are clear, in
the place of the second octet, and limited they hold seven zeros in a row (R161, R162). -/
theorem line_take_ne {pair : SyncPair} {fr : LinkFrame} (valid : pair.valid = true) (kind : (fr.kind &&& 0xE0#8) = 0#8) :
    fr.line.take 16 ≠ pair.bits := by
  intro same
  simp only [SyncPair.valid, Bool.and_eq_true, Bool.not_eq_true', bne_iff_ne] at valid
  obtain ⟨⟨zeros, high⟩, -⟩ := valid
  have data : (octetBits fr.octets).take 16 = bitsOf fr.address ++ bitsOf fr.kind := rfl
  obtain plain | ⟨x, y, limited⟩ := stuff_take 16 (octetBits fr.octets) (Nat.zero_le 6)
  · have octets : bitsOf fr.address ++ bitsOf fr.kind = bitsOf pair.first ++ bitsOf pair.second := data.symm.trans (plain.symm.trans same)
    have second := bitsOf_injective (List.append_inj octets rfl).2
    exact high (by rw [← second, kind])
  · rw [List.replicate_zero, List.nil_append] at limited
    have held := hasSevenZeros_of x (y ++ pair.bits)
    rw [← List.append_assoc (List.replicate 7 false), ← List.append_assoc, ← limited, show (stuff 0 (octetBits fr.octets)).take 16 = _ from same, zeros] at held
    cases held

theorem lineOf_length (r : Nat) (b : Bool) : 1 ≤ (lineOf r b).length := by
  unfold lineOf
  split_ifs <;> decide

theorem length_le_stuff (r : Nat) (bs : List Bool) : bs.length ≤ (stuff r bs).length := by
  induction bs generalizing r with
  | nil => exact Nat.zero_le _
  | cons b bs ih =>
    have one := lineOf_length r b
    have rest := ih (runAfter r b)
    rw [stuff_cons, List.length_append, List.length_cons]
    omega

theorem line_length (fr : LinkFrame) : 16 < fr.line.length := by
  have bits : 17 ≤ (octetBits fr.octets).length := by
    rw [octets_eq]
    simp only [octetBits, List.flatMap_cons, List.length_append, bitsOf, List.length_cons, List.length_nil]
    omega
  exact lt_of_lt_of_le bits (length_le_stuff ..)

/-! ### What the transmitter sends -/

theorem receive_pairs (c : RxConfig) (n : Nat) : receive c (.aligned []) (c.pair.idle n) = .inl (.aligned []) := by
  induction n with
  | zero => rfl
  | succ n ih =>
    have step : receive c (.aligned []) c.pair.bits = .inl (.aligned []) := by
      rw [receive_group (group := []) (l := c.pair.bits) (List.cons_ne_nil _ _) rfl, List.nil_append, if_pos rfl]
    have more : c.pair.idle (n + 1) = c.pair.bits ++ c.pair.idle n := by
      rw [SyncPair.idle, List.replicate_succ, List.flatten_cons]
      rfl
    rw [more, receive_goes step, ih]

theorem receive_idle (c : RxConfig) (n : Nat) : receive c (.hunt []) (c.pair.idle (n + 1)) = .inl (.aligned []) := by
  have first : receive c (.hunt []) c.pair.bits = .inl (.aligned []) := receive_hunt (List.cons_ne_nil _ _) rfl
  have more : c.pair.idle (n + 1) = c.pair.bits ++ c.pair.idle n := by
    rw [SyncPair.idle, List.replicate_succ, List.flatten_cons]
    rfl
  rw [more, receive_goes first, receive_pairs]

/-- Sync pairs and a frame end at the receiver with the frame's last line bit. -/
theorem endsAt_line {pair : SyncPair} {fr : LinkFrame} (n : Nat) (valid : pair.valid = true) (address : accepts fr.address = true)
    (kind : (fr.kind &&& 0xE0#8) = 0#8) (short : fr.payload.length ≤ 120) :
    EndsAt ⟨pair, accepts⟩ (.hunt []) (pair.idle (n + 1) ++ fr.line) (.accepted fr) :=
  .after (receive_idle ⟨pair, accepts⟩ n) (endsAt_aligned (ends_frame short address) (line_length fr) (line_take_ne valid kind))

/-- Settles O35: the frame's last line bit ends it, accepted, and what follows is not read. -/
theorem receiverTakesWhatTheTransmitterSends : Obligations.ReceiverTakesWhatTheTransmitterSends := by
  intro pair accepts fr n after valid address kind short many
  obtain ⟨n, rfl⟩ : ∃ k, n = k + 1 := ⟨n - 1, by omega⟩
  exact (endsAt_line n valid address kind short).receive after

end Sys2Proof.Proofs.LineCode
end

section
/-! PROOFS. LINK SET, LINK_SETTINGS_APPLY AND LINK TEST (R162, R168): the settings and their refusals, the request of a test and its run; and
which sync pairs before the test frame still let it pass. -/
namespace Sys2Proof.Proofs.LinkRequests

open Sys2Proof Sys2Proof.Machine Sys2Proof.Safety Sys2Proof.Laws Sys2Proof.Proofs.RecordReads Sys2Proof.Proofs.Reads
open Sys2Proof.Proofs.BearerRequests Sys2Proof.Proofs.DoorRequests Sys2Proof.Proofs.MalformedRequests
open Sys2Proof.Proofs.BroadcastRequests Sys2Proof.Proofs.Reception Sys2Proof.Proofs.LineCode

variable {s t u : State} {f : RequestFrame} {rest : List RequestFrame} {x y : Octet} {m : LinkMode} {r : Nat} {line : List Bool}

/-! ### LINK SET -/

theorem linkSetBody_invalid {a : LinkSetArgs} (h : SyncPair.valid ⟨a.first, a.second⟩ = false) : linkSetBody a t = refuse .format t := by
  unfold linkSetBody
  dsimp only
  rw [h]
  rfl

theorem linkSetBody_mode (h : SyncPair.valid ⟨x, y⟩ = true) :
    linkSetBody ⟨1, x, y, .mode (some m)⟩ t =
      ({ t with p1 := { t.p1 with pair := ⟨x, y⟩, mode := m } }, ⟨.ok, .link1 ⟨x, y⟩ m, .linkSettings ⟨x, y⟩ m⟩) := by
  unfold linkSetBody
  dsimp only
  rw [h]
  rfl

theorem linkSetBody_rate (h : SyncPair.valid ⟨x, y⟩ = true) :
    linkSetBody ⟨2, x, y, .rate r⟩ t =
      if r ∈ bitRates then
        ({ t with p2 := { t.p2 with pair := ⟨x, y⟩, rate := r, newSettings := true } }, .ok (.link2 ⟨x, y⟩ r))
      else refuse .format t := by
  unfold linkSetBody
  dsimp only
  rw [h]
  simp only [← List.contains_iff_mem]
  rfl

theorem exec_linkSet_mode (w : WaitsWith s f rest 0x90) (h : SyncPair.valid ⟨x, y⟩ = true) :
    Accepted (exec (.linkSet (some ⟨1, x, y, .mode (some m)⟩)) s)
      { taken s rest with p1 := { (taken s rest).p1 with pair := ⟨x, y⟩, mode := m } } f 0x90 (.link1 ⟨x, y⟩ m)
      (.linkSettings ⟨x, y⟩ m) := by
  have body := linkSetBody_mode (m := m) (t := taken s rest) h
  exact serveFields_accepted w rfl _ linkSetBody body rfl rfl rfl

theorem exec_linkSet_rate (w : WaitsWith s f rest 0x90) (h : SyncPair.valid ⟨x, y⟩ = true) (known : r ∈ bitRates) :
    Accepted (exec (.linkSet (some ⟨2, x, y, .rate r⟩)) s)
      { taken s rest with p2 := { s.p2 with pair := ⟨x, y⟩, rate := r, newSettings := true } } f 0x90 (.link2 ⟨x, y⟩ r) .nothing := by
  have body := (linkSetBody_rate (t := taken s rest) h).trans (if_pos known)
  exact serveFields_accepted w rfl _ linkSetBody body rfl rfl rfl

theorem exec_linkSet_unknownRate (w : WaitsWith s f rest 0x90) (h : SyncPair.valid ⟨x, y⟩ = true) (unknown : r ∉ bitRates) :
    exec (.linkSet (some ⟨2, x, y, .rate r⟩)) s = .next (refused s f rest 0x90 .format) :=
  serveFields_refused w rfl _ linkSetBody .format ((linkSetBody_rate (t := taken s rest) h).trans (if_neg unknown))

theorem exec_linkSet_invalid {a : LinkSetArgs} (w : WaitsWith s f rest 0x90) (h : SyncPair.valid ⟨a.first, a.second⟩ = false) :
    exec (.linkSet (some a)) s = .next (refused s f rest 0x90 .format) :=
  serveFields_refused w rfl a linkSetBody .format (linkSetBody_invalid (t := taken s rest) h)

theorem exec_linkSettingsApply (runs : Runs s) (new : s.p2.newSettings = true) (free : s.loop.current = none) :
    exec .linkSettingsApply s =
      .next { s with p2 := { s.p2 with usedPair := s.p2.pair, usedRate := s.p2.rate, newSettings := false } } := by
  have due : (s.running && s.p2.newSettings && s.loop.current.isNone) = true := by
    rw [running_of runs, new, free]
    rfl
  exact congrArg Host.Outcome.next (if_pos due)

/-! ### LINK TEST -/

theorem exec_linkTest_waits (w : Waits s f rest 0x92) (one : f.payload.length = 1) :
    exec .linkTest s = .next { taken s rest with sup := { s.sup with linkTest := some f } } := by
  rw [exec_linkTest_taken w, if_pos one]

/-- The part with its LINK TEST answered. -/
def inService (s : State) : State := { s with sup := { s.sup with linkTest := none } }

/-- The state a test's result leaves, but for the notices of its alarm: a failure holds port 2 OFF with PORT_FAULT, a pass brings it back. -/
def tested (s : State) (pass : Bool) : State :=
  match s.p2.heldOff, pass with
  | false, false =>
    { inService s with
      p2 := { s.p2 with heldOff := true, rx := .off, tx := .off }
      alarms := (s.raiseAlarm (.forPoint 0 2)).alarms }
  | true, true =>
    { inService s with
      p2 := { s.p2 with heldOff := false, rx := .hunting, tx := .idle }
      alarms := (s.alarmGone (.forPoint 0 2)).alarms }
  | false, true => { inService s with p2 := { s.p2 with rx := .hunting } }
  | true, false => inService s

/-- A test's result leaves the alarm outputs and the notices to the end of its event. -/
theorem linkTested_eq (s : State) (pass : Bool) : ∃ d, (inService s).linkTested pass = { tested s pass with due := d } := by
  have held : (inService s).p2.heldOff = s.p2.heldOff := rfl
  unfold State.linkTested tested
  rw [held]
  cases s.p2.heldOff with
  | false =>
    cases pass with
    | false =>
      exact ⟨_, raiseAlarm_acts (s := s) (t := { inService s with p2 := { s.p2 with heldOff := true, rx := .off, tx := .off } })
        (portFault 2) rfl rfl⟩
    | true => exact ⟨s.due, rfl⟩
  | true =>
    cases pass with
    | false => exact ⟨s.due, rfl⟩
    | true =>
      exact ⟨_, alarmsGone_acts (s := s) (t := { inService s with p2 := { s.p2 with heldOff := false, rx := .hunting, tx := .idle } }) _ rfl⟩

theorem tested_bank (s : State) (pass : Bool) : (tested s pass).bank = s.bank := by
  unfold tested
  split <;> rfl

/-- The run of a LINK TEST, answered to its own address alone (R168, R170). -/
theorem exec_linkTestRun (runs : Runs s) (asked : s.sup.linkTest = some f) (free : s.loop.current = none)
    (settings : s.p2.newSettings = false) :
    ∃ t,
      (f.address ≠ 255 → exec (.linkTestRun line) s =
        .next (answered t f 0x92 .ok (.testResult (loopbackPasses s.p2.usedPair .fieldLoop line)) .nothing)) ∧
      (f.address = 255 → exec (.linkTestRun line) s = .next t) ∧
      UpToOutputs (tested s (loopbackPasses s.p2.usedPair .fieldLoop line)) t := by
  have may : (s.running && s.loop.current.isNone && !s.p2.newSettings) = true := by
    rw [running_of runs, free, settings]
    rfl
  have ran : exec (.linkTestRun line) s = .next ((inService s).carryOut f 0x92 fun _ t =>
      (t.linkTested (loopbackPasses s.p2.usedPair .fieldLoop line), .ok (.testResult (loopbackPasses s.p2.usedPair .fieldLoop line)))) := by
    show execLinkTestRun line s = _
    unfold execLinkTestRun
    rw [asked]
    dsimp only
    rw [if_pos may]
    rfl
  obtain ⟨d, result⟩ := linkTested_eq s (loopbackPasses s.p2.usedPair .fieldLoop line)
  have bank : ((inService s).linkTested (loopbackPasses s.p2.usedPair .fieldLoop line)).bank = s.bank := by
    rw [result]
    exact tested_bank s _
  refine ⟨_, fun addressed => ran.trans (congrArg _ (answer_eq _ _ addressed)), fun all => ran.trans (congrArg _ ?_),
    upToOutputs_due (finish_upToOutputs (congrArg (·.coverage) bank)) ?_⟩
  · exact (answer_broadcast all ..).trans (applyNow_nothing _)
  · dsimp only
    rw [result]

/-! ### What the test still passes with -/

theorem testFrame_kind (p : Port) : ((testFrame p).kind &&& 0xE0#8) = 0#8 := by
  cases p <;> rfl

theorem testFrame_short (p : Port) : (testFrame p).payload.length = 120 := by
  cases p <;> rfl

theorem idle_length (pair : SyncPair) (n : Nat) : (pair.idle n).length = 16 * n := by
  induction n with
  | zero => rfl
  | succ n ih =>
    have more : pair.idle (n + 1) = pair.bits ++ pair.idle n := by
      rw [SyncPair.idle, List.replicate_succ, List.flatten_cons]
      rfl
    have bits : pair.bits.length = 16 := rfl
    rw [more, List.length_append, ih, bits]
    omega

/-- A frame behind sync pairs is taken as long as its last line bit falls within the bits that are looked at. -/
theorem receive_take_iff {pair : SyncPair} {accepts : Octet → Bool} {fr : LinkFrame} {n : Nat} (after : List Bool)
    (valid : pair.valid = true) (address : accepts fr.address = true) (kind : (fr.kind &&& 0xE0#8) = 0#8)
    (short : fr.payload.length ≤ 120) (many : 2 ≤ n) :
    receive ⟨pair, accepts⟩ (.hunt []) ((pair.idle n ++ fr.line ++ after).take (96 + fr.line.length)) = .inr (.accepted fr) ↔
      n ≤ 6 := by
  obtain ⟨k, rfl⟩ : ∃ k, n = k + 1 := ⟨n - 1, by omega⟩
  have ends := endsAt_line k valid address kind short
  have length : (pair.idle (k + 1) ++ fr.line).length = 16 * (k + 1) + fr.line.length := by
    rw [List.length_append, idle_length]
  constructor
  · intro accepted
    by_contra more
    rw [List.take_append_of_le_length (by omega)] at accepted
    obtain ⟨q, open_⟩ := ends.open_ (n := 96 + fr.line.length) (by omega)
    rw [open_] at accepted
    cases accepted
  · intro few
    rw [List.take_append, List.take_of_length_le (by omega)]
    exact ends.receive _

theorem testLine_length (pair : SyncPair) (p : Port) : (testLine pair p).length = 96 + (testFrame p).line.length := by
  unfold testLine
  generalize (testFrame p).line = line
  simp only [List.length_append, idle_length]
  omega

/-- A test passes on the frame behind two to six sync pairs (R168). -/
theorem loopbackPasses_iff {pair : SyncPair} (p : Port) {n : Nat} (after : List Bool) (valid : pair.valid = true) (many : 2 ≤ n) :
    loopbackPasses pair p (pair.idle n ++ (testFrame p).line ++ after) = true ↔ n ≤ 6 := by
  rw [loopbackPasses, decide_eq_true_iff, testLine_length]
  exact receive_take_iff after valid rfl (testFrame_kind p) (testFrame_short p).le many

/-- Settles O38: LINK SET on each port, the settings' coming into use, and LINK TEST from its request to its result. -/
theorem linkSettingsAndLinkTest : Obligations.LinkSettingsAndLinkTest := by
  unfold Obligations.LinkSettingsAndLinkTest
  refine ⟨fun s f rest => ⟨fun x y m w valid => ?_, fun x y r w valid => ⟨fun known => ?_, fun unknown => ?_⟩,
      fun a w invalid => exec_linkSet_invalid w invalid, exec_linkSettingsApply⟩,
    fun s f rest => ⟨fun w => ⟨exec_linkTest_waits w, fun long => exec_bare_malformed w rfl long⟩,
      fun line runs asked free settings => ?_⟩,
    fun pair p n after valid many => loopbackPasses_iff p after valid many⟩
  · have accepted := exec_linkSet_mode (m := m) w valid
    exact accepted
  · have accepted := exec_linkSet_rate w valid known
    exact accepted
  · have refusal := exec_linkSet_unknownRate w valid unknown
    exact refusal
  · have ran := exec_linkTestRun (line := line) runs asked free settings
    generalize loopbackPasses s.p2.usedPair .fieldLoop line = pass at ran ⊢
    obtain ⟨t, addressed, all, result⟩ := ran
    refine ⟨t, addressed, all, ?_⟩
    unfold tested at result
    revert result
    cases s.p2.heldOff with
    | false =>
      cases pass with
      | false => exact id
      | true => exact id
    | true =>
      cases pass with
      | false => exact id
      | true => exact id

end Sys2Proof.Proofs.LinkRequests
end

section
/-! PROOFS. THE COLD START (R175, R176): on a part whose retained items are all at their cold-start values each block's start leaves its
records as they are, but for TABLES_LOST and the SITE notice. -/
namespace Sys2Proof.Proofs.ColdStart

open Sys2Proof Sys2Proof.Machine Sys2Proof.Safety Sys2Proof.Laws

variable {s w : State}

theorem vgen_const {α : Type} {n : Nat} {f : Fin n → α} {x : α} (h : ∀ i, f i = x) : vgen f = Vector.replicate n x := by
  refine Vector.ext fun i hi => ?_
  rw [vgen_get, h, Vector.getElem_replicate]

theorem foldl_none {α : Type} {g : State → α → State} {l : List α} {p : α → Bool} (h : ∀ x ∈ l, p x = false) (s : State) :
    (l.filter p).foldl g s = s := by
  rw [List.filter_eq_nil_iff.mpr fun x hx => by rw [h x hx]; exact Bool.false_ne_true]
  rfl

/-- The records of the part are those of a cold start. -/
structure Fresh (w : State) : Prop where
  bt : w.bt = .cold
  clk : w.clk = .cold
  roll : w.roll = .cold
  doors : w.doors = Vector.replicate 16 .cold
  zones : w.zones = Vector.replicate 16 .cold
  bank : w.bank = .cold
  profiles : w.sup.profiles = Vector.replicate 16 .default
  inhibit : w.lines.inhibit = false

namespace Fresh

variable (h : Fresh w)

include h

theorem zone (z : Room) : w.zones[z] = .cold := by simp [h.zones]

theorem profile (z : Room) : w.sup.profiles[z] = .default := by simp [h.profiles]

theorem room (r : Room) : w.roll.rooms[r] = ⟨[], false⟩ := by simp [h.roll, Roll.cold]

theorem headCount (r : Room) : w.headCount r = 0 := by
  rw [State.headCount, h.room]
  rfl

theorem occupied (r : Room) : w.occupied r = false := by
  rw [State.occupied, h.headCount, h.room]
  rfl

/-- Schedule 0 alone is in force while the clock is UNSET (R31). -/
theorem inForce : vgen w.evaluateSchedule = w.clk.inForce := by
  have unset : w.clk.isSet = false := by rw [h.clk]; rfl
  have cold : w.clk.inForce = (Vector.replicate 64 false).set 0 true := by rw [h.clk]; rfl
  rw [cold]
  refine Vector.ext fun i hi => ?_
  rw [vgen_get, Vector.getElem_set, State.evaluateSchedule, unset]
  by_cases first : i = 0
  · subst first
    rfl
  · rw [if_neg (fun eq => first (congrArg Fin.val eq)), if_neg (Ne.symm first), Vector.getElem_replicate]
    rfl

theorem startClock : w.startClock = w.owe (.object .site) := by
  have holiday : isHoliday w.bt.holidays w.clk.date = w.clk.holidayToday := by
    rw [h.bt, h.clk]
    rfl
  have none_ : w.takeHoliday = w := by
    unfold State.takeHoliday
    rw [holiday]
  have unset : w.clk.isSet = false := by rw [h.clk]; rfl
  have closed : w.clk.siteState = .afterHours := by rw [h.clk]; rfl
  have site : w.startSite = w.clk.siteState := by
    rw [closed, State.startSite, unset]
    rfl
  unfold State.startClock
  rw [none_]
  dsimp only
  rw [h.inForce, site]

theorem startBearers : w.startBearers = w := by
  unfold State.startBearers
  rw [h.bt]
  rfl

theorem startRoll : w.startRoll = w := by
  have rooms_ : (vgen fun r => ({ w.roll.rooms[r] with unreconciled := w.roll.rooms[r].unreconciled || 0 < w.headCount r } : RoomRecord)) =
      w.roll.rooms := by
    have cold : w.roll.rooms = Vector.replicate 16 ⟨[], false⟩ := by rw [h.roll]; rfl
    rw [cold]
    refine vgen_const fun r => ?_
    rw [h.headCount, ← cold, h.room]
    rfl
  have lapsed (r : Room) : w.lapsedCount r = 0 := by
    rw [State.lapsedCount, State.entriesIn, h.room]
    rfl
  unfold State.startRoll
  dsimp only
  rw [rooms_]
  have marked : rooms.filter (fun r => w.roll.rooms[r].unreconciled) = [] :=
    List.filter_eq_nil_iff.mpr fun r _ => by rw [h.room]; exact Bool.false_ne_true
  rw [marked, List.foldl_nil, foldl_none fun r _ => decide_eq_false (by rw [lapsed]; exact Nat.lt_irrefl 0)]
  exact foldl_none (p := w.occupied) (fun r _ => h.occupied r) w

theorem startZones : w.startZones false = w := by
  have zones_ : (vgen fun z => ({ w.zones[z] with holds := w.deriveHolds z } : Zone)) = w.zones := by
    rw [h.zones]
    refine vgen_const fun z => ?_
    rw [State.deriveHolds, h.occupied, h.inhibit, ← h.zones, h.zone]
    rfl
  have none_ (u : State) (z : Room) (zone : u.zones[z] = .cold) : u.zoneConditions z = u := by
    rw [State.zoneConditions, zone]
    rfl
  unfold State.startZones
  dsimp only
  rw [zones_, if_neg Bool.false_ne_true]
  exact List.foldlRecOn (motive := fun u => u = w) rooms State.zoneConditions rfl fun u same z _ => by
    rw [same]
    exact none_ w z (h.zone z)

theorem startBank : w.startBank false [] = w := by
  have coverage : vgen w.coverageOf = w.bank.coverage := by
    have cold : w.bank.coverage = Vector.replicate 16 .cold := by rw [h.bank]; rfl
    rw [cold]
    refine vgen_const fun z => ?_
    rw [State.coverageOf, h.profile, h.zone]
    rfl
  have sufficient (z : Room) : w.bank.coverage[z].isShort = false := by
    have cold : w.bank.coverage[z] = .cold := by simp [h.bank, AgentBank.cold]
    rw [cold]
    rfl
  have refreshed : w.refreshAll = w := by
    unfold State.refreshAll
    rw [coverage]
  unfold State.startBank
  dsimp only
  rw [refreshed, foldl_none fun z _ => sufficient z, if_neg Bool.false_ne_true]
  rfl

theorem timeLock (r : Room) : w.timeLockOf r = false := by
  have none_ : w.sup.profiles[r].timeLock = 0 := by
    rw [h.profile]
    rfl
  rw [State.timeLockOf, decide_eq_false (not_not.mpr none_)]
  rfl

theorem startDoors : w.startDoors = w := by
  have doors_ : (vgen fun r => { Door.cold with timeLock := w.timeLockOf r, closeDemand := w.zones[r].state.demand }) = w.doors := by
    rw [h.doors]
    refine vgen_const fun r => ?_
    rw [h.timeLock, h.zone]
    rfl
  unfold State.startDoors
  rw [doors_]

theorem startLone : w.startLone = w := by
  have none_ : w.roll.entries = [] := by rw [h.roll]; rfl
  unfold State.startLone State.setEntries
  rw [none_]
  show { w with roll := { w.roll with entries := [] } } = w
  rw [← none_]

end Fresh

/-! ### The whole start -/

/-- The part at its cold-start values, with what waits behind the command. -/
def coldPart (pending : List Instr) : State := { State.cold with pending := pending }

/-- The part once TABLES_LOST has been raised and the SITE notice is owed. -/
def coldStarted (pending : List Instr) : State := ((coldPart pending).raiseAlarm (.bare .tablesLost)).owe (.object .site)

theorem coldStarted_eq (pending : List Instr) :
    coldStarted pending =
      { State.cold with
        pending := pending
        alarms := { records := [⟨.bare .tablesLost, .active, .zeros, 0⟩], overflow := false, general := false, fault := false }
        due := [.notice (.alarm (.bare .tablesLost) (.standing .active) .fault 0 .zeros), .object .site] } := rfl

theorem startBlocks_cold (pending : List Instr) : (coldPart pending).startBlocks false true true [] = coldStarted pending := by
  have raised : Fresh ((coldPart pending).raiseAlarm (.bare .tablesLost)) := ⟨rfl, rfl, rfl, rfl, rfl, rfl, rfl, rfl⟩
  have started : Fresh (coldStarted pending) := ⟨rfl, rfl, rfl, rfl, rfl, rfl, rfl, rfl⟩
  have owed : ((coldPart pending).raiseAlarm (.bare .tablesLost)).owe (.object .site) = coldStarted pending := rfl
  have good : (coldStarted pending).lines.mainsOk = true := rfl
  unfold State.startBlocks
  simp only [Bool.false_eq_true, if_true, if_false]
  rw [raised.startClock, owed, started.startBearers, started.startRoll, started.startZones, started.startBank, started.startDoors,
    started.startLone, if_pos good]

/-- The end of a start, by the state that its notices leave. -/
theorem startEnds_of {u : State}
    (h : s.due.foldl State.payDue
      { s with alarms := { s.alarms with general := s.alarms.deriveGeneral, fault := s.alarms.deriveFault }, due := [] } = u) :
    s.startEnds = { u with sup := { u.sup with checkValue := u.retained.check } } := by
  rw [← h]
  rfl

/-- The state after reset but for the check value, with what waits behind the command. -/
def notified (pending : List Instr) : State := { State.reset with pending := pending, sup := State.cold.sup }

theorem startEnds_cold (pending : List Instr) : (coldStarted pending).startEnds = { State.reset with pending := pending } := by
  have ends : (coldStarted pending).startEnds = { notified pending with
      sup := { (notified pending).sup with checkValue := (notified pending).retained.check } } := startEnds_of rfl
  have retained : (notified pending).retained = State.cold.retained := rfl
  rw [ends, retained]
  rfl

theorem exec_powerUp_cold {line1 line2 : List Bool} (lines : s.lines = ⟨false, true, true, true, false⟩)
    (pass1 : loopbackPasses s.p1.pair .supervisor line1 = true) (pass2 : loopbackPasses s.p2.pair .fieldLoop line2 = true) :
    exec (.powerUp line1 line2) s = .next { State.reset with pending := s.pending } := by
  have off : ¬s.lines.mainOn = true := by rw [lines]; exact Bool.false_ne_true
  have high : s.lines.resetHigh = true := by rw [lines]
  have powered : exec (.powerUp line1 line2) s = .next
      (({ s with lines := { s.lines with mainOn := true } } : State).startUp .powerUp line1 line2) :=
    congrArg Host.Outcome.next ((if_neg off).trans (if_pos high))
  have cold : ({ s with lines := { s.lines with mainOn := true } } : State).startsCold = true := by
    rw [State.startsCold, lines, Bool.or_true]
  have lost : ({ s with lines := { s.lines with mainOn := true } } : State).lost = coldPart s.pending := by
    rw [lines]
    rfl
  rw [powered, State.startUp]
  dsimp only
  rw [pass1, pass2, cold, lost]
  have ports : (coldPart s.pending).startPorts true true = coldPart s.pending := rfl
  simp only [if_true, Bool.not_true]
  rw [ports, startBlocks_cold, startEnds_cold]

/-- Settles O44: the start of each block on cold values, and the values after it. -/
theorem coldStartGivesTheResetState : Obligations.ColdStartGivesTheResetState := by
  refine ⟨fun s line1 line2 lines pass1 pass2 => exec_powerUp_cold lines pass1 pass2, rfl, rfl, ?_, rfl, rfl, rfl, rfl, rfl, rfl, rfl,
    fun d => ?_, fun z => ?_, fun p => ⟨?_, ?_⟩, fun a => ?_, rfl, rfl, rfl, rfl, ⟨_, List.mem_singleton_self _, rfl⟩⟩
  · rfl
  · simp [State.reset, State.cold, Door.cold]
  · simp [State.reset, State.cold, Zone.cold]
  · simp [State.reset, State.cold, AgentBank.cold, Cylinder.cold]
  · simp [State.reset, State.cold, AgentBank.cold]
  · simp [State.reset, State.cold, LoopMaster.cold, Station.cold]

end Sys2Proof.Proofs.ColdStart
end

section
/-! PROOFS. THE WARM START (R37, R74, R75, R111, R112, R131, R146, R147, R175, R176): with retained memory valid each way to start keeps it. A
start is the start of the blocks on the state they start from and the end of the sequence; each field of the state it leaves is read from
there. -/
namespace Sys2Proof.Proofs.WarmStarts

open Sys2Proof Sys2Proof.Machine Sys2Proof.Safety Sys2Proof.Laws
open Sys2Proof.Proofs.Evaluation Sys2Proof.Proofs.AlarmTable Sys2Proof.Proofs.ZoneMoves Sys2Proof.Proofs.Reception
open Sys2Proof.Proofs.MalformedRequests
open Sys2Proof.Proofs.Starts (startedDoors startedBearers startedRoom loneLoaded startBase startUp_blocks startBlocks_eq startedDoors_frame)

variable {s t u : State} {k : AlarmKey} {cause : RestartCause} {line1 line2 : List Bool}

/-! ### A record that stands, unless the table has filled up -/

/-- The table is within its 64 records, and holds the kind-and-key unless it is full. -/
structure StandsOrFull (k : AlarmKey) (s : State) : Prop where
  within : s.alarms.records.length ≤ 64
  stands : s.alarms.records.length < 64 → Stands s k

theorem StandsOrFull.congr (h : StandsOrFull k s) (same : t.alarms.records = s.alarms.records) : StandsOrFull k t where
  within := by rw [same]; exact h.within
  stands room := by
    rw [same] at room
    simpa only [Stands, same] using h.stands room

theorem victim_mem {rs : List AlarmRecord} {p : Priority} {v : AlarmRecord} (hv : victim? rs p = some v) : v ∈ rs := by
  obtain ⟨test, -, found⟩ := List.exists_of_findSome?_eq_some hv
  exact List.mem_of_find?_eq_some found

/-- A raise keeps a table of 64 records at 64. -/
theorem raiseAlarm_full (full : s.alarms.records.length = 64) : (s.raiseAlarm k).alarms.records.length = 64 := by
  cases found : s.alarms.records.find? (fun x => x.key = k) with
  | some r => rw [raiseAlarm_again found, List.length_map, full]
  | none =>
    have new : ∀ x ∈ s.alarms.records, x.key ≠ k := by simpa using found
    cases hv : victim? s.alarms.records k.kind.priority with
    | some v =>
      have member : v ∈ s.alarms.records := victim_mem hv
      rw [raiseAlarm_evicts new full hv]
      simp only [List.length_append, List.length_singleton, List.length_erase_of_mem member, full]
    | none => rw [raiseAlarm_notStored new full hv, full]

theorem StandsOrFull.raise (h : StandsOrFull k s) (k' : AlarmKey) : StandsOrFull k (s.raiseAlarm k') := by
  by_cases full : s.alarms.records.length = 64
  · have still := raiseAlarm_full (k := k') full
    exact ⟨still.le, fun room => absurd still (Nat.ne_of_lt room)⟩
  · have within := h.within
    have keeps := raiseAlarm_keepsAlarm (k := k) s k'
    exact ⟨keeps.length.trans (by omega), fun _ => keeps.stands (by omega) (h.stands (by omega))⟩

theorem StandsOrFull.foldl {α : Type} {g : State → α → State} (keeps : ∀ u x, StandsOrFull k u → StandsOrFull k (g u x)) {l : List α}
    (h : StandsOrFull k s) : StandsOrFull k (l.foldl g s) :=
  List.foldlRecOn (motive := StandsOrFull k) l g h fun u hu x _ => keeps u x hu

theorem StandsOrFull.raises {α : Type} (h : StandsOrFull k s) (l : List α) (g : α → AlarmKey) :
    StandsOrFull k (l.foldl (fun u x => State.raiseAlarm u (g x)) s) :=
  .foldl (fun _ _ hu => hu.raise _) h

theorem StandsOrFull.owes {α : Type} (h : StandsOrFull k s) (l : List α) (g : α → Due) :
    StandsOrFull k (l.foldl (fun u x => State.owe u (g x)) s) :=
  .foldl (fun u x hu => hu.congr (t := u.owe (g x)) rfl) h

/-! ### The blocks on the alarm table -/

theorem startBearers_stands (h : StandsOrFull k s) : StandsOrFull k s.startBearers := by
  unfold State.startBearers
  exact (h.raises ..).raises ..

theorem startRoll_stands (h : StandsOrFull k s) : StandsOrFull k s.startRoll := by
  unfold State.startRoll
  extract_lets mark roll s1 marked s2 s3
  have start : StandsOrFull k s1 := h.congr rfl
  exact ((start.raises ..).raises ..).owes ..

theorem zoneConditions_stands (h : StandsOrFull k s) (z : Room) : StandsOrFull k (s.zoneConditions z) := by
  unfold State.zoneConditions
  dsimp only
  split
  · split
    · exact h.raise _
    · exact h
  · split
    · exact (h.raise _).raise _
    · exact h.raise _
  · exact h

theorem startZones_stands (h : StandsOrFull k s) (warm : Bool) : StandsOrFull k (s.startZones warm) := by
  unfold State.startZones
  extract_lets s1 s2
  have start : StandsOrFull k s1 := h.congr rfl
  have conditions : StandsOrFull k s2 := .foldl (fun _ z hu => zoneConditions_stands hu z) start
  split
  · exact conditions.owes ..
  · exact conditions

theorem startBank_stands (h : StandsOrFull k s) (warm : Bool) (changed : List Pos) : StandsOrFull k (s.startBank warm changed) := by
  unfold State.startBank
  extract_lets s1 s2 s3
  have start : StandsOrFull k s1 := h.congr rfl
  have notices : StandsOrFull k s3 := (start.raises ..).owes ..
  split
  · exact notices.owes ..
  · exact notices

theorem StandsOrFull.unless (h : StandsOrFull k s) (p : Bool) (k' : AlarmKey) :
    StandsOrFull k (if p then s else s.raiseAlarm k') := by
  cases p with
  | false => exact h.raise k'
  | true => exact h

/-- A start on an emptied table has raised RESTARTED first of all (R176). -/
theorem startBlocks_stands (empty : s.alarms.records = []) (pass1 pass2 : Bool) (changed : List Pos) :
    StandsOrFull (.bare .restarted) (s.startBlocks true pass1 pass2 changed) := by
  have raised : StandsOrFull (.bare .restarted) (s.raiseAlarm (.bare .restarted)) := by
    have none_ : ∀ r ∈ s.alarms.records, r.key ≠ .bare .restarted := by
      rw [empty]
      exact fun r hr => absurd hr List.not_mem_nil
    have room : s.alarms.records.length < 64 := by
      rw [empty]
      exact Nat.zero_lt_succ 63
    have records : (s.raiseAlarm (.bare .restarted)).alarms.records = [⟨.bare .restarted, .active, s.clk.stamp, 0⟩] := by
      rw [State.raiseAlarm_new s _ none_ room, empty, List.nil_append]
    constructor
    · rw [records]
      exact Nat.le_add_left 1 63
    · intro _
      rw [Stands, records]
      exact ⟨_, List.mem_singleton_self _, rfl⟩
  unfold State.startBlocks
  extract_lets s1 s2 s3 s4 s5
  have first : StandsOrFull (.bare .restarted) s1 := raised
  have second : StandsOrFull (.bare .restarted) s2 := first.unless pass1 (portFault 1)
  have ports : StandsOrFull (.bare .restarted) s3 := second.unless pass2 (portFault 2)
  have clock : StandsOrFull (.bare .restarted) s3.startClock := ports.congr rfl
  have bank : StandsOrFull (.bare .restarted) s4 :=
    startBank_stands (startZones_stands (startRoll_stands (startBearers_stands clock)) true) true changed
  have lone : StandsOrFull (.bare .restarted) s5 := bank.congr rfl
  exact lone.unless _ _

theorem startEnds_stands (h : StandsOrFull k s) : StandsOrFull k s.startEnds := by
  obtain ⟨q, m, -, paid⟩ := State.payDues_eq s.due
    { s with alarms := { s.alarms with general := s.alarms.deriveGeneral, fault := s.alarms.deriveFault }, due := [] }
  refine h.congr ?_
  unfold State.startEnds
  dsimp only
  rw [paid]

/-! ### What the blocks leave -/

theorem startClock_congr (bt : t.bt = s.bt) (clk : t.clk = s.clk) : t.startClock.clk = s.startClock.clk := by
  obtain ⟨⟩ := s
  obtain ⟨⟩ := t
  subst bt clk
  rfl

theorem startedDoors_clk (s : State) (warm pass1 pass2 : Bool) (changed : List Pos) :
    (startedDoors s warm pass1 pass2 changed).clk = s.startClock.clk := by
  have bearers : (startedBearers s warm pass1 pass2).clk = s.startClock.clk := by
    unfold startedBearers
    extract_lets s1 s2 s3
    refine (State.startBearers_frame s3.startClock).2.2.2.2.2.2.1.trans (startClock_congr ?_ ?_)
    · simp [s3, s2, s1, ite_fields]
    · simp [s3, s2, s1, ite_fields]
  rw [← bearers]
  simp [startedDoors]

/-- A door's record once the doors are started (R75). -/
theorem startedDoors_door (s : State) (warm pass1 pass2 : Bool) (changed : List Pos) (r : Room) :
    let u := startedDoors s warm pass1 pass2 changed
    u.doors[r] = { Door.cold with timeLock := u.timeLockOf r, closeDemand := u.zones[r].state.demand } := by
  unfold startedDoors State.startDoors
  dsimp only
  rw [Fin.getElem_fin, vgen_get]
  rfl

/-- The end of a start leaves the notices queued, the outputs derived and the check value, and no notice owed. -/
theorem startEnds_eq (s : State) : ∃ a q m v,
    s.startEnds = { s with alarms := a, due := [], p1 := { s.p1 with queue := q, marks := m }, sup := { s.sup with checkValue := v } } := by
  obtain ⟨q, m, -, paid⟩ := State.payDues_eq s.due
    { s with alarms := { s.alarms with general := s.alarms.deriveGeneral, fault := s.alarms.deriveFault }, due := [] }
  refine ⟨{ s.alarms with general := s.alarms.deriveGeneral, fault := s.alarms.deriveFault }, q, m, ?_⟩
  unfold State.startEnds
  dsimp only
  rw [paid]
  exact ⟨_, rfl⟩

/-- The blocks' start, by the state once the doors are started: the lone-worker fields and MAINS_FAIL are left. -/
theorem startBlocks_upToAlarms (s : State) (warm pass1 pass2 : Bool) (changed : List Pos) : ∃ a d,
    s.startBlocks warm pass1 pass2 changed = { (startedDoors s warm pass1 pass2 changed).startLone with alarms := a, due := d } := by
  rw [startBlocks_eq]
  dsimp only
  split
  · exact ⟨_, _, rfl⟩
  · obtain ⟨_, _, _, h⟩ := ((startedDoors s warm pass1 pass2 changed).startLone).raiseAlarm_eq (.bare .mainsFail)
    rw [h]
    exact ⟨_, _, rfl⟩

/-- What a start leaves of the fields that its last steps do not touch. -/
structure Rests (b u t : State) : Prop where
  clk : t.clk = b.startClock.clk
  bt : t.bt = b.bt
  rooms : t.roll.rooms = u.roll.rooms
  entries : t.roll.entries = u.roll.entries.mapAll (loneLoaded u)
  doors : t.doors = u.doors
  zones : t.zones = u.zones
  profiles : t.sup.profiles = u.sup.profiles
  loop : t.loop = b.loop
  address : t.sup.unitAddress = b.sup.unitAddress ∧ t.sup.cause = b.sup.cause
  quiet : t.sup.linkTest = b.sup.linkTest ∧ t.sup.restartDue = b.sup.restartDue
  port1 : t.p1.pair = b.p1.pair ∧ t.p1.mode = b.p1.mode ∧ t.p1.requests = b.p1.requests
  port2 : t.p2 = b.p2
  settled : t.due = []

theorem start_rests (b : State) (warm pass1 pass2 : Bool) (changed : List Pos) :
    Rests b (startedDoors b warm pass1 pass2 changed) (b.startBlocks warm pass1 pass2 changed).startEnds := by
  obtain ⟨bt, -, -, sup, loop, p1, p2⟩ := startedDoors_frame b warm pass1 pass2 changed
  have clk := startedDoors_clk b warm pass1 pass2 changed
  obtain ⟨a, d, blocks⟩ := startBlocks_upToAlarms b warm pass1 pass2 changed
  obtain ⟨a', q, m, v, ends⟩ := startEnds_eq (b.startBlocks warm pass1 pass2 changed)
  rw [ends, blocks]
  generalize startedDoors b warm pass1 pass2 changed = u at bt sup loop p1 p2 clk ⊢
  exact
    { clk := clk, bt := bt, rooms := rfl, entries := rfl, doors := rfl, zones := rfl, profiles := rfl, loop := loop
      address := ⟨congrArg (·.unitAddress) sup, congrArg (·.cause) sup⟩
      quiet := ⟨congrArg (·.linkTest) sup, congrArg (·.restartDue) sup⟩
      port1 := ⟨congrArg (·.pair) p1, congrArg (·.mode) p1, congrArg (·.requests) p1⟩
      port2 := p2, settled := rfl }

/-! ### The clock -/

theorem startClock_notClosing (s : State) : s.startClock.clk.siteState ≠ .closing := by
  show State.startSite _ ≠ .closing
  unfold State.startSite
  split
  · exact nofun
  · exact nofun

/-- The in-force table is evaluated on the clock as the start leaves it. -/
theorem startClock_evaluated (bt : t.bt = s.bt) (clk : t.clk = s.startClock.clk) : Evaluated t := by
  have inForce : s.startClock.clk.inForce = vgen s.startClock.evaluateSchedule := rfl
  have same : s.startClock.evaluateSchedule = t.evaluateSchedule := by
    have bt' : s.startClock.bt = t.bt := bt.symm
    funext i
    unfold State.evaluateSchedule
    rw [bt', clk]
  intro i
  rw [clk, inForce, Fin.getElem_fin, vgen_get, same]

/-! ### The zones -/

theorem restarted_eq (z : Zone) (h : Holds) : { z.restarted with holds := h } = restartedZone z h := by
  unfold Zone.restarted restartedZone ZoneState.restarted
  cases z.state <;> simp [Zone.cold, ZoneInputs.allNormal]

/-! ### The entries -/

theorem loneLoaded_base (s : State) (o : OccEntry) : entryBase (loneLoaded s o) = entryBase o := by
  unfold loneLoaded
  split <;> rfl

theorem loneLoaded_lone (s : State) (o : OccEntry) :
    (loneLoaded s o).promptDue = false ∧
      ((loneLoaded s o).counter, (loneLoaded s o).checkIn) =
        if s.supervised (loneLoaded s o).room then (s.loneLoad (loneLoaded s o), .running) else (0, .off) := by
  unfold loneLoaded
  split
  · exact ⟨rfl, rfl⟩
  · exact ⟨rfl, rfl⟩

/-! ### The whole start -/

theorem kept_ports (s : State) (cause : RestartCause) (pass1 pass2 : Bool) :
    let b := (s.kept cause).startPorts pass1 pass2
    b.p1.pair = s.p1.pair ∧ b.p1.mode = s.p1.mode ∧ b.p1.requests = [] ∧ b.p2.pair = s.p2.pair ∧ b.p2.rate = s.p2.rate := by
  cases pass1 <;> cases pass2 <;> exact ⟨rfl, rfl, rfl, rfl, rfl⟩

/-- A start whose retained memory is valid (R175, R176). -/
theorem startUp_warmStart (valid : s.startsCold = false) : WarmStart s (s.startUp cause line1 line2) cause := by
  obtain ⟨_, bt, ctx, rooms, tick, entries, lines, profiles, zones, bank⟩ := startUp_blocks s cause line1 line2
  have base : startBase s cause = s.kept cause := by
    rw [startBase, valid]
    rfl
  rw [base] at bt ctx rooms tick entries profiles zones bank
  obtain ⟨pass1, pass2, changed, started⟩ : ∃ pass1 pass2 changed, s.startUp cause line1 line2 =
      (((s.kept cause).startPorts pass1 pass2).startBlocks true pass1 pass2 changed).startEnds := by
    refine ⟨loopbackPasses s.p1.pair .supervisor line1, loopbackPasses s.p2.pair .fieldLoop line2, s.resetCylinders, ?_⟩
    unfold State.startUp
    simp only [valid, Bool.not_false, Bool.false_eq_true, if_false]
  have stands := startEnds_stands
    (startBlocks_stands (s := (s.kept cause).startPorts pass1 pass2) rfl pass1 pass2 changed)
  have rests := start_rests ((s.kept cause).startPorts pass1 pass2) true pass1 pass2 changed
  have doors := startedDoors_door ((s.kept cause).startPorts pass1 pass2) true pass1 pass2 changed
  have clk := startedDoors_clk ((s.kept cause).startPorts pass1 pass2) true pass1 pass2 changed
  have bearers := (startedDoors_frame ((s.kept cause).startPorts pass1 pass2) true pass1 pass2 changed).1
  obtain ⟨pair1, mode1, requests, pair2, rate2⟩ := kept_ports s cause pass1 pass2
  have closed := startClock_notClosing ((s.kept cause).startPorts pass1 pass2)
  rw [← started] at stands rests
  generalize s.startUp cause line1 line2 = t at *
  generalize startedDoors ((s.kept cause).startPorts pass1 pass2) true pass1 pass2 changed = u at rests doors clk bearers
  have sameClk : t.clk = u.clk := rests.clk.trans clk.symm
  have supervised (r : Room) : u.supervised r = t.supervised r := by
    unfold State.supervised State.isLone State.headCount
    rw [rests.profiles, rests.rooms, sameClk]
  have load (o : OccEntry) : u.loneLoad o = t.loneLoad o := by
    unfold State.loneLoad
    rw [rests.profiles, rests.bt, bearers]
  exact
    { bearers := bt
      reading := by
        rw [rests.clk]
        rfl
      settings := ⟨congrArg (·.siteSchedule) rests.clk, congrArg (·.grace) rests.clk, congrArg (·.override) rests.clk⟩
      notClosing := ⟨by rw [rests.clk]; exact closed, congrArg (·.graceTimer) rests.clk⟩
      evaluated := startClock_evaluated rests.bt rests.clk
      tick := tick
      lists := fun r => by
        rw [rooms, Fin.getElem_fin, vgen_get]
        rfl
      contexts := fun r => by
        rw [ctx]
        exact Vector.getElem_replicate ..
      doors := fun r => by
        rw [rests.doors, doors r, rests.zones]
        simp only [State.timeLockOf, rests.profiles, sameClk]
      entries := fun e => by
        rw [entries, Table.get_mapAll, Option.map_map]
        exact congrArg (Option.map · _) (funext fun o => loneLoaded_base _ o)
      lone := fun e o found => by
        rw [rests.entries, Table.get_mapAll] at found
        obtain ⟨old, -, rfl⟩ := Option.map_eq_some_iff.mp found
        have loaded := loneLoaded_lone u old
        rwa [supervised, load] at loaded
      zones := fun z => by
        have restarted : (s.kept cause).zones[z] = s.zones[z].restarted := vgen_get ..
        rw [← restarted_eq, zones, Fin.getElem_fin, vgen_get]
        dsimp only [Fin.eta]
        rw [restarted]
      bank := by
        rw [bank]
        exact ⟨rfl, rfl, rfl⟩
      cylinders := fun p => by
        rw [bank]
        exact vgen_get ..
      stations := fun a => by
        rw [rests.loop]
        exact vgen_get ..
      settingsKept := ⟨rests.port1.1.trans pair1, rests.port1.2.1.trans mode1, by rw [rests.port2, pair2], by rw [rests.port2, rate2]⟩
      handler := ⟨profiles, rests.address⟩
      queues := ⟨rests.port1.2.2.trans requests, rests.quiet⟩
      restarted := by
        by_cases full : t.alarms.records.length = 64
        · exact .inr full
        · exact .inl (stands.stands (Nat.lt_of_le_of_ne stands.within full))
      settled := rests.settled }

/-- Neither the lines nor the waiting requests are kept. -/
theorem warmStart_of_lines {l : Lines} {rs : List RequestFrame}
    (h : WarmStart { s with lines := l, p1 := { s.p1 with requests := rs } } t cause) : WarmStart s t cause :=
  { bearers := h.bearers, reading := h.reading, settings := h.settings, notClosing := h.notClosing, evaluated := h.evaluated
    tick := h.tick, lists := h.lists, contexts := h.contexts, doors := h.doors, entries := h.entries, lone := h.lone, zones := h.zones
    bank := h.bank, cylinders := h.cylinders, stations := h.stations, settingsKept := h.settingsKept, handler := h.handler
    queues := h.queues, restarted := h.restarted, settled := h.settled }

theorem startUp_warmStart_of {l : Lines} {rs : List RequestFrame} (check : s.retained.check = s.sup.checkValue)
    (held : l.backupLost = false) :
    WarmStart s (({ s with lines := l, p1 := { s.p1 with requests := rs } } : State).startUp cause line1 line2) cause := by
  have same : ({ s with lines := l, p1 := { s.p1 with requests := rs } } : State).retained = s.retained := rfl
  refine warmStart_of_lines (startUp_warmStart (line1 := line1) (line2 := line2) ?_)
  rw [State.startsCold, same, check, held]
  exact Bool.or_eq_false_iff.mpr ⟨decide_eq_false (not_not.mpr rfl), rfl⟩

theorem exec_powerUp_starts (off : s.lines.mainOn = false) (high : s.lines.resetHigh = true) :
    exec (.powerUp line1 line2) s =
      .next (({ s with lines := { s.lines with mainOn := true } } : State).startUp .powerUp line1 line2) :=
  congrArg Host.Outcome.next ((if_neg (by rw [off]; exact Bool.false_ne_true)).trans (if_pos high))

theorem exec_resetLineHigh_starts (on : s.lines.mainOn = true) (low : s.lines.resetHigh = false) :
    exec (.resetLineHigh line1 line2) s =
      .next (({ s with lines := { s.lines with resetHigh := true } } : State).startUp .resetLine line1 line2) :=
  congrArg Host.Outcome.next ((if_neg (by rw [low]; exact Bool.false_ne_true)).trans (if_pos on))

theorem exec_restartWarmReset_starts (runs : Runs s) (due : s.sup.restartDue = true) :
    exec (.restartWarmReset line1 line2) s = .next (s.startUp .request line1 line2) :=
  congrArg Host.Outcome.next (if_pos (by rw [running_of runs, due]; rfl))

/-- RESTART addressed to 255 is carried out at once, with no answer to wait for (R172). -/
theorem exec_restart_starts {f : RequestFrame} {rest : List RequestFrame} (head : s.p1.requests = f :: rest) (can : s.canTake f = true)
    (payload : f.payload = [0xA1]) (all : f.address = 255) :
    exec (.restart line1 line2) s = .next ((taken s rest).startUp .request line1 line2) := by
  have taken_ : s.takeRequest (hasCode 0xA1) = some (f, taken s rest) := by
    have coded : hasCode 0xA1 f.payload = true := by
      rw [payload]
      rfl
    rw [State.takeRequest, head]
    dsimp only
    rw [coded, can]
    rfl
  have one : ¬f.payload.length ≠ 1 := by
    rw [payload]
    exact not_not.mpr rfl
  have broadcast : f.broadcast = true := decide_eq_true all
  show execRestart line1 line2 s = _
  rw [execRestart, taken_]
  dsimp only
  rw [if_neg one, if_pos broadcast]

/-- Settles O43: each way to start begins the same start, whose every field is read from the state the blocks start from. -/
theorem warmStartKeepsRetainedMemory : Obligations.WarmStartKeepsRetainedMemory := by
  refine fun s line1 line2 check held => ⟨fun off high => ?_, fun on low => ?_, fun runs due => ?_,
    fun f rest runs head payload all service noTest noRestart => ?_⟩
  · exact ⟨_, exec_powerUp_starts off high, startUp_warmStart_of (rs := s.p1.requests) check held⟩
  · exact ⟨_, exec_resetLineHigh_starts on low, startUp_warmStart_of (rs := s.p1.requests) check held⟩
  · exact ⟨_, exec_restartWarmReset_starts runs due, startUp_warmStart_of (l := s.lines) (rs := s.p1.requests) check held⟩
  · have can : s.canTake f = true := by
      have broadcast : f.broadcast = true := decide_eq_true all
      rw [State.canTake, running_of runs, service, noTest, noRestart, broadcast]
      rfl
    exact ⟨_, exec_restart_starts head can payload all, startUp_warmStart_of (l := s.lines) check held⟩

end Sys2Proof.Proofs.WarmStarts
end

section
/-! PROOFS. STATION CONFIGURE (R149): its refusals in order, the identical request, and the fresh record. -/
namespace Sys2Proof.Proofs.Configuration

open Sys2Proof Sys2Proof.Machine Sys2Proof.Safety Sys2Proof.Laws Sys2Proof.Proofs.RecordReads Sys2Proof.Proofs.Evaluation
open Sys2Proof.Proofs.Persistence

variable {s t : State} {f : RequestFrame} {rest : List RequestFrame} {a : Addr} {ty : StationType} {room : Nat}

/-! ### What every station but its commands is -/

theorem stationBase_of_withoutCommands (h : withoutCommands t.loop = withoutCommands s.loop) (j : Addr) :
    stationBase t j = stationBase s j := by
  have same : ({ t.loop.stations[j] with slots := .clear } : Station) = { s.loop.stations[j] with slots := .clear } := by
    rw [← station_withoutCommands, ← station_withoutCommands, h]
  have base := congrArg (fun st : Station => (st.type, st.room, st.state, st.misses, st.points, st.lastEvent)) same
  exact base

theorem scan_of_withoutCommands (h : withoutCommands t.loop = withoutCommands s.loop) : t.loop.scan = s.loop.scan :=
  congrArg (·.scan) h

theorem endRole_withoutCommands (s : State) (a : Addr) : withoutCommands (s.endRole a).loop = withoutCommands s.loop := by
  unfold State.endRole
  dsimp only
  split
  · simp
  · simp
  · simp
  · simp
  · split
    · simp
    · rfl
  · rfl

/-! ### The checks of STATION CONFIGURE -/

section

variable (within : room ≤ 16)

include within

theorem stationConfigureBody_eq (t : State) :
    stationConfigureBody ⟨num a, some ty, room⟩ t =
      if t.zoneBars t.loop.stations[a].type t.loop.stations[a].room || t.zoneBars ty room then refuse .state t
      else if t.roleTaken a ty room then refuse .conflict t
      else if t.loop.stations[a].type = ty ∧ t.loop.stations[a].room = room then
        (t, .ok (.station t.loop.stations[a].type t.loop.stations[a].room t.loop.stations[a].state))
      else
        ((((t.endRole a).stationAlarmsGone a).dropAnswerPoll a).setStation a (.configured ty room),
          .ok (.station ty room (if ty = .unassigned then .unconfigured else .pending))) := by
  unfold stationConfigureBody
  dsimp only
  rw [addr?_num]
  dsimp only
  rw [if_neg (Nat.not_lt.mpr within)]
  rfl

end

/-! ### A fresh record -/

/-- The state with the station's role ended and its record made anew (R149). -/
def reconfigured (t : State) (a : Addr) (ty : StationType) (room : Nat) : State :=
  (((t.endRole a).stationAlarmsGone a).dropAnswerPoll a).setStation a (.configured ty room)

theorem reconfigured_frame (t : State) (a : Addr) (ty : StationType) (room : Nat) :
    let u := reconfigured t a ty room
    u.p1 = t.p1 ∧ u.bt = t.bt ∧ u.clk = t.clk ∧ u.roll = t.roll ∧ u.p2 = t.p2 ∧ u.lines = t.lines := by
  simp [reconfigured, State.stationAlarmsGone, State.dropAnswerPoll]

theorem reconfigured_station (t : State) (a : Addr) (ty : StationType) (room : Nat) :
    (reconfigured t a ty room).loop.stations[a] = Station.configured ty room := by
  simp [reconfigured]

theorem reconfigured_scan (t : State) (a : Addr) (ty : StationType) (room : Nat) :
    (reconfigured t a ty room).loop.scan = t.loop.scan := by
  have ended := scan_of_withoutCommands (endRole_withoutCommands t a)
  exact ended

theorem reconfigured_others (t : State) (a : Addr) (ty : StationType) (room : Nat) (j : Addr) (other : j ≠ a) :
    stationBase (reconfigured t a ty room) j = stationBase t j := by
  have ended := stationBase_of_withoutCommands (endRole_withoutCommands t a) j
  have station : (reconfigured t a ty room).loop.stations[j] = (t.endRole a).loop.stations[j] := vset_other _ _ other.symm
  rw [← ended]
  unfold stationBase
  rw [station]

/-! ### STATION CONFIGURE -/

section

variable (w : WaitsWith s f rest 0x80) (within : room ≤ 16)

include w within

theorem exec_stationConfigure_barred
    (barred : (s.zoneBars s.loop.stations[a].type s.loop.stations[a].room || s.zoneBars ty room) = true) :
    exec (.stationConfigure (some ⟨num a, some ty, room⟩)) s = .next (refused s f rest 0x80 .state) :=
  serveFields_refused w rfl _ stationConfigureBody .state ((stationConfigureBody_eq within (taken s rest)).trans (if_pos barred))

variable (free : (s.zoneBars s.loop.stations[a].type s.loop.stations[a].room || s.zoneBars ty room) = false)

include free

omit w in
theorem stationConfigureBody_free :
    stationConfigureBody ⟨num a, some ty, room⟩ (taken s rest) =
      if s.roleTaken a ty room then refuse .conflict (taken s rest)
      else if s.loop.stations[a].type = ty ∧ s.loop.stations[a].room = room then
        (taken s rest, .ok (.station s.loop.stations[a].type s.loop.stations[a].room s.loop.stations[a].state))
      else
        (reconfigured (taken s rest) a ty room, .ok (.station ty room (if ty = .unassigned then .unconfigured else .pending))) :=
  (stationConfigureBody_eq within (taken s rest)).trans (if_neg (by exact Bool.eq_false_iff.mp free))

theorem exec_stationConfigure_conflict (taken_ : s.roleTaken a ty room = true) :
    exec (.stationConfigure (some ⟨num a, some ty, room⟩)) s = .next (refused s f rest 0x80 .conflict) :=
  serveFields_refused w rfl _ stationConfigureBody .conflict ((stationConfigureBody_free within free).trans (if_pos taken_))

variable (role : s.roleTaken a ty room = false)

include role

theorem exec_stationConfigure_identical (type : s.loop.stations[a].type = ty) (at_ : s.loop.stations[a].room = room) :
    exec (.stationConfigure (some ⟨num a, some ty, room⟩)) s =
      .next (answered (taken s rest) f 0x80 .ok
        (.station s.loop.stations[a].type s.loop.stations[a].room s.loop.stations[a].state) .nothing) := by
  have body := (stationConfigureBody_free (rest := rest) within free).trans ((if_neg (Bool.eq_false_iff.mp role)).trans (if_pos ⟨type, at_⟩))
  exact serveFields_unchanged w rfl _ stationConfigureBody
    (.ok (.station s.loop.stations[a].type s.loop.stations[a].room s.loop.stations[a].state)) body

theorem exec_stationConfigure_fresh (other : ¬(s.loop.stations[a].type = ty ∧ s.loop.stations[a].room = room)) :
    TakenAndAnswered s (exec (.stationConfigure (some ⟨num a, some ty, room⟩)) s) rest f 0x80
      (.station ty room (if ty = .unassigned then .unconfigured else .pending)) fun t =>
        t.loop.stations[a] = Station.configured ty room ∧
        (∀ j : Addr, j ≠ a → stationBase t j = stationBase s j) ∧ t.loop.scan = s.loop.scan ∧ t.bt = s.bt ∧
        t.clk = s.clk ∧ t.roll = s.roll ∧ t.p2 = s.p2 ∧ t.lines = s.lines := by
  obtain ⟨p1, bt, clk, roll, p2, lines⟩ := reconfigured_frame (taken s rest) a ty room
  have body := (stationConfigureBody_free (rest := rest) within free).trans ((if_neg (Bool.eq_false_iff.mp role)).trans (if_neg other))
  obtain ⟨t, next, leaves, requests, ok⟩ := serveFields_leaves w rfl _ stationConfigureBody body p1
  refine ⟨t, next, requests, ok, ?_, fun j hj => ?_, ?_, leaves.bt.trans bt, leaves.clk.trans clk, leaves.roll.trans roll,
    leaves.p2.trans p2, leaves.lines.trans lines⟩
  · rw [leaves.loop]
    exact reconfigured_station ..
  · have others := reconfigured_others (taken s rest) a ty room j hj
    unfold stationBase at others ⊢
    rw [leaves.loop]
    exact others
  · rw [leaves.loop]
    exact reconfigured_scan ..

end

/-- Settles O28: the checks in order, and the fresh record with the old owner told. -/
theorem stationConfigureMakesAFreshRecord : Obligations.StationConfigureMakesAFreshRecord :=
  fun _ _ _ _ _ _ w within =>
    ⟨exec_stationConfigure_barred w within, exec_stationConfigure_conflict w within, exec_stationConfigure_identical w within,
      exec_stationConfigure_fresh w within⟩

end Sys2Proof.Proofs.Configuration
end

section
/-! PROOFS. THE DISCHARGE SEQUENCE (R122 to R126, R143, R144): the grant of the manifold with its fire command, the end of a discharge, and the
soak. A fire command that waits at a release unit stays there while the doors and the zones move. -/
namespace Sys2Proof.Proofs.DischargeSequence

open Sys2Proof Sys2Proof.Machine Sys2Proof.Safety Sys2Proof.Laws Sys2Proof.Proofs.Evaluation Sys2Proof.Proofs.OneRoom
open Sys2Proof.Proofs.ZoneMoves Sys2Proof.Proofs.DoorRequests
open Sys2Proof.Proofs.Acts (SameBank enterZone_bank grant_bank)

variable {s t u : State} {z y : Room} {a : Addr}

/-! ### Fire commands that wait -/

/-- The stations' fire commands and configuration are as before. -/
structure SameFires (s t : State) : Prop where
  fire : ∀ a : Addr, t.loop.stations[a].slots.fire = s.loop.stations[a].slots.fire
  stations : ∀ a : Addr, stationBase t a = stationBase s a

theorem SameFires.of_loop (h : t.loop = s.loop) : SameFires s t :=
  ⟨fun a => by rw [h], fun a => by simp only [stationBase, h]⟩

theorem SameFires.trans (h : SameFires s t) (h' : SameFires t u) : SameFires s u :=
  ⟨fun a => (h'.fire a).trans (h.fire a), fun a => (h'.stations a).trans (h.stations a)⟩

theorem setStation_own (s : State) (a : Addr) (st : Station) : (s.setStation a st).loop.stations[a] = st := vset_same _ _ _

theorem setStation_other (s : State) {a b : Addr} (st : Station) (h : b ≠ a) :
    (s.setStation b st).loop.stations[a] = s.loop.stations[a] := vset_other _ _ h

theorem placeAt_sameFires (s : State) (at_ : Option Addr) {g : Slots → Slots} (keeps : ∀ sl, (g sl).fire = sl.fire) :
    SameFires s (s.placeAt at_ g) where
  fire a := by
    unfold State.placeAt
    split
    · rfl
    · next b =>
      split
      · rfl
      · by_cases same : b = a
        · subst same
          have own := congrArg (·.slots.fire) (setStation_own s b { s.loop.stations[b] with slots := g s.loop.stations[b].slots })
          exact own.trans (keeps _)
        · exact congrArg (·.slots.fire) (setStation_other s _ same)
  stations a := (placeAt_atRoom (r := 0) s at_ g).stations a

theorem cancelRelease_sameFires (s : State) (r : Room) : SameFires s (s.cancelRelease r) := by
  unfold State.cancelRelease
  dsimp only
  split
  · have placed : SameFires s (s.placeBolt r .cancel) := placeAt_sameFires s _ fun _ => rfl
    exact placed.trans (.of_loop rfl)
  · exact .of_loop rfl

theorem setCloseDemand_sameFires (s : State) (r : Room) (demand : Bool) : SameFires s (s.setCloseDemand r demand) := by
  unfold State.setCloseDemand
  dsimp only
  split
  · exact .of_loop rfl
  · split
    · have dropped : SameFires s ((s.setDoor r { s.doors[r] with closeDemand := demand }).dropHold r) := .of_loop (by simp)
      exact (dropped.trans (cancelRelease_sameFires _ r)).trans (.of_loop (by simp))
    · exact .of_loop rfl

theorem enterZone_sameFires (s : State) (z : Room) (st : ZoneState) : SameFires s (s.enterZone z st) := by
  have set : SameFires s (s.setZone z { s.zones[z] with state := st }) := .of_loop rfl
  have demanded := set.trans (setCloseDemand_sameFires _ z st.demand)
  unfold State.enterZone
  dsimp only
  split
  · exact demanded.trans (.of_loop rfl)
  · exact demanded.trans (.of_loop rfl)

/-! ### The grant (R123) -/

/-- The zone's release unit, unless it is lost, has the fire command with the positions reserved to the zone. -/
def Fires (s t : State) (z : Room) : Prop :=
  ∀ a : Addr, s.stationOf .releaseUnit (num z) = some a → s.loop.stations[a].state ≠ .missing →
    s.loop.stations[a].state ≠ .wrongType → t.loop.stations[a].slots.fire = some ⟨s.bank.reservedPositions z, false⟩

theorem Fires.after (h : Fires s t z) (kept : SameFires t u) : Fires s u z :=
  fun a at_ missing wrong => (kept.fire a).trans (h a at_ missing wrong)

theorem placeFire_fires (s : State) (z : Room) : Fires s (s.placeFire z (s.bank.reservedPositions z)) z := by
  intro a at_ missing wrong
  have there : s.loop.stations[a].lost = false := by
    rw [Station.lost, decide_eq_false missing, decide_eq_false wrong]
    rfl
  unfold State.placeFire State.placeAt
  rw [at_]
  dsimp only
  rw [there, if_neg Bool.false_ne_true]
  exact congrArg (·.slots.fire) (setStation_own ..)

/-- A zone that the manifold is granted to (R123, R124). -/
def discharging (zn : Zone) : Zone :=
  { zn with
    state := .discharging, envelopeOpen := !zn.lastEnvelope, flowSeen := false, flowStart := some 20, discharge := some 120 }

/-- The state of a grant before the zone enters DISCHARGING. -/
def granting (s : State) (z : Room) : State :=
  ({ s with bank := { s.bank with manifold := some z } }.setZone z
    { s.zones[z] with envelopeOpen := !s.zones[z].lastEnvelope, flowSeen := false, flowStart := some 20, discharge := some 120 })

theorem grant_eq (s : State) (z : Room) :
    s.grant z = ((granting s z).placeFire z (s.bank.reservedPositions z)).enterZone z .discharging := rfl

theorem grant_zone (s : State) (z : Room) :
    ∃ env, (s.grant z).zones = s.zones.set z { discharging s.zones[z] with lastEnvelope := env } := by
  obtain ⟨env, zones, -⟩ := enterZone_zone ((granting s z).placeFire z (s.bank.reservedPositions z)) z .discharging
  refine ⟨env, zones.trans ?_⟩
  simp only [State.placeFire_frame, granting, State.setZone_zones, Vector.set_set, vset_same]
  rfl

theorem grant_fires (s : State) (z : Room) : Fires s (s.grant z) z := by
  have placed : Fires (granting s z) ((granting s z).placeFire z (s.bank.reservedPositions z)) z := placeFire_fires (granting s z) z
  have fires : Fires s ((granting s z).placeFire z (s.bank.reservedPositions z)) z := placed
  exact fires.after (enterZone_sameFires _ z .discharging)

theorem grant_other (s : State) {j : Room} (h : j ≠ z) : (s.grant z).zones[j] = s.zones[j] := by
  obtain ⟨env, zones⟩ := grant_zone s z
  rw [zones, vset_other _ _ h.symm]

theorem grant_own (s : State) (z : Room) :
    (s.grant z).zones[z].state = .discharging ∧ (s.grant z).zones[z].flowStart = some 20 ∧ (s.grant z).zones[z].discharge = some 120 ∧
      (s.grant z).zones[z].flowSeen = false ∧ (s.grant z).zones[z].envelopeOpen = (!s.zones[z].lastEnvelope) ∧
      (s.grant z).zones[z].remainder = s.zones[z].remainder ∧ (s.grant z).zones[z].unconfirmed = s.zones[z].unconfirmed := by
  obtain ⟨env, zones⟩ := grant_zone s z
  rw [zones, vset_same]
  exact ⟨rfl, rfl, rfl, rfl, rfl, rfl, rfl⟩

/-! ### The end of the countdown (R122) -/

/-- The zone at the end of its countdown, before it asks for the manifold. -/
def countedDown (s : State) (z : Room) : State :=
  s.setZone z
    { s.zones[z] with remainder := 0, accumulated := min Config.accumulatedTop (s.zones[z].accumulated + 1), countdownDue := false }

theorem countedDown_zone (s : State) (z : Room) :
    (countedDown s z).zones[z].remainder = 0 ∧ (countedDown s z).zones[z].lastEnvelope = s.zones[z].lastEnvelope := by
  rw [countedDown, State.setZone_zones, vset_same]
  exact ⟨rfl, rfl⟩

theorem countedDown_other (s : State) {j : Room} (h : j ≠ z) : (countedDown s z).zones[j] = s.zones[j] := vset_other _ _ h.symm

theorem endCountdown_grants (free : s.bank.manifold = none) (nobody : s.bank.waitQueue = []) :
    s.endCountdown z = (countedDown s z).grant z := if_pos ⟨free, nobody⟩

theorem endCountdown_waits (busy : s.bank.manifold ≠ none ∨ s.bank.waitQueue ≠ []) :
    s.endCountdown z =
      ({ countedDown s z with bank := { s.bank with waitQueue := s.bank.waitQueue ++ [z] } } : State).enterZone z .waitBank := by
  refine if_neg fun h => ?_
  obtain ⟨free, nobody⟩ := h
  exact busy.elim (absurd free) (absurd nobody)

/-- A due expiry as a command, and what its effect leaves. -/
theorem expiry_outcome {due : Bool} (g : State → State) (runs : Runs s) (isDue : due = true) : Leaves (g s) (expiry due g s) := by
  rw [expiry_taken g runs isDue]
  exact finish_leaves ..

theorem exec_countdownEnd (runs : Runs s) (counts : s.zones[z].state = .countdown) (due : s.zones[z].countdownDue = true) :
    ∃ t, exec (.countdownEnd z) s = .next t ∧ Leaves (s.endCountdown z) t := by
  have isDue : s.countdownIsDue z = true := by
    rw [State.countdownIsDue, counts, due]
    rfl
  exact ⟨_, rfl, expiry_outcome (·.endCountdown z) runs isDue⟩

theorem endCountdown_granted (free : s.bank.manifold = none) (nobody : s.bank.waitQueue = []) :
    let u := s.endCountdown z
    u.zones[z].state = .discharging ∧ u.zones[z].remainder = 0 ∧ u.zones[z].flowStart = some 20 ∧
      u.zones[z].discharge = some 120 ∧ u.zones[z].flowSeen = false ∧ u.zones[z].envelopeOpen = (!s.zones[z].lastEnvelope) ∧
      u.bank.manifold = some z ∧ u.bank.waitQueue = [] ∧ Fires s u z ∧ (∀ j : Room, j ≠ z → u.zones[j] = s.zones[j]) ∧
      u.bank.cylinders = s.bank.cylinders := by
  obtain ⟨state, flowStart, discharge, flowSeen, envelope, remainder, -⟩ := grant_own (countedDown s z) z
  obtain ⟨zero, last⟩ := countedDown_zone s z
  obtain ⟨manifold, waitQueue, cylinders, -⟩ := grant_bank (countedDown s z) z
  have fires : Fires s ((countedDown s z).grant z) z := grant_fires (countedDown s z) z
  dsimp only
  rw [endCountdown_grants free nobody]
  exact ⟨state, remainder.trans zero, flowStart, discharge, flowSeen, by rw [envelope, last], manifold, waitQueue.trans nobody, fires,
    fun j hj => (grant_other _ hj).trans (countedDown_other s hj), cylinders⟩

theorem endCountdown_waiting (busy : s.bank.manifold ≠ none ∨ s.bank.waitQueue ≠ []) :
    let u := s.endCountdown z
    u.zones[z].state = .waitBank ∧ u.zones[z].remainder = 0 ∧ u.bank.manifold = s.bank.manifold ∧
      u.bank.waitQueue = s.bank.waitQueue ++ [z] ∧ (∀ j : Room, j ≠ z → u.zones[j] = s.zones[j]) ∧
      u.bank.cylinders = s.bank.cylinders := by
  obtain ⟨zero, -⟩ := countedDown_zone s z
  obtain ⟨env, zones, -⟩ := enterZone_zone
    ({ countedDown s z with bank := { s.bank with waitQueue := s.bank.waitQueue ++ [z] } } : State) z .waitBank
  have bank := enterZone_bank ({ countedDown s z with bank := { s.bank with waitQueue := s.bank.waitQueue ++ [z] } } : State) z .waitBank
  dsimp only
  rw [endCountdown_waits busy, zones]
  refine ⟨by rw [vset_same], ?_, bank.manifold, bank.waitQueue, fun j hj => ?_, bank.cylinders⟩
  · rw [vset_same]
    exact zero
  · rw [vset_other _ _ hj.symm]
    exact countedDown_other s hj

/-! ### The end of a discharge (R124, R125, R144) -/

/-- The state once a zone's discharge is accounted for, with the manifold free. -/
def accountedFor (s : State) (z : Room) (complete : Bool) : State :=
  (s.setZone z { s.zones[z] with flowStart := none, discharge := none }).account z complete

theorem accountedFor_other (s : State) (complete : Bool) {j : Room} (h : j ≠ z) : (accountedFor s z complete).zones[j] = s.zones[j] :=
  vset_other _ _ h.symm

theorem accountedFor_unconfirmed (s : State) (complete : Bool) :
    (accountedFor s z complete).zones[z].unconfirmed = s.zones[z].unconfirmed :=
  congrArg (·.unconfirmed) (vset_same s.zones z _)

theorem accountedFor_cylinder (s : State) (z : Room) (complete : Bool) (p : Pos) :
    (accountedFor s z complete).bank.cylinders[p] =
      if s.bank.cylinders[p].reservedTo z then
        { s.bank.cylinders[p] with state := if complete then .spent else .fault, zone := none, deferredLow := false }
      else s.bank.cylinders[p] :=
  (vgen_get ..).trans rfl

/-- Another zone keeps the positions reserved to it. -/
theorem accountedFor_positions (s : State) (complete : Bool) (other : y ≠ z) :
    (accountedFor s z complete).bank.reservedPositions y = s.bank.reservedPositions y := by
  unfold AgentBank.reservedPositions
  refine List.filter_congr fun p _ => ?_
  rw [accountedFor_cylinder]
  split
  · next own =>
    simp only [Cylinder.reservedTo, Bool.and_eq_true, decide_eq_true_eq] at own
    obtain ⟨-, zone⟩ := own
    have elsewhere : s.bank.cylinders[p].zone ≠ some y := fun h => other (Option.some.inj (h.symm.trans zone))
    have before : s.bank.cylinders[p].reservedTo y = false := by
      rw [Cylinder.reservedTo, decide_eq_false elsewhere, Bool.and_false]
    rw [before]
    exact Bool.and_false _
  · rfl

theorem grantNext_none (empty : s.bank.waitQueue = []) : s.grantNext = s := by
  unfold State.grantNext
  rw [empty]

theorem grantNext_head {rest : List Room} (head : s.bank.waitQueue = y :: rest) :
    s.grantNext = ({ s with bank := { s.bank with waitQueue := rest } } : State).grant y := by
  unfold State.grantNext
  rw [head]

/-- A free manifold passes to the head of the wait queue (R123, R143). -/
theorem grantNext_bank (free : s.bank.manifold = none) :
    s.grantNext.bank.manifold = s.bank.waitQueue.head? ∧ s.grantNext.bank.waitQueue = s.bank.waitQueue.tail ∧
      s.grantNext.bank.cylinders = s.bank.cylinders ∧ s.grantNext.bank.reservations = s.bank.reservations := by
  cases head : s.bank.waitQueue with
  | nil =>
    rw [grantNext_none head]
    exact ⟨free, head, rfl, rfl⟩
  | cons y rest =>
    rw [grantNext_head head]
    exact grant_bank { s with bank := { s.bank with waitQueue := rest } } y

theorem grantNext_unconfirmed (s : State) (z : Room) : s.grantNext.zones[z].unconfirmed = s.zones[z].unconfirmed := by
  cases head : s.bank.waitQueue with
  | nil => rw [grantNext_none head]
  | cons y rest =>
    rw [grantNext_head head]
    by_cases same : z = y
    · subst same
      obtain ⟨-, -, -, -, -, -, unconfirmed⟩ := grant_own { s with bank := { s.bank with waitQueue := rest } } z
      exact unconfirmed
    · exact congrArg (·.unconfirmed) (grant_other { s with bank := { s.bank with waitQueue := rest } } same)

/-- A zone that discharges by the end of another's discharge. -/
structure Granted (s t : State) (y : Room) : Prop where
  state : t.zones[y].state = .discharging
  flowStart : t.zones[y].flowStart = some 20
  discharge : t.zones[y].discharge = some 120
  flowSeen : t.zones[y].flowSeen = false
  envelope : t.zones[y].envelopeOpen = !s.zones[y].lastEnvelope
  fires : Fires s t y

theorem Granted.after (h : Granted s t y) (zone : u.zones[y] = t.zones[y]) (kept : SameFires t u) : Granted s u y where
  state := zone ▸ h.state
  flowStart := zone ▸ h.flowStart
  discharge := zone ▸ h.discharge
  flowSeen := zone ▸ h.flowSeen
  envelope := zone ▸ h.envelope
  fires := h.fires.after kept

/-- What a grant hangs on: the zone's last envelope, its reserved positions and the stations. -/
theorem Granted.before (h : Granted s t y) (envelope : s.zones[y].lastEnvelope = u.zones[y].lastEnvelope)
    (positions : s.bank.reservedPositions y = u.bank.reservedPositions y) (loop : s.loop = u.loop) : Granted u t y where
  state := h.state
  flowStart := h.flowStart
  discharge := h.discharge
  flowSeen := h.flowSeen
  envelope := envelope ▸ h.envelope
  fires a at_ missing wrong := by
    have same : s.stationOf .releaseUnit (num y) = u.stationOf .releaseUnit (num y) :=
      stationOf_congr (s := u) (t := s) (fun b => by simp only [stationBase, loop]) _ _
    rw [← positions]
    exact h.fires a (same.trans at_) (loop ▸ missing) (loop ▸ wrong)

theorem grantNext_granted (head : s.bank.waitQueue.head? = some y) : Granted s s.grantNext y := by
  obtain ⟨rest, waiting⟩ : ∃ rest, s.bank.waitQueue = y :: rest := ⟨s.bank.waitQueue.tail, (List.eq_cons_of_mem_head? head)⟩
  rw [grantNext_head waiting]
  obtain ⟨state, flowStart, discharge, flowSeen, envelope, -, -⟩ := grant_own { s with bank := { s.bank with waitQueue := rest } } y
  exact ⟨state, flowStart, discharge, flowSeen, envelope, grant_fires { s with bank := { s.bank with waitQueue := rest } } y⟩

/-- What the end of a zone's discharge brings about: its cylinders accounted for, the manifold passed on, and SOAK or VENT. -/
structure PassesOn (s t : State) (z : Room) (st : CylinderState) : Prop where
  state : t.zones[z].state = if s.sup.profiles[z].soak = 0 then .vent else .soak
  soak : s.sup.profiles[z].soak ≠ 0 → t.zones[z].soak = some (60 * s.sup.profiles[z].soak)
  cylinders : ∀ p : Pos, t.bank.cylinders[p] =
    if s.bank.cylinders[p].reservedTo z then { s.bank.cylinders[p] with state := st, zone := none, deferredLow := false }
    else s.bank.cylinders[p]
  reservations : t.bank.reservations = s.bank.reservations.filter (· ≠ z)
  manifold : t.bank.manifold = s.bank.waitQueue.head?
  waitQueue : t.bank.waitQueue = s.bank.waitQueue.tail
  next : ∀ y : Room, s.bank.waitQueue.head? = some y → y ≠ z → Granted s t y

theorem endDischarge_eq (s : State) (z : Room) (complete : Bool) :
    s.endDischarge z complete =
      if s.sup.profiles[z].soak = 0 then (accountedFor s z complete).grantNext.enterZone z .vent
      else ((accountedFor s z complete).grantNext.setZone z
        { (accountedFor s z complete).grantNext.zones[z] with soak := some (60 * s.sup.profiles[z].soak) }).enterZone z .soak := by
  have profiles : (accountedFor s z complete).grantNext.sup.profiles = s.sup.profiles := by
    simp [accountedFor, State.account, State.changeReserved, State.leaveReservations]
  rw [← profiles]
  rfl

theorem endDischarge_passesOn (s : State) (z : Room) (complete : Bool) :
    PassesOn s (s.endDischarge z complete) z (if complete then .spent else .fault) ∧
      (s.endDischarge z complete).zones[z].unconfirmed = s.zones[z].unconfirmed := by
  have free : (accountedFor s z complete).bank.manifold = none := rfl
  obtain ⟨manifold, waitQueue, cylinders, reservations⟩ := grantNext_bank free
  have unconfirmed := (grantNext_unconfirmed (accountedFor s z complete) z).trans (accountedFor_unconfirmed s complete)
  have granted (y : Room) (head : s.bank.waitQueue.head? = some y) (other : y ≠ z) : Granted s (accountedFor s z complete).grantNext y :=
    (grantNext_granted (s := accountedFor s z complete) head).before (congrArg (·.lastEnvelope) (accountedFor_other s complete other))
      (accountedFor_positions s complete other) rfl
  have accounted (p : Pos) := (congrArg (·[p]) cylinders).trans (accountedFor_cylinder s z complete p)
  rw [endDischarge_eq]
  generalize (accountedFor s z complete).grantNext = g at *
  split
  · next noSoak =>
    obtain ⟨env, zones, -⟩ := enterZone_zone g z .vent
    have bank := enterZone_bank g z .vent
    have own : (g.enterZone z .vent).zones[z] = { g.zones[z] with state := .vent, lastEnvelope := env } := by rw [zones, vset_same]
    refine ⟨⟨?_, (absurd noSoak ·), fun p => ?_, bank.reservations.trans reservations, bank.manifold.trans manifold,
      bank.waitQueue.trans waitQueue, fun y head other => (granted y head other).after ?_ (enterZone_sameFires ..)⟩, ?_⟩
    · rw [own, if_pos noSoak]
    · rw [bank.cylinders]
      exact accounted p
    · rw [zones, vset_other _ _ other.symm]
    · rw [own]
      exact unconfirmed
  · next soaks =>
    set timed := g.setZone z { g.zones[z] with soak := some (60 * s.sup.profiles[z].soak) } with timedIs
    obtain ⟨env, zones, -⟩ := enterZone_zone timed z .soak
    have bank := enterZone_bank timed z .soak
    have own : (timed.enterZone z .soak).zones[z] =
        { g.zones[z] with state := .soak, soak := some (60 * s.sup.profiles[z].soak), lastEnvelope := env } := by
      rw [zones, vset_same, timedIs, State.setZone_zones, vset_same]
    have sameFires : SameFires g timed := .of_loop rfl
    refine ⟨⟨?_, fun _ => ?_, fun p => ?_, bank.reservations.trans reservations, bank.manifold.trans manifold,
      bank.waitQueue.trans waitQueue,
      fun y head other => (granted y head other).after ?_ (sameFires.trans (enterZone_sameFires ..))⟩, ?_⟩
    · rw [own, if_neg soaks]
    · rw [own]
    · rw [bank.cylinders]
      exact accounted p
    · rw [zones, vset_other _ _ other.symm]
      exact vset_other _ _ other.symm
    · rw [own]
      exact unconfirmed

/-- What the end of a discharge hangs on: the bank, the profiles, the stations and the other zones. -/
theorem PassesOn.before {st : CylinderState} (h : PassesOn s t z st) (bank : s.bank = u.bank)
    (profiles : s.sup.profiles = u.sup.profiles) (loop : s.loop = u.loop) (others : ∀ y : Room, y ≠ z → s.zones[y] = u.zones[y]) :
    PassesOn u t z st where
  state := profiles ▸ h.state
  soak := profiles ▸ h.soak
  cylinders := bank ▸ h.cylinders
  reservations := bank ▸ h.reservations
  manifold := bank ▸ h.manifold
  waitQueue := bank ▸ h.waitQueue
  next y head other :=
    (h.next y (bank ▸ head) other).before (congrArg (·.lastEnvelope) (others y other)) (by rw [bank]) loop

theorem PassesOn.after {st : CylinderState} (h : PassesOn s t z st) (kept : Leaves t u) : PassesOn s u z st where
  state := kept.zones ▸ h.state
  soak := kept.zones ▸ h.soak
  cylinders := kept.bank ▸ h.cylinders
  reservations := kept.bank ▸ h.reservations
  manifold := kept.bank ▸ h.manifold
  waitQueue := kept.bank ▸ h.waitQueue
  next y head other := (h.next y head other).after (by rw [kept.zones]) (.of_loop kept.loop)

/-- The state of a failed discharge, with its alarm raised, before the accounting (R125). -/
def failing (s : State) (z : Room) : State :=
  (s.raiseAlarm (.forRoom .releaseFailed z)).setZone z { (s.raiseAlarm (.forRoom .releaseFailed z)).zones[z] with unconfirmed := true }

theorem failing_frame (s : State) (z : Room) :
    (failing s z).bank = s.bank ∧ (failing s z).sup.profiles = s.sup.profiles ∧ (failing s z).loop = s.loop ∧
      (∀ y : Room, y ≠ z → (failing s z).zones[y] = s.zones[y]) ∧ (failing s z).zones[z].unconfirmed = true := by
  refine ⟨by simp [failing], by simp [failing], by simp [failing], fun y other => ?_, ?_⟩
  · rw [failing, State.setZone_zones, vset_other _ _ other.symm]
    simp
  · rw [failing, State.setZone_zones, vset_same]

theorem failDischarge_passesOn (s : State) (z : Room) :
    PassesOn s (s.failDischarge z) z .fault ∧ (s.failDischarge z).zones[z].unconfirmed = true := by
  obtain ⟨bank, profiles, loop, others, mark⟩ := failing_frame s z
  obtain ⟨ends, unconfirmed⟩ := endDischarge_passesOn (failing s z) z false
  exact ⟨ends.before bank profiles loop others, unconfirmed.trans mark⟩

/-- What an expiry of the zones leaves of the clock, the roll, the bearers and the lines. -/
structure Aside (s t : State) : Prop where
  bt : t.bt = s.bt
  clk : t.clk = s.clk
  roll : t.roll = s.roll
  p2 : t.p2 = s.p2
  lines : t.lines = s.lines

theorem Aside.after (h : Aside s t) (kept : Leaves t u) : Aside s u :=
  ⟨kept.bt.trans h.bt, kept.clk.trans h.clk, kept.roll.trans h.roll, kept.p2.trans h.p2, kept.lines.trans h.lines⟩

theorem exec_dischargeTimerExpiry (runs : Runs s) (discharges : s.zones[z].state = .discharging)
    (elapsed : s.zones[z].discharge = some 0) :
    ∃ t, exec (.dischargeTimerExpiry z) s = .next t ∧ PassesOn s t z .spent ∧ Aside s t := by
  have isDue : s.dischargeIsDue z = true := by
    rw [State.dischargeIsDue, discharges, elapsed]
    rfl
  have leaves : Leaves (s.completeDischarge z) (s.takeDischargeExpiry z) := expiry_outcome (·.completeDischarge z) runs isDue
  obtain ⟨ends, -⟩ := endDischarge_passesOn s z true
  have aside : Aside s (s.completeDischarge z) := ⟨by simp, by simp, by simp, by simp, by simp⟩
  exact ⟨_, rfl, ends.after leaves, aside.after leaves⟩

theorem exec_flowStartTimerExpiry (runs : Runs s) (discharges : s.zones[z].state = .discharging)
    (elapsed : s.zones[z].flowStart = some 0) :
    ∃ t, exec (.flowStartTimerExpiry z) s = .next t ∧ PassesOn s t z .fault ∧ t.zones[z].unconfirmed = true ∧ Aside s t := by
  have isDue : s.flowStartIsDue z = true := by
    rw [State.flowStartIsDue, discharges, elapsed]
    rfl
  have leaves : Leaves (s.failDischarge z) (s.takeFlowStartExpiry z) := expiry_outcome (·.failDischarge z) runs isDue
  obtain ⟨ends, unconfirmed⟩ := failDischarge_passesOn s z
  have aside : Aside s (s.failDischarge z) := ⟨by simp, by simp, by simp, by simp, by simp⟩
  exact ⟨_, rfl, ends.after leaves, by rw [leaves.zones, unconfirmed], aside.after leaves⟩

/-! ### The end of the soak (R126) -/

theorem exec_soakTimerExpiry (runs : Runs s) (soaks : s.zones[z].state = .soak) (elapsed : s.zones[z].soak = some 0) :
    ∃ t, exec (.soakTimerExpiry z) s = .next t ∧ Leaves (s.endSoak z) t := by
  have isDue : s.soakIsDue z = true := by
    rw [State.soakIsDue, soaks, elapsed]
    rfl
  exact ⟨_, rfl, expiry_outcome (·.endSoak z) runs isDue⟩

theorem endSoak_zones (s : State) (z : Room) :
    (s.endSoak z).zones = s.zones.set z { s.zones[z] with soak := none, state := .vent } := by
  have zones := enterZone_open (s.setZone z { s.zones[z] with soak := none }) z (st := .vent) rfl
  simp only [State.setZone_zones, Vector.set_set, vset_same] at zones
  exact zones

/-! ### The obligation -/

theorem reservedPositions_eq (s : State) (z : Room) :
    s.bank.reservedPositions z =
      (fins 48).filter fun p => decide (s.bank.cylinders[p].state = .reserved ∧ s.bank.cylinders[p].zone = some z) := by
  simp [AgentBank.reservedPositions, Cylinder.reservedTo]

theorem Fires.spelt (h : Fires s t z) (a : Addr) (at_ : s.stationOf .releaseUnit (num z) = some a)
    (missing : s.loop.stations[a].state ≠ .missing) (wrong : s.loop.stations[a].state ≠ .wrongType) :
    t.loop.stations[a].slots.fire =
      some ⟨(fins 48).filter fun p => decide (s.bank.cylinders[p].state = .reserved ∧ s.bank.cylinders[p].zone = some z), false⟩ := by
  rw [← reservedPositions_eq]
  exact h a at_ missing wrong

/-- Settles O22: the grant at the countdown's end or as the head of the queue, the accounting at the end of a discharge, and the soak. -/
theorem dischargeSequence : Obligations.DischargeSequence := by
  refine ⟨fun s z runs counts due => ⟨fun free nobody => ?_, fun busy => ?_⟩, fun s z runs => ⟨fun i st which discharges => ?_, fun soaks elapsed => ?_⟩⟩
  · obtain ⟨t, next, leaves⟩ := exec_countdownEnd runs counts due
    obtain ⟨state, remainder, flowStart, discharge, flowSeen, envelope, manifold, waitQueue, fires, others, cylinders⟩ :=
      endCountdown_granted (z := z) free nobody
    have aside : Aside s (s.endCountdown z) := ⟨by simp, by simp, by simp, by simp, by simp⟩
    have fired := fires.after (.of_loop leaves.loop)
    obtain ⟨bt, clk, roll, p2, lines⟩ := aside.after leaves
    refine ⟨t, next, ?_⟩
    rw [leaves.zones, leaves.bank]
    exact ⟨state, remainder, flowStart, discharge, flowSeen, envelope, manifold, waitQueue, fired.spelt, others, cylinders, bt, clk, roll,
      p2, lines⟩
  · obtain ⟨t, next, leaves⟩ := exec_countdownEnd runs counts due
    obtain ⟨state, remainder, manifold, waitQueue, others, cylinders⟩ := endCountdown_waiting (z := z) busy
    have aside : Aside s (s.endCountdown z) := ⟨by simp, by simp, by simp, by simp, by simp⟩
    obtain ⟨bt, clk, roll, p2, lines⟩ := aside.after leaves
    refine ⟨t, next, ?_⟩
    rw [leaves.zones, leaves.bank]
    exact ⟨state, remainder, manifold, waitQueue, others, cylinders, bt, clk, roll, p2, lines⟩
  · obtain ⟨t, next, passes, mark, aside⟩ : ∃ t, exec i s = .next t ∧ PassesOn s t z st ∧
        (i = .flowStartTimerExpiry z → t.zones[z].unconfirmed = true) ∧ Aside s t := by
      obtain ⟨rfl, elapsed, rfl⟩ | ⟨rfl, elapsed, rfl⟩ := which
      · obtain ⟨t, next, passes, aside⟩ := exec_dischargeTimerExpiry runs discharges elapsed
        exact ⟨t, next, passes, nofun, aside⟩
      · obtain ⟨t, next, passes, unconfirmed, aside⟩ := exec_flowStartTimerExpiry runs discharges elapsed
        exact ⟨t, next, passes, fun _ => unconfirmed, aside⟩
    exact ⟨t, next, passes.state, passes.soak, mark, passes.cylinders, passes.reservations, passes.manifold, passes.waitQueue,
      fun y head other =>
        have g := passes.next y head other
        ⟨g.state, g.flowStart, g.discharge, g.flowSeen, g.envelope, g.fires.spelt⟩,
      aside.bt, aside.clk, aside.roll, aside.p2, aside.lines⟩
  · obtain ⟨t, next, leaves⟩ := exec_soakTimerExpiry runs soaks elapsed
    have aside : Aside s (s.endSoak z) := ⟨by simp, by simp, by simp, by simp, by simp⟩
    obtain ⟨bt, clk, roll, p2, lines⟩ := aside.after leaves
    have bank := enterZone_bank (s.setZone z { s.zones[z] with soak := none }) z .vent
    have demand := enterZone_demand (s.setZone z { s.zones[z] with soak := none }) z .vent
    refine ⟨t, next, ?_⟩
    rw [leaves.zones, leaves.bank, leaves.doors, endSoak_zones]
    refine ⟨?_, ?_, demand, fun j other => vset_other _ _ other.symm, bank.cylinders, bank.manifold, bt, clk, roll, p2, lines⟩
    · rw [vset_same]
    · rw [vset_same]

end Sys2Proof.Proofs.DischargeSequence
end

section
/-! PROOFS. FRAMES SENT (R159, R165, R167, R174): the beginning and the end of a transmission on each port, how a notice joins the queue, what
a notice carries, and what the data outputs send. -/
namespace Sys2Proof.Proofs.FramesSent

open Sys2Proof Sys2Proof.Machine Sys2Proof.Safety Sys2Proof.Laws
open Sys2Proof.Proofs.Reception (running_of)

variable {s : State}

/-! ### The beginning of a frame -/

theorem mayTransmit_of (runs : Runs s) (inService : s.p1.heldOff = false) (idle : s.p1.tx = .idle) (stays : s.sup.restartDue = false)
    (turn : s.p1.txMode = .direct ∨ s.p1.turn.isSome = true) : s.mayTransmit = true := by
  unfold State.mayTransmit
  rw [running_of runs, inService, idle, stays]
  simpa using turn

/-- The frame at the head of the queue begins, and the marks are served while two entries are free. -/
theorem beginFrame_eq {e : TxEntry} {rest : List TxEntry} (head : s.p1.queue = e :: rest) :
    s.beginFrame =
      { s with
        p1 :=
          { s.p1 with
            queue := rest ++ (s.p1.marks.take (15 - rest.length)).map fun o => .notice (s.buildNotice o)
            marks := s.p1.marks.drop (15 - rest.length), tx := .sending
            sending := some ⟨s.p1.txPair, s.p1.lead, s.sup.sentAddress, s.p1.busy, e⟩ } } := by
  unfold State.beginFrame
  rw [head]
  dsimp only
  rw [State.serveMarks_eq]
  rfl

theorem exec_transmitSupervisor {e : TxEntry} {rest : List TxEntry} (may : s.mayTransmit = true) (head : s.p1.queue = e :: rest) :
    exec (.frameTransmit .supervisor) s =
      .next
        { s with
          p1 :=
            { s.p1 with
              queue := rest ++ (s.p1.marks.take (15 - rest.length)).map fun o => .notice (s.buildNotice o)
              marks := s.p1.marks.drop (15 - rest.length), tx := .sending
              sending :=
                some ⟨s.p1.txPair, if s.p1.txMode = .shared ∧ s.p1.turn = some 0 then 2 else 1, s.sup.sentAddress,
                  6 ≤ s.p1.requests.length, e⟩ } } := by
  have lead : s.p1.lead = if s.p1.txMode = .shared ∧ s.p1.turn = some 0 then 2 else 1 := by simp [PortOne.lead]
  have begins : exec (.frameTransmit .supervisor) s = .next s.beginFrame := congrArg Host.Outcome.next (if_pos may)
  rw [begins, beginFrame_eq head, lead]
  rfl

theorem exec_transmitLoop {a : Option Addr} {c : PollContent} (runs : Runs s) (inService : s.p2.heldOff = false)
    (ready : s.loop.current = some ⟨a, .ready, c⟩) :
    exec (.frameTransmit .fieldLoop) s =
      .next { s with loop := { s.loop with current := some ⟨a, .sending, c⟩ }, p2 := { s.p2 with tx := .sending } } := by
  have begins : s.beginPoll =
      { s with loop := { s.loop with current := some ⟨a, .sending, c⟩ }, p2 := { s.p2 with tx := .sending } } := by
    unfold State.beginPoll
    rw [ready]
    dsimp only
    rw [running_of runs, inService]
    rfl
  exact congrArg Host.Outcome.next begins

/-! ### The end of a frame -/

theorem exec_sentSupervisor {fr : SentFrame} (runs : Runs s) (sends : s.p1.sending = some fr) :
    exec (.frameSent .supervisor) s =
      .next ((s.setPortOne { s.p1 with tx := .idle, sending := none, turn := s.p1.turnAfter }).applyAfter fr.entry.after) := by
  have ends : s.frameDone = (s.setPortOne { s.p1 with tx := .idle, sending := none, turn := s.p1.turnAfter }).applyAfter fr.entry.after := by
    unfold State.frameDone
    rw [sends]
  exact (congrArg Host.Outcome.next (if_pos (running_of runs))).trans (congrArg Host.Outcome.next ends)

theorem exec_sentLoop {a : Option Addr} {c : PollContent} (runs : Runs s) (sends : s.loop.current = some ⟨a, .sending, c⟩) :
    exec (.frameSent .fieldLoop) s =
      .next
        { s with
          loop := { s.loop with current := a.map fun b => ⟨some b, .awaiting, c⟩ }
          p2 := { s.p2 with tx := .idle } } := by
  have ends : s.pollSent =
      { s with
        loop := { s.loop with current := a.map fun b => ⟨some b, .awaiting, c⟩ }
        p2 := { s.p2 with tx := .idle } } := by
    unfold State.pollSent
    rw [sends]
    cases a <;> rfl
  exact (congrArg Host.Outcome.next (if_pos (running_of runs))).trans (congrArg Host.Outcome.next ends)

/-- The turn of Shared mode after a frame of it: it goes on while an answer waits, and with notices up to four frames (R165). -/
theorem turnAfter_none {p : PortOne} (h : p.turn = none) : p.turnAfter = none := by
  unfold PortOne.turnAfter
  rw [h]

theorem turnAfter_some {p : PortOne} {n : Nat} (h : p.turn = some n) :
    p.turnAfter = if p.queue.any TxEntry.isAnswer || (n + 1 < 4 && p.queue ≠ []) then some (n + 1) else none := by
  unfold PortOne.turnAfter
  rw [h]
  cases p.queue <;> rfl

/-! ### The data outputs -/

theorem output_frame {p : PortOne} {fr : SentFrame} (high : p.dataLow = false) (tx : p.tx = .sending) (sends : p.sending = some fr) :
    p.output false = .bits (fr.pair.idle fr.lead ++ fr.linkFrame.line) := by
  unfold PortOne.output
  rw [high, tx, sends]
  rfl

theorem output_idle {p : PortOne} (high : p.dataLow = false) (tx : p.tx = .idle) :
    p.output false = if p.txMode = .direct ∨ p.turn.isSome = true then .pairs p.txPair else .one := by
  unfold PortOne.output
  rw [high, tx]
  simp

theorem loopOutput_idle (high : s.p2.dataLow = false) (tx : s.p2.tx = .idle) : s.loopOutput false = .pairs s.p2.usedPair := by
  unfold State.loopOutput
  rw [high, tx]
  rfl

theorem loopOutput_poll {c : PollInProgress} (high : s.p2.dataLow = false) (tx : s.p2.tx = .sending) (sends : s.loop.current = some c) :
    s.loopOutput false = .bits (s.p2.usedPair.idle 1 ++ c.linkFrame.line) := by
  unfold State.loopOutput
  rw [high, tx, sends]
  rfl

theorem boundedPayload_length (os : List Octet) : (boundedPayload os).length ≤ 120 := List.length_take_le ..

theorem kindOctet_answer (busy : Bool) : kindOctet 2 busy = if busy then 18#8 else 2#8 := by cases busy <;> rfl

theorem kindOctet_notice (busy : Bool) : kindOctet 3 busy = if busy then 19#8 else 3#8 := by cases busy <;> rfl

theorem linkFrame_answer {fr : SentFrame} {ans : Answer} {after : AfterSent} (sends : fr.entry = .answer ans after) :
    fr.linkFrame =
      { address := fr.address, kind := kindOctet 2 fr.busy, tag := ans.tag
        payload := boundedPayload ([ans.request, ans.code.octet] ++ ans.contents.octets) } := by
  unfold SentFrame.linkFrame
  rw [sends]

theorem linkFrame_notice {fr : SentFrame} {note : Notice} (sends : fr.entry = .notice note) :
    fr.linkFrame =
      { address := fr.address, kind := kindOctet 3 fr.busy, tag := 0, payload := boundedPayload note.payload } := by
  unfold SentFrame.linkFrame
  rw [sends]

theorem linkFrame_bounded (fr : SentFrame) : fr.linkFrame.payload.length ≤ 120 ∧ fr.linkFrame.address = fr.address := by
  cases sends : fr.entry with
  | answer ans after =>
    rw [linkFrame_answer sends]
    exact ⟨boundedPayload_length _, rfl⟩
  | notice note =>
    rw [linkFrame_notice sends]
    exact ⟨boundedPayload_length _, rfl⟩

/-- An answer's payload begins with its request code and its answer code, and holds no more without contents (R169). -/
theorem answerPayload (ans : Answer) :
    let payload := boundedPayload ([ans.request, ans.code.octet] ++ ans.contents.octets)
    payload.take 2 = [ans.request, ans.code.octet] ∧ (ans.contents = .nothing → payload.length = 2) := by
  refine ⟨?_, fun nothing => ?_⟩
  · simp [boundedPayload, Config.maxPayload, List.take_take]
  · rw [nothing]
    rfl

/-! ### Notices (R167, R174) -/

theorem queueNotice_heldOff {p : PortOne} (n : Notice) (off : p.heldOff = true) : p.queueNotice n = p := if_pos off

/-- No notice of an object waits. -/
theorem any_isNoticeOf (p : PortOne) (o : NoticeObject) :
    p.queue.any (TxEntry.isNoticeOf o) = false ↔ ∀ e ∈ p.queue, e.isNoticeOf o = false := by
  simp [List.any_eq_false]

theorem queueNotice_replaces {p : PortOne} {n : Notice} (on : p.heldOff = false) (waits : ¬ ∀ e ∈ p.queue, e.isNoticeOf n.object = false) :
    p.queueNotice n = { p with queue := p.queue.map fun e => if e.isNoticeOf n.object then TxEntry.notice n else e } := by
  have any : p.queue.any (TxEntry.isNoticeOf n.object) = true := by
    by_contra nobody
    exact waits ((any_isNoticeOf p n.object).1 (Bool.not_eq_true _ ▸ nobody))
  unfold PortOne.queueNotice
  rw [on, any]
  rfl

theorem queueNotice_marked {p : PortOne} {n : Notice} (on : p.heldOff = false) (nobody : ∀ e ∈ p.queue, e.isNoticeOf n.object = false)
    (marked : n.object ∈ p.marks) : p.queueNotice n = p := by
  unfold PortOne.queueNotice
  rw [on, (any_isNoticeOf p n.object).2 nobody, List.contains_iff_mem.2 marked]
  rfl

theorem queueNotice_joins {p : PortOne} {n : Notice} (on : p.heldOff = false) (nobody : ∀ e ∈ p.queue, e.isNoticeOf n.object = false)
    (unmarked : n.object ∉ p.marks) :
    p.queueNotice n =
      if p.queue.length ≤ 14 then { p with queue := p.queue ++ [.notice n] } else { p with marks := p.marks ++ [n.object] } := by
  have notMarked : p.marks.contains n.object = false := by simpa using unmarked
  have room : 2 ≤ p.free ↔ p.queue.length ≤ 14 := by
    unfold PortOne.free Config.transmitQueueSize
    omega
  unfold PortOne.queueNotice
  rw [on, (any_isNoticeOf p n.object).2 nobody, notMarked]
  simp only [room, Bool.false_eq_true, if_false]

/-- A notice built from the state names its object and tells it as it stands. -/
theorem buildNotice_object (s : State) (o : NoticeObject) : (s.buildNotice o).object = o := by
  cases o with
  | alarm k =>
    unfold State.buildNotice
    dsimp only
    split
    · next r found => exact congrArg NoticeObject.alarm (by simpa using List.find?_some found)
    · rfl
  | bearer n =>
    unfold State.buildNotice
    dsimp only
    split <;> rfl
  | _ => rfl

theorem recordOf_key {k : AlarmKey} {r : AlarmRecord} (h : recordOf s k = some r) : r.key = k := by
  simpa using List.find?_some h

theorem buildNotice_standing {k : AlarmKey} {r : AlarmRecord} (h : recordOf s k = some r) :
    s.buildNotice (.alarm k) = .alarm k (.standing r.state) k.kind.priority r.repeats r.raisedAt := by
  have found : s.alarms.records.find? (fun r => r.key = k) = some r := h
  have key := recordOf_key h
  unfold State.buildNotice
  dsimp only
  rw [found, ← key]
  rfl

theorem buildNotice_gone {k : AlarmKey} (h : recordOf s k = none) : s.buildNotice (.alarm k) = .alarm k .retired k.kind.priority 0 .zeros := by
  have found : s.alarms.records.find? (fun r => r.key = k) = none := h
  unfold State.buildNotice
  dsimp only
  rw [found]

theorem buildNotice_bearer (s : State) (n : Nat) :
    s.buildNotice (.bearer n) =
      .bearer n ((s.bt.bearers.get n).map fun b => b.state) (((s.bt.bearers.get n).map fun b => b.failedPin).getD 0) := by
  unfold State.buildNotice
  dsimp only
  cases s.bt.bearers.get n <;> rfl

theorem buildNotice_tells (s : State) (o : NoticeObject) : Tells s o (s.buildNotice o) := by
  cases o with
  | alarm k =>
    unfold Tells
    dsimp only
    cases record : recordOf s k with
    | some r => exact buildNotice_standing record
    | none => exact ⟨.retired, .zeros, fun _ => nofun, buildNotice_gone record⟩
  | bearer n =>
    unfold Tells
    dsimp only
    rw [buildNotice_bearer]
    cases s.bt.bearers.get n <;> rfl
  | zone z => exact ⟨_, rfl⟩
  | door d => exact ⟨_, rfl⟩
  | roll r => exact ⟨_, rfl⟩
  | coverage z => exact ⟨_, rfl⟩
  | cylinder p => exact rfl
  | station a => exact rfl
  | site => exact rfl

/-! ### The obligation -/

/-- Settles O37: the beginning and the end of a frame on each port, the queueing of a notice and its contents, and the data outputs. -/
theorem framesBeginAndEnd : Obligations.FramesBeginAndEnd := by
  refine ⟨fun s runs => ⟨?_, ?_⟩, fun s runs => ⟨?_, ?_, ?_⟩, ?_, ?_, ?_, ?_⟩
  · intro e rest inService idle stays turn head
    exact exec_transmitSupervisor (mayTransmit_of runs inService idle stays turn) head
  · intro a c inService ready
    exact exec_transmitLoop runs inService ready
  · intro fr sends answerWaits turn idle
    have goesOn : s.p1.turnAfter = turn := by
      cases counted : s.p1.turn with
      | none =>
        rw [turnAfter_none counted]
        simp only [turn, counted]
      | some n =>
        rw [turnAfter_some counted]
        simp only [turn, counted, answerWaits]
    have ended := exec_sentSupervisor runs sends
    rw [goesOn] at ended
    refine ⟨fun after => ?_, fun a after => ?_, fun after => ?_, fun pair mode after => ?_⟩
    · rw [after] at ended
      exact ended
    · rw [after] at ended
      exact ended
    · rw [after] at ended
      exact ended
    · rw [after] at ended
      rw [ended]
      unfold State.applyAfter State.setPortOne
      rfl
  · intro a c sends
    exact exec_sentLoop runs sends
  · intro c sends
    exact exec_sentLoop runs sends
  · intro p fr high tx sends sent
    refine ⟨output_frame high tx sends, (linkFrame_bounded fr).1, (linkFrame_bounded fr).2, ?_, ?_⟩
    · intro ans after entry
      have frame : sent = _ := linkFrame_answer entry
      rw [frame]
      exact ⟨kindOctet_answer _, rfl, (answerPayload ans).1, (answerPayload ans).2⟩
    · intro note entry
      have frame : sent = _ := linkFrame_notice entry
      rw [frame]
      exact ⟨kindOctet_notice _, rfl, rfl⟩
  · intro p n nobody
    exact ⟨queueNotice_heldOff n, queueNotice_replaces, queueNotice_marked, queueNotice_joins⟩
  · intro s
    refine ⟨fun o => ⟨buildNotice_object s o, buildNotice_tells s o⟩, ?_, ?_, ?_, ?_, ?_, ⟨rfl, rfl⟩, ?_⟩
    · intro k r record
      rw [buildNotice_standing record]
      exact ⟨rfl, rfl⟩
    · intro k record
      rw [buildNotice_gone record]
      rfl
    · intro i z d c
      exact ⟨rfl, rfl, rfl, rfl, rfl, rfl, rfl, rfl⟩
    · intro p c
      exact ⟨rfl, rfl⟩
    · intro a st
      exact ⟨rfl, rfl⟩
    · intro n
      rw [buildNotice_bearer]
      exact ⟨rfl, rfl⟩
  · intro p s
    refine ⟨rfl, rfl, output_idle, loopOutput_idle, fun c high tx sends => ⟨loopOutput_poll high tx sends, ?_, rfl, rfl⟩⟩
    exact boundedPayload_length _

end Sys2Proof.Proofs.FramesSent
end

section
/-! PROOFS. THE EXPIRIES OF A TICK (R1, R56, R78): where none is due they are nothing, and a release or a pairing window that has run out is at
its end whatever the other expiries of the tick bring about. -/
namespace Sys2Proof.Proofs.TickExpiries

open Sys2Proof Sys2Proof.Machine Sys2Proof.Safety Sys2Proof.Laws Sys2Proof.Proofs.Evaluation Sys2Proof.Proofs.OneRoom
open Sys2Proof.Proofs.DoorRequests (setDoor_own expiry_taken dropHold_shut)
open Sys2Proof.Proofs.DischargeSequence

variable {s t u : State} {r : Room}

/-! ### Where nothing is due -/

theorem expiry_idle {due : Bool} (g : State → State) (h : due = false) : expiry due g s = s := by
  rw [expiry, h, Bool.and_false, if_neg Bool.false_ne_true]

theorem foldl_idle {α : Type} {g : State → α → State} (l : List α) (h : ∀ x, g s x = s) : l.foldl g s = s := by
  induction l with
  | nil => rfl
  | cons x l ih => rw [List.foldl_cons, h, ih]

/-- Where no timer's expiry is due, the expiries of a tick are nothing. -/
theorem settle_nothing (h : NothingDue s) : s.settle = s := by
  obtain ⟨grace, zones, entries⟩ := h
  have g : s.takeGraceExpiry = s := expiry_idle _ grace
  unfold State.settle
  dsimp only
  rw [g, foldl_idle rooms (g := State.takeUnlockExpiry) fun r => expiry_idle _ (zones r).1,
    foldl_idle rooms (g := State.takeHeldOpenExpiry) fun r => expiry_idle _ (zones r).2.1,
    foldl_idle rooms (g := State.takeWindowExpiry) fun r => expiry_idle _ (zones r).2.2.1,
    foldl_idle rooms (g := State.takeDischargeExpiry) fun r => expiry_idle _ (zones r).2.2.2.1,
    foldl_idle rooms (g := State.takeFlowStartExpiry) fun r => expiry_idle _ (zones r).2.2.2.2.1,
    foldl_idle rooms (g := State.takeSoakExpiry) fun r => expiry_idle _ (zones r).2.2.2.2.2.1,
    foldl_idle rooms (g := State.takeCountdownEnd) fun r => expiry_idle _ (zones r).2.2.2.2.2.2,
    foldl_idle _ (g := State.takePrompt) fun e => expiry_idle _ (entries e).1,
    foldl_idle _ (g := State.takeOverdue) fun e => expiry_idle _ (entries e).2]

/-! ### What stays at its end -/

/-- A door without a release, closed, with its time lock as given. -/
structure Shut (lock : Bool) (d : Door) : Prop where
  timeLock : d.timeLock = lock
  state : d.state = d.closedState
  releaseKind : d.releaseKind = none
  unlock : d.unlock = none
  hold : d.hold = false

theorem Shut.notReleased {lock : Bool} {d : Door} (h : Shut lock d) : d.state ≠ .released ∧ d.isOpen = false := by
  rw [Door.isOpen, h.state, Door.closedState]
  split <;> exact ⟨nofun, rfl⟩

/-- Doors that are shut stay shut, doors without a context stay without one, and the clock and the lines stay as they are. -/
structure Calm (s t : State) : Prop where
  doors : ∀ (r : Room) (lock : Bool), Shut lock s.doors[r] → Shut lock t.doors[r]
  ctx : ∀ r : Room, s.ctx[r] = .empty → t.ctx[r] = .empty
  clk : t.clk = s.clk
  lines : t.lines = s.lines

theorem Calm.refl (s : State) : Calm s s := ⟨fun _ _ => id, fun _ => id, rfl, rfl⟩

theorem Calm.trans (h : Calm s t) (h' : Calm t u) : Calm s u :=
  ⟨fun r lock x => h'.doors r lock (h.doors r lock x), fun r x => h'.ctx r (h.ctx r x), h'.clk.trans h.clk, h'.lines.trans h.lines⟩

theorem Calm.of_eq (doors : t.doors = s.doors) (ctx : t.ctx = s.ctx) (clk : t.clk = s.clk) (lines : t.lines = s.lines) : Calm s t :=
  ⟨fun _ _ x => doors ▸ x, fun _ x => ctx ▸ x, clk, lines⟩

theorem Calm.foldl {α : Type} {g : State → α → State} (calm : ∀ s x, Calm s (g s x)) (l : List α) (s : State) : Calm s (l.foldl g s) := by
  induction l generalizing s with
  | nil => exact .refl s
  | cons x l ih => exact (calm s x).trans (ih _)

theorem expiry_calm (due : Bool) {g : State → State} (calm : due = true → Calm s (g s)) : Calm s (expiry due g s) := by
  unfold expiry State.event
  split
  · next taken =>
    have leaves := finish_leaves s (g s)
    have isDue : due = true := ((Bool.and_eq_true _ _).mp taken).2
    exact (calm isDue).trans (.of_eq leaves.doors leaves.ctx leaves.clk leaves.lines)
  · exact .refl s

theorem setDoor_calm (s : State) (r : Room) (d : Door) (keeps : ∀ lock, Shut lock s.doors[r] → Shut lock d) : Calm s (s.setDoor r d) where
  doors y lock shut := by
    by_cases same : y = r
    · subst same
      rw [setDoor_own]
      exact keeps lock shut
    · rw [State.setDoor_doors, vset_other _ _ (Ne.symm same)]
      exact shut
  ctx _ x := x
  clk := rfl
  lines := rfl

/-! ### The expiries of the zones -/

theorem Shut.notCancellable {lock : Bool} {d : Door} (h : Shut lock d) : d.cancellable = false := by
  rw [Door.cancellable, decide_eq_false h.notReleased.1]
  rfl

theorem Shut.demanded {lock : Bool} {d : Door} (h : Shut lock d) (demand : Bool) : Shut lock { d with closeDemand := demand } :=
  ⟨h.timeLock, h.state, h.releaseKind, h.unlock, h.hold⟩

/-- A close demand finds nothing to cancel at a door that is shut. -/
theorem setCloseDemand_shut {lock : Bool} (h : Shut lock s.doors[r]) (demand : Bool) : Shut lock (s.setCloseDemand r demand).doors[r] := by
  unfold State.setCloseDemand
  dsimp only
  split
  · exact h
  · have set : (s.setDoor r { s.doors[r] with closeDemand := demand }).doors[r] = { s.doors[r] with closeDemand := demand } := setDoor_own ..
    generalize s.setDoor r { s.doors[r] with closeDemand := demand } = u at set ⊢
    have shut : Shut lock u.doors[r] := set ▸ h.demanded demand
    split
    · have held : Shut lock (u.dropHold r).doors[r] := by
        rw [dropHold_shut shut.notReleased.2, setDoor_own]
        exact ⟨shut.timeLock, shut.state, shut.releaseKind, shut.unlock, rfl⟩
      have kept : (u.dropHold r).cancelRelease r = u.dropHold r := if_neg (by rw [held.notCancellable]; exact Bool.false_ne_true)
      rw [kept]
      exact held
    · exact shut

theorem enterZone_shut {lock : Bool} (z : Room) (st : ZoneState) (h : Shut lock s.doors[z]) : Shut lock (s.enterZone z st).doors[z] := by
  have demanded : Shut lock ((s.setZone z { s.zones[z] with state := st }).setCloseDemand z st.demand).doors[z] :=
    setCloseDemand_shut (s := s.setZone z { s.zones[z] with state := st }) h st.demand
  unfold State.enterZone
  dsimp only
  split <;> exact demanded

theorem enterZone_calm (s : State) (z : Room) (st : ZoneState) : Calm s (s.enterZone z st) where
  doors y lock shut := by
    by_cases same : y = z
    · subst same
      exact enterZone_shut y st shut
    · obtain ⟨door, -⟩ := (enterZone_atDoor s z st).others y same
      rw [door]
      exact shut
  ctx y none_ := by
    rw [enterZone_ctx]
    split
    · exact none_
    · by_cases same : z = y
      · subst same
        exact vset_same ..
      · exact (vset_other _ _ same).trans none_
  clk := by simp
  lines := by simp

theorem grant_calm (s : State) (z : Room) : Calm s (s.grant z) := by
  have placed : Calm s ((granting s z).placeFire z (s.bank.reservedPositions z)) := .of_eq (by simp [granting]) (by simp [granting])
    (by simp [granting]) (by simp [granting])
  exact placed.trans (enterZone_calm _ z .discharging)

theorem grantNext_calm (s : State) : Calm s s.grantNext := by
  cases head : s.bank.waitQueue with
  | nil =>
    rw [grantNext_none head]
    exact .refl s
  | cons y rest =>
    rw [grantNext_head head]
    have passed : Calm s { s with bank := { s.bank with waitQueue := rest } } := .of_eq rfl rfl rfl rfl
    exact passed.trans (grant_calm _ y)

theorem endDischarge_calm (s : State) (z : Room) (complete : Bool) : Calm s (s.endDischarge z complete) := by
  have accounted : Calm s (accountedFor s z complete) := .of_eq rfl rfl rfl rfl
  have passed := accounted.trans (grantNext_calm _)
  rw [endDischarge_eq]
  split
  · exact passed.trans (enterZone_calm _ z .vent)
  · have soaks := passed.trans (t := (accountedFor s z complete).grantNext)
      (u := (accountedFor s z complete).grantNext.setZone z
        { (accountedFor s z complete).grantNext.zones[z] with soak := some (60 * s.sup.profiles[z].soak) }) (.of_eq rfl rfl rfl rfl)
    exact soaks.trans (enterZone_calm _ z .soak)

theorem failDischarge_calm (s : State) (z : Room) : Calm s (s.failDischarge z) := by
  have raised : Calm s (failing s z) := .of_eq (by simp [failing]) (by simp [failing]) (by simp [failing]) (by simp [failing])
  exact raised.trans (endDischarge_calm _ z false)

theorem endSoak_calm (s : State) (z : Room) : Calm s (s.endSoak z) := by
  have stopped : Calm s (s.setZone z { s.zones[z] with soak := none }) := .of_eq rfl rfl rfl rfl
  exact stopped.trans (enterZone_calm _ z .vent)

theorem endCountdown_calm (s : State) (z : Room) : Calm s (s.endCountdown z) := by
  have counted : Calm s (countedDown s z) := .of_eq rfl rfl rfl rfl
  by_cases free : s.bank.manifold = none ∧ s.bank.waitQueue = []
  · rw [endCountdown_grants free.1 free.2]
    exact counted.trans (grant_calm _ z)
  · rw [endCountdown_waits (not_and_or.mp free)]
    have waits : Calm s { countedDown s z with bank := { s.bank with waitQueue := s.bank.waitQueue ++ [z] } } := .of_eq rfl rfl rfl rfl
    exact waits.trans (enterZone_calm _ z .waitBank)

/-! ### The doors and the contexts at their own expiries -/

theorem endRelease_door (s : State) (r : Room) :
    (s.endRelease r).doors[r] = { s.doors[r] with state := s.doors[r].closedState, releaseKind := none, unlock := none, hold := false } :=
  setDoor_own ..

theorem endRelease_shut (s : State) (r : Room) : Shut s.doors[r].timeLock (s.endRelease r).doors[r] := by
  rw [endRelease_door]
  exact ⟨rfl, rfl, rfl, rfl, rfl⟩

theorem takeUnlockExpiry_calm (s : State) (r : Room) : Calm s (s.takeUnlockExpiry r) :=
  expiry_calm _ fun due => setDoor_calm s r _ fun lock shut => by
    have released : s.doors[r].state = .released := by
      simp only [State.unlockIsDue, Bool.and_eq_true, decide_eq_true_eq] at due
      exact due.1
    exact absurd released shut.notReleased.1

theorem takeHeldOpenExpiry_calm (s : State) (r : Room) : Calm s (s.takeHeldOpenExpiry r) :=
  expiry_calm _ fun due => by
    have open_ : s.doors[r].isOpen = true := by
      simp only [State.heldOpenIsDue, Bool.and_eq_true] at due
      exact due.2
    have set := setDoor_calm s r
      { s.doors[r] with heldOpen := .expired, state := if s.doors[r].state = .opened then .held else s.doors[r].state }
      fun lock shut => absurd open_ (by rw [shut.notReleased.2]; exact Bool.false_ne_true)
    exact set.trans (.of_eq (by simp [State.expireHeld]) (by simp [State.expireHeld]) (by simp [State.expireHeld]) (by simp [State.expireHeld]))

theorem takeWindowExpiry_calm (s : State) (r : Room) : Calm s (s.takeWindowExpiry r) :=
  expiry_calm _ fun _ =>
    { doors := fun _ _ shut => shut
      ctx := fun y none_ => by
        by_cases same : r = y
        · subst same
          exact vset_same ..
        · exact (vset_other _ _ same).trans none_
      clk := rfl
      lines := rfl }

/-- A room's turn in a walk over all rooms: what its turn brings about stays, and the turns before it leave what it needs. -/
theorem foldl_reaches {P Q : State → Prop} {g : State → Room → State} (before : ∀ s x, x ≠ r → P s → P (g s x))
    (turn : ∀ s, P s → Q (g s r)) (after : ∀ s x, Q s → Q (g s x)) {l : List Room} (mem : r ∈ l) (start : P s) : Q (l.foldl g s) := by
  have stays (l : List Room) (t : State) (reached : Q t) : Q (l.foldl g t) := by
    induction l generalizing t with
    | nil => exact reached
    | cons x l ih => exact ih _ (after t x reached)
  induction l generalizing s with
  | nil => exact absurd mem List.not_mem_nil
  | cons x l ih =>
    by_cases here : x = r
    · subst here
      exact stays l _ (turn s start)
    · exact ih ((List.mem_cons.mp mem).resolve_left (Ne.symm here)) (before s x here start)

theorem runs_of_lines (runs : Runs s) (h : t.lines = s.lines) : Runs t := by
  rw [Runs, h]
  exact runs

theorem takeUnlockExpiry_own (runs : Runs s) (due : s.unlockIsDue r = true) : Shut s.doors[r].timeLock (s.takeUnlockExpiry r).doors[r] := by
  have taken : s.takeUnlockExpiry r = State.finish s (s.endRelease r) := expiry_taken (·.endRelease r) runs due
  rw [taken, (finish_leaves ..).doors]
  exact endRelease_shut s r

theorem takeUnlockExpiry_other (s : State) {y : Room} (other : y ≠ r) : (s.takeUnlockExpiry y).doors[r] = s.doors[r] := by
  unfold State.takeUnlockExpiry expiry State.event
  split
  · have left := congrArg (·[r]) (finish_leaves s (s.endRelease y)).doors
    exact left.trans (vset_other _ _ other)
  · rfl

theorem unlocks_end (runs : Runs s) (due : s.unlockIsDue r = true) :
    Shut s.doors[r].timeLock (rooms.foldl State.takeUnlockExpiry s).doors[r] := by
  refine foldl_reaches (P := fun t => Runs t ∧ t.doors[r] = s.doors[r]) (Q := fun t => Shut s.doors[r].timeLock t.doors[r]) (fun t y other ⟨on, door⟩ => ?_) (fun t ⟨on, door⟩ => ?_)
    (fun t y => (takeUnlockExpiry_calm t y).doors r _) (mem_rooms r) ⟨runs, rfl⟩
  · exact ⟨runs_of_lines on (by simp), (takeUnlockExpiry_other t other).trans door⟩
  · rw [← door]
    exact takeUnlockExpiry_own on (by rw [State.unlockIsDue, door]; exact due)

theorem takeWindowExpiry_own (runs : Runs s) (due : s.windowIsDue r = true) : (s.takeWindowExpiry r).ctx[r] = .empty := by
  have taken : s.takeWindowExpiry r = State.finish s (s.dropContext r) := expiry_taken (·.dropContext r) runs due
  rw [taken, (finish_leaves ..).ctx]
  exact vset_same ..

theorem takeWindowExpiry_other (s : State) {y : Room} (other : y ≠ r) : (s.takeWindowExpiry y).ctx[r] = s.ctx[r] := by
  unfold State.takeWindowExpiry expiry State.event
  split
  · have left := congrArg (·[r]) (finish_leaves s (s.dropContext y)).ctx
    exact left.trans (vset_other _ _ other)
  · rfl

theorem windows_end (runs : Runs s) (due : s.windowIsDue r = true) : (rooms.foldl State.takeWindowExpiry s).ctx[r] = .empty := by
  refine foldl_reaches (P := fun t => Runs t ∧ t.ctx[r] = s.ctx[r]) (Q := fun t => t.ctx[r] = .empty) (fun t y other ⟨on, ctx⟩ => ?_) (fun t ⟨on, ctx⟩ => ?_)
    (fun t y => (takeWindowExpiry_calm t y).ctx r) (mem_rooms r) ⟨runs, rfl⟩
  · exact ⟨runs_of_lines on (by simp), (takeWindowExpiry_other t other).trans ctx⟩
  · exact takeWindowExpiry_own on (by rw [State.windowIsDue, ctx]; exact due)

/-! ### The expiries of a tick -/

/-- The expiries after those of the pairing windows: the zones' and the lone workers'. -/
def settleLast (s : State) : State :=
  let s := rooms.foldl State.takeDischargeExpiry s
  let s := rooms.foldl State.takeFlowStartExpiry s
  let s := rooms.foldl State.takeSoakExpiry s
  let s := rooms.foldl State.takeCountdownEnd s
  let s := (s.roll.entries.map Prod.fst).foldl State.takePrompt s
  (s.roll.entries.map Prod.fst).foldl State.takeOverdue s

theorem settleLast_calm (s : State) : Calm s (settleLast s) := by
  have discharges := Calm.foldl (g := State.takeDischargeExpiry) (fun s z => expiry_calm _ fun _ => endDischarge_calm s z true) rooms
  have flows := Calm.foldl (g := State.takeFlowStartExpiry) (fun s z => expiry_calm _ fun _ => failDischarge_calm s z) rooms
  have soaks := Calm.foldl (g := State.takeSoakExpiry) (fun s z => expiry_calm _ fun _ => endSoak_calm s z) rooms
  have counts := Calm.foldl (g := State.takeCountdownEnd) (fun s z => expiry_calm _ fun _ => endCountdown_calm s z) rooms
  have prompts (l : List Nat) := Calm.foldl (g := State.takePrompt) (fun s e => .of_eq (by simp) (by simp) (by simp) (by simp)) l
  have overdues (l : List Nat) := Calm.foldl (g := State.takeOverdue) (fun s e => .of_eq (by simp) (by simp) (by simp) (by simp)) l
  unfold settleLast
  extract_lets s1 s2 s3 s4 s5
  exact ((((discharges s).trans (flows s1)).trans (soaks s2)).trans (counts s3)).trans ((prompts _ s4).trans (overdues _ s5))

/-- The expiries of the doors' releases and held-open timers and of the pairing windows, after that of the grace timer. -/
def settleFirst (s : State) : State :=
  rooms.foldl State.takeWindowExpiry (rooms.foldl State.takeHeldOpenExpiry (rooms.foldl State.takeUnlockExpiry s))

theorem settle_eq (s : State) : s.settle = settleLast (settleFirst s.takeGraceExpiry) := by
  unfold State.settle settleLast settleFirst
  dsimp only

theorem settleFirst_calm (s : State) : Calm s (settleFirst s) :=
  ((Calm.foldl takeUnlockExpiry_calm rooms s).trans (Calm.foldl takeHeldOpenExpiry_calm rooms _)).trans
    (Calm.foldl takeWindowExpiry_calm rooms _)

theorem takeGraceExpiry_reading (s : State) : reading s.takeGraceExpiry.clk = reading s.clk := by
  unfold State.takeGraceExpiry expiry State.event
  split
  · rw [(finish_leaves ..).clk, State.enterSite_clk]
    rfl
  · rfl

theorem settle_reading (s : State) : reading s.settle.clk = reading s.clk := by
  rw [settle_eq, (settleLast_calm _).clk, (settleFirst_calm _).clk]
  exact takeGraceExpiry_reading s

theorem settle_unlocks (runs : Runs s) (due : s.unlockIsDue r = true) : Shut s.doors[r].timeLock s.settle.doors[r] := by
  have doors : s.takeGraceExpiry.doors = s.doors := by simp
  have after := (Calm.foldl takeHeldOpenExpiry_calm rooms (rooms.foldl State.takeUnlockExpiry s.takeGraceExpiry)).trans
    (Calm.foldl takeWindowExpiry_calm rooms _)
  have unlocked := unlocks_end (s := s.takeGraceExpiry) (runs_of_lines runs (by simp)) (by rw [State.unlockIsDue, doors]; exact due)
  rw [doors] at unlocked
  exact (after.trans (settleLast_calm _)).doors r _ unlocked

theorem settle_windows (runs : Runs s) (due : s.windowIsDue r = true) : s.settle.ctx[r] = .empty := by
  have ctx : (rooms.foldl State.takeHeldOpenExpiry (rooms.foldl State.takeUnlockExpiry s.takeGraceExpiry)).ctx = s.ctx := by simp
  have dropped := windows_end (s := rooms.foldl State.takeHeldOpenExpiry (rooms.foldl State.takeUnlockExpiry s.takeGraceExpiry))
    (runs_of_lines runs (by simp)) (by rw [State.windowIsDue, ctx]; exact due)
  exact (settleLast_calm _).ctx r dropped

end Sys2Proof.Proofs.TickExpiries
end

section
/-! PROOFS. A SECOND TICK (R1, R25, R26, R61, R78, R82, R108, R120): the count-down, the expiries, the advance of the clock with the evaluation
of a minute boundary, and the retirements of a date rollover. -/
namespace Sys2Proof.Proofs.SecondTicks

open Sys2Proof Sys2Proof.Machine Sys2Proof.Safety Sys2Proof.Laws Sys2Proof.Proofs.Evaluation Sys2Proof.Proofs.TickExpiries
open Sys2Proof.Proofs.ClockRequests Sys2Proof.Proofs.RollRequests
open Sys2Proof.Proofs.Reception (running_of not_running_of)
open Sys2Proof.Proofs.DoorRequests (finish_upToNotices placeAt_eq)
open Sys2Proof.Proofs.BearerRecords (completeRetirement_effect)
open Sys2Proof.Proofs.Acts (wf_inj)

variable {s t u : State} {r : Room}

/-! ### The advance of the clock -/

/-- A clock with the reading of another. -/
def withReading (k c : SiteClock) : SiteClock := { k with date := c.date, time := c.time, weekday := c.weekday, isSet := c.isSet }

theorem withReading_of {k c : SiteClock} (h : reading k = reading c) : withReading k c = k := by
  simp only [reading, Prod.mk.injEq] at h
  obtain ⟨date, time, weekday, isSet⟩ := h
  rw [withReading, ← date, ← time, ← weekday, ← isSet]

/-- The clock with another reading. -/
def Reads (c k : SiteClock) : Prop := ∃ d t w, k = { c with date := d, time := t, weekday := w }

theorem nextDay_reads (c : SiteClock) : Reads c c.nextDay := by
  unfold SiteClock.nextDay
  dsimp only
  split
  · exact ⟨_, _, _, rfl⟩
  · split <;> exact ⟨_, _, _, rfl⟩

theorem nextDay_withReading (k c : SiteClock) : (withReading k c).nextDay = withReading k c.nextDay := by
  unfold SiteClock.nextDay withReading
  dsimp only
  split
  · rfl
  · split <;> rfl

/-- The advance reads and changes the reading alone, and a new day is a new minute. -/
theorem advance_kept (k c : SiteClock) :
    (withReading k c).advance = ⟨withReading k c.advance.clk, c.advance.minute, c.advance.day⟩ ∧ Reads c c.advance.clk ∧
      (c.advance.day = true → c.advance.minute = true) := by
  unfold SiteClock.advance
  by_cases unset : (!c.isSet) = true
  · have same : (!(withReading k c).isSet) = true := unset
    rw [if_pos unset, if_pos same]
    exact ⟨rfl, ⟨_, _, _, rfl⟩, id⟩
  · have same : ¬(!(withReading k c).isSet) = true := unset
    rw [if_neg unset, if_neg same]
    simp only [withReading]
    rcases Bool.eq_false_or_eq_true (wrapAt 0x60 0x00 c.time.second).2 with second | second
    · rcases Bool.eq_false_or_eq_true (wrapAt 0x60 0x00 c.time.minute).2 with minute | minute
      · rcases Bool.eq_false_or_eq_true (wrapAt 0x24 0x00 c.time.hour).2 with hour | hour
        · simp only [second, minute, hour, Bool.not_true, Bool.false_eq_true, if_false]
          have timed := nextDay_withReading k
            { c with
              time := ⟨(wrapAt 0x24 0x00 c.time.hour).1, (wrapAt 0x60 0x00 c.time.minute).1, (wrapAt 0x60 0x00 c.time.second).1⟩ }
          obtain ⟨d, t, w, h⟩ := nextDay_reads
            { c with
              time := ⟨(wrapAt 0x24 0x00 c.time.hour).1, (wrapAt 0x60 0x00 c.time.minute).1, (wrapAt 0x60 0x00 c.time.second).1⟩ }
          exact ⟨congrArg (Advance.mk · true true) timed, ⟨d, t, w, h⟩, fun _ => trivial⟩
        · simp only [second, minute, hour, Bool.not_false, Bool.not_true, Bool.false_eq_true, if_true, if_false]
          exact ⟨trivial, ⟨_, _, _, rfl⟩, fun _ => trivial⟩
      · simp only [second, minute, Bool.not_false, Bool.not_true, Bool.false_eq_true, if_true, if_false]
        exact ⟨trivial, ⟨_, _, _, rfl⟩, fun _ => trivial⟩
    · simp only [second, Bool.not_false, if_true]
      exact ⟨trivial, ⟨_, _, _, rfl⟩, id⟩

/-! ### The count-down -/

/-- The state after the count-down of a tick at which nothing was due. -/
def counted (s : State) : State := State.finish s (ticked s)

/-- A clock with its grace timer one tick on. -/
def graceTicked (c : SiteClock) : SiteClock := { c with graceTimer := c.graceTimer.map (· - 1) }

theorem ticked_clk (s : State) : (ticked s).clk = withReading (graceTicked s.clk) s.clk := rfl

theorem counted_upToNotices (s : State) : UpToNotices (ticked s) (counted s) := finish_upToNotices rfl rfl

theorem counted_leaves (s : State) : Leaves (ticked s) (counted s) := finish_leaves s (ticked s)

/-- A tick while the part runs and nothing is due. -/
theorem exec_secondTick (runs : Runs s) (nothing : NothingDue s) (first : Bool) :
    exec (.secondTick first) s =
      .next
        (State.finish (if first then (counted s).settle else counted s) (if first then (counted s).settle else counted s).advanceClock) := by
  have ticks : s.settle.event State.countDown = counted s := by
    rw [settle_nothing nothing]
    rfl
  have taken : execSecondTick first s = .next (
      let s := s.settle.event State.countDown
      let s := if first then s.settle else s
      s.event State.advanceClock) := congrArg Host.Outcome.next (if_pos (running_of runs))
  rw [ticks] at taken
  exact taken

theorem exec_secondTick_stopped (stopped : ¬Runs s) (first : Bool) : exec (.secondTick first) s = .next { s with clk := s.clk.advance.clk } :=
  congrArg Host.Outcome.next (if_neg (not_running_of stopped))

/-! ### A tick that is no minute boundary -/

theorem advanceClock_second (h : s.clk.advance.minute = false) : s.advanceClock = { s with clk := s.clk.advance.clk } := by
  have day : s.clk.advance.day = false := by
    by_contra new
    exact absurd ((advance_kept s.clk s.clk).2.2 (Bool.not_eq_false _ ▸ new)) (by rw [h]; exact Bool.false_ne_true)
  unfold State.advanceClock
  dsimp only
  rw [h, day]
  rfl

theorem counted_advance (s : State) :
    (counted s).clk.advance =
      ⟨withReading (graceTicked s.clk) s.clk.advance.clk, s.clk.advance.minute, s.clk.advance.day⟩ := by
  rw [(counted_leaves s).clk, ticked_clk]
  exact (advance_kept ..).1

theorem upToNotices_advanced {k : SiteClock} (h : UpToNotices u t) : UpToNotices { u with clk := k } (State.finish t { t with clk := k }) := by
  obtain ⟨q, m, v, grown, same⟩ := h
  obtain ⟨q', m', v', grown', same'⟩ := finish_upToNotices (s := t) (u := { t with clk := k }) rfl rfl
  refine ⟨q', m', v', grown_trans grown (by rw [same] at grown'; exact grown'), ?_⟩
  rw [same', same]

theorem graceTicked_advanced (c : SiteClock) :
    withReading (graceTicked c) c.advance.clk = { c.advance.clk with graceTimer := c.graceTimer.map (· - 1) } := by
  obtain ⟨d, t, w, h⟩ := (advance_kept c c).2.1
  rw [h]
  rfl

/-- A tick within a minute (R1, R25). -/
theorem exec_secondTick_second (runs : Runs s) (nothing : NothingDue s) (within : s.clk.advance.minute = false) :
    ∃ t, exec (.secondTick false) s = .next t ∧
      UpToNotices { ticked s with clk := { s.clk.advance.clk with graceTimer := s.clk.graceTimer.map (· - 1) } } t := by
  refine ⟨_, exec_secondTick runs nothing false, ?_⟩
  rw [if_neg Bool.false_ne_true, advanceClock_second (by rw [counted_advance]; exact within), counted_advance, graceTicked_advanced]
  exact upToNotices_advanced (counted_upToNotices s)

theorem advance_of_reading {k c : SiteClock} (h : reading k = reading c) :
    reading k.advance.clk = reading c.advance.clk ∧ k.advance.minute = c.advance.minute := by
  obtain ⟨same, -⟩ := advance_kept k c
  rw [withReading_of h] at same
  rw [same]
  exact ⟨rfl, rfl⟩

/-- A tick within a minute that takes its expiries before the clock. -/
theorem exec_secondTick_settled (runs : Runs s) (nothing : NothingDue s) (within : s.clk.advance.minute = false) :
    ∃ t, exec (.secondTick true) s = .next t ∧ reading t.clk = reading s.clk.advance.clk ∧ t.doors = (counted s).settle.doors ∧
      t.ctx = (counted s).settle.ctx := by
  have read : reading (counted s).settle.clk = reading s.clk := by
    rw [settle_reading, (counted_leaves s).clk]
    rfl
  have next := exec_secondTick runs nothing true
  rw [if_pos rfl] at next
  generalize (counted s).settle = u at read next ⊢
  obtain ⟨clock, minute⟩ := advance_of_reading read
  rw [advanceClock_second (minute.trans within)] at next
  have leaves := finish_leaves u { u with clk := u.clk.advance.clk }
  refine ⟨_, next, ?_⟩
  exact ⟨(congrArg reading leaves.clk).trans clock, leaves.doors, leaves.ctx⟩

theorem ticked_door (s : State) (r : Room) : (ticked s).doors[r] = s.doors[r].tick := vgen_get ..

theorem ticked_ctx (s : State) (r : Room) : (ticked s).ctx[r] = s.ctx[r].tick := vgen_get ..

theorem window_tick {c : Context} {n : Nat} (h : c.window? = some (n + 1)) : c.tick.window? = some n := by
  cases c with
  | empty => nomatch h
  | custody _ w _ _ => exact congrArg (·.map (· - 1)) h
  | escort _ w _ _ => exact congrArg (·.map (· - 1)) h

theorem counted_runs (runs : Runs s) : Runs (counted s) := runs_of_lines runs (counted_leaves s).lines

/-- A release whose last second the tick counts ends in it (R78; assumption 6). -/
theorem exec_secondTick_unlocks (runs : Runs s) (nothing : NothingDue s) (within : s.clk.advance.minute = false)
    (released : s.doors[r].state = .released) (last : s.doors[r].unlock = some 1) :
    ∃ t, exec (.secondTick true) s = .next t ∧ reading t.clk = reading s.clk.advance.clk ∧ t.doors[r].state = s.doors[r].closedState ∧
      t.doors[r].releaseKind = none ∧ t.doors[r].unlock = none ∧ t.doors[r].hold = false := by
  obtain ⟨t, next, read, doors, -⟩ := exec_secondTick_settled runs nothing within
  have door : (counted s).doors[r] = s.doors[r].tick := (congrArg (·[r]) (counted_leaves s).doors).trans (ticked_door s r)
  have due : (counted s).unlockIsDue r = true := by
    rw [State.unlockIsDue, door, Door.tick, released, last]
    rfl
  have shut := settle_unlocks (counted_runs runs) due
  have lock : (counted s).doors[r].timeLock = s.doors[r].timeLock := by
    rw [door]
    rfl
  refine ⟨t, next, read, ?_⟩
  rw [doors]
  refine ⟨?_, shut.releaseKind, shut.unlock, shut.hold⟩
  rw [shut.state, Door.closedState, Door.closedState, shut.timeLock, lock]

/-- A pairing window whose last second the tick counts closes in it (R56; assumption 6). -/
theorem exec_secondTick_windows (runs : Runs s) (nothing : NothingDue s) (within : s.clk.advance.minute = false)
    (last : s.ctx[r].window? = some 1) :
    ∃ t, exec (.secondTick true) s = .next t ∧ reading t.clk = reading s.clk.advance.clk ∧ t.ctx[r] = .empty := by
  obtain ⟨t, next, read, -, ctx⟩ := exec_secondTick_settled runs nothing within
  have context : (counted s).ctx[r] = s.ctx[r].tick := (congrArg (·[r]) (counted_leaves s).ctx).trans (ticked_ctx s r)
  have due : (counted s).windowIsDue r = true := by
    rw [State.windowIsDue, context, window_tick last]
    rfl
  exact ⟨t, next, read, (congrArg (·[r]) ctx).trans (settle_windows (counted_runs runs) due)⟩

/-! ### A minute boundary -/

/-- What a minute boundary evaluates: the clock advanced, with the holiday test of a new day (R26). -/
def bounded (s : State) : State :=
  if s.clk.advance.day then ({ s with clk := s.clk.advance.clk } : State).takeHoliday else { s with clk := s.clk.advance.clk }

theorem advanceClock_minute (h : s.clk.advance.minute = true) :
    s.advanceClock =
      if s.clk.advance.day then (((bounded s).evaluate s.siteInForce).handTime).retention
      else ((bounded s).evaluate s.siteInForce).handTime := by
  unfold State.advanceClock
  dsimp only
  rw [if_pos h]
  rfl

theorem bounded_eq (s : State) :
    bounded s =
      { s with
        clk :=
          { s.clk.advance.clk with
            holidayToday :=
              if s.clk.advance.day then isHoliday s.bt.holidays s.clk.advance.clk.date else s.clk.advance.clk.holidayToday } } := by
  unfold bounded
  split <;> rfl

/-- The clock that a minute boundary evaluates, for the state before the tick. -/
theorem bounded_counted_clk (s : State) :
    (bounded (counted s)).clk =
      { withReading (graceTicked s.clk) s.clk.advance.clk with
        holidayToday := if s.clk.advance.day then isHoliday s.bt.holidays s.clk.advance.clk.date else s.clk.holidayToday } := by
  rw [bounded_eq, counted_advance, (counted_leaves s).bt]
  rfl

theorem bounded_found (s : State) : BeforeEvaluation s (bounded (counted s)) (ticked s).clk := by
  have leaves := counted_leaves s
  have clk := bounded_counted_clk s
  refine ⟨by rw [clk]; rfl, by rw [clk]; rfl, by rw [clk]; rfl, ?_, fun r => ?_, ?_, ?_⟩
  · rw [bounded_eq]
    exact congrArg (·.stations) leaves.loop
  · have door : (bounded (counted s)).doors[r] = s.doors[r].tick := by
      rw [bounded_eq]
      exact (congrArg (·[r]) leaves.doors).trans (ticked_door s r)
    rw [door]
    exact ⟨rfl, rfl⟩
  · rw [bounded_eq]
    exact leaves.profiles
  · rw [bounded_eq]
    exact congrArg (·.rooms) leaves.roll

/-- The state of a minute boundary before the retirements of a new day. -/
def handedOn (s : State) : State := ((bounded (counted s)).evaluate (counted s).siteInForce).handTime

theorem siteInForce_counted (s : State) : (counted s).siteInForce = siteIsOpen s.clk := by
  have open_ := congrArg siteIsOpen (counted_leaves s).clk
  exact open_

theorem handedOn_evaluation (s : State) : EvaluationHandedOn s (handedOn s) (ticked s).clk :=
  handedOn_congr (evaluate_handedOn (bounded_found s) (siteInForce_counted s)) (by simp [handedOn]) (by simp [handedOn])
    (by simp [handedOn]) (handTime_stations _) (by simp [handedOn])

theorem handedOn_evaluates (s : State) :
    (handedOn s).bt = s.bt ∧ (handedOn s).zones = (ticked s).zones ∧ (handedOn s).bank = s.bank ∧ (handedOn s).p2 = s.p2 ∧
      (handedOn s).lines = s.lines ∧ reading (handedOn s).clk = reading s.clk.advance.clk ∧
      (handedOn s).clk.holidayToday =
        if s.clk.advance.day then isHoliday s.bt.holidays s.clk.advance.clk.date else s.clk.holidayToday := by
  have leaves := counted_leaves s
  obtain ⟨_, _, _, clk⟩ := (bounded (counted s)).evaluate_clk (counted s).siteInForce
  have after : (handedOn s).clk = ((bounded (counted s)).evaluate (counted s).siteInForce).clk := rfl
  have bound := bounded_counted_clk s
  have eq := bounded_eq (counted s)
  refine ⟨?_, ?_, ?_, ?_, ?_, ?_, ?_⟩
  · simp only [handedOn, State.handTime_frame, State.evaluate_frame, eq]
    exact leaves.bt
  · simp only [handedOn, State.handTime_frame, State.evaluate_frame, eq]
    exact leaves.zones
  · simp only [handedOn, State.handTime_frame, State.evaluate_frame, eq]
    exact leaves.bank
  · simp only [handedOn, State.handTime_frame, State.evaluate_frame, eq]
    exact leaves.p2
  · simp only [handedOn, State.handTime_frame, State.evaluate_frame, eq]
    exact leaves.lines
  · rw [after, clk, bound]
    rfl
  · rw [after, clk, bound]

/-- The reading of a clock handed over, in a state whose polls are those of another. -/
theorem handTime_handedOver (polls : u.loop.current = s.loop.current ∧ u.loop.broadcastDue = s.loop.broadcastDue) :
    HandedOver s u.handTime ⟨u.clk.date, u.clk.time, u.clk.weekday⟩ := by
  obtain ⟨current, due⟩ := polls
  obtain ⟨waiting, new⟩ := u.handTime_hands
  rw [current, due] at waiting
  rw [current] at new
  exact ⟨waiting, new⟩

theorem handedOn_handedOver (s : State) :
    HandedOver s (handedOn s) ⟨s.clk.advance.clk.date, s.clk.advance.clk.time, s.clk.advance.clk.weekday⟩ := by
  have polls := evaluate_polls (bounded (counted s)) (counted s).siteInForce
  have loop : (bounded (counted s)).loop = s.loop := by
    rw [bounded_eq]
    exact (counted_leaves s).loop
  obtain ⟨-, -, -, -, -, read, -⟩ := handedOn_evaluates s
  unfold handedOn at read ⊢
  generalize (bounded (counted s)).evaluate (counted s).siteInForce = u at polls read ⊢
  have over_ := handTime_handedOver (s := s) (u := u) ⟨by rw [polls, loop], by rw [polls, loop]⟩
  simp only [State.handTime_frame, reading, Prod.mk.injEq] at read
  obtain ⟨date, time, weekday, -⟩ := read
  rw [date, time, weekday] at over_
  exact over_

theorem retestNight_sameRoll (s : State) : SameRoll s s.retestNight := by
  unfold State.retestNight
  generalize rooms.filter (fun r => s.sup.profiles[r].lone = .night) = rs
  induction rs generalizing s with
  | nil => exact .of_eq rfl
  | cons r rs ih => exact (retest_sameRoll s r).trans (ih _)

theorem closingTones_roll (s : State) : s.closingTones.roll = s.roll := by
  have tone (t : State) (r : Room) : (t.placeTone r .closing).roll = t.roll := by rw [State.placeTone, placeAt_eq]
  exact foldl_roll _ tone _ s

theorem enterSite_sameRoll (s : State) (st : SiteState) : SameRoll s (s.enterSite st) := by
  unfold State.enterSite
  extract_lets _ entered toned
  split
  · exact .of_eq rfl
  · have roll : entered.roll = s.roll := rfl
    have tones : SameRoll s toned := .of_eq (by
      unfold toned
      split
      · exact (closingTones_roll entered).trans roll
      · exact roll)
    exact tones.trans (retestNight_sameRoll toned)

theorem siteOpens_sameRoll (s : State) : SameRoll s s.siteOpens := by
  have lapsed : SameRoll s (if s.clk.override = .holdOpen then { s with clk := { s.clk with override := .noOverride } } else s) := by
    split <;> exact .of_eq rfl
  unfold State.siteOpens
  extract_lets u
  split
  · exact lapsed
  · exact lapsed.trans (enterSite_sameRoll _ _)
  · split
    · exact lapsed
    · exact lapsed.trans (enterSite_sameRoll _ _)

theorem siteFollows_sameRoll (s : State) (before : Bool) : SameRoll s (s.siteFollows before) := by
  unfold State.siteFollows
  split
  · exact siteOpens_sameRoll s
  · unfold State.siteCloses
    split
    · exact enterSite_sameRoll s _
    · exact .of_eq rfl
  · exact .of_eq rfl

theorem evaluate_sameRoll (s : State) (before : Bool) : SameRoll s (s.evaluate before) := by
  have follows := siteFollows_sameRoll (inForceFilled s) before
  have kept : ((relocked s).foldl State.deriveTimeLock ((inForceFilled s).siteFollows before)).roll =
      ((inForceFilled s).siteFollows before).roll := by simp
  rw [evaluate_eq]
  exact (SameRoll.of_eq (s := s) (t := inForceFilled s) rfl).trans (follows.trans (.of_eq kept))

/-! ### Retirements (R15) -/

/-- The bearers inside, entry by entry. -/
def holders (m : Table OccEntry) : List (Nat × Nat) := m.map fun p => (p.1, p.2.bearer)

theorem holders_modify (m : Table OccEntry) (e : Nat) {g : OccEntry → OccEntry} (keeps : ∀ o, (g o).bearer = o.bearer) :
    holders (m.modify e g) = holders m := by
  simp only [holders, Table.modify, List.map_map]
  refine List.map_congr_left fun p _ => ?_
  by_cases h : p.1 = e <;> simp [h, keeps]

/-- The entry that a bearer has, by the holders alone. -/
theorem entryOf_fst (s : State) (b : Nat) :
    (s.entryOf b).map Prod.fst = ((holders s.roll.entries).find? fun p => p.2 = b).map Prod.fst := by
  rw [State.entryOf, holders, List.find?_map, Option.map_map]
  rfl

theorem retire_holders (s : State) (b : Nat) : holders (s.retire b).roll.entries = holders s.roll.entries := by
  unfold State.retire
  split
  · simp
  · next e o _ =>
    have marked := holders_modify s.roll.entries e (g := fun o => { o with revokedInside := true }) fun _ => rfl
    simpa [State.modEntry, State.modBearer] using marked

theorem completeRetirement_bearers (s : State) (b : Nat) : (s.completeRetirement b).bt.bearers = s.bt.bearers.erase b ∨
    (s.completeRetirement b = s ∧ s.bt.bearers.get b = none) := by
  cases live : s.bt.bearers.get b with
  | none =>
    refine .inr ⟨?_, rfl⟩
    unfold State.completeRetirement
    rw [live]
  | some r =>
    rw [completeRetirement_effect live]
    exact .inl rfl

theorem retire_others {b c : Nat} (other : b ≠ c) (s : State) : (s.retire c).bt.bearers.get b = s.bt.bearers.get b := by
  unfold State.retire
  split
  · rcases completeRetirement_bearers s c with erased | ⟨same, -⟩
    · rw [erased, Table.get_erase, if_neg other]
    · rw [same]
  · simp [State.modBearer, Table.get_modify, other]

theorem retire_outside {b : Nat} (outside : s.entryOf b = none) : (s.retire b).bt.bearers.get b = none := by
  have retired : s.retire b = s.completeRetirement b := by
    unfold State.retire
    rw [outside]
  rw [retired]
  rcases completeRetirement_bearers s b with erased | ⟨same, none_⟩
  · rw [erased, Table.get_erase, if_pos rfl]
  · rw [same, none_]

/-- The bearer is inside with its entry marked. -/
def MarkedInside (s : State) (b e : Nat) : Prop := ∃ x, s.roll.entries.get e = some x ∧ x.bearer = b ∧ x.revokedInside = true

theorem retire_inside {b e : Nat} {o : OccEntry} (inside : s.entryOf b = some (e, o)) (entry : s.roll.entries.get e = some o) :
    (s.retire b).bt.bearers.get b = (s.bt.bearers.get b).map (fun r => { r with state := .retiring }) ∧ MarkedInside (s.retire b) b e := by
  have bearer : o.bearer = b := by simpa using List.find?_some inside
  unfold State.retire MarkedInside
  rw [inside]
  refine ⟨?_, { o with revokedInside := true }, ?_, bearer, rfl⟩
  · simp [State.modBearer, Table.get_modify]
  · simp [State.modEntry, State.modBearer, Table.get_modify, entry]

theorem retire_marked {b e : Nat} (h : MarkedInside s b e) (c : Nat) : MarkedInside (s.retire c) b e := by
  obtain ⟨x, entry, bearer, marked⟩ := h
  unfold State.retire
  split
  · exact ⟨x, by simpa using entry, bearer, marked⟩
  · next k o _ =>
    by_cases same : e = k
    · refine ⟨{ x with revokedInside := true }, ?_, bearer, rfl⟩
      subst same
      simp [State.modEntry, State.modBearer, Table.get_modify, entry]
    · refine ⟨x, ?_, bearer, marked⟩
      simp [State.modEntry, State.modBearer, Table.get_modify, entry, same]

/-- Rising numbers, by the holders alone. -/
theorem wf_of_holders {m m' : Table OccEntry} (h : holders m' = holders m) (wf : m.wf = true) : m'.wf = true := by
  have keys (m : Table OccEntry) : m.map Prod.fst = (holders m).map Prod.fst := by simp [holders]
  simp only [Table.wf, decide_eq_true_eq] at wf ⊢
  rw [keys, h, ← keys]
  exact wf

theorem entryOf_none_of_holders {b : Nat} (h : holders t.roll.entries = holders s.roll.entries) (none_ : s.entryOf b = none) :
    t.entryOf b = none := by
  have same := entryOf_fst t b
  rw [h, ← entryOf_fst, none_] at same
  exact Option.map_eq_none_iff.mp same

theorem entryOf_some_of_holders {b e : Nat} {o : OccEntry} (h : holders t.roll.entries = holders s.roll.entries)
    (inside : s.entryOf b = some (e, o)) : ∃ x, t.entryOf b = some (e, x) := by
  have same := entryOf_fst t b
  rw [h, ← entryOf_fst, inside] at same
  obtain ⟨⟨k, x⟩, entry, key⟩ := Option.map_eq_some_iff.mp same
  exact ⟨x, entry.trans (by rw [show k = e from key])⟩

theorem get_isSome_of_mem {α : Type} {m : Table α} {n : Nat} {a : α} (h : (n, a) ∈ m) : ∃ x, m.get n = some x := by
  induction m with
  | nil => exact absurd h List.not_mem_nil
  | cons p m ih =>
    obtain ⟨k, x⟩ := p
    by_cases here : k = n
    · exact ⟨x, by rw [Table.get, if_pos here]⟩
    · rw [Table.get, if_neg here]
      refine ih ((List.mem_cons.mp h).resolve_left fun same => here ?_)
      exact (congrArg Prod.fst same).symm

/-- Under rising numbers, a record that is in a table is the one read. -/
theorem get_of_mem {α : Type} {m : Table α} (wf : m.wf = true) {n : Nat} {a : α} (h : (n, a) ∈ m) : m.get n = some a := by
  obtain ⟨x, read⟩ := get_isSome_of_mem h
  have same := wf_inj wf (Table.mem_of_get read) h rfl
  rw [read, (Prod.mk.inj same).2]

theorem entry_get {b e : Nat} {o : OccEntry} (wf : s.roll.entries.wf = true) (inside : s.entryOf b = some (e, o)) :
    s.roll.entries.get e = some o := get_of_mem wf (List.mem_of_find?_eq_some inside)

theorem retires_holders (l : List Nat) (s : State) : holders (l.foldl State.retire s).roll.entries = holders s.roll.entries := by
  induction l generalizing s with
  | nil => rfl
  | cons c l ih => exact (ih _).trans (retire_holders s c)

theorem retires_others {b : Nat} {l : List Nat} (other : b ∉ l) (s : State) :
    (l.foldl State.retire s).bt.bearers.get b = s.bt.bearers.get b := by
  induction l generalizing s with
  | nil => rfl
  | cons c l ih =>
    obtain ⟨notHere, notLater⟩ := not_or.mp (mt List.mem_cons.mpr other)
    exact (ih notLater _).trans (retire_others notHere s)

theorem retires_outside {b : Nat} {l : List Nat} (once : l.Nodup) (mem : b ∈ l) (outside : s.entryOf b = none) :
    (l.foldl State.retire s).bt.bearers.get b = none := by
  induction l generalizing s with
  | nil => exact absurd mem List.not_mem_nil
  | cons c l ih =>
    obtain ⟨new, once⟩ := List.nodup_cons.mp once
    by_cases here : b = c
    · subst here
      exact (retires_others new _).trans (retire_outside outside)
    · exact ih once ((List.mem_cons.mp mem).resolve_left here) (entryOf_none_of_holders (retire_holders s c) outside)

theorem retires_marked {b e : Nat} (l : List Nat) (h : MarkedInside s b e) : MarkedInside (l.foldl State.retire s) b e := by
  induction l generalizing s with
  | nil => exact h
  | cons c l ih => exact ih (retire_marked h c)

theorem retires_inside {b e : Nat} {o : OccEntry} {l : List Nat} (once : l.Nodup) (mem : b ∈ l) (wf : s.roll.entries.wf = true)
    (inside : s.entryOf b = some (e, o)) :
    (l.foldl State.retire s).bt.bearers.get b = (s.bt.bearers.get b).map (fun r => { r with state := .retiring }) ∧
      MarkedInside (l.foldl State.retire s) b e := by
  induction l generalizing s o with
  | nil => exact absurd mem List.not_mem_nil
  | cons c l ih =>
    obtain ⟨new, once⟩ := List.nodup_cons.mp once
    by_cases here : b = c
    · subst here
      obtain ⟨retiring, marked⟩ := retire_inside inside (entry_get wf inside)
      exact ⟨(retires_others new _).trans retiring, retires_marked l marked⟩
    · obtain ⟨x, still⟩ := entryOf_some_of_holders (retire_holders s c) inside
      obtain ⟨retiring, marked⟩ :=
        ih once ((List.mem_cons.mp mem).resolve_left here) (wf_of_holders (retire_holders s c) wf) still
      exact ⟨by rw [List.foldl_cons, retiring, retire_others here], marked⟩

/-- The bearers that a date rollover retires, in number order. -/
def pastBearers (s : State) : List Nat := (s.bt.bearers.filter fun p => p.2.pastRetention s.bt.retention s.clk.date).map Prod.fst

theorem retention_none (h : s.bt.retention = 0) : s.retention = s := if_pos h

theorem retention_retires (h : s.bt.retention ≠ 0) : s.retention = (pastBearers s).foldl State.retire s := if_neg h

theorem pastBearers_nodup (wf : s.bt.bearers.wf = true) : (pastBearers s).Nodup := by
  have sorted := Table.wf_filter s.bt.bearers (fun p => p.2.pastRetention s.bt.retention s.clk.date) wf
  simp only [Table.wf, decide_eq_true_eq] at sorted
  exact sorted.imp fun h => Nat.ne_of_lt h

theorem mem_pastBearers (wf : s.bt.bearers.wf = true) {b : Nat} {r : Bearer} (live : s.bt.bearers.get b = some r) :
    b ∈ pastBearers s ↔ r.pastRetention s.bt.retention s.clk.date = true := by
  simp only [pastBearers, List.mem_map, List.mem_filter]
  constructor
  · rintro ⟨⟨k, x⟩, ⟨mem, past⟩, rfl⟩
    have same := (get_of_mem wf mem).symm.trans live
    rw [← Option.some.inj same]
    exact past
  · intro past
    exact ⟨(b, r), ⟨Table.mem_of_get live, past⟩, rfl⟩

theorem pastRetention_iff (r : Bearer) (days : Nat) (now : Date) :
    r.pastRetention days now = true ↔ r.state ≠ .retiring ∧ ∃ d, r.validUntil = some d ∧ days < now.dayNumber - d.dayNumber := by
  have live : (r.state = .active || r.state = .suspended) = true ↔ r.state ≠ .retiring := by cases r.state <;> decide
  unfold Bearer.pastRetention
  rw [Bool.and_eq_true, live]
  refine and_congr_right fun _ => ?_
  cases r.validUntil with
  | none => simp
  | some d =>
    simp only [daysPast, Option.some.injEq, exists_eq_left']
    exact decide_eq_true_iff

/-- What a retirement leaves of the calendar and the roll. -/
theorem retire_kept (s : State) (b : Nat) :
    (s.retire b).bt.schedules = s.bt.schedules ∧ (s.retire b).bt.holidays = s.bt.holidays ∧ (s.retire b).roll.tick = s.roll.tick := by
  unfold State.retire
  split
  · cases live : s.bt.bearers.get b with
    | none =>
      have same : s.completeRetirement b = s := by
        unfold State.completeRetirement
        rw [live]
      rw [same]
      exact ⟨rfl, rfl, rfl⟩
    | some r =>
      rw [completeRetirement_effect live]
      exact ⟨rfl, rfl, rfl⟩
  · simp [State.modBearer, State.modEntry]

theorem retention_kept (s : State) :
    s.retention.bt.schedules = s.bt.schedules ∧ s.retention.bt.holidays = s.bt.holidays ∧ s.retention.roll.tick = s.roll.tick := by
  have all (l : List Nat) (u : State) : (l.foldl State.retire u).bt.schedules = u.bt.schedules ∧
      (l.foldl State.retire u).bt.holidays = u.bt.holidays ∧ (l.foldl State.retire u).roll.tick = u.roll.tick := by
    induction l generalizing u with
    | nil => exact ⟨rfl, rfl, rfl⟩
    | cons c l ih =>
      obtain ⟨schedules, holidays, tick⟩ := ih (u.retire c)
      obtain ⟨schedules', holidays', tick'⟩ := retire_kept u c
      exact ⟨schedules.trans schedules', holidays.trans holidays', tick.trans tick'⟩
  by_cases forever : s.bt.retention = 0
  · rw [retention_none forever]
    exact ⟨rfl, rfl, rfl⟩
  · rw [retention_retires forever]
    exact all _ s

/-! ### A tick at a minute boundary -/

/-- The state a minute boundary brings about. -/
def minuteDone (s : State) : State := if s.clk.advance.day then (handedOn s).retention else handedOn s

theorem exec_secondTick_minute (runs : Runs s) (nothing : NothingDue s) (boundary : s.clk.advance.minute = true) :
    ∃ t, exec (.secondTick false) s = .next t ∧ Leaves (minuteDone s) t := by
  have adv := counted_advance s
  have done : (counted s).advanceClock = minuteDone s := by
    rw [advanceClock_minute (by rw [adv]; exact boundary), adv]
    rfl
  refine ⟨_, exec_secondTick runs nothing false, ?_⟩
  rw [if_neg Bool.false_ne_true, done]
  exact finish_leaves ..

/-- What the retirements of a new day leave of a minute boundary. -/
theorem minuteDone_kept (s : State) :
    (minuteDone s).clk = (handedOn s).clk ∧ (minuteDone s).bt.schedules = (handedOn s).bt.schedules ∧
      (minuteDone s).bt.holidays = (handedOn s).bt.holidays ∧ (minuteDone s).loop = (handedOn s).loop ∧
      (minuteDone s).doors = (handedOn s).doors ∧ (minuteDone s).zones = (handedOn s).zones ∧
      (minuteDone s).roll.tick = (handedOn s).roll.tick ∧ (minuteDone s).bank = (handedOn s).bank ∧
      (minuteDone s).p2 = (handedOn s).p2 ∧ (minuteDone s).lines = (handedOn s).lines := by
  unfold minuteDone
  split
  · obtain ⟨schedules, holidays, tick⟩ := retention_kept (handedOn s)
    exact ⟨by simp, schedules, holidays, by simp, by simp, by simp, tick, by simp, by simp, by simp⟩
  · exact ⟨rfl, rfl, rfl, rfl, rfl, rfl, rfl, rfl, rfl, rfl⟩

theorem handedOn_sameRoll (s : State) : SameRoll (ticked s) (handedOn s) := by
  have evaluated := evaluate_sameRoll (bounded (counted s)) (counted s).siteInForce
  have before : (bounded (counted s)).roll = (ticked s).roll := by
    rw [bounded_eq]
    exact (counted_leaves s).roll
  exact ((SameRoll.of_eq before).trans evaluated).trans (.of_eq (by simp [handedOn]))

theorem ticked_entries (s : State) : baseEntries (ticked s).roll.entries = baseEntries s.roll.entries := by
  simp only [baseEntries, ticked, Table.mapAll, List.map_map]
  refine List.map_congr_left fun p _ => ?_
  have base : entryBase p.2.tick = entryBase p.2 := by
    unfold OccEntry.tick
    split <;> rfl
  simp [base]

theorem holders_of_base {m m' : Table OccEntry} (h : baseEntries m' = baseEntries m) : holders m' = holders m := by
  have read (m : Table OccEntry) : holders m = (baseEntries m).map fun p => (p.1, p.2.1) := by
    rw [holders, baseEntries, List.map_map]
    rfl
  rw [read, h, ← read]

theorem handedOn_holders (s : State) : holders (handedOn s).roll.entries = holders s.roll.entries :=
  holders_of_base ((handedOn_sameRoll s).entries.trans (ticked_entries s))

/-- The retirements of a date rollover (R15). -/
theorem minuteDone_retires (newDay : s.clk.advance.day = true) (wf : s.bt.bearers.wf = true) (entries : s.roll.entries.wf = true)
    {b : Nat} {r : Bearer} (live : s.bt.bearers.get b = some r) :
    let past : Prop :=
      s.bt.retention ≠ 0 ∧ r.state ≠ .retiring ∧
        ∃ d, r.validUntil = some d ∧ s.bt.retention < s.clk.advance.clk.date.dayNumber - d.dayNumber
    (¬past → (minuteDone s).bt.bearers.get b = some r) ∧
      (past → s.entryOf b = none → (minuteDone s).bt.bearers.get b = none) ∧
      ∀ e o, past → s.entryOf b = some (e, o) →
        (minuteDone s).bt.bearers.get b = some { r with state := .retiring } ∧ MarkedInside (minuteDone s) b e := by
  obtain ⟨bt, -, -, -, -, read, -⟩ := handedOn_evaluates s
  have date : (handedOn s).clk.date = s.clk.advance.clk.date := congrArg (·.1) read
  have holds := handedOn_holders s
  have done : minuteDone s = (handedOn s).retention := if_pos newDay
  rw [done]
  dsimp only
  by_cases forever : s.bt.retention = 0
  · have same : (handedOn s).retention = handedOn s := retention_none (by rw [bt]; exact forever)
    rw [same, bt]
    exact ⟨fun _ => live, fun h => absurd forever h.1, fun _ _ h => absurd forever h.1⟩
  · have retires := retention_retires (s := handedOn s) (by rw [bt]; exact forever)
    have once : (pastBearers (handedOn s)).Nodup := pastBearers_nodup (by rw [bt]; exact wf)
    have mem := mem_pastBearers (s := handedOn s) (b := b) (r := r) (by rw [bt]; exact wf) (by rw [bt]; exact live)
    rw [bt, date, pastRetention_iff] at mem
    rw [retires]
    refine ⟨fun no => ?_, fun ⟨_, past⟩ outside => ?_, fun e o ⟨_, past⟩ inside => ?_⟩
    · rw [retires_others (fun h => no ⟨forever, mem.mp h⟩), bt]
      exact live
    · exact retires_outside once (mem.mpr past) (entryOf_none_of_holders holds outside)
    · obtain ⟨x, still⟩ := entryOf_some_of_holders holds inside
      obtain ⟨retiring, marked⟩ := retires_inside once (mem.mpr past) (wf_of_holders holds entries) still
      rw [bt, live] at retiring
      exact ⟨retiring, marked⟩

/-! ### The obligation -/

/-- Settles O9: the count-down of a tick, its expiries, the evaluation at a minute boundary, and the retirements at a date rollover. -/
theorem secondTickCountsEveryTimerDown : Obligations.SecondTickCountsEveryTimerDown := by
  refine ⟨fun s b stopped => exec_secondTick_stopped stopped b, fun s runs settled nothing => ⟨fun within => ⟨?_, ?_, ?_⟩, fun boundary => ?_⟩,
    fun s runs settled nothing tokens occupancy newDay => ?_⟩
  · exact exec_secondTick_second runs nothing within
  · exact fun r released last => exec_secondTick_unlocks runs nothing within released last
  · exact fun r last => exec_secondTick_windows runs nothing within last
  · obtain ⟨t, next, leaves⟩ := exec_secondTick_minute runs nothing boundary
    obtain ⟨clk, schedules, holidays, loop, doors, zones, tick, bank, p2, lines⟩ := minuteDone_kept s
    obtain ⟨bt', zones', bank', p2', lines', read, holiday⟩ := handedOn_evaluates s
    have hands := handedOn_handedOver s
    have clock := leaves.clk.trans clk
    have polls := leaves.loop.trans loop
    refine ⟨t, next, (congrArg reading clock).trans read, (congrArg (·.holidayToday) clock).trans holiday,
      handedOn_congr (handedOn_evaluation s) clock ((congrArg (·.schedules) leaves.bt).trans schedules)
        ((congrArg (·.holidays) leaves.bt).trans holidays) (congrArg (·.stations) polls) (leaves.doors.trans doors), ?_, fun sameDay => ?_,
      (leaves.zones.trans zones).trans zones', ?_, (leaves.bank.trans bank).trans bank', (leaves.p2.trans p2).trans p2',
      (leaves.lines.trans lines).trans lines'⟩
    · unfold HandedOver at hands ⊢
      rw [polls]
      exact hands
    · have done : minuteDone s = handedOn s := if_neg (by rw [sameDay]; exact Bool.false_ne_true)
      rw [leaves.bt, done, bt']
    · rw [leaves.roll, tick, (handedOn_sameRoll s).tick]
  · obtain ⟨wf, -⟩ := tokens
    obtain ⟨entries, -⟩ := occupancy
    obtain ⟨t, next, leaves⟩ := exec_secondTick_minute runs nothing ((advance_kept s.clk s.clk).2.2 newDay)
    obtain ⟨bt, -⟩ := handedOn_evaluates s
    refine ⟨t, next, fun forever => ?_, fun b r live => ?_⟩
    · have done : minuteDone s = (handedOn s).retention := if_pos newDay
      rw [leaves.bt, done, retention_none (by rw [bt]; exact forever), bt]
    · obtain ⟨stays, gone, marked⟩ := minuteDone_retires newDay wf entries live
      rw [leaves.bt, leaves.roll]
      exact ⟨stays, gone, marked⟩

end Sys2Proof.Proofs.SecondTicks
end

section
/-! PROOFS. CONDITIONS THAT ARE GONE (R96, R97), and what the moves of a zone by its inputs leave of the Alarm Table and of the stations: a
condition that is gone stays gone until its own kind-and-key is raised, and a station that receives nothing keeps its record whole. -/
namespace Sys2Proof.Proofs.Conditions

open Sys2Proof Sys2Proof.Machine Sys2Proof.Safety Sys2Proof.Laws
open Sys2Proof.Proofs.Evaluation Sys2Proof.Proofs.OneRoom Sys2Proof.Proofs.ZoneMoves Sys2Proof.Proofs.ZoneRequests
open Sys2Proof.Proofs.DischargeSequence

variable {s t u : State} {k : AlarmKey} {z : Room}

/-! ### Conditions that are gone -/

theorem conditionGone_of_eq (h : t.alarms = s.alarms) (gone : ConditionGone s k) : ConditionGone t k := by
  rw [ConditionGone, h]
  exact gone

/-- The records after a raise that are not of its kind-and-key stood before it. -/
theorem mem_raiseAlarm {k' : AlarmKey} {x : AlarmRecord} (mem : x ∈ (s.raiseAlarm k').alarms.records) :
    x.key = k' ∨ x ∈ s.alarms.records := by
  unfold State.raiseAlarm at mem
  split at mem
  · obtain ⟨y, old, rfl⟩ := List.mem_map.mp mem
    split
    · next here => exact .inl here
    · exact .inr old
  · dsimp only at mem
    split at mem
    · exact (List.mem_append.mp mem).symm.imp_left fun new => by rw [List.mem_singleton.mp new]
    · split at mem
      · exact (List.mem_append.mp mem).symm.imp (fun new => by rw [List.mem_singleton.mp new]) List.mem_of_mem_erase
      · exact .inr mem

theorem raiseAlarm_conditionGone {k' : AlarmKey} (other : k ≠ k') (gone : ConditionGone s k) : ConditionGone (s.raiseAlarm k') k := by
  intro x mem key
  rcases mem_raiseAlarm mem with new | old
  · exact absurd (key.symm.trans new) other
  · exact gone x old key

theorem conditionGone_key {r r' : AlarmRecord} (h : r.conditionGone = some r') :
    r'.key = r.key ∧ (r'.state = .restored ∨ r'.state = .awaitReset) := by
  unfold AlarmRecord.conditionGone at h
  split at h
  · obtain rfl := Option.some.inj h
    exact ⟨rfl, .inl rfl⟩
  · split at h
    · obtain rfl := Option.some.inj h
      exact ⟨rfl, .inr rfl⟩
    · cases h
  · next state =>
    obtain rfl := Option.some.inj h
    exact ⟨rfl, .inl state⟩
  · next state =>
    obtain rfl := Option.some.inj h
    exact ⟨rfl, .inr state⟩

/-- A record after conditions of a group are gone is one whose condition is gone, or one outside the group. -/
theorem mem_alarmsGone {group : AlarmKey → Bool} {x : AlarmRecord} (h : x ∈ (s.alarmsGone group).alarms.records) :
    ∃ r ∈ s.alarms.records, x.key = r.key ∧
      (group r.key = true ∧ (x.state = .restored ∨ x.state = .awaitReset) ∨ group r.key = false ∧ x = r) := by
  obtain ⟨r, mem, change⟩ := List.mem_filterMap.mp h
  split at change
  · next ends =>
    obtain ⟨key, quiet⟩ := conditionGone_key change
    exact ⟨r, mem, key, .inl ⟨ends, quiet⟩⟩
  · next stays =>
    obtain rfl := Option.some.inj change
    exact ⟨r, mem, rfl, .inr ⟨Bool.eq_false_of_not_eq_true stays, rfl⟩⟩

theorem alarmsGone_conditionGone (s : State) {group : AlarmKey → Bool} (h : group k = true) : ConditionGone (s.alarmsGone group) k := by
  intro x mem same
  obtain ⟨r, -, key, ⟨-, gone⟩ | ⟨stays, -⟩⟩ := mem_alarmsGone mem
  · exact gone
  · rw [← key, same, h] at stays
    cases stays

theorem alarmGone_conditionGone (s : State) (k : AlarmKey) : ConditionGone (s.alarmGone k) k := alarmsGone_conditionGone s (by simp)

theorem alarmsGone_keepsGone (group : AlarmKey → Bool) (gone : ConditionGone s k) : ConditionGone (s.alarmsGone group) k := by
  intro x mem same
  obtain ⟨r, old, key, ⟨-, gone_⟩ | ⟨-, rfl⟩⟩ := mem_alarmsGone mem
  · exact gone_
  · exact gone x old same

theorem coverageAlarm_keepsGone (o : State) (other : k.kind ≠ .coverageShort) (gone : ConditionGone s k) :
    ConditionGone (s.coverageAlarm o z) k := by
  unfold State.coverageAlarm
  split
  · exact raiseAlarm_conditionGone (fun same => other (by rw [same]; rfl)) gone
  · exact alarmsGone_keepsGone _ gone
  · exact gone

theorem coverageAlarms_keepsGone (o : State) (other : k.kind ≠ .coverageShort) (gone : ConditionGone s k) :
    ConditionGone (s.coverageAlarms o) k := by
  have all (zs : List Room) (u : State) (gone : ConditionGone u k) : ConditionGone (zs.foldl (fun v z => v.coverageAlarm o z) u) k := by
    induction zs generalizing u with
    | nil => exact gone
    | cons z zs ih => exact ih _ (coverageAlarm_keepsGone o other gone)
  exact all rooms s gone

theorem finish_keepsGone (o : State) (other : k.kind ≠ .coverageShort) (gone : ConditionGone s k) : ConditionGone (State.finish o s) k := by
  obtain ⟨_, _, _, _, _, _, same⟩ := State.finish_eq o s
  rw [same]
  exact coverageAlarms_keepsGone o other gone

/-! ### The Alarm Table through a zone's inputs -/

theorem grant_keepsAlarm (s : State) (z : Room) (other : k.kind ≠ .heldOpen) : KeepsAlarm 0 k s (s.grant z) := by
  rw [grant_eq]
  exact (enterZone_keepsAlarm ((granting s z).placeFire z (s.bank.reservedPositions z)) z .discharging other).after (by simp [granting])

theorem grantNext_keepsAlarm (s : State) (other : k.kind ≠ .heldOpen) : KeepsAlarm 0 k s s.grantNext := by
  cases head : s.bank.waitQueue with
  | nil =>
    rw [grantNext_none head]
    exact .of_eq rfl
  | cons y rest =>
    rw [grantNext_head head]
    exact (grant_keepsAlarm { s with bank := { s.bank with waitQueue := rest } } y other).after rfl

theorem endDischarge_keepsAlarm (s : State) (z : Room) (complete : Bool) (other : k.kind ≠ .heldOpen) :
    KeepsAlarm 0 k s (s.endDischarge z complete) := by
  have granted : KeepsAlarm 0 k s (accountedFor s z complete).grantNext := (grantNext_keepsAlarm (accountedFor s z complete) other).after rfl
  rw [endDischarge_eq]
  split
  · exact granted.trans (enterZone_keepsAlarm _ z .vent other)
  · exact granted.trans (setZone_enter_keepsAlarm _ z _ .soak other)

theorem followFlow_keepsAlarm (s : State) (z : Room) (other : k.kind ≠ .heldOpen) : KeepsAlarm 0 k s (s.followFlow z) := by
  unfold State.followFlow
  dsimp only
  split
  · exact .of_eq rfl
  · split
    · exact .of_eq rfl
    · split
      · exact endDischarge_keepsAlarm s z true other
      · exact .of_eq rfl
    · exact .of_eq rfl

theorem manualOverride_keepsAlarm (s : State) (z : Room) : KeepsAlarm 1 k s (s.manualOverride z) := by
  unfold State.manualOverride
  dsimp only
  split
  · exact (raiseAlarm_keepsAlarm (s.setZone z { s.zones[z] with kind := .manual }) _).after rfl
  · exact (KeepsAlarm.of_eq rfl).mono (Nat.zero_le 1)

theorem testInputs_keepsAlarm (s : State) (z : Room) (other : k.kind ≠ .heldOpen) : KeepsAlarm 1 k s (s.testInputs z) := by
  unfold State.testInputs
  dsimp only
  split
  · split
    · exact confirm_keepsAlarm s z _ other
    · split
      · exact (enterZone_keepsAlarm s z .alert other).trans (raiseAlarm_keepsAlarm _ _)
      · exact (KeepsAlarm.of_eq rfl).mono (Nat.zero_le 1)
  · exact (KeepsAlarm.of_eq rfl).mono (Nat.zero_le 1)

/-- The points of a zone raise at most two records. -/
theorem zoneInputs_keepsAlarm (s : State) (z : Room) (new : ZoneInputs) (other : k.kind ≠ .heldOpen) :
    KeepsAlarm 2 k s (s.zoneInputs z new) := by
  unfold State.zoneInputs
  extract_lets old _ set overridden derived tested
  have h1 : KeepsAlarm 1 k s overridden := by
    unfold overridden
    split
    · exact (manualOverride_keepsAlarm set z).after rfl
    · exact (KeepsAlarm.of_eq (s := s) (t := set) rfl).mono (Nat.zero_le 1)
  have h2 : KeepsAlarm 1 k s derived := h1.trans (rederive_keepsAlarm overridden z other)
  have h3 : KeepsAlarm 2 k s tested := by
    unfold tested
    split
    · exact h2.trans (testInputs_keepsAlarm derived z other)
    · exact h2.mono (Nat.le_succ 1)
  split
  · exact h3.trans (followFlow_keepsAlarm tested z other)
  · exact h3

theorem deriveEnvelope_alarms (s : State) (r : Room) : (s.deriveEnvelope r).alarms = s.alarms := by simp

theorem doorUnknown_keepsAlarm (s : State) (r : Room) (cause : UnknownCause) (held : k.kind ≠ .heldOpen) (forced : k.kind ≠ .forced) :
    KeepsAlarm 0 k s (s.doorUnknown r cause) := by
  unfold State.doorUnknown
  extract_lets _ set gone shown
  have h1 : KeepsAlarm 0 k s (set.alarmGone (.forRoom .heldOpen r)) := (alarmGone_keepsAlarm set held).after rfl
  have h2 : KeepsAlarm 0 k s gone := h1.trans (alarmGone_keepsAlarm _ forced)
  exact h2.congr rfl (by simp [shown])

/-! ### Stations that receive nothing -/

section Views

/-! A view of the Loop Master that no one-shot command placed changes is kept by the moves of a zone. -/

variable {β : Type} {φ : LoopMaster → β} (placed : ∀ (s : State) (o : Option Addr) (f : Slots → Slots), φ (s.placeAt o f).loop = φ s.loop)

include placed

theorem cancelRelease_view (s : State) (r : Room) : φ (s.cancelRelease r).loop = φ s.loop := by
  unfold State.cancelRelease
  dsimp only
  split
  · exact placed s _ _
  · rfl

theorem setCloseDemand_view (s : State) (r : Room) (demand : Bool) : φ (s.setCloseDemand r demand).loop = φ s.loop := by
  unfold State.setCloseDemand
  dsimp only
  split
  · rfl
  · split
    · simp [cancelRelease_view placed]
    · rfl

theorem enterZone_view (s : State) (z : Room) (st : ZoneState) : φ (s.enterZone z st).loop = φ s.loop := by
  have demanded := setCloseDemand_view placed (s.setZone z { s.zones[z] with state := st }) z st.demand
  unfold State.enterZone
  dsimp only
  split <;> exact demanded

theorem rederive_view (s : State) (z : Room) : φ (s.rederive z).loop = φ s.loop := by
  unfold State.rederive State.actOnHolds
  dsimp only
  split
  · exact enterZone_view placed _ _ _
  · exact enterZone_view placed _ _ _
  · exact enterZone_view placed _ _ _
  · rfl

theorem confirm_view (s : State) (z : Room) (k : SequenceKind) : φ (s.confirm z k).loop = φ s.loop := by
  rw [confirm_eq]
  refine (enterZone_view placed _ _ _).trans ?_
  simp [reservedFor]

theorem testInputs_view (s : State) (z : Room) : φ (s.testInputs z).loop = φ s.loop := by
  unfold State.testInputs
  dsimp only
  split
  · split
    · exact confirm_view placed _ _ _
    · split
      · simpa using enterZone_view placed s z .alert
      · rfl
  · rfl

theorem grant_view (s : State) (z : Room) : φ (s.grant z).loop = φ s.loop := by
  rw [grant_eq]
  refine (enterZone_view placed _ _ _).trans ?_
  exact placed (granting s z) _ _

theorem grantNext_view (s : State) : φ s.grantNext.loop = φ s.loop := by
  cases head : s.bank.waitQueue with
  | nil => rw [grantNext_none head]
  | cons y rest =>
    rw [grantNext_head head]
    exact grant_view placed _ y

theorem endDischarge_view (s : State) (z : Room) (complete : Bool) : φ (s.endDischarge z complete).loop = φ s.loop := by
  have granted : φ (accountedFor s z complete).grantNext.loop = φ s.loop := grantNext_view placed (accountedFor s z complete)
  rw [endDischarge_eq]
  split
  · exact (enterZone_view placed _ _ _).trans granted
  · exact (enterZone_view placed _ _ _).trans granted

theorem followFlow_view (s : State) (z : Room) : φ (s.followFlow z).loop = φ s.loop := by
  unfold State.followFlow
  dsimp only
  split
  · rfl
  · split
    · rfl
    · split
      · exact endDischarge_view placed s z true
      · rfl
    · rfl

theorem zoneInputs_view (s : State) (z : Room) (new : ZoneInputs) : φ (s.zoneInputs z new).loop = φ s.loop := by
  unfold State.zoneInputs
  extract_lets old _ set overridden derived tested
  have h1 : overridden.loop = s.loop := by
    unfold overridden
    split
    · simp [set]
    · rfl
  have h2 : φ derived.loop = φ s.loop := (rederive_view placed overridden z).trans (congrArg φ h1)
  have h3 : φ tested.loop = φ s.loop := by
    unfold tested
    split
    · exact (testInputs_view placed derived z).trans h2
    · exact h2
  split
  · exact (followFlow_view placed tested z).trans h3
  · exact h3

end Views

/-- The stations that receive nothing, whole, and the others without the commands that wait. -/
def lostWhole (l : LoopMaster) : Vector Station 96 := l.stations.map fun st => if st.lost then st else { st with slots := .clear }

theorem lostWhole_get (l : LoopMaster) (a : Addr) :
    (lostWhole l)[a] = if l.stations[a].lost then l.stations[a] else { l.stations[a] with slots := .clear } := by
  simp [lostWhole]

theorem placeAt_lostWhole (s : State) (o : Option Addr) (f : Slots → Slots) : lostWhole (s.placeAt o f).loop = lostWhole s.loop := by
  refine Vector.ext fun i hi => ?_
  have station := placeAt_station s o f ⟨i, hi⟩
  have mine := lostWhole_get (s.placeAt o f).loop ⟨i, hi⟩
  have before := lostWhole_get s.loop ⟨i, hi⟩
  refine mine.trans (Eq.trans ?_ before.symm)
  rw [station]
  split
  · next placed =>
    have same (sl : Slots) : ({ s.loop.stations[(⟨i, hi⟩ : Addr)] with slots := sl } : Station).lost = false := placed.2
    rw [same, placed.2]
    rfl
  · rfl

/-- A station that receives nothing is as it was. -/
theorem lost_station {a : Addr} (h : lostWhole t.loop = lostWhole s.loop) (lost : s.loop.stations[a].lost = true) :
    t.loop.stations[a] = s.loop.stations[a] := by
  have view : (lostWhole t.loop)[a] = (lostWhole s.loop)[a] := by rw [h]
  rw [lostWhole_get, lostWhole_get, if_pos lost] at view
  split at view
  · exact view
  · next found =>
    have same := congrArg Station.lost view
    exact absurd (same.trans lost) found

end Sys2Proof.Proofs.Conditions
end

section
/-! PROOFS. POLLS (R114, R151, R152, R157, R158): the standing outputs and the contents of a poll, the poll that goes next, and the polls that are
missed, with the loss of the station at the third. -/
namespace Sys2Proof.Proofs.Polling

open Sys2Proof Sys2Proof.Machine Sys2Proof.Safety Sys2Proof.Laws
open Sys2Proof.Proofs.Evaluation Sys2Proof.Proofs.OneRoom Sys2Proof.Proofs.ZoneMoves Sys2Proof.Proofs.Conditions
open Sys2Proof.Proofs.Reception (running_of)
open Sys2Proof.Proofs.DoorRequests (finish_upToNotices)
open Sys2Proof.Proofs.DischargeSequence (setStation_own setStation_other)
open Sys2Proof.Proofs.Configuration (stationBase_of_withoutCommands)
open Sys2Proof.Proofs.Persistence (zoneInputs_withoutCommands)

variable {s t u : State} {a : Addr} {r : Room}

/-! ### Standing outputs (R79, R87, R114) -/

theorem serves_room {st : Station} (bound : st.type.bound = true) (h : st.room = num r) : st.serves = some r := by
  rw [Station.serves, if_pos bound, h, room?_num]

theorem serves_none {st : Station} (h : st.room = 0) : st.serves = none := by
  rw [Station.serves, h]
  split <;> rfl

theorem standing_door (ty : s.loop.stations[a].type = .doorUnit) (room : s.loop.stations[a].room = num r) :
    s.standing a = .door s.doors[r].magnet := by
  have serves := serves_room (by rw [ty]; rfl) room
  unfold State.standing
  dsimp only
  rw [serves, ty]

theorem standing_releaseUnit (ty : s.loop.stations[a].type = .releaseUnit) (room : s.loop.stations[a].room = num r) :
    s.standing a = .releaseUnit s.zones[r].state.sounder s.zones[r].state.selectorOpen s.zones[r].state.extraction := by
  have serves := serves_room (by rw [ty]; rfl) room
  unfold State.standing
  dsimp only
  rw [serves, ty]

theorem standing_unused (room : s.loop.stations[a].room = 0) :
    (s.loop.stations[a].type = .doorUnit → s.standing a = .door false) ∧
      (s.loop.stations[a].type = .releaseUnit → s.standing a = .releaseUnit .off false false) := by
  have serves := serves_none room
  unfold State.standing
  dsimp only
  rw [serves]
  constructor
  · intro ty
    rw [ty]
  · intro ty
    rw [ty]

/-- The outputs of a release unit by the zone's state (R114). -/
theorem outputs_of_state (z : ZoneState) :
    StandingOutputs.releaseUnit z.sounder z.selectorOpen z.extraction =
      match z with
      | .disabled | .normal => .releaseUnit .off false false
      | .alert => .releaseUnit .alert false false
      | .held | .countdown | .waitBank => .releaseUnit .countdown false false
      | .discharging => .releaseUnit .discharge true false
      | .soak => .releaseUnit .discharge false false
      | .vent => .releaseUnit .off false true := by
  cases z <;> rfl

theorem standing_other (door : s.loop.stations[a].type ≠ .doorUnit) (unit : s.loop.stations[a].type ≠ .releaseUnit) :
    s.standing a = .nothing := by
  unfold State.standing
  dsimp only
  split
  · next ty _ => exact absurd ty door
  · next ty _ => exact absurd ty door
  · next ty _ => exact absurd ty unit
  · next ty _ => exact absurd ty unit
  · rfl

theorem magnet_iff (d : Door) :
    d.magnet = decide (d.hold = true ∧ (d.state = .opened ∨ d.state = .held ∨ d.state = .forced)) := by
  cases hold : d.hold <;> cases state : d.state <;> simp [Door.magnet, Door.isOpen, hold, state]

/-! ### The poll that goes next -/

theorem loopFree_of (runs : Runs s) (free : s.loop.current = none) (noTest : s.sup.linkTest = none) (settled : s.p2.newSettings = false) :
    s.loopFree = true := by
  rw [State.loopFree, running_of runs, free, noTest, settled]
  rfl

theorem exec_poll_scan (free : s.loopFree = true) (next : s.loop.broadcastNext = false ∨ s.p2.heldOff = true) (nobody : s.loop.answerDue = none)
    (first : s.firstConfigured 96 s.loop.scan = some a) :
    exec .poll s =
      .next
        { s with
          loop :=
            { s.loop with
              stations := s.loop.stations.set a { s.loop.stations[a] with slots := s.loop.stations[a].slots.carry }
              scan := nextAddr a
              current := some ⟨some a, if s.p2.heldOff then .unsent else .ready, s.pollContent a⟩ } } := by
  have goes : (s.loopFree && (!s.loop.broadcastNext || s.p2.heldOff)) = true := by
    rw [free]
    rcases next with no | off
    · rw [no]; rfl
    · rw [off, Bool.or_true]; rfl
  have built : exec .poll s = .next s.startScanPoll := by
    refine (congrArg Host.Outcome.next (if_pos goes)).trans ?_
    rw [nobody]
  rw [built, State.startScanPoll, first]
  rfl

theorem exec_poll_answer (free : s.loopFree = true) (next : s.loop.broadcastNext = false ∨ s.p2.heldOff = true)
    (due : s.loop.answerDue = some a) :
    exec .poll s =
      .next
        { s with
          loop :=
            { s.loop with
              stations := s.loop.stations.set a { s.loop.stations[a] with slots := s.loop.stations[a].slots.carry }
              answerDue := none, yielded := s.loop.broadcastDue.isSome
              current := some ⟨some a, if s.p2.heldOff then .unsent else .ready, s.pollContent a⟩ } } := by
  have goes : (s.loopFree && (!s.loop.broadcastNext || s.p2.heldOff)) = true := by
    rw [free]
    rcases next with no | off
    · rw [no]; rfl
    · rw [off, Bool.or_true]; rfl
  have built : exec .poll s = .next (s.startAnswerPoll a) := by
    refine (congrArg Host.Outcome.next (if_pos goes)).trans ?_
    rw [due]
  rw [built]
  rfl

theorem exec_poll_waits (next : s.loop.broadcastNext = true) (on : s.p2.heldOff = false) : exec .poll s = .next s := by
  refine congrArg Host.Outcome.next (if_neg ?_)
  rw [next, on, Bool.not_true, Bool.false_or, Bool.and_false]
  exact Bool.false_ne_true

theorem exec_broadcastPoll {c : ClockReading} (free : s.loopFree = true) (next : s.loop.broadcastNext = true)
    (due : s.loop.broadcastDue = some c) :
    exec .broadcastPoll s =
      .next
        { s with
          loop :=
            { s.loop with
              broadcastDue := none, yielded := false
              current := if s.p2.heldOff then none else some ⟨none, .ready, .broadcast c.date c.time c.weekday⟩ } } := by
  have goes : (s.loopFree && s.loop.broadcastNext) = true := by rw [free, next]; rfl
  have opened : exec .broadcastPoll s = .next (
    match s.loop.broadcastDue with
    | none => s
    | some r =>
      if s.loopFree && s.loop.broadcastNext then
        { s with
          loop :=
            { s.loop with
              broadcastDue := none, yielded := false
              current := if s.p2.heldOff then none else some ⟨none, .ready, .broadcast r.date r.time r.weekday⟩ } }
      else s) := rfl
  rw [opened, due]
  exact congrArg Host.Outcome.next (if_pos goes)

theorem exec_broadcastPoll_yields (next : s.loop.broadcastNext = false) : exec .broadcastPoll s = .next s := by
  refine congrArg Host.Outcome.next ?_
  split
  · rfl
  · rw [next, Bool.and_false, if_neg Bool.false_ne_true]

theorem broadcastNext_false (h : s.loop.broadcastDue = none ∨ s.loop.answerDue ≠ none ∧ s.loop.yielded = false) :
    s.loop.broadcastNext = false := by
  rw [LoopMaster.broadcastNext]
  rcases h with nobody | ⟨due, first⟩
  · rw [nobody]
    rfl
  · rw [first, Option.isNone_eq_false_iff.mpr (Option.isSome_iff_ne_none.mpr due), Bool.or_self, Bool.and_false]

theorem broadcastNext_true {c : ClockReading} (due : s.loop.broadcastDue = some c) (goes : s.loop.answerDue = none ∨ s.loop.yielded = true) :
    s.loop.broadcastNext = true := by
  rw [LoopMaster.broadcastNext, due]
  rcases goes with nobody | yielded
  · rw [nobody]
    rfl
  · rw [yielded, Bool.or_true]
    rfl

/-! ### Missed polls (R152) -/

/-- The poll in progress is over without a reply. -/
def unanswered (s : State) : State := { s with loop := { s.loop with current := none } }

theorem exec_pollMissed_inFrame {ph : PollPhase} {c : PollContent} (polled : s.loop.current = some ⟨some a, ph, c⟩)
    (inFrame : s.p2.rx.inFrame = true) : exec .pollMissed s = .next s := by
  have opened : exec .pollMissed s = execPollMissed s := rfl
  rw [opened, execPollMissed, polled]
  refine congrArg Host.Outcome.next (if_neg ?_)
  rw [inFrame, Bool.not_true, Bool.and_false]
  exact Bool.false_ne_true

theorem exec_pollMissed {ph : PollPhase} {c : PollContent} (runs : Runs s) (polled : s.loop.current = some ⟨some a, ph, c⟩)
    (misses : ph = .awaiting ∨ ph = .unsent) (outside : s.p2.rx.inFrame = false) :
    exec .pollMissed s = .next (State.finish s ((unanswered s).miss a)) := by
  have opened : exec .pollMissed s = execPollMissed s := rfl
  have may : PollInProgress.mayMiss ⟨some a, ph, c⟩ = true := by rcases misses with rfl | rfl <;> rfl
  rw [opened, execPollMissed, polled]
  refine congrArg Host.Outcome.next (if_pos ?_)
  rw [running_of runs, may, outside]
  rfl

/-- A station with one miss more. -/
def missed (s : State) (a : Addr) : State :=
  (unanswered s).setStation a { s.loop.stations[a] with misses := min 3 (s.loop.stations[a].misses + 1) }

theorem miss_counts (configured : s.loop.stations[a].state ≠ .unconfigured)
    (few : s.loop.stations[a].misses < 2 ∨ s.loop.stations[a].state = .missing) : (unanswered s).miss a = missed s a := by
  unfold State.miss
  dsimp only
  refine (if_neg configured).trans ((if_neg ?_).trans rfl)
  rintro ⟨limit, present⟩
  have third : min 3 (s.loop.stations[a].misses + 1) = 3 := limit
  rcases few with few | missing
  · omega
  · exact present missing

theorem miss_loses (configured : s.loop.stations[a].state ≠ .unconfigured) (many : 2 ≤ s.loop.stations[a].misses)
    (present : s.loop.stations[a].state ≠ .missing) : (unanswered s).miss a = (missed s a).loseStation a .missing := by
  have third : min Config.missLimit (s.loop.stations[a].misses + 1) = Config.missLimit := by
    show min 3 _ = 3
    omega
  unfold State.miss
  dsimp only
  exact (if_neg configured).trans ((if_pos ⟨third, present⟩).trans rfl)

/-! ### The loss of a station -/

/-- A station that enters MISSING or WRONG_TYPE, before its owner hears of it. -/
def lostRecord (st : Station) (state : StationState) : Station :=
  { st with state := state, slots := .clear, points := st.lostPoints (st.state = .pending || st.state = .online) }

/-- What the missing meaning leaves of the stations and the Alarm Table. -/
structure Heard (s t : State) : Prop where
  stations : ∀ a : Addr, stationBase t a = stationBase s a
  lost : ∀ a : Addr, s.loop.stations[a].lost = true → t.loop.stations[a] = s.loop.stations[a]
  current : t.loop.current = s.loop.current
  alarms : ∀ k : AlarmKey, k.kind ≠ .heldOpen → k.kind ≠ .forced → KeepsAlarm 2 k s t

theorem Heard.of_loop (loop : t.loop = s.loop) (alarms : t.alarms = s.alarms) : Heard s t :=
  ⟨fun a => by simp only [stationBase, loop], fun a _ => by rw [loop], by rw [loop], fun k _ _ => (KeepsAlarm.of_eq alarms).mono (Nat.zero_le 2)⟩

theorem zoneInputs_heard (s : State) (z : Room) (new : ZoneInputs) : Heard s (s.zoneInputs z new) where
  stations := stationBase_of_withoutCommands (zoneInputs_withoutCommands s z new)
  lost _ lost := lost_station (zoneInputs_view placeAt_lostWhole s z new) lost
  current := congrArg (·.current) (zoneInputs_withoutCommands s z new)
  alarms _ held _ := zoneInputs_keepsAlarm s z new held

theorem missingMeaning_heard (s : State) (a : Addr) : Heard s (s.missingMeaning a) := by
  unfold State.missingMeaning
  dsimp only
  split
  · next r _ _ =>
    have unknown : (s.doorPointsLost r).alarms = s.alarms := rfl
    have loop : ((s.doorPointsLost r).doorUnknown r .lost).loop = s.loop := by simp [State.doorPointsLost]
    refine ⟨fun b => by simp only [stationBase, loop], fun b _ => by rw [loop], by rw [loop], fun k held forced => ?_⟩
    exact ((doorUnknown_keepsAlarm (s.doorPointsLost r) r .lost held forced).congr unknown rfl).mono (Nat.zero_le 2)
  · exact zoneInputs_heard ..
  · exact zoneInputs_heard ..
  · exact .of_loop (by simp) (by simp)
  · exact .of_loop rfl rfl

/-- What the loss of a station leaves: its new record, the others but for the commands that wait, and the poll. -/
structure Loses (s t : State) (a : Addr) (state : StationState) : Prop where
  own : t.loop.stations[a] = lostRecord s.loop.stations[a] state
  others : ∀ j : Addr, j ≠ a → stationBase t j = stationBase s j
  current : t.loop.current = s.loop.current
  length : t.alarms.records.length ≤ s.alarms.records.length + 3
  stands : s.alarms.records.length + 3 ≤ 64 → Stands t (.forStation .stationMissing a)

theorem loseStation_loses (s : State) (a : Addr) {state : StationState} (lost : state = .missing ∨ state = .wrongType) :
    Loses s (s.loseStation a state) a state := by
  unfold State.loseStation
  extract_lets st fresh set heard
  have record : set.loop.stations[a] = lostRecord s.loop.stations[a] state := setStation_own ..
  have isLost : set.loop.stations[a].lost = true := by
    rw [record]
    rcases lost with rfl | rfl <;> rfl
  have hears : Heard set heard := by
    unfold heard
    split
    · exact missingMeaning_heard set a
    · exact .of_loop rfl rfl
  have loop : (heard.raiseAlarm (.forStation .stationMissing a)).loop = heard.loop := by simp
  have raises := raiseAlarm_length heard (.forStation .stationMissing a)
  have length := (hears.alarms (.forStation .stationMissing a) (by simp [AlarmKey.forStation]) (by simp [AlarmKey.forStation])).length
  have same : set.alarms = s.alarms := rfl
  rw [same] at length
  refine ⟨?_, fun j other => ?_, ?_, by omega, fun room => ?_⟩
  · rw [loop, hears.lost a isLost, record]
  · have base : stationBase (heard.raiseAlarm (.forStation .stationMissing a)) j = stationBase heard j := by
      simp only [stationBase, loop]
    rw [base, hears.stations j]
    simp only [stationBase, set]
    rw [setStation_other s _ other.symm]
  · rw [loop, hears.current]
    rfl
  · exact State.raiseAlarm_stands _ _ (by omega)

theorem loses_finish {state : StationState} (o : State) (h : Loses s t a state) (roomy : Roomy s) :
    Stands (State.finish o t) (.forStation .stationMissing a) := by
  have few : s.alarms.records.length ≤ 40 := roomy
  have length := h.length
  exact (finish_keepsAlarm o t (by simp [AlarmKey.forStation])).stands (by omega) (h.stands (by omega))

theorem missed_own (s : State) (a : Addr) :
    (missed s a).loop.stations[a] = { s.loop.stations[a] with misses := min 3 (s.loop.stations[a].misses + 1) } := setStation_own ..

theorem missed_other (s : State) {a j : Addr} (other : j ≠ a) : stationBase (missed s a) j = stationBase s j := by
  simp only [stationBase, missed]
  rw [setStation_other (unanswered s) _ other.symm]
  rfl

/-- The third miss (R152). -/
theorem exec_pollMissed_third {ph : PollPhase} {c : PollContent} (runs : Runs s) (polled : s.loop.current = some ⟨some a, ph, c⟩)
    (misses : ph = .awaiting ∨ ph = .unsent) (outside : s.p2.rx.inFrame = false) (configured : s.loop.stations[a].state ≠ .unconfigured)
    (many : 2 ≤ s.loop.stations[a].misses) (present : s.loop.stations[a].state ≠ .missing) :
    ∃ t, exec .pollMissed s = .next t ∧ t.loop.current = none ∧ t.loop.stations[a].state = .missing ∧ t.loop.stations[a].misses = 3 ∧
      t.loop.stations[a].slots = .clear ∧ (∀ j : Addr, j ≠ a → stationBase t j = stationBase s j) ∧ t.bt = s.bt ∧ t.clk = s.clk ∧
      t.roll = s.roll ∧ t.p2 = s.p2 ∧ t.lines = s.lines ∧ (Roomy s → Stands t (.forStation .stationMissing a)) := by
  have next := exec_pollMissed runs polled misses outside
  rw [miss_loses configured many present] at next
  have loses : Loses (missed s a) ((missed s a).loseStation a .missing) a .missing := loseStation_loses _ a (.inl rfl)
  have leaves := finish_leaves s ((missed s a).loseStation a .missing)
  have own := loses.own
  rw [missed_own] at own
  refine ⟨_, next, ?_, ?_, ?_, ?_, fun j other => ?_, ?_, ?_, ?_, ?_, ?_, fun roomy => loses_finish s loses roomy⟩
  · rw [leaves.loop, loses.current]
    rfl
  · rw [leaves.loop, own]
    rfl
  · rw [leaves.loop, own]
    show min 3 _ = 3
    omega
  · rw [leaves.loop, own]
    rfl
  · have base : stationBase (State.finish s ((missed s a).loseStation a .missing)) j = stationBase ((missed s a).loseStation a .missing) j := by
      simp only [stationBase, leaves.loop]
    rw [base, loses.others j other, missed_other s other]
  · rw [leaves.bt]
    simp [missed, unanswered]
  · rw [leaves.clk]
    simp [missed, unanswered]
  · rw [leaves.roll]
    simp [missed, unanswered]
  · rw [leaves.p2]
    simp [missed, unanswered]
  · rw [leaves.lines]
    simp [missed, unanswered]

/-! ### The obligation -/

/-- Settles O29: the contents of a poll, the poll that goes next, and the missed polls. -/
theorem pollsAndMissedPolls : Obligations.PollsAndMissedPolls := by
  refine ⟨fun s a => ⟨rfl, fun r room => ⟨fun ty => ?_, fun ty => ?_⟩, fun room => standing_unused room, standing_other⟩,
    fun s runs free noTest settled => ⟨?_, ?_, ?_, ?_⟩, fun s a ph c runs polled misses configured => ⟨?_, fun outside => ⟨fun few => ?_, ?_⟩⟩⟩
  · rw [standing_door ty room, magnet_iff]
  · refine ((standing_releaseUnit ty room).trans (outputs_of_state _)).trans ?_
    cases s.zones[r].state <;> rfl
  · intro a nobody due first
    have next := due.imp_left fun no => broadcastNext_false (.inl no)
    exact exec_poll_scan (loopFree_of runs free noTest settled) next nobody first
  · intro a due order
    refine exec_poll_answer (loopFree_of runs free noTest settled) ?_ due
    rcases order with no | first | off
    · exact .inl (broadcastNext_false (.inl no))
    · exact .inl (broadcastNext_false (.inr ⟨by rw [due]; exact Option.some_ne_none a, first⟩))
    · exact .inr off
  · intro c due goes
    have next := broadcastNext_true due goes
    exact ⟨exec_poll_waits next, exec_broadcastPoll (loopFree_of runs free noTest settled) next due⟩
  · intro a due first
    exact exec_broadcastPoll_yields (broadcastNext_false (.inr ⟨by rw [due]; exact Option.some_ne_none a, first⟩))
  · exact exec_pollMissed_inFrame polled
  · have next := exec_pollMissed runs polled misses outside
    rw [miss_counts configured few] at next
    exact ⟨_, next, finish_upToNotices rfl rfl⟩
  · exact exec_pollMissed_third runs polled misses outside configured

end Sys2Proof.Proofs.Polling
end

section
/-! PROOFS. REPORTS (R136, R152 to R154, R163, R164): a valid reply is the event of its points, its flags and its events; one of another type
loses the station; other bits leave the poll in progress. -/
namespace Sys2Proof.Proofs.Reports

open Sys2Proof Sys2Proof.Machine Sys2Proof.Safety Sys2Proof.Laws
open Sys2Proof.Proofs.Evaluation Sys2Proof.Proofs.Persistence Sys2Proof.Proofs.Polling
open Sys2Proof.Proofs.Reception (running_of not_running_of)
open Sys2Proof.Proofs.DoorRequests (finish_upToOutputs)
open Sys2Proof.Proofs.DischargeSequence (setStation_own setStation_other)
open Sys2Proof.Proofs.Cylinders (walkAndTopUpTakeReadyCylinders)

variable {s t u : State} {a : Addr} {line : List Bool} {ty : StationType} {states : List PointState} {r : ReportFrame}

/-! ### A valid reply -/

theorem exec_report_valid (replies : Replies s a line) (hr : r.line = line) (declared : r.declared? = some ty) :
    exec (.report r) s = .next ((hunting s).validReply a ty r) := by
  obtain ⟨⟨mainOn, resetHigh⟩, ⟨c, polled⟩, configured, p, f, on, heard, address, kindHigh, kindLow⟩ := replies
  have running : s.running = true := by simp [State.running, mainOn, resetHigh]
  have handed : (hunting s).takeReply r f = (hunting s).validReply a ty r := by
    simp [State.takeReply, hunting, polled, declared, isKind, kindHigh, kindLow, address]
  have hears : s.hearLoop r.line = (hunting s, some (.accepted f)) := hr ▸ hearLoop_accepted on heard
  calc exec (.report r) s
      _ = execReport r s := rfl
      _ = .next ((hunting s).validReply a ty r) := by simp [execReport, running, hears, handed]

theorem replied_state (configured : s.loop.stations[a].state ≠ .unconfigured) : (replied s a).loop.stations[a].state ≠ .unconfigured := by
  rw [replied_station]
  exact configured

/-- A valid reply of the configured type is one event of its points and flags, and then its events. -/
theorem validReply_own (configured : s.loop.stations[a].state ≠ .unconfigured) (type : s.loop.stations[a].type = ty) :
    (hunting s).validReply a ty r = (State.finish (replied s a) ((replied s a).takeReport a r)).reportEvents a r := by
  have type' : (replied s a).loop.stations[a].type = ty := by rwa [replied_station]
  unfold State.validReply
  exact (if_neg (replied_state configured)).trans (if_neg (not_not_intro type'.symm))

/-- A reply of another type is the event of the station's loss. -/
theorem validReply_other (configured : s.loop.stations[a].state ≠ .unconfigured) (type : ty ≠ s.loop.stations[a].type) :
    (hunting s).validReply a ty r = State.finish (replied s a) ((replied s a).wrongType a) := by
  have type' : ty ≠ (replied s a).loop.stations[a].type := by rwa [replied_station]
  unfold State.validReply
  exact (if_neg (replied_state configured)).trans (if_pos type')

theorem reportEvents_none (h : r.eventNumber = 0) : s.reportEvents a r = s := if_pos h

/-- What the completed poll leaves. -/
theorem replied_frame (s : State) (a : Addr) :
    (replied s a).bt = s.bt ∧ (replied s a).clk = s.clk ∧ (replied s a).ctx = s.ctx ∧ (replied s a).roll = s.roll ∧
      (replied s a).doors = s.doors ∧ (replied s a).zones = s.zones ∧ (replied s a).bank = s.bank ∧ (replied s a).alarms = s.alarms ∧
      (replied s a).sup = s.sup ∧ (replied s a).lines = s.lines ∧ (replied s a).p2 = { s.p2 with rx := .hunting } ∧
      (replied s a).loop.current = none ∧ (replied s a).due = s.due := ⟨rfl, rfl, rfl, rfl, rfl, rfl, rfl, rfl, rfl, rfl, rfl, rfl, rfl⟩

theorem replied_other (s : State) {a j : Addr} (other : j ≠ a) : (replied s a).loop.stations[j] = s.loop.stations[j] :=
  setStation_other (hunting s) _ other.symm

/-! ### A report without points and events -/

/-- The points of a station whose type has none. -/
theorem takePoints_none (s : State) (a : Addr) (unowned : ∀ t : State, t.loop.stations[a].type = s.loop.stations[a].type → t.ownerTakes a [] = t) :
    s.takePoints a [] = s.setStation a { s.loop.stations[a] with points := [] } := by
  have nothing (ps : List Point) (i : Nat) : filterPoints s.loop.stations[a].type i ps [] = [] := by cases ps <;> rfl
  unfold State.takePoints
  dsimp only
  rw [nothing]
  exact unowned _ (congrArg (·.type) (setStation_own ..))

theorem ownerTakes_pointless (ty : s.loop.stations[a].type = .checkIn ∨ s.loop.stations[a].type = .pendantRx ∨ s.loop.stations[a].type = .bankMonitor)
    (cs : List (Option PointState)) : s.ownerTakes a cs = s := by
  unfold State.ownerTakes
  dsimp only
  rcases ty with h | h | h <;> rw [h]

theorem stationReturns_eq (s : State) (a : Addr) :
    s.stationReturns a =
      { s.setStation a { s.loop.stations[a] with misses := 0, state := .online } with
        alarms := if s.loop.stations[a].lost then (s.alarmGone (.forStation .stationMissing a)).alarms else s.alarms
        due := (s.stationReturns a).due } := by
  unfold State.stationReturns
  dsimp only
  split <;> rfl

/-- A station that is ONLINE again, its poll complete and its points those of a report. -/
def heardFrom (st : Station) (ps : List Point) : Station :=
  { st with state := .online, misses := 0, points := ps, slots := st.slots.delivered }

/-- The state that a report without points and events brings about, but for what it owes. -/
def pointless (s : State) (a : Addr) : State :=
  { s with
    p2 := { s.p2 with rx := .hunting }
    loop := { s.loop with current := none, stations := s.loop.stations.set a (heardFrom s.loop.stations[a] []) }
    alarms := if s.loop.stations[a].lost then (s.alarmGone (.forStation .stationMissing a)).alarms else s.alarms }

theorem reported_pointless (ty : s.loop.stations[a].type = .checkIn ∨ s.loop.stations[a].type = .pendantRx ∨ s.loop.stations[a].type = .bankMonitor) :
    ((replied s a).stationReturns a).takePoints a [] =
      { pointless s a with due := (((replied s a).stationReturns a).takePoints a []).due } := by
  have station : ((replied s a).stationReturns a).loop.stations[a] =
      { s.loop.stations[a] with state := .online, misses := 0, slots := s.loop.stations[a].slots.delivered } := by
    rw [stationReturns_station, replied_station]
  have taken := takePoints_none ((replied s a).stationReturns a) a fun t same => ownerTakes_pointless (by rw [same, station]; exact ty) []
  obtain ⟨d, returns⟩ : ∃ d, (replied s a).stationReturns a =
      { (replied s a).setStation a { (replied s a).loop.stations[a] with misses := 0, state := .online } with
        alarms :=
          if (replied s a).loop.stations[a].lost then ((replied s a).alarmGone (.forStation .stationMissing a)).alarms
          else (replied s a).alarms
        due := d } := ⟨_, stationReturns_eq (replied s a) a⟩
  have lost : (replied s a).loop.stations[a].lost = s.loop.stations[a].lost := by
    rw [replied_station]
    rfl
  rw [taken, station, returns, lost]
  simp only [State.setStation, pointless, heardFrom, replied, hunting, State.endPoll, Vector.set_set]
  rfl

/-- A check-in station or a pendant receiver that reports nothing (R152, R153). -/
theorem exec_report_nothing (replies : Replies s a line) (type : s.loop.stations[a].type = ty) (quiet : ty = .checkIn ∨ ty = .pendantRx) :
    ∃ t, exec (.report ⟨line, some ty, [], 0, .nothing⟩) s = .next t ∧ UpToOutputs (pointless s a) t := by
  have next := exec_report_pointsOnly (states := []) replies type (by rcases quiet with rfl | rfl <;> exact nofun)
    (by rcases quiet with rfl | rfl <;> exact nofun) (by rcases quiet with rfl | rfl <;> rfl)
  have effect := reported_pointless (s := s) (a := a) (by rw [type]; exact quiet.imp_right .inl)
  refine ⟨_, next, ?_⟩
  unfold reported
  rw [effect]
  exact upToOutputs_due (finish_upToOutputs (s := replied s a) (u := { pointless s a with due := _ }) rfl) rfl

/-! ### A bank monitor's flags (R136) -/

theorem declared_pressure {low : List Bool} (all : low.length = 48) :
    (⟨line, some .bankMonitor, [], 0, .pressure low⟩ : ReportFrame).declared? = some .bankMonitor := by
  simp [ReportFrame.declared?, StationType.pointCount, Events.fit, Events.any, all]

/-- The flags replaced, with what a newly low flag makes of the cylinder at its position. -/
def flagged (s : State) (low : List Bool) : State :=
  { s with
    bank :=
      { s.bank with
        cylinders := vgen fun p => if s.newlyLow low p then s.cylinderLow p else s.bank.cylinders[p]
        flags := vgen fun p => if low.getD p.val false then .low else .normal } }

theorem takeFlags_cases (s : State) (low : List Bool) :
    s.takeFlags low = (flagged s low).topUp ∨ s.takeFlags low = flagged s low ∨ s.takeFlags low = (flagged s low).refreshAll := by
  unfold State.takeFlags
  extract_lets cyls left n
  split
  · exact .inl rfl
  · split
    · exact .inr (.inl rfl)
    · exact .inr (.inr rfl)

/-- What follows the flags changes none of them, and no cylinder that is not READY. -/
theorem takeFlags_after (s : State) (low : List Bool) (p : Pos) :
    (s.takeFlags low).bank.flags = (flagged s low).bank.flags ∧
      ((flagged s low).bank.cylinders[p].state ≠ .ready → (s.takeFlags low).bank.cylinders[p] = (flagged s low).bank.cylinders[p]) := by
  rcases takeFlags_cases s low with h | h | h
  · obtain ⟨-, same | ⟨ready, -⟩, -, -, flags⟩ := walkAndTopUpTakeReadyCylinders.2.2 (flagged s low) p
    · rw [h]
      exact ⟨flags, fun _ => same⟩
    · rw [h]
      exact ⟨flags, fun no => absurd ready no⟩
  · rw [h]
    exact ⟨rfl, fun _ => rfl⟩
  · rw [h]
    exact ⟨rfl, fun _ => rfl⟩

theorem takeFlags_flags (s : State) (low : List Bool) (p : Pos) :
    (s.takeFlags low).bank.flags[p] = if low.getD p.val false then .low else .normal := by
  have flags := congrArg (·[p]) (takeFlags_after s low p).1
  exact flags.trans (vgen_get ..)

/-- A READY cylinder whose flag is newly low is FAULT, and a top-up does not take it. -/
theorem takeFlags_ready {low : List Bool} {p : Pos} (ready : s.bank.cylinders[p].state = .ready) (isLow : low.getD p.val false = true)
    (new : s.bank.flags[p] ≠ .low) : (s.takeFlags low).bank.cylinders[p].state = .fault := by
  have newly : s.newlyLow low p = true := by
    rw [State.newlyLow, isLow, decide_eq_true new]
    rfl
  have fault : (flagged s low).bank.cylinders[p] = { s.bank.cylinders[p] with state := .fault } := by
    refine (vgen_get ..).trans ?_
    rw [if_pos newly, State.cylinderLow]
    dsimp only
    rw [ready]
  have after := (takeFlags_after s low p).2 (by rw [fault]; exact nofun)
  rw [after, fault]

theorem takeReport_pressure {low : List Bool} {v : State} (h : (s.stationReturns a).takePoints a [] = v) :
    s.takeReport a ⟨line, some .bankMonitor, [], 0, .pressure low⟩ = v.takeFlags low := by
  unfold State.takeReport
  dsimp only
  rw [h]
  rfl

/-- A bank monitor's report (R136). -/
theorem exec_report_pressure {low : List Bool} (replies : Replies s a line) (type : s.loop.stations[a].type = .bankMonitor)
    (all : low.length = 48) :
    ∃ t d, exec (.report ⟨line, some .bankMonitor, [], 0, .pressure low⟩) s = .next t ∧
      Leaves ({ pointless s a with due := d }.takeFlags low) t := by
  have next := exec_report_valid replies rfl (declared_pressure all)
  have effect := reported_pointless (s := s) (a := a) (.inr (.inr type))
  rw [validReply_own replies.configured type, reportEvents_none rfl] at next
  rw [takeReport_pressure effect] at next
  exact ⟨_, _, next, finish_leaves ..⟩

/-! ### A reply of another type (R153) -/

/-- The loss of the station, unless it is lost so already. -/
theorem wrongType_cases (s : State) (a : Addr) :
    (s.loop.stations[a].state = .wrongType ∧ s.wrongType a = s.setStation a { s.loop.stations[a] with misses := 0 }) ∨
      (s.loop.stations[a].state ≠ .wrongType ∧
        s.wrongType a = (s.setStation a { s.loop.stations[a] with misses := 0 }).loseStation a .wrongType) := by
  unfold State.wrongType
  dsimp only
  split
  · next already => exact .inl ⟨already, rfl⟩
  · next new => exact .inr ⟨new, rfl⟩

/-- What the loss of a station as WRONG_TYPE leaves, whether it was lost so before or not. -/
structure Mistyped (s t : State) (a : Addr) : Prop where
  current : t.loop.current = s.loop.current
  state : t.loop.stations[a].state = .wrongType
  misses : t.loop.stations[a].misses = 0
  type : t.loop.stations[a].type = s.loop.stations[a].type
  cleared : s.loop.stations[a].state ≠ .wrongType → t.loop.stations[a].slots = .clear
  stands : s.loop.stations[a].state ≠ .wrongType → ∀ o, Roomy s → Stands (State.finish o t) (.forStation .stationMissing a)
  others : ∀ j : Addr, j ≠ a → stationBase t j = stationBase s j

theorem wrongType_mistyped (s : State) (a : Addr) : Mistyped s (s.wrongType a) a := by
  have own : (s.setStation a { s.loop.stations[a] with misses := 0 }).loop.stations[a] = { s.loop.stations[a] with misses := 0 } :=
    setStation_own ..
  have others (j : Addr) (other : j ≠ a) : stationBase (s.setStation a { s.loop.stations[a] with misses := 0 }) j = stationBase s j := by
    simp only [stationBase]
    rw [setStation_other s _ other.symm]
  obtain ⟨already, same⟩ | ⟨new, lost⟩ := wrongType_cases s a
  · rw [same]
    refine ⟨rfl, ?_, ?_, ?_, absurd already, absurd already, others⟩
    · rw [own]
      exact already
    · rw [own]
    · rw [own]
  · have loses : Loses (s.setStation a { s.loop.stations[a] with misses := 0 }) (s.wrongType a) a .wrongType := by
      rw [lost]
      exact loseStation_loses _ a (.inr rfl)
    have record := loses.own
    rw [own] at record
    refine ⟨loses.current, ?_, ?_, ?_, fun _ => ?_, fun _ o roomy => ?_, fun j other => (loses.others j other).trans (others j other)⟩
    · rw [record]
      rfl
    · rw [record]
      rfl
    · rw [record]
      rfl
    · rw [record]
      rfl
    · have roomy : Roomy (s.setStation a { s.loop.stations[a] with misses := 0 }) := roomy
      exact loses_finish o loses roomy

/-- A reply of another type than the station's (R153). -/
theorem exec_report_mistyped (replies : Replies s a line) (assigned : ty ≠ .unassigned) (noMonitor : ty ≠ .bankMonitor)
    (other : ty ≠ s.loop.stations[a].type) (all : states.length = ty.pointCount) :
    ∃ t, exec (.report ⟨line, some ty, states, 0, .nothing⟩) s = .next t ∧ t.loop.current = none ∧
      t.loop.stations[a].state = .wrongType ∧ t.loop.stations[a].misses = 0 ∧ t.loop.stations[a].type = s.loop.stations[a].type ∧
      (s.loop.stations[a].state ≠ .wrongType →
        t.loop.stations[a].slots = .clear ∧ (Roomy s → Stands t (.forStation .stationMissing a))) ∧
      (∀ j : Addr, j ≠ a → stationBase t j = stationBase s j) ∧ t.bt = s.bt ∧ t.clk = s.clk ∧ t.roll = s.roll ∧
      t.p2 = { s.p2 with rx := .hunting } ∧ t.lines = s.lines := by
  have next := exec_report_valid (r := pointsOnly line ty states) replies rfl (declared_pointsOnly assigned noMonitor all)
  rw [validReply_other replies.configured other] at next
  have mistyped := wrongType_mistyped (replied s a) a
  have leaves := finish_leaves (replied s a) ((replied s a).wrongType a)
  have before : (replied s a).loop.stations[a].state = s.loop.stations[a].state := by rw [replied_station]
  obtain ⟨bt, clk, -, roll, -, -, -, -, -, lines, p2, current, -⟩ := replied_frame s a
  refine ⟨_, next, ?_, ?_, ?_, ?_, fun new => ⟨?_, fun roomy => ?_⟩, fun j elsewhere => ?_, ?_, ?_, ?_, ?_, ?_⟩
  · rw [leaves.loop, mistyped.current, current]
  · rw [leaves.loop, mistyped.state]
  · rw [leaves.loop, mistyped.misses]
  · rw [leaves.loop, mistyped.type, replied_station]
  · rw [leaves.loop, mistyped.cleared (before ▸ new)]
  · have roomy : Roomy (replied s a) := roomy
    exact mistyped.stands (before ▸ new) (replied s a) roomy
  · have kept : stationBase (State.finish (replied s a) ((replied s a).wrongType a)) j = stationBase ((replied s a).wrongType a) j := by
      simp only [stationBase, leaves.loop]
    rw [kept, mistyped.others j elsewhere]
    simp only [stationBase]
    rw [replied_other s elsewhere]
  · rw [leaves.bt]
    simpa using bt
  · rw [leaves.clk]
    simpa using clk
  · rw [leaves.roll]
    simpa using roll
  · rw [leaves.p2]
    simpa using p2
  · rw [leaves.lines]
    simpa using lines

/-! ### Other bits (R163) -/

/-- What follows the line bits: the frame accepted in them, if any, is handed on. -/
def handed (r : ReportFrame) : State × Option RxEvent → State
  | (t, some (.accepted f)) => t.takeReply r f
  | (t, _) => t

theorem exec_report_running (runs : Runs s) : exec (.report r) s = .next (handed r (s.hearLoop r.line)) := by
  have opened : exec (.report r) s = execReport r s := rfl
  rw [opened, execReport, if_pos (running_of runs)]
  rfl

theorem exec_report_phase {p q : RxPhase} (runs : Runs s) (on : s.p2.rx = .on p)
    (heard : receive ⟨s.p2.usedPair, fun _ => true⟩ p r.line = .inl q) :
    exec (.report r) s = .next { s with p2 := { s.p2 with rx := .on q } } := by
  have hears : s.hearLoop r.line = ({ s with p2 := { s.p2 with rx := .on q } }, none) := by
    simp [State.hearLoop, Receiver.take, PortTwo.rxConfig, on, heard]
  rw [exec_report_running runs, hears]
  rfl

theorem hearLoop_ends {p : RxPhase} {e : RxEvent} (on : s.p2.rx = .on p)
    (heard : receive ⟨s.p2.usedPair, fun _ => true⟩ p r.line = .inr e) : s.hearLoop r.line = (hunting s, some e) := by
  simp [State.hearLoop, Receiver.take, PortTwo.rxConfig, on, heard, hunting]

/-- A frame that is no valid reply of the polled station is not taken (R152; assumption 31). -/
theorem takeReply_untaken {f : LinkFrame}
    (invalid : ∀ a c, s.loop.current = some ⟨some a, .awaiting, c⟩ →
      r.declared? = none ∨ f.address.toNat ≠ num a ∨ (f.kind &&& 0xE0#8) ≠ 0#8 ∨ (f.kind &&& 0x0F#8) ≠ 5#8) :
    s.takeReply r f = s := by
  unfold State.takeReply
  split
  · next b c t polled declared =>
    refine if_neg fun taken => ?_
    simp only [isKind, Bool.and_eq_true, decide_eq_true_eq] at taken
    obtain ⟨⟨high, low⟩, address⟩ := taken
    rcases invalid b c polled with undeclared | elsewhere | kind | kind
    · rw [declared] at undeclared
      cases undeclared
    · exact elsewhere address
    · exact kind high
    · exact kind low
  · rfl

theorem exec_report_ends {p : RxPhase} {e : RxEvent} (runs : Runs s) (on : s.p2.rx = .on p)
    (heard : receive ⟨s.p2.usedPair, fun _ => true⟩ p r.line = .inr e)
    (invalid : ∀ f a c, e = .accepted f → s.loop.current = some ⟨some a, .awaiting, c⟩ →
      r.declared? = none ∨ f.address.toNat ≠ num a ∨ (f.kind &&& 0xE0#8) ≠ 0#8 ∨ (f.kind &&& 0x0F#8) ≠ 5#8) :
    exec (.report r) s = .next { s with p2 := { s.p2 with rx := .hunting } } := by
  rw [exec_report_running runs, hearLoop_ends on heard]
  cases e with
  | accepted f => exact congrArg Host.Outcome.next (takeReply_untaken (s := hunting s) fun a c polled => invalid f a c rfl polled)
  | dropped => rfl
  | discarded => rfl

theorem exec_report_off (h : s.p2.rx = .off ∨ ¬Runs s) : exec (.report r) s = .next s := by
  by_cases runs : Runs s
  · rcases h with off | stopped
    · have hears : s.hearLoop r.line = (s, none) := by
        unfold State.hearLoop Receiver.take
        rw [off]
        show (({ s with p2 := { s.p2 with rx := Receiver.off } } : State), none) = (s, none)
        rw [← off]
      rw [exec_report_running runs, hears]
      rfl
    · exact absurd runs stopped
  · exact congrArg Host.Outcome.next (if_neg (not_running_of runs))

/-! ### The obligation -/

/-- Settles O30: the valid replies without events of stations without points, the bank monitor's flags, the reply of another type, and the
bits that complete none. -/
theorem reportsCompleteThePoll : Obligations.ReportsCompleteThePoll := by
  refine ⟨fun s a line ty replies type quiet => exec_report_nothing replies type quiet, fun s a line low replies type all => ?_,
    fun s a line ty states replies assigned noMonitor other all => exec_report_mistyped replies assigned noMonitor other all,
    fun s r p runs on => ⟨fun q heard => exec_report_phase runs on heard, fun e heard invalid => exec_report_ends runs on heard invalid⟩,
    fun s r h => exec_report_off h⟩
  obtain ⟨t, d, next, leaves⟩ := exec_report_pressure replies type all
  have own : ({ pointless s a with due := d }.takeFlags low).loop.stations[a] = heardFrom s.loop.stations[a] [] := by
    simp [pointless]
  refine ⟨t, next, ?_, ?_, ?_, fun p => ?_, fun p ready isLow new => ?_, ?_, ?_, ?_, ?_, ?_, ?_⟩
  · rw [leaves.loop]
    simp [pointless]
  · rw [leaves.loop, own]
    rfl
  · rw [leaves.loop, own]
    rfl
  · rw [leaves.bank]
    exact takeFlags_flags _ low p
  · rw [leaves.bank]
    exact takeFlags_ready (s := { pointless s a with due := d }) ready isLow new
  · rw [leaves.zones]
    simp [pointless]
  · rw [leaves.doors]
    simp [pointless]
  · rw [leaves.bt]
    simp [pointless]
  · rw [leaves.clk]
    simp [pointless]
  · rw [leaves.roll]
    simp [pointless]
  · rw [leaves.p2]
    simp [pointless]

end Sys2Proof.Proofs.Reports
end

section
/-! PROOFS. Exit presentations and egress pushes (R39, R66, R77, R83): a release in every state of the door, and what the hand-on of the roll
leaves of a door that has just been released. -/
namespace Sys2Proof.Proofs.ExitsAndEgress

open Sys2Proof Sys2Proof.Machine Sys2Proof.Safety Sys2Proof.Laws
open Sys2Proof.Proofs.OneRoom Sys2Proof.Proofs.DoorRequests Sys2Proof.Proofs.RollRequests
open Sys2Proof.Proofs.Acts (removeEntry_eq)

variable {s t u : State} {r z : Room} {d : Door} {e : Nat} {o : OccEntry}

/-! ### A door that a close demand does not move -/

/-- A close demand neither cancels a release of the door nor ends a HELD_OPEN of it. -/
def Firm (d : Door) : Prop := d.cancellable = false ∧ d.state ≠ .held

theorem firm_of_state (h : d.state = .opened ∨ d.state = .forced ∨ d.state = .unknown) : Firm d := by
  obtain h | h | h := h <;> simp [Firm, Door.cancellable, h]

theorem firm_of_kind (kind : d.releaseKind = some .exit ∨ d.releaseKind = some .egress) (st : d.state = .released) : Firm d := by
  obtain h | h := kind <;> simp [Firm, Door.cancellable, st, h]

/-- What a change of the close demand leaves of a firm door; it may load the held-open timer (R85). -/
structure Stays (r : Room) (s t : State) : Prop where
  loop : t.loop = s.loop
  sup : t.sup = s.sup
  state : t.doors[r].state = s.doors[r].state
  releaseKind : t.doors[r].releaseKind = s.doors[r].releaseKind
  openCause : t.doors[r].openCause = s.doors[r].openCause
  unlock : t.doors[r].unlock = s.doors[r].unlock
  heldOpen : t.doors[r].heldOpen = s.doors[r].heldOpen ∨ t.doors[r].heldOpen = .running s.sup.profiles[r].heldOpen

theorem Stays.firm (h : Stays r s t) (firm : Firm s.doors[r]) : Firm t.doors[r] := by
  simpa only [Firm, Door.cancellable, h.state, h.releaseKind] using firm

theorem Stays.trans (h : Stays r s t) (h' : Stays r t u) : Stays r s u where
  loop := h'.loop.trans h.loop
  sup := h'.sup.trans h.sup
  state := h'.state.trans h.state
  releaseKind := h'.releaseKind.trans h.releaseKind
  openCause := h'.openCause.trans h.openCause
  unlock := h'.unlock.trans h.unlock
  heldOpen := by
    have later := h'.heldOpen
    rw [h.sup] at later
    obtain same | loaded := later
    · exact h.heldOpen.imp same.trans same.trans
    · exact .inr loaded

theorem Stays.of_eq (loop : t.loop = s.loop) (sup : t.sup = s.sup) (doors : t.doors = s.doors) : Stays r s t := by
  constructor <;> simp only [loop, sup, doors, true_or]

theorem Stays.timer (h : Stays r s t) (loaded : s.doors[r].heldOpen = .running s.sup.profiles[r].heldOpen) :
    t.doors[r].heldOpen = .running s.sup.profiles[r].heldOpen := h.heldOpen.elim (·.trans loaded) id

/-- A door whose record changes in other fields alone. -/
theorem setDoor_stays (s : State) (r : Room) (state : d.state = s.doors[r].state) (kind : d.releaseKind = s.doors[r].releaseKind)
    (cause : d.openCause = s.doors[r].openCause) (unlock : d.unlock = s.doors[r].unlock)
    (heldOpen : d.heldOpen = s.doors[r].heldOpen ∨ d.heldOpen = .running s.sup.profiles[r].heldOpen) : Stays r s (s.setDoor r d) := by
  have door := setDoor_own s r d
  constructor
  case loop => rfl
  case sup => rfl
  all_goals simpa only [door]

theorem loadHeld_stays (h : s.doors[r].state ≠ .held) : Stays r s (s.loadHeld r) := by
  have door : (s.loadHeld r).doors[r] = { s.doors[r] with heldOpen := .running s.sup.profiles[r].heldOpen } := by
    rw [State.loadHeld, resetHeld_door, if_neg fun both => h both.2]
  constructor
  case loop => simp
  case sup => simp
  case heldOpen => exact .inr (by rw [door])
  all_goals rw [door]

theorem dropHold_stays (h : s.doors[r].state ≠ .held) : Stays r s (s.dropHold r) := by
  let u := s.setDoor r { s.doors[r] with hold := false }
  have unheld : Stays r s u := setDoor_stays s r rfl rfl rfl rfl (.inl rfl)
  have notHeld : u.doors[r].state ≠ .held := fun held => h (unheld.state.symm.trans held)
  show Stays r s (if u.doors[r].isOpen then u.loadHeld r else u)
  split
  · exact unheld.trans (loadHeld_stays notHeld)
  · exact unheld

theorem cancelRelease_firm (h : s.doors[r].cancellable = false) : s.cancelRelease r = s := by
  unfold State.cancelRelease
  dsimp only
  rw [h, if_neg Bool.false_ne_true]

theorem setCloseDemand_stays (firm : Firm s.doors[r]) (demand : Bool) : Stays r s (s.setCloseDemand r demand) := by
  let u := s.setDoor r { s.doors[r] with closeDemand := demand }
  have demanded : Stays r s u := setDoor_stays s r rfl rfl rfl rfl (.inl rfl)
  have dropped : Stays r s (u.dropHold r) := demanded.trans (dropHold_stays (demanded.firm firm).2)
  have closed : Stays r s (((u.dropHold r).cancelRelease r).reportEnvelope r) := by
    rw [cancelRelease_firm (dropped.firm firm).1]
    exact dropped.trans (.of_eq (by simp) (by simp) (by simp))
  unfold State.setCloseDemand
  dsimp only
  split
  · exact .of_eq rfl rfl rfl
  · split
    · exact closed
    · exact demanded

theorem setZone_stays (s : State) (z : Room) (x : Zone) : Stays z s (s.setZone z x) := .of_eq rfl rfl rfl

theorem Stays.entered (h : Stays z s u) (firm : Firm s.doors[z]) (st : ZoneState) : Stays z s (u.enterZone z st) := by
  have still := h.trans (setZone_stays u z { u.zones[z] with state := st })
  have demanded := still.trans (setCloseDemand_stays (still.firm firm) st.demand)
  unfold State.enterZone
  dsimp only
  split
  · exact demanded.trans (.of_eq rfl rfl rfl)
  · exact demanded.trans (.of_eq rfl rfl rfl)

theorem actOnHolds_stays (firm : Firm s.doors[z]) : Stays z s (s.actOnHolds z) := by
  have left : Stays z s (s.leaveQueue z) := .of_eq rfl rfl rfl
  unfold State.actOnHolds
  dsimp only
  split
  · exact (setZone_stays s z _).entered firm _
  · exact (left.trans (setZone_stays _ z _)).entered firm _
  · exact (setZone_stays s z _).entered firm _
  · exact .of_eq rfl rfl rfl

theorem rederive_stays (firm : Firm s.doors[z]) : Stays z s (s.rederive z) := by
  have derived := setZone_stays s z { s.zones[z] with holds := s.deriveHolds z }
  exact derived.trans (actOnHolds_stays (derived.firm firm))

theorem handOn_stays (firm : Firm s.doors[z]) : Stays z s (s.handOn z) :=
  (rederive_stays firm).trans (.of_eq (State.retest_frame ..).2.2.2.2.2.2.2.2.2.2.2 (State.retest_frame ..).2.2.2.2.1 (by simp [State.handOn]))

theorem removeEntry_stays (own : o.room = r) (firm : Firm s.doors[r]) : Stays r s (s.removeEntry e o) := by
  obtain ⟨-, -, doors, -, -, loop, -⟩ := removed_frame s e o
  have sup : (removed s e o).sup = s.sup := by
    have handed : ((removed s e o).handOn o.room).sup = (removed s e o).sup := by simp
    exact handed.symm.trans (State.removeEntry_frame s e o).2.2.2.2.1
  have gone : Stays r s (removed s e o) := .of_eq loop sup doors
  rw [removeEntry_eq, own]
  exact gone.trans (handOn_stays (gone.firm firm))

end Sys2Proof.Proofs.ExitsAndEgress
end

section
/-! PROOFS. What an exit presentation answers, and what it and an egress push make of the door in each of its states (R39, R77, R83). -/
namespace Sys2Proof.Proofs.Exits

open Sys2Proof Sys2Proof.Machine Sys2Proof.Safety Sys2Proof.Laws
open Sys2Proof.Proofs.OneRoom Sys2Proof.Proofs.DoorRequests Sys2Proof.Proofs.RollRequests Sys2Proof.Proofs.ExitsAndEgress

variable {s t u : State} {a : Addr} {r : Room} {tok : Token} {digits : List Nat} {b e : Nat} {o : OccEntry}

/-! ### A release in the other states of the door -/

/-- The door is open, with or without leave. -/
def Opened (d : Door) : Prop := d.state = .opened ∨ d.state = .held ∨ d.state = .forced

theorem commanded_frame (s : State) (r : Room) (k : ReleaseKind) :
    (commanded s r k).roll = s.roll ∧ (commanded s r k).sup = s.sup := by
  unfold commanded
  split <;> simp

theorem reloadHeld_loads (h : s.doors[r].hold = false) : s.reloadHeld r = s.loadHeld r := by
  rw [State.reloadHeld, h, if_neg Bool.false_ne_true]

/-- A held-open timer that is loaded again leaves the door open, and its cause. -/
theorem reloadHeld_door (s : State) (r : Room) :
    ((s.reloadHeld r).doors[r].state = s.doors[r].state ∨ s.doors[r].state = .held) ∧
      (s.doors[r].hold = false → (s.reloadHeld r).doors[r].heldOpen = .running s.sup.profiles[r].heldOpen) := by
  cases hold : s.doors[r].hold with
  | true =>
    rw [State.reloadHeld, hold, if_pos rfl]
    exact ⟨.inl rfl, fun h => absurd h (by simp)⟩
  | false =>
    rw [reloadHeld_loads hold, State.loadHeld, resetHeld_door]
    refine ⟨?_, fun _ => rfl⟩
    by_cases held : s.doors[r].state = .held
    · exact .inr held
    · exact .inl (if_neg fun both => held both.2)

/-- A release of an open door (R77): a door that was forced stays so, any other is OPEN, with its held-open timer loaded but for Hold. -/
theorem release_opened (k : ReleaseKind) (h : Opened s.doors[r]) :
    (s.release r k).doors[r].state = (if s.doors[r].state = .forced then .forced else .opened) ∧
      (s.release r k).doors[r].openCause = (if k = .egress then some .egress else s.doors[r].openCause) ∧
      (s.doors[r].hold = false → (s.release r k).doors[r].heldOpen = .running s.sup.profiles[r].heldOpen) := by
  have doors := commanded_doors s r k
  have sup := (commanded_frame s r k).2
  obtain ⟨still, timer⟩ := reloadHeld_door (commanded s r k) r
  simp only [doors, sup] at still timer
  unfold commanded at doors still timer
  unfold State.release
  obtain h | h | h := h
  · simp only [doors, h, State.setDoor_doors, vset_same]
    exact ⟨by simp, trivial, timer⟩
  · simp only [doors, h, State.setDoor_doors, vset_same]
    exact ⟨by simp, trivial, timer⟩
  · simp only [doors, h, State.setDoor_doors, vset_same]
    exact ⟨by simpa using still.elim (·.trans h) fun held => absurd (h.symm.trans held) (by decide), trivial, timer⟩

theorem release_unknown (k : ReleaseKind) (h : s.doors[r].state = .unknown) : s.release r k = commanded s r k := by
  have doors := commanded_doors s r k
  unfold commanded at doors ⊢
  unfold State.release
  simp only [doors, h]

/-- The cases of a door's state, as a release takes them. -/
theorem door_cases (d : Door) : (d.state = .secured ∨ d.state = .timeLocked) ∨ d.state = .released ∨ Opened d ∨ d.state = .unknown := by
  unfold Opened
  cases d.state <;> simp

/-- Beside the door, a release changes the Loop Master alone, by its command. -/
theorem release_loop (s : State) (r : Room) (k : ReleaseKind) : (s.release r k).loop = (commanded s r k).loop := by
  unfold State.release commanded
  dsimp only
  split <;> simp

/-- After a release of kind Exit or Egress the door is one that no close demand moves. -/
theorem release_firm {k : ReleaseKind} (kind : k = .exit ∨ k = .egress) : Firm (s.release r k).doors[r] := by
  obtain closed | open_ | open_ | unknown := door_cases s.doors[r]
  · rw [release_closed k closed, setDoor_own]
    exact firm_of_kind (kind.imp (congrArg some) (congrArg some)) rfl
  · rw [release_released k open_, setDoor_own]
    refine firm_of_kind ?_ open_
    cases s.doors[r].releaseKind with
    | none => obtain rfl | rfl := kind <;> simp [ReleaseKind.higher]
    | some held => obtain rfl | rfl := kind <;> cases held <;> simp [ReleaseKind.higher, ReleaseKind.rank]
  · have state := (release_opened k open_).1
    refine firm_of_state ?_
    rw [state]
    split <;> simp
  · rw [release_unknown k unknown, commanded_doors]
    exact firm_of_state (.inr (.inr unknown))

/-! ### Exit presentations -/

/-- After an exit presentation the door is the released one, and its command is placed; at most an entry of this strongroom has gone. -/
theorem exit_stays (s : State) (a : Addr) (r : Room) (tok : Token) (digits : List Nat) :
    Stays r (s.release r .exit) (s.presentation a r ⟨.exit, tok, digits⟩).1 := by
  have firm : Firm (s.release r .exit).doors[r] := release_firm (.inl rfl)
  show Stays r _ (s.exitPresentation r tok).1
  unfold State.exitPresentation
  dsimp only
  split
  · exact .of_eq rfl rfl rfl
  · split
    · exact removeEntry_stays ‹_› firm
    · exact .of_eq rfl rfl rfl

theorem found_of_release (s : State) (r : Room) (k : ReleaseKind) (tok : Token) :
    ((s.release r k).findToken tok).bind (s.release r k).entryOf = (s.findToken tok).bind s.entryOf := by
  have token : (s.release r k).findToken tok = s.findToken tok := by simp [State.findToken]
  have entry : (s.release r k).entryOf = s.entryOf := by funext b; simp [State.entryOf]
  rw [token, entry]

theorem exit_inside (token : s.findToken tok = some b) (entry : s.entryOf b = some (e, o)) (own : o.room = r) :
    (s.presentation a r ⟨.exit, tok, digits⟩).2 = .grant s.sup.profiles[r].unlock ∧
      (s.presentation a r ⟨.exit, tok, digits⟩).1.roll.entries.get e = none := by
  have found : ((s.release r .exit).findToken tok).bind (s.release r .exit).entryOf = some (e, o) := by
    rw [found_of_release, token]
    exact entry
  have taken_ : s.presentation a r ⟨.exit, tok, digits⟩ = ((s.release r .exit).removeEntry e o, (s.release r .exit).grantAnswer r) := by
    show s.exitPresentation r tok = _
    unfold State.exitPresentation
    simp only [found, own, if_true]
  rw [taken_]
  exact ⟨by simp [State.grantAnswer], removeEntry_gone _ e o⟩

theorem exit_outside (h : ∀ b e o, s.findToken tok = some b → s.entryOf b = some (e, o) → o.room ≠ r) :
    (s.presentation a r ⟨.exit, tok, digits⟩).2 = .await .notInside ∧ (s.presentation a r ⟨.exit, tok, digits⟩).1.roll = s.roll := by
  have taken_ : s.presentation a r ⟨.exit, tok, digits⟩ = (s.release r .exit, .await .notInside) := by
    show s.exitPresentation r tok = _
    unfold State.exitPresentation
    dsimp only
    rw [found_of_release]
    split
    · rfl
    · next e o found =>
      obtain ⟨b, token, entry⟩ := Option.bind_eq_some_iff.mp found
      exact if_neg (h b e o token entry)
  rw [taken_]
  exact ⟨rfl, by simp⟩

theorem exit_commands (at_ : s.stationOf .doorUnit (num r) = some a) (here : s.loop.stations[a].lost = false) :
    (s.release r .exit).loop.stations[a].slots.bolt = some ⟨.release s.sup.profiles[r].unlock, false⟩ := by
  have placed : (s.release r .exit).loop = (s.placeBolt r (.release s.sup.profiles[r].unlock)).loop := release_loop s r .exit
  rw [placed, State.placeBolt, at_]
  simp only [State.placeAt, here, Bool.false_eq_true, if_false, State.setStation, vset_same]

/-! ### Egress pushes -/

theorem egressPressed_shut (h : ¬Opened s.doors[r]) : s.egressPressed r = s.release r .egress := by
  have shut : s.doors[r].isOpen = false := by
    unfold Opened at h
    simp only [Door.isOpen]
    cases state : s.doors[r].state <;> simp_all
  unfold State.egressPressed
  simp only [shut]
  exact if_neg Bool.false_ne_true

/-- An egress opening leaves the door as the release left it, and the mark on the roll. -/
theorem egressOpening_stays (firm : Firm s.doors[r]) :
    Stays r s (s.egressOpening r) ∧ (s.egressOpening r).roll.rooms[r].unreconciled = true := by
  let u := (s.setRoom r { s.roll.rooms[r] with unreconciled := true }).raiseAlarm (.forRoom .rollUnreconciled r)
  have marked : Stays r s u := .of_eq (by simp [u, State.setRoom]) (by simp [u, State.setRoom]) (by simp [u, State.setRoom])
  have mark : u.roll.rooms[r].unreconciled = true := by simp [u, State.setRoom]
  show Stays r s (if s.roll.rooms[r].unreconciled then u else u.handOn r) ∧
    (if s.roll.rooms[r].unreconciled then u else u.handOn r).roll.rooms[r].unreconciled = true
  split
  · exact ⟨marked, mark⟩
  · exact ⟨marked.trans (handOn_stays (marked.firm firm)),
      (congrArg (fun v : Vector RoomRecord 16 => v[r].unreconciled) (handOn_sameRoll u r).rooms).trans mark⟩

theorem egressPressed_opened (h : Opened s.doors[r]) : s.egressPressed r = (s.release r .egress).egressOpening r := by
  have isOpen : s.doors[r].isOpen = true := by
    simp only [Door.isOpen]
    obtain h | h | h := h <;> rw [h] <;> rfl
  unfold State.egressPressed
  simp only [isOpen, if_true]

theorem egress_opened (h : Opened s.doors[r]) :
    (s.egressPressed r).doors[r].state = (if s.doors[r].state = .forced then .forced else .opened) ∧
      (s.egressPressed r).doors[r].openCause = some .egress ∧ (s.egressPressed r).roll.rooms[r].unreconciled = true ∧
      (s.doors[r].hold = false → (s.egressPressed r).doors[r].heldOpen = .running s.sup.profiles[r].heldOpen) := by
  obtain ⟨state, cause, timer⟩ := release_opened .egress h
  obtain ⟨stays, mark⟩ := egressOpening_stays (release_firm (s := s) (r := r) (.inr rfl))
  have sup : (s.release r .egress).sup = s.sup := by simp
  rw [egressPressed_opened h]
  refine ⟨stays.state.trans state, stays.openCause.trans cause, mark, fun hold => ?_⟩
  have loaded := stays.timer (by rw [sup]; exact timer hold)
  rw [sup] at loaded
  exact loaded

theorem egress_released (h : s.doors[r].state = .secured ∨ s.doors[r].state = .timeLocked ∨ s.doors[r].state = .released) :
    (s.egressPressed r).doors = s.doors.set r
        { s.doors[r] with state := .released, releaseKind := some .egress, unlock := some s.sup.profiles[r].unlock } ∧
      (s.egressPressed r).roll = s.roll := by
  have shut : ¬Opened s.doors[r] := by
    unfold Opened
    obtain h | h | h := h <;> rw [h] <;> decide
  rw [egressPressed_shut shut]
  refine ⟨?_, by simp⟩
  obtain closed | open_ : (s.doors[r].state = .secured ∨ s.doors[r].state = .timeLocked) ∨ s.doors[r].state = .released := or_assoc.mpr h
  · rw [release_closed .egress closed]
    rfl
  · have kind : ((s.doors[r].releaseKind.getD .egress).higher .egress) = .egress := by
      cases s.doors[r].releaseKind.getD .egress <;> rfl
    rw [release_released .egress open_, kind, ← open_]
    rfl

theorem egress_loop (s : State) (r : Room) : (s.egressPressed r).loop = s.loop := by
  by_cases h : Opened s.doors[r]
  · rw [egressPressed_opened h]
    exact (egressOpening_stays (release_firm (.inr rfl))).1.loop.trans (release_loop s r .egress)
  · rw [egressPressed_shut h]
    exact release_loop s r .egress

/-- Settles O27: a release in each state of the door, and what follows it on the roll leaves the door as released. -/
theorem exitAndEgressAreNeverRefused : Obligations.ExitAndEgressAreNeverRefused := by
  unfold Obligations.ExitAndEgressAreNeverRefused
  refine ⟨fun s a r tok digits => ?_, fun s r => ⟨egress_loop s r, egress_released, egress_opened, fun unknown => ?_⟩⟩
  · have stays := exit_stays s a r tok digits
    refine ⟨fun closed => ?_, fun k open_ kind => ?_, fun opened => ?_, fun unknown => ?_, fun a' at_ here => ?_,
      fun b e o token entry own => exit_inside token entry own, exit_outside⟩
    · have door : (s.release r .exit).doors[r] =
          { s.doors[r] with state := .released, releaseKind := some .exit, unlock := some s.sup.profiles[r].unlock } := by
        rw [release_closed .exit closed, setDoor_own]
      refine ⟨stays.state.trans ?_, stays.releaseKind.trans ?_, stays.unlock.trans ?_⟩ <;> rw [door]
    · have door : (s.release r .exit).doors[r] =
          { s.doors[r] with releaseKind := some (k.higher .exit), unlock := some s.sup.profiles[r].unlock } := by
        rw [release_released .exit open_, setDoor_own, kind]
        rfl
      have higher : k.higher .exit = if k = .egress then .egress else .exit := by cases k <;> rfl
      refine ⟨stays.state.trans ?_, stays.releaseKind.trans ?_, stays.unlock.trans ?_⟩ <;> rw [door]
      · exact open_
      · exact congrArg some higher
    · obtain ⟨state, cause, timer⟩ := release_opened .exit opened
      have sup : (s.release r .exit).sup = s.sup := by simp
      refine ⟨stays.state.trans state, stays.openCause.trans cause, fun hold => ?_⟩
      have loaded := stays.timer (by rw [sup]; exact timer hold)
      rw [sup] at loaded
      exact loaded
    · refine stays.state.trans ?_
      rw [release_unknown .exit unknown, commanded_doors]
      exact unknown
    · rw [stays.loop]
      exact exit_commands at_ here
  · have shut : ¬Opened s.doors[r] := by
      unfold Opened
      rw [unknown]
      decide
    rw [egressPressed_shut shut, release_unknown .egress unknown]
    rfl

end Sys2Proof.Proofs.Exits
end

section
/-! PROOFS. REPORTS OF POINTS (R152 to R156): a valid reply with points alone is one event, in which the faults of the accepted changes come
before what the owner of the points makes of them. -/
namespace Sys2Proof.Proofs.PointReports

open Sys2Proof Sys2Proof.Machine Sys2Proof.Safety Sys2Proof.Laws
open Sys2Proof.Proofs.Evaluation Sys2Proof.Proofs.Persistence Sys2Proof.Proofs.Reports Sys2Proof.Proofs.ZoneMoves
open Sys2Proof.Proofs.Conditions
open Sys2Proof.Proofs.DischargeSequence (setStation_own setStation_other)
open Sys2Proof.Proofs.AlarmTable (raiseAlarm_again)

variable {s t u : State} {a j : Addr} {line : List Bool} {ty : StationType} {states : List PointState} {k k' : AlarmKey}
  {cs : List (Option PointState)} {x : AlarmRecord}

/-! ### Records of the Alarm Table through raises -/

/-- The kind-and-key that was raised stands, given room. -/
theorem raiseAlarm_stands (room : s.alarms.records.length < 64) : Stands (s.raiseAlarm k) k := by
  cases found : s.alarms.records.find? (fun x => x.key = k) with
  | some y =>
    have key : y.key = k := by simpa using List.find?_some found
    refine ⟨y.raisedAgain, ?_, key⟩
    rw [raiseAlarm_again found]
    exact List.mem_map.mpr ⟨y, List.mem_of_find?_eq_some found, if_pos key⟩
  | none =>
    have new : ∀ y ∈ s.alarms.records, y.key ≠ k := by simpa using found
    rw [State.raiseAlarm_new s k new room]
    exact ⟨_, List.mem_append_right _ (List.mem_singleton_self _), rfl⟩

/-- A raise leaves every LIFE record of another kind-and-key (R98). -/
theorem raiseAlarm_keepsRecord (life : x.key.kind.priority = .life) (other : x.key ≠ k) (mem : x ∈ s.alarms.records) :
    x ∈ (s.raiseAlarm k).alarms.records := by
  unfold State.raiseAlarm
  split
  · exact List.mem_map.mpr ⟨x, mem, if_neg other⟩
  · dsimp only
    split
    · exact List.mem_append_left _ mem
    · split
      · next v hv =>
        have away : x ≠ v := fun same => Proofs.AlarmTable.victim_notLife hv (same ▸ life)
        exact List.mem_append_left _ ((List.mem_erase_of_ne away).mpr mem)
      · exact mem

theorem alarmGone_keepsRecord (other : x.key ≠ k) (mem : x ∈ s.alarms.records) : x ∈ (s.alarmGone k).alarms.records :=
  State.alarmsGone_other s _ mem (by simpa using other)

theorem coverageAlarms_keepsRecord (o : State) (life : x.key.kind.priority = .life) (mem : x ∈ s.alarms.records) :
    x ∈ (s.coverageAlarms o).alarms.records := by
  have other (z : Room) : x.key ≠ .forRoom .coverageShort z := fun same => by
    rw [same] at life
    cases life
  have one (u : State) (z : Room) (mem : x ∈ u.alarms.records) : x ∈ (u.coverageAlarm o z).alarms.records := by
    unfold State.coverageAlarm
    split
    · exact raiseAlarm_keepsRecord life (other z) mem
    · exact alarmGone_keepsRecord (other z) mem
    · exact mem
  have all (zs : List Room) (u : State) (mem : x ∈ u.alarms.records) :
      x ∈ (zs.foldl (fun v z => v.coverageAlarm o z) u).alarms.records := by
    induction zs generalizing u with
    | nil => exact mem
    | cons z zs ih => exact ih _ (one u z mem)
  exact all rooms s mem

theorem finish_records (o s : State) : (State.finish o s).alarms.records = (s.coverageAlarms o).alarms.records := by
  obtain ⟨_, _, _, _, _, _, h⟩ := State.finish_eq o s
  rw [h]

/-! ### The faults of the accepted changes (R156) -/

/-- An accepted change to one of the two faults. -/
def Faulty (c : Option PointState) : Prop := c = some .openFault ∨ c = some .shortFault

theorem pointFault_length (s : State) (a : Addr) (i : Nat) (st : PointState) :
    (s.pointFault a i st).alarms.records.length ≤ s.alarms.records.length + 1 := by
  unfold State.pointFault
  split
  · exact Nat.le_succ_of_le (List.length_filterMap_le _ _)
  · exact Nat.le_succ_of_le (List.length_filterMap_le _ _)
  · exact raiseAlarm_length s _
  · exact raiseAlarm_length s _

/-- The fault of one point leaves the records of all others. -/
theorem pointFault_keepsAlarm (s : State) (a : Addr) (i : Nat) (st : PointState) (other : k ≠ .forPoint (num a) (i + 1)) :
    KeepsAlarm 1 k s (s.pointFault a i st) := by
  have gone : KeepsAlarm 1 k s (s.alarmGone (.forPoint (num a) (i + 1))) :=
    (alarmsGone_keepsAlarm s _ (by simpa using other)).mono (Nat.zero_le 1)
  unfold State.pointFault
  split
  · exact gone
  · exact gone
  · exact raiseAlarm_keepsAlarm s _
  · exact raiseAlarm_keepsAlarm s _

/-- The faults of a report's points leave the record of any key that is none of theirs. -/
theorem pointFaults_keepsAlarm (s : State) (a : Addr) (i : Nat) (cs : List (Option PointState))
    (other : ∀ j, i ≤ j → k ≠ .forPoint (num a) (j + 1)) : KeepsAlarm cs.length k s (s.pointFaults a i cs) := by
  induction cs generalizing s i with
  | nil => exact .of_eq rfl
  | cons c cs ih =>
    have later : ∀ j, i + 1 ≤ j → k ≠ .forPoint (num a) (j + 1) := fun j h => other j (by omega)
    cases c with
    | none => exact (ih s (i + 1) later).mono (Nat.le_succ _)
    | some st =>
      have first := pointFault_keepsAlarm s a i st (other i (Nat.le_refl i))
      have := first.trans (ih (s.pointFault a i st) (i + 1) later)
      rwa [Nat.add_comm] at this

theorem pointFaults_length (s : State) (a : Addr) (i : Nat) (cs : List (Option PointState)) :
    (s.pointFaults a i cs).alarms.records.length ≤ s.alarms.records.length + cs.length :=
  (pointFaults_keepsAlarm (k := .forStation .panic a) s a i cs fun j _ => by simp [AlarmKey.forStation, AlarmKey.forPoint]).length

/-- POINT_FAULT stands for each point that a report brings to a fault. -/
theorem pointFaults_stands (s : State) (a : Addr) (i : Nat) (cs : List (Option PointState)) (n : Nat) (faulty : Faulty (cs.getD n none))
    (room : s.alarms.records.length + cs.length ≤ 64) : Stands (s.pointFaults a i cs) (.forPoint (num a) (i + n + 1)) := by
  induction cs generalizing s i n with
  | nil => obtain h | h := faulty <;> simp at h
  | cons c cs ih =>
    simp only [List.length_cons] at room
    cases n with
    | zero =>
      have raised : ∃ st, c = some st ∧ s.pointFault a i st = s.raiseAlarm (.forPoint (num a) (i + 1)) := by
        obtain h | h := faulty
        · exact ⟨.openFault, by simpa using h, rfl⟩
        · exact ⟨.shortFault, by simpa using h, rfl⟩
      obtain ⟨st, rfl, here⟩ := raised
      have stands : Stands (s.pointFault a i st) (.forPoint (num a) (i + 1)) := by
        rw [here]
        exact raiseAlarm_stands (by omega)
      have length := pointFault_length s a i st
      exact (pointFaults_keepsAlarm _ a (i + 1) cs fun j h same => by simp [AlarmKey.forPoint] at same; omega).stands (by omega) stands
    | succ n =>
      have place : i + (n + 1) + 1 = i + 1 + n + 1 := by omega
      rw [place]
      cases c with
      | none => exact ih s (i + 1) n faulty (by omega)
      | some st =>
        have length := pointFault_length s a i st
        exact ih (s.pointFault a i st) (i + 1) n faulty (by omega)

theorem pointFault_keepsRecord (s : State) (a : Addr) (i : Nat) (st : PointState) (life : x.key.kind.priority = .life)
    (mem : x ∈ s.alarms.records) : x ∈ (s.pointFault a i st).alarms.records := by
  have other : x.key ≠ .forPoint (num a) (i + 1) := fun same => by
    rw [same] at life
    cases life
  unfold State.pointFault
  split
  · exact alarmGone_keepsRecord other mem
  · exact alarmGone_keepsRecord other mem
  · exact raiseAlarm_keepsRecord life other mem
  · exact raiseAlarm_keepsRecord life other mem

theorem pointFaults_keepsRecord (s : State) (a : Addr) (i : Nat) (cs : List (Option PointState)) (life : x.key.kind.priority = .life)
    (mem : x ∈ s.alarms.records) : x ∈ (s.pointFaults a i cs).alarms.records := by
  induction cs generalizing s i with
  | nil => exact mem
  | cons c cs ih =>
    cases c with
    | none => exact ih s (i + 1) mem
    | some st => exact ih _ (i + 1) (pointFault_keepsRecord s a i st life mem)

/-! ### The event of a report -/

/-- The points of a station after a report (R155). -/
def filtered (s : State) (a : Addr) (states : List PointState) : List Point :=
  (filterPoints s.loop.stations[a].type 0 s.loop.stations[a].points states).map Prod.fst

/-- A report of points before their owner takes the accepted changes: the station is ONLINE, and the faults are raised or gone. -/
def pointed (s : State) (a : Addr) (states : List PointState) : State :=
  (((replied s a).stationReturns a).setStation a
    { ((replied s a).stationReturns a).loop.stations[a] with points := filtered s a states }).pointFaults a 0 (changes s a states)

/-- The points of a report, taken: their owner takes the accepted changes of the state with the faults. -/
theorem takePoints_pointed (s : State) (a : Addr) (states : List PointState) :
    ((replied s a).stationReturns a).takePoints a states = (pointed s a states).ownerTakes a (changes s a states) := by
  have station : ((replied s a).stationReturns a).loop.stations[a] =
      { s.loop.stations[a] with state := .online, misses := 0, slots := s.loop.stations[a].slots.delivered } := by
    rw [stationReturns_station, replied_station]
  have kept : filterPoints ((replied s a).stationReturns a).loop.stations[a].type 0
      ((replied s a).stationReturns a).loop.stations[a].points states =
        filterPoints s.loop.stations[a].type 0 s.loop.stations[a].points states := by rw [station]
  unfold State.takePoints
  dsimp only
  rw [kept]
  rfl

theorem exec_report_points (replies : Replies s a line) (type : s.loop.stations[a].type = ty) (assigned : ty ≠ .unassigned)
    (noMonitor : ty ≠ .bankMonitor) (all : states.length = ty.pointCount) :
    exec (.report ⟨line, some ty, states, 0, .nothing⟩) s =
      .next (State.finish (replied s a) ((pointed s a states).ownerTakes a (changes s a states))) := by
  have next := exec_report_pointsOnly (s := s) replies type assigned noMonitor all
  rw [reported, takePoints_pointed] at next
  exact next

theorem pointed_frame (s : State) (a : Addr) (states : List PointState) :
    (pointed s a states).bt = s.bt ∧ (pointed s a states).clk = s.clk ∧ (pointed s a states).ctx = s.ctx ∧
      (pointed s a states).roll = s.roll ∧ (pointed s a states).doors = s.doors ∧ (pointed s a states).zones = s.zones ∧
      (pointed s a states).bank = s.bank ∧ (pointed s a states).sup = s.sup ∧ (pointed s a states).lines = s.lines ∧
      (pointed s a states).p2 = { s.p2 with rx := .hunting } := by
  obtain ⟨bt, clk, ctx, roll, doors, zones, bank, -, sup, lines, p2, -⟩ := replied_frame s a
  simp [pointed, bt, clk, ctx, roll, doors, zones, bank, sup, lines, p2]

/-- The Loop Master after the report: the poll is complete, and the station's record is ONLINE with its new points. -/
theorem pointed_loop (s : State) (a : Addr) (states : List PointState) :
    (pointed s a states).loop =
      { s.loop with
        current := none, stations := s.loop.stations.set a (heardFrom s.loop.stations[a] (filtered s a states)) } := by
  have returned : ((replied s a).stationReturns a).loop =
      { (replied s a).loop with
        stations := (replied s a).loop.stations.set a { (replied s a).loop.stations[a] with misses := 0, state := .online } } := by
    rw [stationReturns_eq]
    rfl
  have before : (replied s a).loop =
      { s.loop with
        current := none
        stations := s.loop.stations.set a { s.loop.stations[a] with slots := s.loop.stations[a].slots.delivered } } := rfl
  simp only [pointed, State.pointFaults_frame, State.setStation, returned, before, Vector.set_set, vset_same, heardFrom]

theorem pointed_station (s : State) (a : Addr) (states : List PointState) :
    (pointed s a states).loop.stations[a] = heardFrom s.loop.stations[a] (filtered s a states) := by
  simp only [pointed_loop, vset_same]

theorem pointed_other (states : List PointState) (other : j ≠ a) : (pointed s a states).loop.stations[j] = s.loop.stations[j] := by
  simp only [pointed_loop]
  exact vset_other _ _ other.symm

theorem changes_length (s : State) (a : Addr) (states : List PointState) : (changes s a states).length ≤ states.length := by
  have le (ps : List Point) (sts : List PointState) (i : Nat) : (filterPoints s.loop.stations[a].type i ps sts).length ≤ sts.length := by
    induction ps generalizing sts i with
    | nil => exact Nat.zero_le _
    | cons p ps ih =>
      cases sts with
      | nil => exact Nat.zero_le _
      | cons st sts => exact Nat.succ_le_succ (ih sts (i + 1))
  rw [changes, List.length_map]
  exact le _ states 0

/-- Before the faults of the points, at most STATION_MISSING is gone. -/
theorem returned_keepsAlarm (s : State) (a : Addr) (ps : List Point) (missing : k.kind ≠ .stationMissing) :
    KeepsAlarm 0 k s
      (((replied s a).stationReturns a).setStation a { ((replied s a).stationReturns a).loop.stations[a] with points := ps }) := by
  have returned : KeepsAlarm 0 k s ((replied s a).stationReturns a) := by
    rw [stationReturns_eq]
    by_cases lost : (replied s a).loop.stations[a].lost = true
    · exact (alarmGone_keepsAlarm (replied s a) missing).congr rfl (if_pos lost)
    · exact .of_eq (if_neg lost)
  exact returned.congr rfl rfl

theorem pointed_keepsAlarm (s : State) (a : Addr) (states : List PointState) (missing : k.kind ≠ .stationMissing)
    (fault : k.kind ≠ .pointFault) : KeepsAlarm states.length k s (pointed s a states) := by
  have faults := pointFaults_keepsAlarm (k := k)
    (((replied s a).stationReturns a).setStation a
      { ((replied s a).stationReturns a).loop.stations[a] with points := filtered s a states }) a 0 (changes s a states)
    fun j _ same => fault (by rw [same]; rfl)
  have both := (returned_keepsAlarm s a (filtered s a states) missing).trans faults
  rw [Nat.zero_add] at both
  exact both.mono (changes_length s a states)

theorem pointed_length (s : State) (a : Addr) (states : List PointState) :
    (pointed s a states).alarms.records.length ≤ s.alarms.records.length + states.length :=
  (pointed_keepsAlarm (k := .forStation .panic a) s a states (by simp [AlarmKey.forStation]) (by simp [AlarmKey.forStation])).length

theorem pointed_faults (s : State) (a : Addr) {states : List PointState} {n : Nat} (faulty : Faulty ((changes s a states).getD n none))
    (room : s.alarms.records.length + states.length ≤ 64) : Stands (pointed s a states) (.forPoint (num a) (n + 1)) := by
  have length := (returned_keepsAlarm (k := .forStation .panic a) s a (filtered s a states) (by simp [AlarmKey.forStation])).length
  have few := changes_length s a states
  have stands := pointFaults_stands
    (((replied s a).stationReturns a).setStation a
      { ((replied s a).stationReturns a).loop.stations[a] with points := filtered s a states }) a 0 (changes s a states) n faulty (by omega)
  rw [Nat.zero_add] at stands
  exact stands

theorem pointed_keepsRecord (states : List PointState) (life : x.key.kind.priority = .life) (mem : x ∈ s.alarms.records) :
    x ∈ (pointed s a states).alarms.records := by
  refine pointFaults_keepsRecord _ a 0 _ life ?_
  show x ∈ ((replied s a).stationReturns a).alarms.records
  have other : x.key ≠ .forStation .stationMissing a := fun same => by
    rw [same] at life
    cases life
  rw [stationReturns_eq]
  by_cases lost : (replied s a).loop.stations[a].lost = true
  · exact (congrArg (x ∈ AlarmTable.records ·) (if_pos lost)).mpr (alarmGone_keepsRecord (s := replied s a) other mem)
  · exact (congrArg (x ∈ AlarmTable.records ·) (if_neg lost)).mpr mem

end Sys2Proof.Proofs.PointReports
end

section
/-! PROOFS. CALL POINTS (R105): PANIC follows the points of a call-point station. -/
namespace Sys2Proof.Proofs.CallPoints

open Sys2Proof Sys2Proof.Machine Sys2Proof.Safety Sys2Proof.Laws
open Sys2Proof.Proofs.Evaluation Sys2Proof.Proofs.Reports Sys2Proof.Proofs.ZoneMoves Sys2Proof.Proofs.Conditions
open Sys2Proof.Proofs.PointReports
open Sys2Proof.Proofs.Persistence (replied)

variable {s t : State} {a : Addr} {line : List Bool} {states : List PointState} {k : AlarmKey} {cs : List (Option PointState)}
  {st : PointState}

/-- A point of the station is held pressed. -/
def anyHeld (s : State) (a : Addr) : Bool := s.loop.stations[a].points.any (·.held)

theorem callPoints_none (s : State) (a : Addr) (cs : List (Option PointState)) : s.callPoints a (none :: cs) = s.callPoints a cs := rfl

theorem callPoints_some (s : State) (a : Addr) (st : PointState) (cs : List (Option PointState)) :
    s.callPoints a (some st :: cs) = (s.callPoint a st (anyHeld s a)).callPoints a cs := rfl

theorem callPoint_held (s : State) (st : PointState) (b : Bool) : anyHeld (s.callPoint a st b) a = anyHeld s a := by
  have loop : (s.callPoint a st b).loop = s.loop := by simp
  simp only [anyHeld, loop]

theorem callPoint_keepsAlarm (s : State) (st : PointState) (b : Bool) (other : k.kind ≠ .panic) : KeepsAlarm 1 k s (s.callPoint a st b) := by
  have same : KeepsAlarm 1 k s s := (KeepsAlarm.of_eq rfl).mono (Nat.zero_le 1)
  unfold State.callPoint
  split
  · exact raiseAlarm_keepsAlarm s _
  · split
    · exact same
    · exact (alarmGone_keepsAlarm s other).mono (Nat.zero_le 1)
  · exact same
  · exact same

theorem callPoints_keepsAlarm (s : State) (cs : List (Option PointState)) (other : k.kind ≠ .panic) :
    KeepsAlarm cs.length k s (s.callPoints a cs) := by
  induction cs generalizing s with
  | nil => exact .of_eq rfl
  | cons c cs ih =>
    cases c with
    | none => exact (ih s).mono (Nat.le_succ _)
    | some st =>
      have := (callPoint_keepsAlarm (a := a) s st (anyHeld s a) other).trans (ih (s.callPoint a st (anyHeld s a)))
      rwa [Nat.add_comm] at this

/-- While a point is held, an Active raises PANIC and nothing ends it. -/
theorem callPoints_stands (held : anyHeld s a = true) (room : s.alarms.records.length + cs.length ≤ 64)
    (h : Stands s (.forStation .panic a) ∨ some .active ∈ cs) : Stands (s.callPoints a cs) (.forStation .panic a) := by
  induction cs generalizing s with
  | nil => exact h.resolve_right (List.not_mem_nil)
  | cons c cs ih =>
    simp only [List.length_cons] at room
    cases c with
    | none => exact ih (s := s) held (by omega) (h.imp_right fun mem => by simpa using mem)
    | some st =>
      rw [callPoints_some]
      by_cases active : st = .active
      · subst active
        have length := raiseAlarm_length s (.forStation .panic a)
        have raised : Stands (s.raiseAlarm (.forStation .panic a)) (.forStation .panic a) := raiseAlarm_stands (by omega)
        exact ih (s := s.raiseAlarm (.forStation .panic a)) ((callPoint_held s .active true).trans held) (by omega) (.inl raised)
      · have still : s.callPoint a st (anyHeld s a) = s := by
          rw [held]
          cases st with
          | active => exact absurd rfl active
          | normal => rfl
          | openFault => rfl
          | shortFault => rfl
        rw [still]
        exact ih held (by omega) (h.imp_right fun mem => (List.mem_cons.mp mem).resolve_left fun same => active (Option.some.inj same).symm)

/-- Without a point held, a Normal ends PANIC, and without an Active nothing raises it. -/
theorem callPoints_gone (free : anyHeld s a = false) (inactive : some .active ∉ cs)
    (h : ConditionGone s (.forStation .panic a) ∨ some .normal ∈ cs) : ConditionGone (s.callPoints a cs) (.forStation .panic a) := by
  induction cs generalizing s with
  | nil => exact h.resolve_right (List.not_mem_nil)
  | cons c cs ih =>
    have later : some .active ∉ cs := fun mem => inactive (List.mem_cons_of_mem _ mem)
    cases c with
    | none => exact ih free later (h.imp_right fun mem => by simpa using mem)
    | some st =>
      rw [callPoints_some]
      by_cases normal : st = .normal
      · subst normal
        have gone : s.callPoint a .normal (anyHeld s a) = s.alarmGone (.forStation .panic a) := by
          rw [free]
          rfl
        rw [gone]
        exact ih (s := s.alarmGone (.forStation .panic a)) free later (.inl (alarmGone_conditionGone s _))
      · have still : s.callPoint a st (anyHeld s a) = s := by
          cases st with
          | active => exact absurd (List.mem_cons_self) inactive
          | normal => exact absurd rfl normal
          | openFault => rfl
          | shortFault => rfl
        rw [still]
        exact ih free later (h.imp_right fun mem => (List.mem_cons.mp mem).resolve_left fun same => normal (Option.some.inj same).symm)

theorem callPoints_still (inactive : some .active ∉ cs) (h : some .normal ∉ cs ∨ anyHeld s a = true) : s.callPoints a cs = s := by
  induction cs with
  | nil => rfl
  | cons c cs ih =>
    have later := ih (fun mem => inactive (List.mem_cons_of_mem _ mem)) (h.imp_left fun no mem => no (List.mem_cons_of_mem _ mem))
    cases c with
    | none => exact later
    | some st =>
      have still : s.callPoint a st (anyHeld s a) = s := by
        cases st with
        | active => exact absurd (List.mem_cons_self) inactive
        | normal => exact if_pos (h.resolve_left fun no => no List.mem_cons_self)
        | openFault => rfl
        | shortFault => rfl
      rw [callPoints_some, still]
      exact later

/-! ### The points of the station -/

theorem filter_active {p : Point} {n : Nat} (h : (p.filter n st).2 = some .active) : (p.filter n st).1.held = true := by
  rw [Persistence.filter_eq] at h ⊢
  split
  · next accepts =>
    rw [if_pos accepts] at h
    obtain rfl := Option.some.inj h
    rfl
  · next stays =>
    rw [if_neg stays] at h
    cases h

/-- A point that a report makes Active is held as the report leaves it. -/
theorem filtered_held (h : some .active ∈ changes s a states) : (filtered s a states).any (·.held) = true := by
  have all (ty : StationType) (ps : List Point) (sts : List PointState) (i : Nat)
      (h : some .active ∈ (filterPoints ty i ps sts).map Prod.snd) :
      ((filterPoints ty i ps sts).map Prod.fst).any (·.held) = true := by
    induction ps generalizing sts i with
    | nil => exact absurd h List.not_mem_nil
    | cons p ps ih =>
      cases sts with
      | nil => exact absurd h List.not_mem_nil
      | cons st sts =>
        rw [filterPoints, List.map_cons, List.any_cons, Bool.or_eq_true]
        rw [filterPoints, List.map_cons, List.mem_cons] at h
        exact h.imp (fun first => filter_active first.symm) (ih sts (i + 1))
  exact all _ _ states 0 h

/-- A call point's report (R105). -/
theorem exec_report_callPoint (replies : Replies s a line) (type : s.loop.stations[a].type = .callPoint) (four : states.length = 4) :
    let cs := changes s a states
    let panic : AlarmKey := .forStation .panic a
    ∃ t, exec (.report ⟨line, some .callPoint, states, 0, .nothing⟩) s = .next t ∧
      t.loop.current = none ∧ t.loop.stations[a].state = .online ∧
      (some .active ∈ cs → Roomy s → Stands t panic) ∧
      (some .active ∉ cs → some .normal ∈ cs → (∀ p ∈ t.loop.stations[a].points, p.held = false) → ConditionGone t panic) ∧
      (some .active ∉ cs → some .normal ∉ cs ∨ (∃ p ∈ t.loop.stations[a].points, p.held = true) →
        ∀ x ∈ s.alarms.records, x.key = panic → x ∈ t.alarms.records) ∧
      (∀ i, cs.getD i none = some .openFault ∨ cs.getD i none = some .shortFault → Roomy s → Stands t (.forPoint (num a) (i + 1))) ∧
      t.bt = s.bt ∧ t.clk = s.clk ∧ t.roll = s.roll ∧ t.doors = s.doors ∧ t.zones = s.zones ∧ t.bank = s.bank ∧
      t.p2 = { s.p2 with rx := .hunting } := by
  intro cs panic
  have next := exec_report_points (states := states) replies type nofun nofun four
  have station := pointed_station s a states
  have owner : (pointed s a states).ownerTakes a cs = (pointed s a states).callPoints a cs := by
    have type' : (pointed s a states).loop.stations[a].type = .callPoint := by rw [station]; exact type
    unfold State.ownerTakes
    dsimp only
    rw [type']
  rw [owner] at next
  have leaves := finish_leaves (replied s a) ((pointed s a states).callPoints a cs)
  have few : cs.length ≤ 4 := four ▸ changes_length s a states
  have length := pointed_length s a states
  have points : (State.finish (replied s a) ((pointed s a states).callPoints a cs)).loop.stations[a].points = filtered s a states := by
    rw [leaves.loop]
    simp only [State.callPoints_frame, station]
    rfl
  have held : anyHeld (pointed s a states) a = (filtered s a states).any (·.held) := by rw [anyHeld, station]; rfl
  have called := (callPoints_keepsAlarm (k := .forPoint 0 0) (a := a) (pointed s a states) cs (by simp [AlarmKey.forPoint])).length
  obtain ⟨bt, clk, -, roll, doors, zones, bank, -, -, p2⟩ := pointed_frame s a states
  refine ⟨_, next, ?_, ?_, fun active roomy => ?_, fun inactive normal free => ?_, fun inactive h x mem key => ?_, fun i faulty roomy => ?_,
    ?_, ?_, ?_, ?_, ?_, ?_, ?_⟩
  · rw [leaves.loop]
    simp only [State.callPoints_frame, pointed_loop]
  · rw [leaves.loop]
    simp only [State.callPoints_frame, station]
    rfl
  · unfold Roomy at roomy
    have stands := callPoints_stands (s := pointed s a states) (cs := cs) (held.trans (filtered_held active)) (by omega) (.inr active)
    exact (finish_keepsAlarm _ _ (by simp [panic, AlarmKey.forStation])).stands (by omega) stands
  · rw [points] at free
    have noneHeld : anyHeld (pointed s a states) a = false := held.trans (List.any_eq_false.mpr fun p mem => by simp [free p mem])
    exact finish_keepsGone _ (by simp [panic, AlarmKey.forStation]) (callPoints_gone noneHeld inactive (.inr normal))
  · rw [points] at h
    have still : (pointed s a states).callPoints a cs = pointed s a states :=
      callPoints_still inactive (h.imp_right fun some_ => held.trans (List.any_eq_true.mpr some_))
    have life : x.key.kind.priority = .life := by rw [key]; rfl
    rw [still, finish_records]
    exact coverageAlarms_keepsRecord _ life (pointed_keepsRecord states life mem)
  · unfold Roomy at roomy
    have stands := pointed_faults s a (n := i) faulty (by omega)
    have stands := (callPoints_keepsAlarm (a := a) (pointed s a states) cs (by simp [AlarmKey.forPoint])).stands (by omega) stands
    exact (finish_keepsAlarm _ _ (by simp [AlarmKey.forPoint])).stands (by omega) stands
  · rw [leaves.bt, (State.callPoints_frame ..).2.2.2.2.2.1, bt]
  · rw [leaves.clk]
    simp only [State.callPoints_frame, clk]
  · rw [leaves.roll]
    simp only [State.callPoints_frame, roll]
  · rw [leaves.doors]
    simp only [State.callPoints_frame, doors]
  · rw [leaves.zones]
    simp only [State.callPoints_frame, zones]
  · rw [leaves.bank]
    simp only [State.callPoints_frame, bank]
  · rw [leaves.p2]
    simp only [State.callPoints_frame, p2]

end Sys2Proof.Proofs.CallPoints
end

section
/-! PROOFS. THE INPUTS OF A ZONE (R113, R115 to R120, R122, R124): what the points that one event changes make of the zone's record in every
state. -/
namespace Sys2Proof.Proofs.ZonePoints

open Sys2Proof Sys2Proof.Machine Sys2Proof.Safety Sys2Proof.Laws
open Sys2Proof.Proofs.Evaluation Sys2Proof.Proofs.OneRoom Sys2Proof.Proofs.ZoneMoves Sys2Proof.Proofs.ZoneRequests
open Sys2Proof.Proofs.DischargeSequence
open Sys2Proof.Proofs.PointReports (raiseAlarm_stands)
open Sys2Proof.Proofs.Acts (rederive_acts enterZone_bank)

variable {s t u : State} {z y : Room} {new : ZoneInputs} {k : SequenceKind}

/-! ### The parts of the event -/

/-- The zone moves by its hold reasons alone. -/
def Sequencing (st : ZoneState) : Prop := st = .held ∨ st = .countdown ∨ st = .waitBank

/-- The hold reasons that the new inputs give a zone of a kind (R119). -/
def heldBy (s : State) (z : Room) (new : ZoneInputs) (k : SequenceKind) : Holds :=
  { abort := new.abort = .active, occupied := s.occupied z && k = .automatic && !s.zones[z].authorise
    lockout := new.lockout = .active, siteInhibit := s.lines.inhibit }

/-- A detector or the manual release has changed. -/
def Tested (old new : ZoneInputs) : Prop :=
  old.detectorA ≠ new.detectorA ∨ old.detectorB ≠ new.detectorB ∨ old.manual ≠ new.manual

/-- The manual release has become Active on an Automatic sequence (R118). -/
def Overrides (zn : Zone) (new : ZoneInputs) : Prop := zn.inputs.manual ≠ .active ∧ new.manual = .active ∧ zn.kind = .automatic

/-- The inputs taken. -/
def taking (s : State) (z : Room) (new : ZoneInputs) : State := s.setZone z { s.zones[z] with inputs := new }

/-- The inputs taken and the hold reasons derived, in a state that the hold reasons do not move. -/
def idle (s : State) (z : Room) (new : ZoneInputs) : State :=
  s.setZone z { s.zones[z] with inputs := new, holds := heldBy s z new s.zones[z].kind }

theorem taking_own (s : State) (z : Room) (new : ZoneInputs) : (taking s z new).zones[z] = { s.zones[z] with inputs := new } :=
  vset_same _ _ _

theorem idle_own (s : State) (z : Room) (new : ZoneInputs) :
    (idle s z new).zones[z] = { s.zones[z] with inputs := new, holds := heldBy s z new s.zones[z].kind } := vset_same _ _ _

theorem deriveHolds_heldBy (zone : u.zones[z] = { s.zones[z] with inputs := new, kind := k }) (roll : u.roll = s.roll)
    (lines : u.lines = s.lines) : u.deriveHolds z = heldBy s z new k := by
  simp only [State.deriveHolds, heldBy, State.occupied, State.headCount, zone, roll, lines]
  rfl

theorem manualOverride_still (h : ¬(Sequencing s.zones[z].state ∧ s.zones[z].kind = .automatic)) : s.manualOverride z = s := by
  unfold State.manualOverride
  dsimp only
  exact if_neg fun yes => h (by simpa [Sequencing, or_assoc] using yes)

theorem manualOverride_acts (st : Sequencing s.zones[z].state) (automatic : s.zones[z].kind = .automatic) :
    s.manualOverride z = (s.setZone z { s.zones[z] with kind := .manual }).raiseAlarm (.forRoom .zoneRelease z) := by
  unfold State.manualOverride
  dsimp only
  refine if_pos ?_
  rw [automatic]
  simpa [Sequencing, or_assoc] using st

theorem followFlow_still (h : s.zones[z].state ≠ .discharging) : s.followFlow z = s := by
  unfold State.followFlow
  dsimp only
  exact if_pos h

/-- The steps of the event after the inputs are taken and the manual release has overridden. -/
def following (s u : State) (z : Room) (new : ZoneInputs) : State :=
  let v :=
    if s.zones[z].inputs.detectorA ≠ new.detectorA ∨ s.zones[z].inputs.detectorB ≠ new.detectorB ∨ s.zones[z].inputs.manual ≠ new.manual
    then u.testInputs z else u
  if s.zones[z].inputs.flow ≠ new.flow then v.followFlow z else v

theorem zoneInputs_eq (s : State) (z : Room) (new : ZoneInputs) :
    s.zoneInputs z new =
      following s
        ((if s.zones[z].inputs.manual ≠ .active ∧ new.manual = .active then (taking s z new).manualOverride z else taking s z new).rederive z)
        z new := rfl

/-- In a state that the hold reasons do not move they are only derived. -/
theorem zoneInputs_idle (h : ¬Sequencing s.zones[z].state) : s.zoneInputs z new = following s (idle s z new) z new := by
  have state : (taking s z new).zones[z].state = s.zones[z].state := by rw [taking_own]
  have over_ : (taking s z new).manualOverride z = taking s z new := manualOverride_still fun both => h (state ▸ both.1)
  have derived : (taking s z new).rederive z = idle s z new := by
    rw [rederive_still _ z (by rw [state]; exact ⟨fun e => h (.inl e), fun e => h (.inr (.inl e)), fun e => h (.inr (.inr e))⟩)]
    rw [deriveHolds_heldBy (s := s) (new := new) (k := s.zones[z].kind) (taking_own s z new) rfl rfl, taking_own]
    simp only [taking, idle, State.setZone, Vector.set_set]
  rw [zoneInputs_eq, over_, ite_self, derived]

/-! ### NORMAL and ALERT -/

theorem confirm_state (s : State) (z : Room) (k : SequenceKind) :
    (s.confirm z k).zones[z].state =
      if (holdsWith s z k s.zones[z].authorise s.lines.inhibit).any then .held else .countdown := by
  obtain ⟨env, zones⟩ := confirm_zone s z k
  rw [zones, vset_same]
  rfl

theorem alerted_zones (s : State) (z : Room) :
    ((s.enterZone z .alert).raiseAlarm (.forRoom .zoneAlert z)).zones = s.zones.set z { s.zones[z] with state := .alert } := by
  rw [(State.raiseAlarm_frame ..).2.2.2.2.2.2.2.2.2.2.1, enterZone_open s z rfl]

theorem alerted_state (s : State) (z : Room) :
    ((s.enterZone z .alert).raiseAlarm (.forRoom .zoneAlert z)).zones[z].state = .alert := by rw [alerted_zones, vset_same]

theorem testInputs_notDischarging (h : s.zones[z].state = .normal ∨ s.zones[z].state = .alert) :
    (s.testInputs z).zones[z].state ≠ .discharging := by
  have still : s.zones[z].state ≠ .discharging := by
    obtain h | h := h <;> rw [h] <;> nofun
  unfold State.testInputs
  dsimp only
  split
  · split
    · next k _ =>
      intro discharges
      have state := (confirm_state s z k).symm.trans discharges
      split at state <;> cases state
    · split
      · intro discharges
        exact absurd ((alerted_state s z).symm.trans discharges) nofun
      · exact still
  · exact still

theorem zoneInputs_tested (h : s.zones[z].state = .normal ∨ s.zones[z].state = .alert) (tested : Tested s.zones[z].inputs new) :
    s.zoneInputs z new = (idle s z new).testInputs z := by
  have idleState : (idle s z new).zones[z].state = s.zones[z].state := by rw [idle_own]
  have apart : ¬Sequencing s.zones[z].state := by
    unfold Sequencing
    obtain h | h := h <;> rw [h] <;> simp
  have after := testInputs_notDischarging (s := idle s z new) (z := z) (by rw [idleState]; exact h)
  rw [zoneInputs_idle apart]
  unfold following
  dsimp only
  unfold Tested at tested
  rw [if_pos tested, followFlow_still after, ite_self]

/-- Nothing tests the inputs of the zone, and it is not DISCHARGING. -/
theorem zoneInputs_quiet (apart : ¬Sequencing s.zones[z].state) (still : s.zones[z].state ≠ .discharging)
    (h : ¬Tested s.zones[z].inputs new ∨ (s.zones[z].state ≠ .normal ∧ s.zones[z].state ≠ .alert)) :
    s.zoneInputs z new = idle s z new := by
  have idleState : (idle s z new).zones[z].state = s.zones[z].state := by rw [idle_own]
  rw [zoneInputs_idle apart]
  unfold following
  dsimp only
  have untested : (if s.zones[z].inputs.detectorA ≠ new.detectorA ∨ s.zones[z].inputs.detectorB ≠ new.detectorB ∨
      s.zones[z].inputs.manual ≠ new.manual then (idle s z new).testInputs z else idle s z new) = idle s z new := by
    obtain no | ⟨normal, alert⟩ := h
    · exact if_neg no
    · rw [testInputs_still _ z (fun yes => ?_) (fun yes => ?_), ite_self]
      · rw [idleState] at yes
        exact absurd yes (not_or.mpr ⟨normal, alert⟩)
      · exact absurd (idleState.symm.trans yes) normal
  rw [untested, followFlow_still (by rw [idleState]; exact still), ite_self]

/-- A zone that is confirmed by its new inputs (R116, R117). -/
theorem idle_holds (s : State) (z : Room) (new : ZoneInputs) (k : SequenceKind) :
    holdsWith (idle s z new) z k (idle s z new).zones[z].authorise (idle s z new).lines.inhibit = heldBy s z new k := by
  unfold holdsWith heldBy State.occupied State.headCount
  rw [idle_own]
  rfl

/-! ### HELD, COUNTDOWN and WAIT_BANK -/

theorem acted_sequencing {h : Holds} {zn : Zone} (st : Sequencing zn.state) : Sequencing (acted h zn).state := by
  show Sequencing (heldState zn.state h.any)
  unfold Sequencing at st ⊢
  obtain st | st | st := st <;> rw [st] <;> cases h.any <;> simp [heldState]

/-- The zone's record, its kind overridden or not, after its hold reasons have acted. -/
theorem following_sequencing {zn : Zone} (zone : u.zones[z] = zn) (st : Sequencing zn.state) : following s u z new = u := by
  have normal : u.zones[z].state ≠ .normal ∧ u.zones[z].state ≠ .alert ∧ u.zones[z].state ≠ .discharging := by
    rw [zone]
    obtain st | st | st := st <;> rw [st] <;> exact ⟨nofun, nofun, nofun⟩
  unfold following
  dsimp only
  rw [testInputs_still _ z (fun yes => absurd yes (not_or.mpr ⟨normal.1, normal.2.1⟩)) (fun yes => absurd yes normal.1), ite_self,
    followFlow_still normal.2.2, ite_self]

/-- The state whose hold reasons act: the inputs taken, and the sequence overridden where the manual release does so (R118). -/
def overridden (s : State) (z : Room) (new : ZoneInputs) : State :=
  if s.zones[z].inputs.manual ≠ .active ∧ new.manual = .active then (taking s z new).manualOverride z else taking s z new

theorem overridden_acts (st : Sequencing s.zones[z].state) (h : Overrides s.zones[z] new) :
    overridden s z new =
      ((taking s z new).setZone z { s.zones[z] with inputs := new, kind := .manual }).raiseAlarm (.forRoom .zoneRelease z) := by
  obtain ⟨was, isActive, automatic⟩ := h
  have own := taking_own s z new
  unfold overridden
  rw [if_pos ⟨was, isActive⟩, manualOverride_acts (by rw [own]; exact st) (by rw [own]; exact automatic), own]

theorem overridden_still (h : ¬Overrides s.zones[z] new) : overridden s z new = taking s z new := by
  have own := taking_own s z new
  unfold overridden
  split
  · next both => exact manualOverride_still fun yes => h ⟨both.1, both.2, by have := yes.2; rwa [own] at this⟩
  · rfl

/-- The zone's record after the override: the inputs, and its kind. -/
theorem overridden_zones (st : Sequencing s.zones[z].state)
    (hk : Overrides s.zones[z] new ∧ k = .manual ∨ ¬Overrides s.zones[z] new ∧ k = s.zones[z].kind) :
    (overridden s z new).zones = s.zones.set z { s.zones[z] with inputs := new, kind := k } := by
  obtain ⟨h, rfl⟩ | ⟨h, rfl⟩ := hk
  · rw [overridden_acts st h, (State.raiseAlarm_frame ..).2.2.2.2.2.2.2.2.2.2.1]
    simp only [State.setZone_zones, taking, Vector.set_set]
  · rw [overridden_still h]
    rfl

theorem overridden_frame (s : State) (z : Room) (new : ZoneInputs) :
    (overridden s z new).roll = s.roll ∧ (overridden s z new).lines = s.lines ∧ (overridden s z new).bank = s.bank := by
  unfold overridden
  split <;> simp [taking]

/-- In HELD, COUNTDOWN and WAIT_BANK the hold reasons act on the zone with its new inputs and its kind (R118 to R122). -/
theorem zoneInputs_sequencing (st : Sequencing s.zones[z].state)
    (hk : Overrides s.zones[z] new ∧ k = .manual ∨ ¬Overrides s.zones[z] new ∧ k = s.zones[z].kind) :
    s.zoneInputs z new = (overridden s z new).rederive z ∧
      ∃ env, (s.zoneInputs z new).zones =
        s.zones.set z { acted (heldBy s z new k) { s.zones[z] with inputs := new, kind := k } with lastEnvelope := env } := by
  have zones := overridden_zones st hk
  obtain ⟨roll, lines, -⟩ := overridden_frame s z new
  have own : (overridden s z new).zones[z] = { s.zones[z] with inputs := new, kind := k } := by rw [zones, vset_same]
  obtain ⟨env, after⟩ := rederive_zone (overridden s z new) z
  rw [deriveHolds_heldBy own roll lines, own, zones, Vector.set_set] at after
  have mine : ((overridden s z new).rederive z).zones[z] =
      { acted (heldBy s z new k) { s.zones[z] with inputs := new, kind := k } with lastEnvelope := env } := by rw [after, vset_same]
  have same : s.zoneInputs z new = (overridden s z new).rederive z := by
    rw [zoneInputs_eq]
    exact following_sequencing mine (acted_sequencing (h := heldBy s z new k) (zn := { s.zones[z] with inputs := new, kind := k }) st)
  exact ⟨same, env, by rw [same]; exact after⟩

/-! ### DISCHARGING -/

/-- In DISCHARGING only the flow switch is followed (R124). -/
theorem zoneInputs_discharging (h : s.zones[z].state = .discharging) :
    s.zoneInputs z new = if s.zones[z].inputs.flow ≠ new.flow then (idle s z new).followFlow z else idle s z new := by
  have state : (idle s z new).zones[z].state = .discharging := by rw [idle_own]; exact h
  rw [zoneInputs_idle (by rw [h]; unfold Sequencing; simp)]
  unfold following
  dsimp only
  rw [testInputs_still _ z (fun yes => by rw [state] at yes; simp at yes) (fun yes => by rw [state] at yes; cases yes), ite_self]

theorem followFlow_active (h : s.zones[z].state = .discharging) (flow : s.zones[z].inputs.flow = .active) :
    s.followFlow z = s.setZone z { s.zones[z] with flowSeen := true, flowStart := none } := by
  unfold State.followFlow
  simp only [h, flow, ne_eq, not_true_eq_false, if_false]

theorem followFlow_ends (h : s.zones[z].state = .discharging) (flow : s.zones[z].inputs.flow = .normal)
    (seen : s.zones[z].flowSeen = true) : s.followFlow z = s.endDischarge z true := by
  unfold State.followFlow
  simp only [h, flow, seen, ne_eq, not_true_eq_false, if_false, if_true]
  rfl

theorem followFlow_waits (flow : s.zones[z].inputs.flow = .fault ∨ s.zones[z].inputs.flow = .normal ∧ s.zones[z].flowSeen = false) :
    s.followFlow z = s := by
  unfold State.followFlow
  dsimp only
  split
  · rfl
  · obtain fault | ⟨normal, unseen⟩ := flow
    · rw [fault]
    · simp only [normal, unseen, Bool.false_eq_true, if_false]

/-! ### The inputs through a discharge's end -/

theorem enterZone_inputs (s : State) (y z : Room) (st : ZoneState) : (s.enterZone y st).zones[z].inputs = s.zones[z].inputs := by
  obtain ⟨env, zones, -⟩ := enterZone_zone s y st
  rw [zones]
  by_cases same : y = z
  · subst same
    rw [vset_same]
  · rw [vset_other _ _ same]

theorem grantNext_inputs (s : State) (z : Room) : s.grantNext.zones[z].inputs = s.zones[z].inputs := by
  cases head : s.bank.waitQueue with
  | nil => rw [grantNext_none head]
  | cons y rest =>
    rw [grantNext_head head]
    obtain ⟨env, zones⟩ := grant_zone { s with bank := { s.bank with waitQueue := rest } } y
    rw [zones]
    by_cases same : y = z
    · subst same
      rw [vset_same]
      rfl
    · rw [vset_other _ _ same]

theorem endDischarge_inputs (s : State) (z : Room) (complete : Bool) : (s.endDischarge z complete).zones[z].inputs = s.zones[z].inputs := by
  have granted : (accountedFor s z complete).grantNext.zones[z].inputs = s.zones[z].inputs :=
    (grantNext_inputs _ z).trans (congrArg (·.inputs) (vset_same s.zones z _))
  rw [endDischarge_eq]
  split
  · exact (enterZone_inputs _ z z .vent).trans granted
  · refine (enterZone_inputs _ z z .soak).trans ?_
    rw [State.setZone_zones, vset_same]
    exact granted

end Sys2Proof.Proofs.ZonePoints
end

section
/-! PROOFS. REPORTS OF A ZONE'S STATIONS (R113 to R124): what a detector interface's and a release unit's report brings its zone. -/
namespace Sys2Proof.Proofs.ZoneReports

open Sys2Proof Sys2Proof.Machine Sys2Proof.Safety Sys2Proof.Laws
open Sys2Proof.Proofs.Evaluation Sys2Proof.Proofs.OneRoom Sys2Proof.Proofs.ZoneMoves Sys2Proof.Proofs.ZoneRequests
open Sys2Proof.Proofs.DischargeSequence Sys2Proof.Proofs.Conditions Sys2Proof.Proofs.ZonePoints Sys2Proof.Proofs.PointReports
open Sys2Proof.Proofs.Acts (rederive_acts enterZone_bank confirm_bank)
open Sys2Proof.Proofs.Persistence (replied withoutCommands zoneInputs_withoutCommands station_withoutCommands)

variable {s t u p : State} {a : Addr} {z : Room} {new : ZoneInputs} {k : SequenceKind} {line : List Bool} {ty : StationType}
  {states : List PointState} {cs : List (Option PointState)}

/-! ### The confirmation test (R116) -/

/-- The detectors confirm (R116). -/
def Automatic (kn : Knock) (i : ZoneInputs) : Prop :=
  i.detectorA = .active ∧ i.detectorB = .active ∨
    kn = .singleOnFault ∧ (i.detectorA = .active ∧ i.detectorB = .fault ∨ i.detectorA = .fault ∧ i.detectorB = .active)

/-- The inputs confirm with a kind: Manual over Automatic (R116). -/
def Confirms (kn : Knock) (i : ZoneInputs) (k : SequenceKind) : Prop :=
  i.manual = .active ∧ k = .manual ∨ i.manual ≠ .active ∧ Automatic kn i ∧ k = .automatic

theorem confirms_some {kn : Knock} {i : ZoneInputs} (h : Confirms kn i k) : i.confirms kn = some k := by
  unfold ZoneInputs.confirms
  obtain ⟨manual, rfl⟩ | ⟨manual, automatic, rfl⟩ := h
  · exact if_pos manual
  · rw [if_neg manual]
    split
    · rfl
    · next both =>
      have single := automatic.resolve_left fun h => both (by simpa using h)
      exact if_pos (by simpa using single)

theorem confirms_of_some {kn : Knock} {i : ZoneInputs} (h : i.confirms kn = some k) : Confirms kn i k := by
  unfold ZoneInputs.confirms at h
  split at h
  · next manual => exact .inl ⟨manual, (Option.some.inj h).symm⟩
  · next manual =>
    split at h
    · next both => exact .inr ⟨manual, .inl (by simpa using both), (Option.some.inj h).symm⟩
    · split at h
      · next single => exact .inr ⟨manual, .inr (by simpa using single), (Option.some.inj h).symm⟩
      · cases h

theorem confirms_eq_none {kn : Knock} {i : ZoneInputs} (h : ∀ k, ¬Confirms kn i k) : i.confirms kn = none := by
  cases found : i.confirms kn with
  | none => rfl
  | some k => exact absurd (confirms_of_some found) (h k)

/-! ### What the inputs bring the zone -/

theorem idle_atDoor (s : State) (z : Room) (new : ZoneInputs) : AtDoor z s (idle s z new) := setZone_atDoor s z _

/-- Outside DISCHARGING the event stays within the strongroom. -/
theorem zoneInputs_atDoor (h : s.zones[z].state ≠ .discharging) : AtDoor z s (s.zoneInputs z new) := by
  by_cases st : Sequencing s.zones[z].state
  · have over_ : AtDoor z s (overridden s z new) := by
      unfold overridden
      split
      · unfold State.manualOverride
        dsimp only
        split
        · exact ((setZone_atDoor s z _).trans (setZone_atDoor _ z _)).trans (raiseAlarm_atDoor _ _)
        · exact setZone_atDoor s z _
      · exact setZone_atDoor s z _
    by_cases over' : Overrides s.zones[z] new
    · rw [(zoneInputs_sequencing st (.inl ⟨over', rfl⟩)).1]
      exact over_.trans (rederive_atDoor _ z)
    · rw [(zoneInputs_sequencing st (.inr ⟨over', rfl⟩)).1]
      exact over_.trans (rederive_atDoor _ z)
  · by_cases tests : Tested s.zones[z].inputs new ∧ (s.zones[z].state = .normal ∨ s.zones[z].state = .alert)
    · rw [zoneInputs_tested tests.2 tests.1]
      exact (idle_atDoor s z new).trans (testInputs_atDoor _ z)
    · rw [zoneInputs_quiet st h (by rw [not_and_or, not_or] at tests; exact tests)]
      exact idle_atDoor s z new

/-- A zone that the new inputs confirm (R116, R117). -/
theorem zoneInputs_confirms (st : s.zones[z].state = .normal ∨ s.zones[z].state = .alert) (tested : Tested s.zones[z].inputs new)
    (confirms : new.confirms s.sup.profiles[z].knock = some k) :
    s.zoneInputs z new = (idle s z new).confirm z k ∧
      ∃ env, (s.zoneInputs z new).zones[z] =
        { Acts.confirmed (idle s z new).zones[z] k s.sup.profiles[z].delay (heldBy s z new k) with lastEnvelope := env } := by
  have same : s.zoneInputs z new = (idle s z new).confirm z k := by
    rw [zoneInputs_tested st tested]
    exact testInputs_confirms _ z (by rw [idle_own]; exact st) (by rw [idle_own]; exact confirms)
  obtain ⟨env, zones⟩ := confirm_zone (idle s z new) z k
  refine ⟨same, env, ?_⟩
  rw [same, zones, vset_same, idle_holds]
  rfl

/-- A single Active detector brings ALERT (R115). -/
theorem zoneInputs_alert (st : s.zones[z].state = .normal) (tested : Tested s.zones[z].inputs new)
    (confirms : new.confirms s.sup.profiles[z].knock = none) (single : new.detectorActive = true) :
    s.zoneInputs z new = ((idle s z new).enterZone z .alert).raiseAlarm (.forRoom .zoneAlert z) := by
  rw [zoneInputs_tested (.inl st) tested]
  exact testInputs_alert _ z (by rw [idle_own]; exact st) (by rw [idle_own]; exact confirms) (by rw [idle_own]; exact single)

/-- Nothing confirms and nothing alerts. -/
theorem zoneInputs_still (st : s.zones[z].state = .normal ∨ s.zones[z].state = .alert)
    (confirms : ∀ k, ¬(Tested s.zones[z].inputs new ∧ Confirms s.sup.profiles[z].knock new k))
    (quiet : s.zones[z].state = .normal → ¬Tested s.zones[z].inputs new ∨ new.detectorActive = false) :
    s.zoneInputs z new = idle s z new := by
  have apart : ¬Sequencing s.zones[z].state := by
    unfold Sequencing
    obtain h | h := st <;> rw [h] <;> simp
  by_cases tested : Tested s.zones[z].inputs new
  · rw [zoneInputs_tested st tested]
    refine testInputs_still _ z (fun _ => ?_) fun normal => ?_
    · rw [idle_own]
      exact confirms_eq_none fun k h => confirms k ⟨tested, h⟩
    · rw [idle_own] at normal ⊢
      exact (quiet normal).resolve_left (not_not_intro tested)
  · exact zoneInputs_quiet apart (by obtain h | h := st <;> rw [h] <;> nofun) (.inl tested)

/-- A zone leaves the manifold's queue with WAIT_BANK (R122). -/
theorem rederive_withdraws (st : s.zones[z].state = .waitBank) (any : (s.deriveHolds z).any = true) :
    z ∉ (s.rederive z).bank.waitQueue := by
  let u := s.setZone z { s.zones[z] with holds := s.deriveHolds z }
  have own : u.zones[z] = { s.zones[z] with holds := s.deriveHolds z } := vset_same _ _ _
  have acts : u.actOnHolds z = ((u.leaveQueue z).setZone z { u.zones[z] with remainder := 0 }).enterZone z .held := by
    have state : u.zones[z].state = .waitBank := by rw [own]; exact st
    have any' : u.zones[z].holds.any = true := by rw [own]; exact any
    unfold State.actOnHolds
    dsimp only
    rw [state, any']
  show z ∉ (u.actOnHolds z).bank.waitQueue
  rw [acts, (enterZone_bank ..).waitQueue]
  show z ∉ s.bank.waitQueue.filter (· ≠ z)
  simp

/-- The bank of a zone whose hold reasons act (R122, R139). -/
theorem zoneInputs_sequencing_bank (st : Sequencing s.zones[z].state)
    (hk : Overrides s.zones[z] new ∧ k = .manual ∨ ¬Overrides s.zones[z] new ∧ k = s.zones[z].kind) :
    (s.zoneInputs z new).bank.cylinders = s.bank.cylinders ∧ (s.zoneInputs z new).bank.reservations = s.bank.reservations ∧
      (s.zones[z].state = .waitBank → (heldBy s z new k).any = true → z ∉ (s.zoneInputs z new).bank.waitQueue) := by
  obtain ⟨roll, lines, bank⟩ := overridden_frame s z new
  have own : (overridden s z new).zones[z] = { s.zones[z] with inputs := new, kind := k } := by rw [overridden_zones st hk, vset_same]
  obtain ⟨x, -, -, -, cylinders, reservations, -⟩ := rederive_acts (overridden s z new) z
  rw [(zoneInputs_sequencing st hk).1]
  refine ⟨cylinders.trans (congrArg AgentBank.cylinders bank), reservations.trans (congrArg AgentBank.reservations bank), fun waits any => ?_⟩
  exact rederive_withdraws (by rw [own]; exact waits) (by rw [deriveHolds_heldBy own roll lines]; exact any)

/-- A manual release that overrides raises ZONE_RELEASE (R118). -/
theorem zoneInputs_override_stands (st : Sequencing s.zones[z].state) (h : Overrides s.zones[z] new)
    (room : s.alarms.records.length < 64) : Stands (s.zoneInputs z new) (.forRoom .zoneRelease z) := by
  have raised : Stands (overridden s z new) (.forRoom .zoneRelease z) := by
    rw [overridden_acts st h]
    exact raiseAlarm_stands room
  have length : (overridden s z new).alarms.records.length ≤ s.alarms.records.length + 1 := by
    rw [overridden_acts st h]
    exact raiseAlarm_length _ _
  rw [(zoneInputs_sequencing st (.inl ⟨h, rfl⟩)).1]
  exact (rederive_keepsAlarm _ z (by simp [AlarmKey.forRoom])).stands (by omega) raised

theorem setZone_inputs (s : State) (z : Room) {x : Zone} (h : x.inputs = s.zones[z].inputs) :
    (s.setZone z x).zones[z].inputs = s.zones[z].inputs := by rw [State.setZone_zones, vset_same, h]

theorem manualOverride_inputs (s : State) (z : Room) : (s.manualOverride z).zones[z].inputs = s.zones[z].inputs := by
  have raised (u : State) (key : AlarmKey) : (u.raiseAlarm key).zones = u.zones := by simp
  unfold State.manualOverride
  dsimp only
  split
  · exact (congrArg (fun v : Vector Zone 16 => v[z].inputs) (raised _ _)).trans (setZone_inputs s z rfl)
  · rfl

theorem rederive_inputs (s : State) (z : Room) : (s.rederive z).zones[z].inputs = s.zones[z].inputs := by
  obtain ⟨env, zones⟩ := rederive_zone s z
  rw [zones, vset_same]
  rfl

theorem confirm_inputs (s : State) (z : Room) (k : SequenceKind) : (s.confirm z k).zones[z].inputs = s.zones[z].inputs := by
  obtain ⟨env, zones⟩ := confirm_zone s z k
  rw [zones, vset_same]
  rfl

theorem alerted_inputs (s : State) (z : Room) :
    ((s.enterZone z .alert).raiseAlarm (.forRoom .zoneAlert z)).zones[z].inputs = s.zones[z].inputs := by
  rw [alerted_zones, vset_same]

theorem testInputs_inputs (s : State) (z : Room) : (s.testInputs z).zones[z].inputs = s.zones[z].inputs := by
  unfold State.testInputs
  dsimp only
  split
  · split
    · exact confirm_inputs s z _
    · split
      · exact alerted_inputs s z
      · rfl
  · rfl

theorem followFlow_inputs (s : State) (z : Room) : (s.followFlow z).zones[z].inputs = s.zones[z].inputs := by
  unfold State.followFlow
  dsimp only
  split
  · rfl
  · split
    · exact setZone_inputs s z rfl
    · split
      · exact endDischarge_inputs s z true
      · rfl
    · rfl

/-- In every state the zone takes the new inputs (R113). -/
theorem zoneInputs_inputs (s : State) (z : Room) (new : ZoneInputs) : (s.zoneInputs z new).zones[z].inputs = new := by
  have taken_ : (overridden s z new).zones[z].inputs = new := by
    have own := congrArg Zone.inputs (taking_own s z new)
    unfold overridden
    split
    · exact (manualOverride_inputs _ z).trans own
    · exact own
  have derived := (rederive_inputs (overridden s z new) z).trans taken_
  have tested := (testInputs_inputs ((overridden s z new).rederive z) z).trans derived
  rw [zoneInputs_eq]
  unfold following
  dsimp only
  split
  · refine (followFlow_inputs _ z).trans ?_
    split
    · exact tested
    · exact derived
  · split
    · exact tested
    · exact derived

/-! ### The changes of a report -/

theorem changedCondition_eq (c : Option PointState) (old : Condition) : changedCondition c old = follows old c := by cases c <;> rfl

/-- The owner of a detector interface's or a release unit's points takes the inputs that follow them. -/
theorem ownerTakes_zone (room : p.loop.stations[a].room = num z)
    (h : p.loop.stations[a].type = .detectorIf ∧
        new =
          { p.zones[z].inputs with
            detectorA := follows p.zones[z].inputs.detectorA (cs.getD 0 none)
            detectorB := follows p.zones[z].inputs.detectorB (cs.getD 1 none) } ∨
      p.loop.stations[a].type = .releaseUnit ∧
        new =
          { p.zones[z].inputs with
            manual := follows p.zones[z].inputs.manual (cs.getD 0 none), abort := follows p.zones[z].inputs.abort (cs.getD 1 none)
            lockout := follows p.zones[z].inputs.lockout (cs.getD 2 none)
            flow := follows p.zones[z].inputs.flow (cs.getD 3 none) }) :
    p.ownerTakes a cs = p.zoneInputs z new := by
  have serves : p.loop.stations[a].serves = some z := by
    refine Polling.serves_room ?_ room
    obtain ⟨type, -⟩ | ⟨type, -⟩ := h <;> rw [type] <;> rfl
  unfold State.ownerTakes
  dsimp only
  rw [serves]
  obtain ⟨type, rfl⟩ | ⟨type, rfl⟩ := h
  · rw [type]
    simp only [ZoneInputs.detectors, changedCondition_eq]
  · rw [type]
    simp only [ZoneInputs.releaseUnit, changedCondition_eq]

end Sys2Proof.Proofs.ZoneReports
end

section
/-! PROOFS. The reports of detector interfaces and release units by the state of their zone (R113 to R124). -/
namespace Sys2Proof.Proofs.ZoneFollows

open Sys2Proof Sys2Proof.Machine Sys2Proof.Safety Sys2Proof.Laws
open Sys2Proof.Proofs.Evaluation Sys2Proof.Proofs.OneRoom Sys2Proof.Proofs.ZoneMoves Sys2Proof.Proofs.ZoneRequests
open Sys2Proof.Proofs.DischargeSequence Sys2Proof.Proofs.Conditions Sys2Proof.Proofs.ZonePoints Sys2Proof.Proofs.PointReports
open Sys2Proof.Proofs.ZoneReports
open Sys2Proof.Proofs.Acts (enterZone_bank confirm_bank)
open Sys2Proof.Proofs.Persistence (replied withoutCommands zoneInputs_withoutCommands station_withoutCommands)

variable {s t u p : State} {a : Addr} {z : Room} {new : ZoneInputs} {k : SequenceKind} {line : List Bool} {ty : StationType}
  {states : List PointState}

/-- What the event of a zone's points leaves of it: the zones, the bank, the doors, the contexts and the Alarm Table through the end of the
event. -/
structure Follows (s t : State) (z : Room) (new : ZoneInputs) : Prop where
  leaves : Leaves (s.zoneInputs z new) t
  alarms : ∀ k : AlarmKey, k.kind ≠ .coverageShort → KeepsAlarm 16 k (s.zoneInputs z new) t

variable (h : Follows s t z new)

include h

theorem Follows.zone : t.zones[z] = (s.zoneInputs z new).zones[z] := by simp only [h.leaves.zones]

theorem Follows.others (still : s.zones[z].state ≠ .discharging) : OtherRoomsKept s t z := fun j hj => by
  simp only [h.leaves.doors, h.leaves.ctx, h.leaves.roll, h.leaves.zones]
  exact (zoneInputs_atDoor (new := new) still).others j hj

/-- The new inputs confirm (R116, R117). -/
theorem Follows.confirms (st : s.zones[z].state = .normal ∨ s.zones[z].state = .alert) (tested : Tested s.zones[z].inputs new)
    (confirms : Confirms s.sup.profiles[z].knock new k) :
    t.zones[z].state = (if (heldBy s z new k).any then .held else .countdown) ∧ t.zones[z].kind = k ∧
      t.zones[z].holds = heldBy s z new k ∧ t.zones[z].remainder = s.sup.profiles[z].delay ∧ t.zones[z].accumulated = 0 ∧
      t.bank.reservations = s.bank.reservations ++ [z] ∧ t.ctx[z] = .empty ∧ t.doors[z].closeDemand = true ∧
      (s.alarms.records.length ≤ 44 → Stands t (.forRoom .zoneRelease z)) := by
  obtain ⟨same, env, own⟩ := zoneInputs_confirms st tested (confirms_some confirms)
  have zone := h.zone.trans own
  refine ⟨?_, ?_, ?_, ?_, ?_, ?_, ?_, ?_, fun roomy => ?_⟩
  · rw [zone]
    rfl
  · rw [zone]
    rfl
  · rw [zone]
    rfl
  · rw [zone]
    rfl
  · rw [zone]
    rfl
  · rw [h.leaves.bank, same]
    exact (confirm_bank (idle s z new) z k).2.2
  · simp only [h.leaves.ctx, same]
    exact confirm_ctx (idle s z new) z k
  · simp only [h.leaves.doors, same]
    exact confirm_demand (idle s z new) z k
  · have few : (idle s z new).alarms.records.length ≤ 44 := roomy
    have standing := confirm_stands (idle s z new) z k (by omega)
    have length := (confirm_keepsAlarm (key := .forRoom .zoneRelease z) (idle s z new) z k (by simp [AlarmKey.forRoom])).length
    rw [← same] at standing length
    exact (h.alarms _ (by simp [AlarmKey.forRoom])).stands (by omega) standing

/-- A single Active detector (R115). -/
theorem Follows.alert (st : s.zones[z].state = .normal) (tested : Tested s.zones[z].inputs new)
    (confirms : ∀ k, ¬Confirms s.sup.profiles[z].knock new k) (single : new.detectorA = .active ∨ new.detectorB = .active) :
    t.zones[z].state = .alert ∧ (s.alarms.records.length ≤ 44 → Stands t (.forRoom .zoneAlert z)) := by
  have detector : new.detectorActive = true := by simpa [ZoneInputs.detectorActive] using single
  have same := zoneInputs_alert st tested (confirms_eq_none confirms) detector
  refine ⟨?_, fun roomy => ?_⟩
  · rw [h.zone]
    exact (congrArg (fun v : State => v.zones[z].state) same).trans (alerted_state (idle s z new) z)
  · have entered := (enterZone_keepsAlarm (k := .forRoom .zoneAlert z) (idle s z new) z .alert (by simp [AlarmKey.forRoom])).length
    have few : (idle s z new).alarms.records.length ≤ 44 := roomy
    have standing : Stands (((idle s z new).enterZone z .alert).raiseAlarm (.forRoom .zoneAlert z)) (.forRoom .zoneAlert z) :=
      raiseAlarm_stands (by omega)
    have length := raiseAlarm_length ((idle s z new).enterZone z .alert) (.forRoom .zoneAlert z)
    rw [← same] at standing length
    exact (h.alarms _ (by simp [AlarmKey.forRoom])).stands (by omega) standing

theorem Follows.still (st : s.zones[z].state = .normal ∨ s.zones[z].state = .alert)
    (confirms : ∀ k, ¬(Tested s.zones[z].inputs new ∧ Confirms s.sup.profiles[z].knock new k))
    (quiet : s.zones[z].state = .normal → ¬Tested s.zones[z].inputs new ∨ new.detectorActive = false) :
    t.zones[z].state = s.zones[z].state := by
  rw [h.zone]
  have idleState : (idle s z new).zones[z].state = s.zones[z].state := by rw [idle_own]
  exact (congrArg (fun v : State => v.zones[z].state) (zoneInputs_still st confirms quiet)).trans idleState

/-- The hold reasons move the zone (R118 to R122). -/
theorem Follows.sequencing (st : Sequencing s.zones[z].state)
    (hk : Overrides s.zones[z] new ∧ k = .manual ∨ ¬Overrides s.zones[z] new ∧ k = s.zones[z].kind) :
    t.zones[z].kind = k ∧ t.zones[z].holds = heldBy s z new k ∧
      t.zones[z].state = heldState s.zones[z].state (heldBy s z new k).any ∧
      t.zones[z].remainder =
        (if s.zones[z].state = .held ∧ (heldBy s z new k).any = false then max s.zones[z].remainder 10
        else if s.zones[z].state = .waitBank ∧ (heldBy s z new k).any = true then 0 else s.zones[z].remainder) ∧
      t.zones[z].accumulated = s.zones[z].accumulated ∧ t.bank.cylinders = s.bank.cylinders ∧
      t.bank.reservations = s.bank.reservations ∧
      (s.zones[z].state = .waitBank → (heldBy s z new k).any = true → z ∉ t.bank.waitQueue) ∧
      (Overrides s.zones[z] new → s.alarms.records.length ≤ 44 → Stands t (.forRoom .zoneRelease z)) := by
  obtain ⟨-, env, zones⟩ := zoneInputs_sequencing st hk
  have own : t.zones[z] = { acted (heldBy s z new k) { s.zones[z] with inputs := new, kind := k } with lastEnvelope := env } := by
    rw [h.zone]
    exact (congrArg (fun v : Vector Zone 16 => v[z]) zones).trans (vset_same _ _ _)
  obtain ⟨cylinders, reservations, queue⟩ := zoneInputs_sequencing_bank st hk
  refine ⟨?_, ?_, ?_, ?_, ?_, ?_, ?_, fun waits any => ?_, fun overrides roomy => ?_⟩
  · rw [own]
    rfl
  · rw [own]
    rfl
  · rw [own]
    rfl
  · rw [own]
    rfl
  · rw [own]
    rfl
  · rw [h.leaves.bank]
    exact cylinders
  · rw [h.leaves.bank]
    exact reservations
  · rw [h.leaves.bank]
    exact queue waits any
  · have standing := zoneInputs_override_stands st overrides (by omega)
    have length := (zoneInputs_keepsAlarm (k := .forRoom .zoneRelease z) s z new (by simp [AlarmKey.forRoom])).length
    exact (h.alarms _ (by simp [AlarmKey.forRoom])).stands (by omega) standing

/-- DISCHARGING follows the flow switch (R124). -/
theorem Follows.flowStarts (st : s.zones[z].state = .discharging) (was : s.zones[z].inputs.flow ≠ .active) (flow : new.flow = .active) :
    t.zones[z].state = .discharging ∧ t.zones[z].flowSeen = true ∧ t.zones[z].flowStart = none ∧
      t.zones[z].discharge = s.zones[z].discharge := by
  have changed : s.zones[z].inputs.flow ≠ new.flow := by rw [flow]; exact was
  have idleOwn := idle_own s z new
  have same : s.zoneInputs z new =
      (idle s z new).setZone z { (idle s z new).zones[z] with flowSeen := true, flowStart := none } := by
    rw [zoneInputs_discharging st, if_pos changed]
    exact followFlow_active (by rw [idleOwn]; exact st) (by rw [idleOwn]; exact flow)
  have own : t.zones[z] = { (idle s z new).zones[z] with flowSeen := true, flowStart := none } := by
    rw [h.zone]
    exact (congrArg (fun v : State => v.zones[z]) same).trans (vset_same _ _ _)
  rw [own, idleOwn]
  exact ⟨st, rfl, rfl, rfl⟩

theorem Follows.flowEnds (st : s.zones[z].state = .discharging) (was : s.zones[z].inputs.flow ≠ .normal) (flow : new.flow = .normal)
    (seen : s.zones[z].flowSeen = true) :
    t.zones[z].state = (if s.sup.profiles[z].soak = 0 then .vent else .soak) ∧
      (∀ p : Pos, t.bank.cylinders[p] =
        if s.bank.cylinders[p].reservedTo z then { s.bank.cylinders[p] with state := .spent, zone := none, deferredLow := false }
        else s.bank.cylinders[p]) ∧
      t.bank.reservations = s.bank.reservations.filter (· ≠ z) ∧ t.bank.manifold = s.bank.waitQueue.head? := by
  have changed : s.zones[z].inputs.flow ≠ new.flow := by rw [flow]; exact was
  have idleOwn := idle_own s z new
  have same : s.zoneInputs z new = (idle s z new).endDischarge z true := by
    rw [zoneInputs_discharging st, if_pos changed]
    exact followFlow_ends (by rw [idleOwn]; exact st) (by rw [idleOwn]; exact flow) (by rw [idleOwn]; exact seen)
  have ends := (endDischarge_passesOn (idle s z new) z true).1
  rw [← same] at ends
  have passes := ends.after h.leaves
  exact ⟨passes.state, passes.cylinders, passes.reservations, passes.manifold⟩

theorem Follows.flowStays (st : s.zones[z].state = .discharging)
    (stays : new.flow = .fault ∨ new.flow = .normal ∧ s.zones[z].flowSeen = false ∨ new.flow = s.zones[z].inputs.flow) :
    t.zones[z].state = .discharging ∧ t.zones[z].flowSeen = s.zones[z].flowSeen ∧ t.zones[z].flowStart = s.zones[z].flowStart ∧
      t.zones[z].discharge = s.zones[z].discharge ∧ t.bank.cylinders = s.bank.cylinders := by
  have idleOwn := idle_own s z new
  have same : s.zoneInputs z new = idle s z new := by
    rw [zoneInputs_discharging st]
    split
    · next changed =>
      refine followFlow_waits ?_
      rw [idleOwn]
      obtain fault | unseen | unchanged := stays
      · exact .inl fault
      · exact .inr unseen
      · exact absurd unchanged.symm changed
    · rfl
  have own : t.zones[z] = (idle s z new).zones[z] := h.zone.trans (congrArg (fun v : State => v.zones[z]) same)
  rw [own, idleOwn, h.leaves.bank, same]
  exact ⟨st, rfl, rfl, rfl, rfl⟩

theorem Follows.apart (st : s.zones[z].state = .disabled ∨ s.zones[z].state = .soak ∨ s.zones[z].state = .vent) :
    t.zones[z].state = s.zones[z].state ∧ t.bank.cylinders = s.bank.cylinders ∧ t.bank.reservations = s.bank.reservations := by
  have same : s.zoneInputs z new = idle s z new := by
    refine zoneInputs_quiet ?_ ?_ (.inr ?_)
    · unfold Sequencing
      obtain st | st | st := st <;> rw [st] <;> simp
    · obtain st | st | st := st <;> rw [st] <;> nofun
    · obtain st | st | st := st <;> rw [st] <;> exact ⟨nofun, nofun⟩
  have own : t.zones[z] = (idle s z new).zones[z] := h.zone.trans (congrArg (fun v : State => v.zones[z]) same)
  rw [own, idle_own, h.leaves.bank, same]
  exact ⟨rfl, rfl, rfl⟩

omit h

/-- The event of a report is that of the inputs on the state in which the points have been taken. -/
theorem report_follows (s : State) (a : Addr) (states : List PointState) (z : Room) (new : ZoneInputs) :
    Follows (pointed s a states) (State.finish (replied s a) ((pointed s a states).zoneInputs z new)) z new :=
  ⟨finish_leaves _ _, fun _ other => finish_keepsAlarm _ _ other⟩

theorem heldBy_congr (zones : p.zones = s.zones) (roll : p.roll = s.roll) (lines : p.lines = s.lines) :
    heldBy p z new k = heldBy s z new k := by
  simp only [heldBy, State.occupied, State.headCount, zones, roll, lines]
  rfl

/-- The station and the poll after the report of a zone's points. -/
theorem zoneReport_loop (s : State) (a : Addr) (states : List PointState) (z : Room) (new : ZoneInputs) :
    ((pointed s a states).zoneInputs z new).loop.current = none ∧
      ((pointed s a states).zoneInputs z new).loop.stations[a].state = .online ∧
      ((pointed s a states).zoneInputs z new).loop.stations[a].misses = 0 := by
  have kept := zoneInputs_withoutCommands (pointed s a states) z new
  have current := congrArg LoopMaster.current kept
  have station := congrArg (fun l : LoopMaster => l.stations[a]) kept
  simp only [station_withoutCommands, pointed_station] at station
  refine ⟨current.trans ?_, (congrArg Station.state station).trans rfl, (congrArg Station.misses station).trans rfl⟩
  show (pointed s a states).loop.current = none
  rw [pointed_loop]

/-- The owner of the station is the zone, and its points are followed. -/
theorem exec_report_zone (replies : Replies s a line) (type : s.loop.stations[a].type = ty) (room : s.loop.stations[a].room = num z)
    (all : states.length = ty.pointCount)
    (hnew : ty = .detectorIf ∧
        new =
          { s.zones[z].inputs with
            detectorA := follows s.zones[z].inputs.detectorA ((changes s a states).getD 0 none)
            detectorB := follows s.zones[z].inputs.detectorB ((changes s a states).getD 1 none) } ∨
      ty = .releaseUnit ∧
        new =
          { s.zones[z].inputs with
            manual := follows s.zones[z].inputs.manual ((changes s a states).getD 0 none)
            abort := follows s.zones[z].inputs.abort ((changes s a states).getD 1 none)
            lockout := follows s.zones[z].inputs.lockout ((changes s a states).getD 2 none)
            flow := follows s.zones[z].inputs.flow ((changes s a states).getD 3 none) }) :
    exec (.report ⟨line, some ty, states, 0, .nothing⟩) s =
      .next (State.finish (replied s a) ((pointed s a states).zoneInputs z new)) := by
  have assigned : ty ≠ .unassigned ∧ ty ≠ .bankMonitor := by
    obtain ⟨rfl, -⟩ | ⟨rfl, -⟩ := hnew <;> exact ⟨nofun, nofun⟩
  have station := pointed_station s a states
  have zones : (pointed s a states).zones = s.zones := (pointed_frame s a states).2.2.2.2.2.1
  rw [exec_report_points replies type assigned.1 assigned.2 all]
  refine congrArg (fun v => Host.Outcome.next (State.finish (replied s a) v)) (ownerTakes_zone ?_ ?_)
  · rw [station]
    exact room
  · rw [station, zones]
    exact hnew.imp (fun h => ⟨type.trans h.1, h.2⟩) fun h => ⟨type.trans h.1, h.2⟩

/-- Settles O32: the event of the report is that of the zone's inputs, and each state of the zone has its lemma. -/
theorem zoneReportsConfirmHoldAndFollow : Obligations.ZoneReportsConfirmHoldAndFollow := by
  intro s a z line ty states new replies type room all zn old change hnew tested automatic confirms override holds
  have next := exec_report_zone replies type room all hnew
  have follows := report_follows s a states z new
  obtain ⟨bt, clk, -, roll, -, zones, bank, sup, lines, p2⟩ := pointed_frame s a states
  obtain ⟨current, online, misses⟩ := zoneReport_loop s a states z new
  have inputs := zoneInputs_inputs (pointed s a states) z new
  have length := pointed_length s a states
  have four : states.length ≤ 4 := by
    rw [all]
    obtain ⟨rfl, -⟩ | ⟨rfl, -⟩ := hnew <;> decide
  have roomy (h : Roomy s) : (pointed s a states).alarms.records.length ≤ 44 := by unfold Roomy at h; omega
  have held (k : SequenceKind) : heldBy (pointed s a states) z new k = holds k := heldBy_congr zones roll lines
  refine ⟨_, next, ⟨?_, ?_, ?_, ?_, ?_, ?_, ?_, ?_, ?_⟩, fun i faulty room => ?_, fun still => ?_, fun st => ⟨fun k test sure => ?_,
    fun test unsure normal single => ?_, fun unsure quiet => ?_⟩, fun st k hk => ?_, fun st => ⟨fun was flow => ?_, fun was flow seen => ?_,
    fun stays => ?_⟩, fun st => ?_⟩
  · rw [follows.leaves.loop]
    exact current
  · rw [follows.leaves.loop]
    exact online
  · rw [follows.leaves.loop]
    exact misses
  · rw [follows.leaves.bt, (State.zoneInputs_frame ..).2.2.2.2.2.1, bt]
  · rw [follows.leaves.clk, (State.zoneInputs_frame ..).2.2.2.2.2.2.1, clk]
  · rw [follows.leaves.roll, (State.zoneInputs_frame ..).2.2.2.2.2.2.2, roll]
  · rw [follows.leaves.lines, (State.zoneInputs_frame ..).2.1, lines]
  · rw [follows.leaves.p2, (State.zoneInputs_frame ..).2.2.1, p2]
  · rw [follows.zone]
    exact inputs
  · have few := roomy room
    unfold Roomy at room
    have stands := pointed_faults s a (n := i) faulty (by omega)
    have fault : (AlarmKey.forPoint (num a) (i + 1)).kind ≠ .heldOpen ∧ (AlarmKey.forPoint (num a) (i + 1)).kind ≠ .coverageShort :=
      ⟨nofun, nofun⟩
    have keeps := zoneInputs_keepsAlarm (pointed s a states) z new fault.1
    have after := keeps.length
    exact (follows.alarms _ fault.2).stands (by omega) (keeps.stands (by omega) stands)
  · have kept := follows.others (by simp only [zones]; exact still)
    obtain ⟨-, -, ctx, -, doors, -⟩ := pointed_frame s a states
    simpa only [OtherRoomsKept, zones, ctx, doors, roll] using kept
  · have clause := follows.confirms (k := k) (by simp only [zones]; exact st) (by simp only [zones]; exact test) (by simp only [sup]; exact sure)
    simp only [held, sup, bank] at clause
    obtain ⟨state, kind, reasons, remainder, accumulated, reservations, ctx, demand, stands⟩ := clause
    exact ⟨state, kind, reasons, remainder, accumulated, reservations, ctx, demand, fun room => stands (roomy room)⟩
  · have clause := follows.alert (by simp only [zones]; exact normal) (by simp only [zones]; exact test) (by simp only [sup]; exact unsure)
      single
    exact clause.imp_right fun stands room => stands (roomy room)
  · have clause := follows.still (by simp only [zones]; exact st) (by simp only [zones, sup]; exact unsure)
      (by simp only [zones]; exact quiet)
    simpa only [zones] using clause
  · have kinds : Overrides (pointed s a states).zones[z] new ∧ k = .manual ∨
        ¬Overrides (pointed s a states).zones[z] new ∧ k = (pointed s a states).zones[z].kind := by
      simp only [zones]
      by_cases yes : override
      · exact .inl ⟨yes, hk.trans (if_pos yes)⟩
      · exact .inr ⟨yes, hk.trans (if_neg yes)⟩
    have clause := follows.sequencing (by simp only [zones]; exact st) kinds
    simp only [held, zones, bank] at clause
    obtain ⟨kind, reasons, state, remainder, accumulated, cylinders, reservations, queue, stands⟩ := clause
    exact ⟨kind, reasons, state, remainder, accumulated, cylinders, reservations, queue, fun yes room => stands yes (roomy room)⟩
  · have clause := follows.flowStarts (by simp only [zones]; exact st) (by simp only [zones]; exact was) flow
    simpa only [zones] using clause
  · have clause := follows.flowEnds (by simp only [zones]; exact st) (by simp only [zones]; exact was) flow (by simp only [zones]; exact seen)
    simpa only [bank, sup] using clause
  · have clause := follows.flowStays (by simp only [zones]; exact st) (by simp only [zones]; exact stays)
    simpa only [zones, bank] using clause
  · have clause := follows.apart (by simp only [zones]; exact st)
    simpa only [zones, bank] using clause

end Sys2Proof.Proofs.ZoneFollows
end

section
/-! PROOFS. STEPS AT A DOOR (R66, R76 to R79, R82, R92, R93): what every operation that a door unit's points bring about leaves alone, and that
a strongroom newly Unreconciled has its alarm. -/
namespace Sys2Proof.Proofs.DoorSteps

open Sys2Proof Sys2Proof.Machine Sys2Proof.Safety Sys2Proof.Laws
open Sys2Proof.Proofs.OneRoom Sys2Proof.Proofs.ZoneMoves Sys2Proof.Proofs.DoorRequests Sys2Proof.Proofs.RollRequests
open Sys2Proof.Proofs.ExitsAndEgress Sys2Proof.Proofs.Exits Sys2Proof.Proofs.PointReports

variable {s t u : State} {r : Room} {d : Door} {n m : Nat} {k : AlarmKey}

/-- What no operation at a door changes of it but a report's accepted changes themselves, a schedule and a lockdown. -/
def points (d : Door) := (d.contact, d.bolt, d.egress, d.tamper, d.timeLock, d.lockdown)

/-- The alarm kinds that the operations at a door end. -/
def Ended (k : AlarmKind) : Prop := k = .heldOpen ∨ k = .forced ∨ k = .overdue

/-- An operation at the door of one strongroom, which raises at most `n` alarms. -/
structure DoorStep (n : Nat) (r : Room) (s t : State) : Prop where
  loop : t.loop = s.loop
  others : OtherRoomsKept s t r
  list : t.roll.rooms[r].list = s.roll.rooms[r].list
  tick : t.roll.tick = s.roll.tick
  cylinders : t.bank.cylinders = s.bank.cylinders
  reservations : t.bank.reservations = s.bank.reservations
  manifold : t.bank.manifold = s.bank.manifold
  points : points t.doors[r] = points s.doors[r]
  keeps : ∀ k : AlarmKey, ¬Ended k.kind → KeepsAlarm n k s t
  marked : t.roll.rooms[r].unreconciled = true → s.roll.rooms[r].unreconciled = false → s.alarms.records.length + n ≤ 64 →
    Stands t (.forRoom .rollUnreconciled r)

theorem notEnded_unreconciled : ¬Ended (AlarmKey.forRoom .rollUnreconciled r).kind := by simp [Ended, AlarmKey.forRoom]

theorem DoorStep.trans (h : DoorStep n r s t) (h' : DoorStep m r t u) : DoorStep (n + m) r s u where
  loop := h'.loop.trans h.loop
  others j hj :=
    have ⟨doors, ctx, rooms, zones⟩ := h.others j hj
    have ⟨doors', ctx', rooms', zones'⟩ := h'.others j hj
    ⟨doors'.trans doors, ctx'.trans ctx, rooms'.trans rooms, zones'.trans zones⟩
  list := h'.list.trans h.list
  tick := h'.tick.trans h.tick
  cylinders := h'.cylinders.trans h.cylinders
  reservations := h'.reservations.trans h.reservations
  manifold := h'.manifold.trans h.manifold
  points := h'.points.trans h.points
  keeps k other := (h.keeps k other).trans (h'.keeps k other)
  marked after before room := by
    have length := (h.keeps _ (notEnded_unreconciled (r := r))).length
    cases between : t.roll.rooms[r].unreconciled with
    | false => exact h'.marked after between (by omega)
    | true => exact (h'.keeps _ notEnded_unreconciled).stands (by omega) (h.marked between before (by omega))

theorem DoorStep.mono (h : DoorStep n r s t) (le : n ≤ m) : DoorStep m r s t :=
  { h with
    keeps := fun k other => (h.keeps k other).mono le
    marked := fun after before room => h.marked after before (by omega) }

/-- An operation that leaves the roll, the bank and the stations. -/
theorem DoorStep.of_roll (loop : t.loop = s.loop) (others : OtherRoomsKept s t r) (roll : t.roll = s.roll) (bank : t.bank = s.bank)
    (points : DoorSteps.points t.doors[r] = DoorSteps.points s.doors[r])
    (keeps : ∀ k : AlarmKey, ¬Ended k.kind → KeepsAlarm n k s t) : DoorStep n r s t where
  loop := loop
  others := others
  list := by rw [roll]
  tick := by rw [roll]
  cylinders := by rw [bank]
  reservations := by rw [bank]
  manifold := by rw [bank]
  points := points
  keeps := keeps
  marked after before := by
    rw [roll, before] at after
    cases after

theorem DoorStep.refl (r : Room) (s : State) : DoorStep 0 r s s :=
  .of_roll rfl (fun _ _ => ⟨rfl, rfl, rfl, rfl⟩) rfl rfl rfl fun _ _ => .of_eq rfl

theorem setDoor_step (s : State) (h : points d = points s.doors[r]) : DoorStep 0 r s (s.setDoor r d) :=
  .of_roll rfl (setDoor_atRoom s r d).others rfl rfl (by rw [setDoor_own]; exact h) fun _ _ => .of_eq rfl

theorem setZone_step (s : State) (x : Zone) : DoorStep 0 r s (s.setZone r x) :=
  .of_roll rfl (setZone_atRoom s r x).others rfl rfl rfl fun _ _ => .of_eq rfl

theorem dropContext_step (s : State) (r : Room) : DoorStep 0 r s (s.dropContext r) :=
  .of_roll rfl (dropContext_atRoom s r).others rfl rfl rfl fun _ _ => .of_eq rfl

theorem owe_step (s : State) (d : Due) : DoorStep 0 r s (s.owe d) :=
  .of_roll rfl (fun _ _ => ⟨rfl, rfl, rfl, rfl⟩) rfl rfl rfl fun _ _ => .of_eq rfl

theorem alarmGone_step (s : State) {k' : AlarmKey} (ended : Ended k'.kind) : DoorStep 0 r s (s.alarmGone k') :=
  .of_roll rfl (fun _ _ => ⟨rfl, rfl, rfl, rfl⟩) rfl rfl rfl fun _ other =>
    alarmGone_keepsAlarm s fun same => other (same ▸ ended)

theorem raiseAlarm_step (s : State) (k : AlarmKey) : DoorStep 1 r s (s.raiseAlarm k) := by
  have doors : (s.raiseAlarm k).doors = s.doors := by simp
  exact .of_roll (by simp) (raiseAlarm_atRoom s k).others (by simp) (by simp) (by rw [doors]) fun _ _ => raiseAlarm_keepsAlarm s k

theorem resetHeld_step (s : State) (r : Room) (h : HeldTimer) : DoorStep 0 r s (s.resetHeld r h) := by
  have ended : DoorStep 0 r s (s.endExpired r) := by
    unfold State.endExpired
    dsimp only
    split
    · exact (setDoor_step s (by rfl)).trans (alarmGone_step (k' := .forRoom .heldOpen r) _ (.inl rfl))
    · exact .refl r s
  exact ended.trans (setDoor_step _ (by rfl))

theorem reloadHeld_step (s : State) (r : Room) : DoorStep 0 r s (s.reloadHeld r) := by
  unfold State.reloadHeld
  split
  · exact .refl r s
  · exact resetHeld_step s r _

theorem deriveEnvelope_step (s : State) (r : Room) : DoorStep 0 r s (s.deriveEnvelope r) := by
  have set := setDoor_step (r := r) s (d := { s.doors[r] with envelopeClosed := s.doors[r].deriveEnvelope }) rfl
  unfold State.deriveEnvelope
  dsimp only
  split
  · exact set.trans (setZone_step _ _)
  · exact set

/-! ### Hand-on and egress openings -/

theorem retest_keepsAlarm (s : State) (r : Room) (other : k.kind ≠ .overdue) : KeepsAlarm 0 k s (s.retest r) := by
  have one (u : State) (e : Nat) : KeepsAlarm 0 k u (u.retestEntry e) := by
    unfold State.retestEntry
    split
    · exact .of_eq rfl
    · next o _ =>
      split
      · exact .of_eq rfl
      · exact .of_eq rfl
      · exact .of_eq rfl
      · have kind : o.overdueKey.kind = .overdue := rfl
        exact (alarmGone_keepsAlarm (k' := o.overdueKey)
          (u.modEntry e fun x => { x with counter := 0, checkIn := .off, promptDue := false }) (kind ▸ other)).after rfl
  have all (es : List Nat) (u : State) : KeepsAlarm 0 k u (es.foldl State.retestEntry u) := by
    induction es generalizing u with
    | nil => exact .of_eq rfl
    | cons e es ih => exact (one u e).trans (ih _)
  exact all _ s

theorem handOn_step (firm : Firm s.doors[r]) : DoorStep 0 r s (s.handOn r) := by
  obtain ⟨rooms, tick, -⟩ := handOn_sameRoll s r
  obtain ⟨cylinders, reservations, manifold⟩ := handOn_bank s r
  have local_ := handOn_atDoor s r
  have door := local_.outline
  simp only [outline, Prod.mk.injEq] at door
  obtain ⟨timeLock, lockdown, -, contact, bolt, egress, tamper, -, -⟩ := door
  refine ⟨(handOn_stays firm).loop, local_.others, by rw [rooms], tick, cylinders, reservations, manifold, ?_, fun k other => ?_,
    fun after before => ?_⟩
  · simp only [points, contact, bolt, egress, tamper, timeLock, lockdown]
  · have held : k.kind ≠ .heldOpen := fun h => other (.inl h)
    have overdue : k.kind ≠ .overdue := fun h => other (.inr (.inr h))
    exact (rederive_keepsAlarm s r held).trans (retest_keepsAlarm _ r overdue)
  · rw [rooms, before] at after
    cases after

/-- The mark set and its alarm raised (R66). -/
def unreconciling (s : State) (r : Room) : State :=
  (s.setRoom r { s.roll.rooms[r] with unreconciled := true }).raiseAlarm (.forRoom .rollUnreconciled r)

theorem unreconciling_frame (s : State) (r : Room) :
    (unreconciling s r).loop = s.loop ∧ (unreconciling s r).doors = s.doors ∧ (unreconciling s r).bank = s.bank ∧
      (unreconciling s r).roll = { s.roll with rooms := s.roll.rooms.set r { s.roll.rooms[r] with unreconciled := true } } := by
  simp [unreconciling, State.setRoom]

theorem unreconciling_step (s : State) (r : Room) : DoorStep 1 r s (unreconciling s r) := by
  obtain ⟨loop, doors, bank, roll⟩ := unreconciling_frame s r
  have marked := setRoom_atRoom s r { s.roll.rooms[r] with unreconciled := true }
  refine ⟨loop, (marked.trans (raiseAlarm_atRoom _ _)).others, ?_, ?_, ?_, ?_, ?_, ?_, fun k _ => ?_, fun _ _ room => ?_⟩
  · rw [roll, vset_same]
  · rw [roll]
  · rw [bank]
  · rw [bank]
  · rw [bank]
  · rw [doors]
  · exact (raiseAlarm_keepsAlarm (s.setRoom r { s.roll.rooms[r] with unreconciled := true }) _).after rfl
  · have room : (s.setRoom r { s.roll.rooms[r] with unreconciled := true }).alarms.records.length < 64 := by
      show s.alarms.records.length < 64
      omega
    exact raiseAlarm_stands room

theorem egressOpening_step (firm : Firm s.doors[r]) : DoorStep 1 r s (s.egressOpening r) := by
  have marked := unreconciling_step s r
  have still : Firm (unreconciling s r).doors[r] := by
    rw [(unreconciling_frame s r).2.1]
    exact firm
  show DoorStep 1 r s (if s.roll.rooms[r].unreconciled then unreconciling s r else (unreconciling s r).handOn r)
  split
  · exact marked
  · exact marked.trans (handOn_step still)

theorem egressRelease_step (s : State) (r : Room) : DoorStep 0 r s (s.release r .egress) := by
  have reloaded := reloadHeld_step s r
  obtain closed | released | opened | unknown := door_cases s.doors[r]
  · rw [release_closed .egress closed]
    exact setDoor_step s (by rfl)
  · rw [release_released .egress released]
    exact setDoor_step s (by rfl)
  · unfold State.release
    obtain h | h | h := opened
    · simp only [h, if_true]
      exact reloaded.trans (setDoor_step _ (by rfl))
    · simp only [h, if_true]
      exact reloaded.trans (setDoor_step _ (by rfl))
    · simp only [h, if_true]
      exact reloaded.trans (setDoor_step _ (by rfl))
  · rw [release_unknown .egress unknown]
    exact .refl r s

theorem egressPressed_step (s : State) (r : Room) : DoorStep 1 r s (s.egressPressed r) := by
  by_cases h : Opened s.doors[r]
  · rw [egressPressed_opened h]
    exact (egressRelease_step s r).trans (egressOpening_step (release_firm (.inr rfl)))
  · rw [egressPressed_shut h]
    exact (egressRelease_step s r).mono (Nat.zero_le 1)

/-! ### The contact -/

theorem firm_opened (h : d.state = .opened) : Firm d := firm_of_state (.inl h)

theorem contactOpened_step (s : State) (r : Room) : DoorStep 1 r s (s.contactOpened r) := by
  unfold State.contactOpened
  dsimp only
  split
  · split
    · exact (setDoor_step s (by rfl)).trans (egressOpening_step (by rw [setDoor_own]; exact firm_opened (by rfl)))
    · exact (setDoor_step s (by rfl)).mono (Nat.zero_le 1)
  · exact (setDoor_step s (by rfl)).trans (raiseAlarm_step _ _)
  · exact (setDoor_step s (by rfl)).trans (raiseAlarm_step _ _)
  · exact (DoorStep.refl r s).mono (Nat.zero_le 1)

theorem contactClosed_step (s : State) (r : Room) : DoorStep 0 r s (s.contactClosed r) := by
  unfold State.contactClosed
  dsimp only
  split
  · have closed := (setDoor_step (r := r) s
      (d := { s.doors[r] with state := s.doors[r].closedState, heldOpen := .stopped, openCause := none, hold := false }) rfl).trans
        (alarmGone_step (k' := .forRoom .heldOpen r) _ (.inl rfl))
    split
    · exact closed.trans (alarmGone_step (k' := .forRoom .forced r) _ (.inr (.inl rfl)))
    · exact closed
  · exact .refl r s

theorem doorUnknown_step (s : State) (r : Room) (cause : UnknownCause) : DoorStep 0 r s (s.doorUnknown r cause) := by
  have unknown := (setDoor_step (r := r) s
    (d := { s.doors[r] with
      state := .unknown, unknownCause := some cause, releaseKind := none, openCause := none, unlock := none
      heldOpen := .stopped, hold := false }) rfl)
  have quiet := (unknown.trans (alarmGone_step (k' := .forRoom .heldOpen r) _ (.inl rfl))).trans
    (alarmGone_step (k' := .forRoom .forced r) _ (.inr (.inl rfl)))
  exact ((quiet.trans (dropContext_step _ r)).trans (deriveEnvelope_step _ r)).trans (owe_step _ _)

theorem firm_closed (h : d.state = d.closedState) : Firm d := by
  unfold Door.closedState at h
  unfold Firm Door.cancellable
  split at h <;> simp [h]

theorem doorRecovers_step (s : State) (r : Room) : DoorStep 2 r s (s.doorRecovers r) := by
  unfold State.doorRecovers
  dsimp only
  split
  · have closed := setDoor_step (r := r) s (d := { s.doors[r] with unknownCause := none, state := s.doors[r].closedState }) rfl
    split
    · exact (closed.trans (egressOpening_step (by rw [setDoor_own]; exact firm_closed (by rfl)))).mono (by decide)
    · exact closed.mono (by decide)
  · split
    · exact ((setDoor_step s (by rfl)).trans (egressOpening_step (by rw [setDoor_own]; exact firm_opened (by rfl)))).mono (by decide)
    · have forced := (setDoor_step (r := r) s
        (d := { s.doors[r] with unknownCause := none, state := .forced, heldOpen := s.openingTimer r }) rfl).trans
          (raiseAlarm_step (r := r) _ (.forRoom .forced r))
      split
      · refine forced.trans (egressOpening_step ?_)
        have doors (u : State) (k : AlarmKey) : (u.raiseAlarm k).doors = u.doors := by simp
        have own : ((s.setDoor r { s.doors[r] with unknownCause := none, state := .forced, heldOpen := s.openingTimer r }).raiseAlarm
            (.forRoom .forced r)).doors[r] =
              { s.doors[r] with unknownCause := none, state := .forced, heldOpen := s.openingTimer r } :=
          (congrArg (fun v : Vector Door 16 => v[r]) (doors _ _)).trans (setDoor_own ..)
        rw [own]
        exact firm_of_state (.inr (.inl rfl))
      · exact forced.mono (by decide)

theorem contactChanged_step (s : State) (r : Room) (c : PointState) : DoorStep 1 r s (s.contactChanged r c) := by
  cases c with
  | active => exact contactOpened_step s r
  | normal => exact (contactClosed_step s r).mono (Nat.zero_le 1)
  | openFault => exact (doorUnknown_step s r .lost).mono (Nat.zero_le 1)
  | shortFault => exact (doorUnknown_step s r .lost).mono (Nat.zero_le 1)

end Sys2Proof.Proofs.DoorSteps
end

section
/-! PROOFS. The door's record after its unit's points (R76 to R79, R82, R83, R92, R93): the push, the contact, the loss and the recovery, each
by the state of the door. -/
namespace Sys2Proof.Proofs.DoorRecords

open Sys2Proof Sys2Proof.Machine Sys2Proof.Safety Sys2Proof.Laws
open Sys2Proof.Proofs.OneRoom Sys2Proof.Proofs.ZoneMoves Sys2Proof.Proofs.DoorRequests Sys2Proof.Proofs.Conditions
open Sys2Proof.Proofs.ExitsAndEgress Sys2Proof.Proofs.Exits Sys2Proof.Proofs.PointReports Sys2Proof.Proofs.DoorSteps

variable {s t u : State} {r : Room} {d : Door} {ch : DoorChanges}

/-- The door is closed and not released. -/
def Closed (d : Door) : Prop := d.state = .secured ∨ d.state = .timeLocked

/-- The door has been lost while its strongroom was occupied (R93). -/
def LostInside (s : State) (r : Room) : Prop := s.doors[r].unknownCause = some .lost ∧ 0 < s.headCount r

/-! ### The contact of a known door -/

theorem openingTimer_free (h : s.doors[r].hold = false) : s.openingTimer r = .running s.sup.profiles[r].heldOpen := by
  rw [State.openingTimer, h, if_neg Bool.false_ne_true]

/-- An egress opening of a door whose held-open timer has just been set as for an opening keeps that timer unless it is held. -/
theorem egressOpening_timer (firm : Firm s.doors[r]) (loaded : s.doors[r].heldOpen = .running s.sup.profiles[r].heldOpen) :
    (s.egressOpening r).doors[r].heldOpen = .running s.sup.profiles[r].heldOpen := (egressOpening_stays firm).1.timer loaded

/-- The record of a released door whose contact opens, before its strongroom is marked (R78). -/
def openedBy (s : State) (r : Room) : Door :=
  { s.doors[r] with
    state := .opened, openCause := s.doors[r].releaseKind.map ReleaseKind.cause, releaseKind := none, unlock := none
    heldOpen := s.openingTimer r }

theorem contactOpened_released (h : s.doors[r].state = .released) :
    s.contactOpened r =
      if s.doors[r].releaseKind = some .egress then (s.setDoor r (openedBy s r)).egressOpening r else s.setDoor r (openedBy s r) := by
  unfold State.contactOpened
  simp only [h]
  rfl

/-- A released door opens by its release (R78). -/
theorem released_opens (h : s.doors[r].state = .released) :
    (s.contactOpened r).doors[r].state = .opened ∧ (s.contactOpened r).doors[r].releaseKind = none ∧
      (s.contactOpened r).doors[r].unlock = none ∧
      (s.contactOpened r).doors[r].openCause = s.doors[r].releaseKind.map ReleaseKind.cause ∧
      (s.doors[r].hold = false → (s.contactOpened r).doors[r].heldOpen = s.openingTimer r) ∧
      (s.doors[r].releaseKind = some .egress → (s.contactOpened r).roll.rooms[r].unreconciled = true) ∧
      (s.doors[r].releaseKind ≠ some .egress →
        (s.contactOpened r).doors[r].heldOpen = s.openingTimer r ∧ (s.contactOpened r).roll = s.roll) := by
  have own : (s.setDoor r (openedBy s r)).doors[r] = openedBy s r := setDoor_own ..
  rw [contactOpened_released h]
  by_cases egress : s.doors[r].releaseKind = some .egress
  · have firm : Firm (s.setDoor r (openedBy s r)).doors[r] := by
      rw [own]
      exact firm_opened (by rfl)
    obtain ⟨stays, mark⟩ := egressOpening_stays firm
    rw [if_pos egress]
    refine ⟨stays.state.trans ?_, stays.releaseKind.trans ?_, stays.unlock.trans ?_, stays.openCause.trans ?_, fun free => ?_, fun _ => mark,
      fun no => absurd egress no⟩
    · rw [own]
      rfl
    · rw [own]
      rfl
    · rw [own]
      rfl
    · rw [own]
      rfl
    · rw [openingTimer_free free]
      refine stays.timer ?_
      rw [own]
      exact openingTimer_free free
  · rw [if_neg egress, own]
    exact ⟨rfl, rfl, rfl, rfl, fun _ => rfl, fun yes => absurd yes egress, fun _ => ⟨rfl, rfl⟩⟩

/-- A closed door that opens without a release is FORCED (R79). -/
theorem closed_forced (h : Closed s.doors[r]) :
    (s.contactOpened r).doors[r].state = .forced ∧ (s.contactOpened r).doors[r].heldOpen = s.openingTimer r ∧
      (s.contactOpened r).roll = s.roll ∧
      (s.alarms.records.length < 64 → Stands (s.contactOpened r) (.forRoom .forced r)) := by
  let set := s.setDoor r { s.doors[r] with state := .forced, heldOpen := s.openingTimer r }
  have own : set.doors[r] = { s.doors[r] with state := .forced, heldOpen := s.openingTimer r } := setDoor_own ..
  have forced : s.contactOpened r = set.raiseAlarm (.forRoom .forced r) := by
    unfold State.contactOpened
    obtain h | h := h <;> simp only [h] <;> rfl
  have doors : (set.raiseAlarm (.forRoom .forced r)).doors = set.doors := by simp
  have roll : (set.raiseAlarm (.forRoom .forced r)).roll = set.roll := by simp
  rw [forced, doors, roll, own]
  exact ⟨rfl, rfl, rfl, fun room => raiseAlarm_stands (s := set) room⟩

theorem contactOpened_opened (h : Opened s.doors[r]) : s.contactOpened r = s := by
  unfold State.contactOpened
  obtain h | h | h := h <;> simp only [h]

theorem isOpen_iff (d : Door) : d.isOpen = true ↔ Opened d := by
  unfold Opened
  simp only [Door.isOpen]
  cases d.state <;> simp

/-- A door that closes (R80). -/
theorem opened_closes (h : Opened s.doors[r]) :
    (s.contactClosed r).doors[r] =
        { s.doors[r] with state := s.doors[r].closedState, heldOpen := .stopped, openCause := none, hold := false } ∧
      (s.contactClosed r).roll = s.roll ∧ ConditionGone (s.contactClosed r) (.forRoom .heldOpen r) ∧
      (s.doors[r].state = .forced → ConditionGone (s.contactClosed r) (.forRoom .forced r)) := by
  let set := s.setDoor r { s.doors[r] with state := s.doors[r].closedState, heldOpen := .stopped, openCause := none, hold := false }
  have own : set.doors[r] = { s.doors[r] with state := s.doors[r].closedState, heldOpen := .stopped, openCause := none, hold := false } :=
    setDoor_own ..
  have closes : s.contactClosed r =
      if s.doors[r].state = .forced then (set.alarmGone (.forRoom .heldOpen r)).alarmGone (.forRoom .forced r)
      else set.alarmGone (.forRoom .heldOpen r) := by
    unfold State.contactClosed
    exact if_pos ((isOpen_iff _).mpr h)
  have gone := alarmGone_conditionGone set (.forRoom .heldOpen r)
  rw [closes]
  by_cases forced : s.doors[r].state = .forced
  · rw [if_pos forced]
    exact ⟨own, rfl, alarmsGone_keepsGone _ gone, fun _ => alarmGone_conditionGone _ _⟩
  · rw [if_neg forced]
    exact ⟨own, rfl, gone, fun yes => absurd yes forced⟩

theorem contactClosed_shut (h : ¬Opened s.doors[r]) : s.contactClosed r = s := by
  unfold State.contactClosed
  exact if_neg fun isOpen => h ((isOpen_iff _).mp isOpen)

/-! ### A door that becomes UNKNOWN, and its recovery -/

theorem deriveEnvelope_door (s : State) (r : Room) :
    (s.deriveEnvelope r).doors[r] = { s.doors[r] with envelopeClosed := s.doors[r].deriveEnvelope } := by
  unfold State.deriveEnvelope
  dsimp only
  split
  · exact setDoor_own ..
  · exact setDoor_own ..

/-- A door becomes UNKNOWN (R92). -/
theorem doorUnknown_door (s : State) (r : Room) (cause : UnknownCause) :
    ∃ env, (s.doorUnknown r cause).doors[r] =
        { s.doors[r] with
          state := .unknown, unknownCause := some cause, releaseKind := none, openCause := none, unlock := none
          heldOpen := .stopped, hold := false, envelopeClosed := env } := by
  let set := s.setDoor r
    { s.doors[r] with
      state := .unknown, unknownCause := some cause, releaseKind := none, openCause := none, unlock := none
      heldOpen := .stopped, hold := false }
  let quiet := ((set.alarmGone (.forRoom .heldOpen r)).alarmGone (.forRoom .forced r)).dropContext r
  have own : quiet.doors[r] =
      { s.doors[r] with
        state := .unknown, unknownCause := some cause, releaseKind := none, openCause := none, unlock := none
        heldOpen := .stopped, hold := false } := setDoor_own ..
  refine ⟨quiet.doors[r].deriveEnvelope, ?_⟩
  show (quiet.deriveEnvelope r).doors[r] = _
  rw [deriveEnvelope_door, own]

theorem doorUnknown_gone (s : State) (r : Room) (cause : UnknownCause) :
    (s.doorUnknown r cause).ctx[r] = .empty ∧ ConditionGone (s.doorUnknown r cause) (.forRoom .heldOpen r) ∧
      ConditionGone (s.doorUnknown r cause) (.forRoom .forced r) := by
  let set := s.setDoor r
    { s.doors[r] with
      state := .unknown, unknownCause := some cause, releaseKind := none, openCause := none, unlock := none
      heldOpen := .stopped, hold := false }
  let quiet := (set.alarmGone (.forRoom .heldOpen r)).alarmGone (.forRoom .forced r)
  have ctx : (s.doorUnknown r cause).ctx = (quiet.dropContext r).ctx := by
    show ((quiet.dropContext r).deriveEnvelope r).ctx = _
    simp
  have alarms : (s.doorUnknown r cause).alarms = quiet.alarms := by
    show ((quiet.dropContext r).deriveEnvelope r).alarms = _
    simp [State.dropContext]
  have gone := alarmGone_conditionGone set (.forRoom .heldOpen r)
  refine ⟨?_, conditionGone_of_eq alarms (alarmsGone_keepsGone _ gone), conditionGone_of_eq alarms (alarmGone_conditionGone _ _)⟩
  rw [ctx]
  exact vset_same _ _ _

/-- An egress opening where the door was lost over an occupied strongroom (R93). -/
theorem recovered_roll {p : Prop} [Decidable p] (firm : Firm s.doors[r]) :
    (p → (if p then s.egressOpening r else s).roll.rooms[r].unreconciled = true) ∧
      (¬p → (if p then s.egressOpening r else s).roll = s.roll) ∧ Stays r s (if p then s.egressOpening r else s) := by
  obtain ⟨stays, mark⟩ := egressOpening_stays firm
  by_cases h : p
  · rw [if_pos h]
    exact ⟨fun _ => mark, fun no => absurd h no, stays⟩
  · rw [if_neg h]
    exact ⟨fun yes => absurd yes h, fun _ => rfl, .of_eq rfl rfl rfl⟩

/-- An egress opening ends no FORCED. -/
theorem egressOpening_keepsForced (room : s.alarms.records.length < 64) (stands : Stands s (.forRoom .forced r)) :
    Stands (s.egressOpening r) (.forRoom .forced r) := by
  have raised : KeepsAlarm 1 (.forRoom .forced r) s (unreconciling s r) :=
    (raiseAlarm_keepsAlarm (s.setRoom r { s.roll.rooms[r] with unreconciled := true }) _).after rfl
  have handed : KeepsAlarm 1 (.forRoom .forced r) s ((unreconciling s r).handOn r) :=
    (raised.trans (rederive_keepsAlarm _ r (by simp [AlarmKey.forRoom]))).trans (retest_keepsAlarm _ r (by simp [AlarmKey.forRoom]))
  show Stands (if s.roll.rooms[r].unreconciled then unreconciling s r else (unreconciling s r).handOn r) _
  split
  · exact raised.stands (by omega) stands
  · exact handed.stands (by omega) stands

theorem egressOpening_outline (s : State) (r : Room) : outline (s.egressOpening r).doors[r] = outline s.doors[r] := by
  have doors : (unreconciling s r).doors = s.doors := (unreconciling_frame s r).2.1
  have marked : outline (unreconciling s r).doors[r] = outline s.doors[r] := by rw [doors]
  show outline (if s.roll.rooms[r].unreconciled then unreconciling s r else (unreconciling s r).handOn r).doors[r] = _
  split
  · exact marked
  · exact (RollRequests.handOn_atDoor (unreconciling s r) r).outline.trans marked

theorem recovered_cause {p : Prop} [Decidable p] :
    (if p then s.egressOpening r else s).doors[r].unknownCause = s.doors[r].unknownCause := by
  split
  · have kept := egressOpening_outline s r
    simp only [outline, Prod.mk.injEq] at kept
    exact kept.2.2.2.2.2.2.2.1
  · rfl

/-- What the recovery of a door leaves on the roll, where the door was lost over an occupied strongroom and where not (R93). -/
def MarkedIfLost (s t : State) (r : Room) : Prop :=
  (LostInside s r → t.roll.rooms[r].unreconciled = true) ∧ (¬LostInside s r → t.roll = s.roll)

/-- The door is closed: it is SECURED or TIME_LOCKED again (R93). -/
theorem recovers_closed (contact : s.doors[r].contact = some .normal) :
    (s.doorRecovers r).doors[r].state = s.doors[r].closedState ∧ (s.doorRecovers r).doors[r].unknownCause = none ∧
      MarkedIfLost s (s.doorRecovers r) r := by
  let set := s.setDoor r { s.doors[r] with unknownCause := none, state := s.doors[r].closedState }
  have own : set.doors[r] = { s.doors[r] with unknownCause := none, state := s.doors[r].closedState } := setDoor_own ..
  have recovers : s.doorRecovers r = if s.doors[r].unknownCause = some .lost ∧ 0 < s.headCount r then set.egressOpening r else set := by
    unfold State.doorRecovers
    exact if_pos contact
  obtain ⟨marks, leaves, stays⟩ := recovered_roll (s := set) (r := r)
    (p := s.doors[r].unknownCause = some .lost ∧ 0 < s.headCount r) (by rw [own]; exact firm_closed (by rfl))
  have cause := recovered_cause (s := set) (r := r) (p := s.doors[r].unknownCause = some .lost ∧ 0 < s.headCount r)
  rw [recovers]
  refine ⟨stays.state.trans ?_, cause.trans ?_, marks, leaves⟩
  · rw [own]
  · rw [own]

/-- The door is open with its push pressed: an egress opening (R93). -/
theorem recovers_pushed (contact : s.doors[r].contact ≠ some .normal) (egress : s.doors[r].egress = some .active) :
    (s.doorRecovers r).doors[r].state = .opened ∧ (s.doorRecovers r).doors[r].unknownCause = none ∧
      (s.doorRecovers r).doors[r].openCause = some .egress ∧ (s.doorRecovers r).roll.rooms[r].unreconciled = true := by
  let set := s.setDoor r
    { s.doors[r] with unknownCause := none, state := .opened, openCause := some .egress, heldOpen := s.openingTimer r }
  have own : set.doors[r] =
      { s.doors[r] with unknownCause := none, state := .opened, openCause := some .egress, heldOpen := s.openingTimer r } :=
    setDoor_own ..
  have recovers : s.doorRecovers r = if True then set.egressOpening r else set := by
    unfold State.doorRecovers
    exact (if_neg contact).trans (if_pos egress)
  obtain ⟨marks, -, stays⟩ := recovered_roll (s := set) (r := r) (p := True) (by rw [own]; exact firm_opened (by rfl))
  have cause := recovered_cause (s := set) (r := r) (p := True)
  rw [recovers]
  refine ⟨stays.state.trans ?_, cause.trans ?_, stays.openCause.trans ?_, marks trivial⟩
  · rw [own]
  · rw [own]
  · rw [own]

/-- The door is open and its push is not pressed: FORCED (R93). -/
theorem recovers_forced (contact : s.doors[r].contact ≠ some .normal) (egress : s.doors[r].egress ≠ some .active) :
    (s.doorRecovers r).doors[r].state = .forced ∧ (s.doorRecovers r).doors[r].unknownCause = none ∧
      (s.alarms.records.length < 63 → Stands (s.doorRecovers r) (.forRoom .forced r)) ∧ MarkedIfLost s (s.doorRecovers r) r := by
  let forced := (s.setDoor r { s.doors[r] with unknownCause := none, state := .forced, heldOpen := s.openingTimer r }).raiseAlarm
    (.forRoom .forced r)
  have own : forced.doors[r] = { s.doors[r] with unknownCause := none, state := .forced, heldOpen := s.openingTimer r } := by
    have doors (u : State) (k : AlarmKey) : (u.raiseAlarm k).doors = u.doors := by simp
    exact (congrArg (fun v : Vector Door 16 => v[r]) (doors _ _)).trans (setDoor_own ..)
  have roll : forced.roll = s.roll := by simp [forced]
  have recovers : s.doorRecovers r =
      if s.doors[r].unknownCause = some .lost ∧ 0 < s.headCount r then forced.egressOpening r else forced := by
    unfold State.doorRecovers
    exact (if_neg contact).trans (if_neg egress)
  have firm : Firm forced.doors[r] := by
    rw [own]
    exact firm_of_state (.inr (.inl rfl))
  obtain ⟨marks, leaves, stays⟩ := recovered_roll (s := forced) (r := r)
    (p := s.doors[r].unknownCause = some .lost ∧ 0 < s.headCount r) firm
  have cause := recovered_cause (s := forced) (r := r) (p := s.doors[r].unknownCause = some .lost ∧ 0 < s.headCount r)
  rw [recovers]
  refine ⟨stays.state.trans ?_, cause.trans ?_, fun room => ?_, marks, fun no => (leaves no).trans roll⟩
  · rw [own]
  · rw [own]
  · have stands : Stands forced (.forRoom .forced r) :=
      raiseAlarm_stands (s := s.setDoor r { s.doors[r] with unknownCause := none, state := .forced, heldOpen := s.openingTimer r })
        (by show s.alarms.records.length < 64; omega)
    have length : forced.alarms.records.length ≤ s.alarms.records.length + 1 := raiseAlarm_length _ _
    split
    · exact egressOpening_keepsForced (by omega) stands
    · exact stands

end Sys2Proof.Proofs.DoorRecords
end

section
/-! PROOFS. What the accepted changes of a door unit's points make of the door's state (R76): the push before the contact. -/
namespace Sys2Proof.Proofs.DoorFollows

open Sys2Proof Sys2Proof.Machine Sys2Proof.Safety Sys2Proof.Laws
open Sys2Proof.Proofs.OneRoom Sys2Proof.Proofs.ZoneMoves Sys2Proof.Proofs.DoorRequests Sys2Proof.Proofs.Conditions
open Sys2Proof.Proofs.ExitsAndEgress Sys2Proof.Proofs.Exits Sys2Proof.Proofs.PointReports Sys2Proof.Proofs.DoorSteps
open Sys2Proof.Proofs.DoorRecords

variable {s t u : State} {r : Room} {d : Door} {ch : DoorChanges} {c : PointState}

/-- The egress push has become pressed. -/
def Pressed (ch : DoorChanges) : Prop := ch.egress = some .active

/-- A push withdraws a cancel that waits (R83). -/
def withdrawn (s : State) (r : Room) (ch : DoorChanges) : State := if ch.egress = some .active then s.dropCancel r else s

/-- A known door after the push (R83). -/
def pushed (s : State) (r : Room) (ch : DoorChanges) : State :=
  if ch.egress = some .active then (withdrawn s r ch).egressPressed r else withdrawn s r ch

theorem withdrawn_frame (s : State) (r : Room) (ch : DoorChanges) :
    (withdrawn s r ch).doors = s.doors ∧ (withdrawn s r ch).roll = s.roll ∧ (withdrawn s r ch).sup = s.sup ∧
      (withdrawn s r ch).alarms = s.alarms ∧ (withdrawn s r ch).zones = s.zones ∧ (withdrawn s r ch).bank = s.bank ∧
      (withdrawn s r ch).ctx = s.ctx ∧ (withdrawn s r ch).bt = s.bt ∧ (withdrawn s r ch).clk = s.clk := by
  unfold withdrawn
  split <;> simp

theorem withdrawn_still (h : ¬Pressed ch) : withdrawn s r ch = s := if_neg h

theorem pushed_still (h : ¬Pressed ch) : pushed s r ch = s := (if_neg h).trans (if_neg h)

theorem pushed_pressed (h : Pressed ch) : pushed s r ch = (withdrawn s r ch).egressPressed r := if_pos h

/-- A closed or released door after the push is released with kind Egress (R77). -/
theorem pushed_released (h : Pressed ch) (st : Closed s.doors[r] ∨ s.doors[r].state = .released) :
    (pushed s r ch).doors[r] =
        { s.doors[r] with state := .released, releaseKind := some .egress, unlock := some s.sup.profiles[r].unlock } ∧
      (pushed s r ch).roll = s.roll ∧ (pushed s r ch).sup = s.sup := by
  obtain ⟨doors, roll, sup, -⟩ := withdrawn_frame s r ch
  obtain ⟨set, kept⟩ := egress_released (s := withdrawn s r ch) (r := r) (by rw [doors]; exact or_assoc.mp st)
  rw [pushed_pressed h]
  refine ⟨?_, kept.trans roll, ?_⟩
  · rw [set, vset_same, doors, sup]
  · simpa using sup

/-- An open door after the push (R77, R83). -/
theorem pushed_opened (h : Pressed ch) (st : Opened s.doors[r]) :
    (pushed s r ch).doors[r].state = (if s.doors[r].state = .forced then .forced else .opened) ∧
      (pushed s r ch).doors[r].openCause = some .egress ∧ (pushed s r ch).roll.rooms[r].unreconciled = true ∧
      (pushed s r ch).doors[r].timeLock = s.doors[r].timeLock := by
  obtain ⟨doors, -⟩ := withdrawn_frame s r ch
  obtain ⟨state, cause, mark, -⟩ := egress_opened (s := withdrawn s r ch) (r := r) (by rw [doors]; exact st)
  have kept := (egressPressed_step (withdrawn s r ch) r).points
  simp only [points, Prod.mk.injEq, doors] at kept state
  rw [pushed_pressed h]
  exact ⟨state, cause, mark, kept.2.2.2.2.1⟩

theorem opened_after (h : d.state = if t.doors[r].state = .forced then .forced else .opened) : Opened d := by
  unfold Opened
  rw [h]
  split <;> simp

/-! ### The cases of the event -/

theorem follows_none (known : s.doors[r].state ≠ .unknown) (contact : ch.contact = none) : s.doorFollows r ch = pushed s r ch := by
  have doors := (withdrawn_frame s r ch).1
  have known' : (withdrawn s r ch).doors[r].state ≠ .unknown := by rw [doors]; exact known
  unfold State.doorFollows
  refine (if_neg known').trans ?_
  rw [contact]
  rfl

theorem follows_some (known : s.doors[r].state ≠ .unknown) (contact : ch.contact = some c) :
    s.doorFollows r ch = (pushed s r ch).contactChanged r c := by
  have doors := (withdrawn_frame s r ch).1
  have known' : (withdrawn s r ch).doors[r].state ≠ .unknown := by rw [doors]; exact known
  unfold State.doorFollows
  refine (if_neg known').trans ?_
  rw [contact]
  rfl

theorem follows_unknown_none (unknown : s.doors[r].state = .unknown) (contact : ch.contact = none) :
    s.doorFollows r ch = withdrawn s r ch := by
  have doors := (withdrawn_frame s r ch).1
  have unknown' : (withdrawn s r ch).doors[r].state = .unknown := by rw [doors]; exact unknown
  unfold State.doorFollows
  refine (if_pos unknown').trans ?_
  rw [contact]
  rfl

theorem follows_recovers (unknown : s.doors[r].state = .unknown) (contact : ch.contact = some .normal ∨ ch.contact = some .active) :
    s.doorFollows r ch = (withdrawn s r ch).doorRecovers r := by
  have doors := (withdrawn_frame s r ch).1
  have unknown' : (withdrawn s r ch).doors[r].state = .unknown := by rw [doors]; exact unknown
  unfold State.doorFollows
  refine (if_pos unknown').trans ?_
  obtain contact | contact := contact <;> rw [contact] <;> rfl

/-- A fault of the contact loses the door, known or not (R92). -/
theorem follows_lost (contact : Faulty ch.contact) :
    ∃ v : State, s.doorFollows r ch = v.doorUnknown r .lost := by
  have doors := (withdrawn_frame s r ch).1
  by_cases unknown : s.doors[r].state = .unknown
  · have unknown' : (withdrawn s r ch).doors[r].state = .unknown := by rw [doors]; exact unknown
    refine ⟨withdrawn s r ch, ?_⟩
    unfold State.doorFollows
    refine (if_pos unknown').trans ?_
    obtain contact | contact := contact <;> rw [contact] <;> rfl
  · obtain contact | contact := contact
    · exact ⟨_, follows_some unknown contact⟩
    · exact ⟨_, follows_some unknown contact⟩

/-- The event is one of steps at the door, after the withdrawn cancel. -/
theorem doorFollows_step (s : State) (r : Room) (ch : DoorChanges) : DoorStep 2 r (withdrawn s r ch) (s.doorFollows r ch) := by
  have same : DoorStep 0 r (withdrawn s r ch) (withdrawn s r ch) := .refl r _
  have push : DoorStep 1 r (withdrawn s r ch) (pushed s r ch) := by
    by_cases h : Pressed ch
    · rw [pushed_pressed h]
      exact egressPressed_step _ r
    · rw [pushed_still h, withdrawn_still h]
      exact (DoorStep.refl r s).mono (Nat.zero_le 1)
  by_cases unknown : s.doors[r].state = .unknown
  · cases contact : ch.contact with
    | none =>
      rw [follows_unknown_none unknown contact]
      exact same.mono (by decide)
    | some c =>
      by_cases recovers : c = .normal ∨ c = .active
      · rw [follows_recovers unknown (by rw [contact]; exact recovers.imp (congrArg some) (congrArg some))]
        exact doorRecovers_step _ r
      · have lost : s.doorFollows r ch = (withdrawn s r ch).doorUnknown r .lost := by
          have unknown' : (withdrawn s r ch).doors[r].state = .unknown := by rw [(withdrawn_frame s r ch).1]; exact unknown
          unfold State.doorFollows
          refine (if_pos unknown').trans ?_
          rw [contact]
          cases c with
          | normal => exact absurd (.inl rfl) recovers
          | active => exact absurd (.inr rfl) recovers
          | openFault => rfl
          | shortFault => rfl
        rw [lost]
        exact (doorUnknown_step _ r .lost).mono (by decide)
  · cases contact : ch.contact with
    | none =>
      rw [follows_none unknown contact]
      exact push.mono (by decide)
    | some c =>
      rw [follows_some unknown contact]
      exact push.trans (contactChanged_step _ r c)

/-! ### The clauses of a known door -/

theorem known_of_closed (h : Closed d ∨ d.state = .released ∨ Opened d) : d.state ≠ .unknown := by
  unfold Closed Opened at h
  intro unknown
  simp [unknown] at h

/-- The contact opens on a door that is released, or released by the push (R78). -/
theorem follows_opens (contact : ch.contact = some .active)
    (st : s.doors[r].state = .released ∨ Closed s.doors[r] ∧ Pressed ch) :
    (s.doorFollows r ch).doors[r].state = .opened ∧ (s.doorFollows r ch).doors[r].releaseKind = none ∧
      (s.doorFollows r ch).doors[r].unlock = none ∧
      (s.doors[r].hold = false → (s.doorFollows r ch).doors[r].heldOpen = s.openingTimer r) ∧
      (Pressed ch ∨ s.doors[r].state = .released ∧ s.doors[r].releaseKind = some .egress →
        (s.doorFollows r ch).doors[r].openCause = some .egress ∧ (s.doorFollows r ch).roll.rooms[r].unreconciled = true) ∧
      (∀ k, ¬Pressed ch → s.doors[r].releaseKind = some k → k ≠ .egress →
        (s.doorFollows r ch).doors[r].openCause = some k.cause ∧ (s.doorFollows r ch).doors[r].heldOpen = s.openingTimer r ∧
          (s.doorFollows r ch).roll = s.roll) := by
  have known : s.doors[r].state ≠ .unknown := by
    obtain st | ⟨st, -⟩ := st
    · rw [st]
      nofun
    · exact known_of_closed (.inl st)
  have opens : s.doorFollows r ch = (pushed s r ch).contactOpened r := follows_some known contact
  rw [opens]
  by_cases h : Pressed ch
  · have shut : Closed s.doors[r] ∨ s.doors[r].state = .released := st.symm.imp And.left id
    obtain ⟨door, roll, sup⟩ := pushed_released h shut
    obtain ⟨state, kind, unlock, cause, timer, egress, -⟩ := released_opens (s := pushed s r ch) (r := r) (by rw [door])
    have same : (pushed s r ch).openingTimer r = s.openingTimer r := by
      unfold State.openingTimer
      rw [door, sup]
    rw [door, same] at timer
    rw [door] at cause egress
    exact ⟨state, kind, unlock, timer, fun _ => ⟨cause, egress rfl⟩, fun _ no => absurd h no⟩
  · have released := st.resolve_right fun both => h both.2
    rw [pushed_still h]
    obtain ⟨state, kind, unlock, cause, timer, egress, other⟩ := released_opens (s := s) (r := r) released
    refine ⟨state, kind, unlock, timer, fun opening => ?_, fun k _ hk no => ?_⟩
    · have isEgress := (opening.resolve_left h).2
      rw [isEgress] at cause
      exact ⟨cause, egress isEgress⟩
    · rw [hk] at cause other
      exact ⟨cause, other fun same => no (Option.some.inj same)⟩

theorem follows_forced (contact : ch.contact = some .active) (st : Closed s.doors[r]) (h : ¬Pressed ch) :
    (s.doorFollows r ch).doors[r].state = .forced ∧ (s.doorFollows r ch).doors[r].heldOpen = s.openingTimer r ∧
      (s.doorFollows r ch).roll = s.roll ∧
      (s.alarms.records.length < 64 → Stands (s.doorFollows r ch) (.forRoom .forced r)) := by
  have forced : s.doorFollows r ch = s.contactOpened r := by
    rw [follows_some (known_of_closed (.inl st)) contact, pushed_still h]
    rfl
  rw [forced]
  exact closed_forced st

/-- An open door that reports open, and a closed door that reports closed, stay (R78, R80). -/
theorem follows_same (h : ¬Pressed ch)
    (st : ch.contact = some .active ∧ Opened s.doors[r] ∨
      ch.contact = some .normal ∧ (Closed s.doors[r] ∨ s.doors[r].state = .released)) : s.doorFollows r ch = s := by
  obtain ⟨contact, st⟩ | ⟨contact, st⟩ := st
  · rw [follows_some (known_of_closed (.inr (.inr st))) contact, pushed_still h]
    exact contactOpened_opened st
  · have shut : ¬Opened s.doors[r] := by
      unfold Closed at st
      unfold Opened
      obtain (st | st) | st := st <;> rw [st] <;> simp
    rw [follows_some (known_of_closed (st.imp_right .inl)) contact, pushed_still h]
    exact contactClosed_shut shut

/-- The contact closes on an open door (R80). -/
theorem follows_closes (contact : ch.contact = some .normal) (st : Opened s.doors[r]) :
    (s.doorFollows r ch).doors[r].state = s.doors[r].closedState ∧ (s.doorFollows r ch).doors[r].heldOpen = .stopped ∧
      (s.doorFollows r ch).doors[r].openCause = none ∧ (s.doorFollows r ch).doors[r].hold = false ∧
      ConditionGone (s.doorFollows r ch) (.forRoom .heldOpen r) ∧
      (s.doors[r].state = .forced → ConditionGone (s.doorFollows r ch) (.forRoom .forced r)) ∧
      (Pressed ch → (s.doorFollows r ch).roll.rooms[r].unreconciled = true) ∧
      (¬Pressed ch → (s.doorFollows r ch).roll = s.roll) := by
  have closes : s.doorFollows r ch = (pushed s r ch).contactClosed r := follows_some (known_of_closed (.inr (.inr st))) contact
  obtain ⟨opened, forced, lock, mark⟩ : Opened (pushed s r ch).doors[r] ∧
      (s.doors[r].state = .forced → (pushed s r ch).doors[r].state = .forced) ∧
      (pushed s r ch).doors[r].timeLock = s.doors[r].timeLock ∧
      (Pressed ch → (pushed s r ch).roll.rooms[r].unreconciled = true) := by
    by_cases h : Pressed ch
    · obtain ⟨state, -, mark, lock⟩ := pushed_opened h st
      exact ⟨opened_after state, fun forced => state.trans (if_pos forced), lock, fun _ => mark⟩
    · rw [pushed_still h]
      exact ⟨st, id, rfl, fun yes => absurd yes h⟩
  obtain ⟨door, roll, held, gone⟩ := opened_closes opened
  rw [closes]
  refine ⟨?_, ?_, ?_, ?_, held, fun was => gone (forced was), fun yes => ?_, fun no => ?_⟩
  · rw [door]
    simp only [Door.closedState, lock]
  · rw [door]
  · rw [door]
  · rw [door]
  · rw [roll]
    exact mark yes
  · rw [roll, pushed_still no]

/-- A push alone on an open door (R83). -/
theorem follows_pushed (contact : ch.contact = none) (h : Pressed ch) (st : Opened s.doors[r]) :
    (s.doorFollows r ch).doors[r].state = (if s.doors[r].state = .forced then .forced else .opened) ∧
      (s.doorFollows r ch).doors[r].openCause = some .egress ∧ (s.doorFollows r ch).roll.rooms[r].unreconciled = true := by
  rw [follows_none (known_of_closed (.inr (.inr st))) contact]
  obtain ⟨state, cause, mark, -⟩ := pushed_opened h st
  exact ⟨state, cause, mark⟩

theorem follows_released (contact : ch.contact = none) (h : Pressed ch) (st : Closed s.doors[r] ∨ s.doors[r].state = .released) :
    (s.doorFollows r ch).doors[r] =
        { s.doors[r] with state := .released, releaseKind := some .egress, unlock := some s.sup.profiles[r].unlock } ∧
      (s.doorFollows r ch).roll = s.roll := by
  rw [follows_none (known_of_closed (st.imp_right .inl)) contact]
  obtain ⟨door, roll, -⟩ := pushed_released h st
  exact ⟨door, roll⟩

/-- Without a change of the contact and a push the door stays. -/
theorem follows_nothing (contact : ch.contact = none) (h : ¬Pressed ch) : s.doorFollows r ch = s := by
  by_cases unknown : s.doors[r].state = .unknown
  · rw [follows_unknown_none unknown contact, withdrawn_still h]
  · rw [follows_none unknown contact, pushed_still h]

end Sys2Proof.Proofs.DoorFollows
end

section
/-! PROOFS. REPORTS OF A DOOR UNIT (R76 to R83, R92, R93): the tamper point, the push and the contact as one event of the report. -/
namespace Sys2Proof.Proofs.DoorReports

open Sys2Proof Sys2Proof.Machine Sys2Proof.Safety Sys2Proof.Laws
open Sys2Proof.Proofs.Evaluation Sys2Proof.Proofs.OneRoom Sys2Proof.Proofs.ZoneMoves Sys2Proof.Proofs.DoorRequests
open Sys2Proof.Proofs.Conditions Sys2Proof.Proofs.Exits Sys2Proof.Proofs.PointReports Sys2Proof.Proofs.DoorSteps
open Sys2Proof.Proofs.DoorRecords Sys2Proof.Proofs.DoorFollows
open Sys2Proof.Proofs.Persistence (replied withoutCommands dropCancel_withoutCommands station_withoutCommands)
open Sys2Proof.Proofs.Reports (heardFrom)
open Sys2Proof.Proofs.DischargeSequence (setStation_own)

variable {s t u v p : State} {a : Addr} {r : Room} {line : List Bool} {states : List PointState} {ch : DoorChanges} {d : Door}
  {k : AlarmKey}

/-! ### The points and the tamper -/

/-- The accepted changes of a door unit's four points. -/
def doorChanges (cs : List (Option PointState)) : DoorChanges := ⟨cs.getD 0 none, cs.getD 1 none, cs.getD 2 none, cs.getD 3 none⟩

/-- The door with its points as the report leaves them. -/
def merged (d : Door) (ch : DoorChanges) : Door :=
  { d with
    contact := ch.contact <|> d.contact, bolt := ch.bolt <|> d.bolt, egress := ch.egress <|> d.egress
    tamper := ch.tamper <|> d.tamper }

/-- The points taken, and the tamper point's alarm (R76). -/
def tampered (s : State) (a : Addr) (r : Room) (ch : DoorChanges) : State :=
  match ch.tamper with
  | none => s.setDoor r (merged s.doors[r] ch)
  | some p => (s.setDoor r (merged s.doors[r] ch)).tamperChanged a s.doors[r].tamper p

theorem doorPoints_eq (s : State) (a : Addr) (r : Room) (ch : DoorChanges) :
    s.doorPoints a r ch = ((tampered s a r ch).doorFollows r ch).deriveEnvelope r := rfl

theorem tamperChanged_eq (s : State) (a : Addr) (old : Option PointState) (p : PointState) :
    ∃ A e, s.tamperChanged a old p = { s with alarms := A, due := e } := by
  have raised : ∃ A e, s.raiseAlarm (.forPoint (num a) 4) = { s with alarms := A, due := e } :=
    ⟨_, _, BearerRequests.raiseAlarm_acts (s := s) _ rfl rfl⟩
  unfold State.tamperChanged
  dsimp only
  split
  · exact ⟨_, _, rfl⟩
  · exact raised
  · split
    · exact raised
    · exact ⟨s.alarms, s.due, rfl⟩
  · split
    · exact raised
    · exact ⟨s.alarms, s.due, rfl⟩

theorem tampered_eq (s : State) (a : Addr) (r : Room) (ch : DoorChanges) :
    ∃ A e, tampered s a r ch = { s.setDoor r (merged s.doors[r] ch) with alarms := A, due := e } := by
  unfold tampered
  split
  · exact ⟨_, _, rfl⟩
  · exact tamperChanged_eq _ a _ _

theorem tampered_door (s : State) (a : Addr) (r : Room) (ch : DoorChanges) : (tampered s a r ch).doors[r] = merged s.doors[r] ch := by
  obtain ⟨A, e, h⟩ := tampered_eq s a r ch
  rw [h]
  exact setDoor_own ..

theorem tampered_frame (s : State) (a : Addr) (r : Room) (ch : DoorChanges) :
    (tampered s a r ch).loop = s.loop ∧ (tampered s a r ch).roll = s.roll ∧ (tampered s a r ch).sup = s.sup ∧
      (tampered s a r ch).zones = s.zones ∧ (tampered s a r ch).bank = s.bank ∧ (tampered s a r ch).ctx = s.ctx ∧
      (tampered s a r ch).bt = s.bt ∧ (tampered s a r ch).clk = s.clk ∧ (tampered s a r ch).lines = s.lines ∧
      (tampered s a r ch).p2 = s.p2 ∧ OtherRoomsKept s (tampered s a r ch) r := by
  obtain ⟨A, e, h⟩ := tampered_eq s a r ch
  rw [h]
  exact ⟨rfl, rfl, rfl, rfl, rfl, rfl, rfl, rfl, rfl, rfl, (setDoor_atRoom s r _).others⟩

/-- The tamper point's alarm leaves every other. -/
theorem tampered_keepsAlarm (s : State) (a : Addr) (r : Room) (ch : DoorChanges) (other : k ≠ .forPoint (num a) 4) :
    KeepsAlarm 1 k s (tampered s a r ch) := by
  have set : KeepsAlarm 0 k s (s.setDoor r (merged s.doors[r] ch)) := .of_eq rfl
  have same : KeepsAlarm 1 k s (s.setDoor r (merged s.doors[r] ch)) := set.mono (Nat.zero_le 1)
  have gone : KeepsAlarm 0 k (s.setDoor r (merged s.doors[r] ch)) ((s.setDoor r (merged s.doors[r] ch)).alarmGone (.forPoint (num a) 4)) :=
    alarmsGone_keepsAlarm _ _ (by simpa using other)
  have raised : KeepsAlarm 1 k s ((s.setDoor r (merged s.doors[r] ch)).raiseAlarm (.forPoint (num a) 4)) :=
    (raiseAlarm_keepsAlarm (s.setDoor r (merged s.doors[r] ch)) _).after rfl
  unfold tampered
  split
  · exact same
  · unfold State.tamperChanged
    dsimp only
    split
    · exact (set.trans gone).mono (by decide)
    · exact raised
    · split
      · exact raised
      · exact same
    · split
      · exact raised
      · exact same

theorem tampered_length (s : State) (a : Addr) (r : Room) (ch : DoorChanges) :
    (tampered s a r ch).alarms.records.length ≤ s.alarms.records.length + 1 :=
  (tampered_keepsAlarm (k := .bare .restarted) s a r ch nofun).length

/-- A tamper that becomes Active raises POINT_FAULT, and a fault of the point keeps it (R76; assumption 35). -/
theorem tampered_stands (room : s.alarms.records.length < 64)
    (h : ch.tamper = some .active ∨ Faulty ch.tamper ∧ Stands s (.forPoint (num a) 4)) :
    Stands (tampered s a r ch) (.forPoint (num a) 4) := by
  have raised : Stands ((s.setDoor r (merged s.doors[r] ch)).raiseAlarm (.forPoint (num a) 4)) (.forPoint (num a) 4) :=
    raiseAlarm_stands (s := s.setDoor r (merged s.doors[r] ch)) room
  unfold tampered
  obtain isActive | ⟨faulty, stands⟩ := h
  · rw [isActive]
    exact raised
  · have same : Stands (s.setDoor r (merged s.doors[r] ch)) (.forPoint (num a) 4) := stands
    obtain faulty | faulty := faulty <;> rw [faulty] <;> unfold State.tamperChanged <;> dsimp only
    · split
      · exact raised
      · exact same
    · split
      · exact raised
      · exact same

/-! ### The end of the event -/

/-- What the envelope and the end of the event leave of the door's event (R86). -/
structure Ends (v t : State) (r : Room) : Prop where
  door : t.doors[r] = { v.doors[r] with envelopeClosed := v.doors[r].deriveEnvelope }
  leaves : Leaves (v.deriveEnvelope r) t
  stands : ∀ k : AlarmKey, k.kind ≠ .coverageShort → v.alarms.records.length ≤ 48 → Stands v k → Stands t k
  gone : ∀ k : AlarmKey, k.kind ≠ .coverageShort → ConditionGone v k → ConditionGone t k

theorem finish_ends (o v : State) (r : Room) : Ends v (State.finish o (v.deriveEnvelope r)) r where
  door := by
    simp only [(finish_leaves o (v.deriveEnvelope r)).doors]
    exact deriveEnvelope_door v r
  leaves := finish_leaves _ _
  stands k other room standing := by
    have alarms : (v.deriveEnvelope r).alarms = v.alarms := by simp
    have standing : Stands (v.deriveEnvelope r) k := by simpa only [Stands, alarms] using standing
    refine (finish_keepsAlarm o (v.deriveEnvelope r) other).stands ?_ standing
    rw [alarms]
    omega
  gone k other h := finish_keepsGone o other (conditionGone_of_eq (by simp) h)

theorem Ends.roll (h : Ends v t r) : t.roll = v.roll := h.leaves.roll.trans (by simp)

theorem Ends.loop (h : Ends v t r) : t.loop = v.loop := h.leaves.loop.trans (by simp)

theorem Ends.bank (h : Ends v t r) : t.bank = v.bank := h.leaves.bank.trans (by simp)

theorem Ends.ctx (h : Ends v t r) : t.ctx = v.ctx := h.leaves.ctx.trans (by simp)

/-! ### The event -/

/-- The door's event before its envelope is derived: from the state in which the points have been taken. -/
def followed (s : State) (a : Addr) (r : Room) (states : List PointState) : State :=
  (tampered (pointed s a states) a r (doorChanges (changes s a states))).doorFollows r (doorChanges (changes s a states))

theorem exec_report_door (replies : Replies s a line) (type : s.loop.stations[a].type = .doorUnit) (room : s.loop.stations[a].room = num r)
    (four : states.length = 4) :
    ∃ t, exec (.report ⟨line, some .doorUnit, states, 0, .nothing⟩) s = .next t ∧ Ends (followed s a r states) t r := by
  have station := pointed_station s a states
  have owner : (pointed s a states).ownerTakes a (changes s a states) =
      (pointed s a states).doorPoints a r (doorChanges (changes s a states)) := by
    have type' : (pointed s a states).loop.stations[a].type = .doorUnit := by rw [station]; exact type
    have serves : (pointed s a states).loop.stations[a].serves = some r :=
      Polling.serves_room (by rw [type']; rfl) (by rw [station]; exact room)
    unfold State.ownerTakes
    dsimp only
    rw [serves, type']
    rfl
  refine ⟨_, exec_report_points (states := states) replies type nofun nofun four, ?_⟩
  rw [owner, doorPoints_eq]
  exact finish_ends _ _ r

end Sys2Proof.Proofs.DoorReports
end

section
/-! PROOFS. The obligation on the reports of door units: what each leaves alone, and the clauses by the contact (R76 to R83, R92, R93). -/
namespace Sys2Proof.Proofs.DoorUnits

open Sys2Proof Sys2Proof.Machine Sys2Proof.Safety Sys2Proof.Laws
open Sys2Proof.Proofs.Evaluation Sys2Proof.Proofs.OneRoom Sys2Proof.Proofs.ZoneMoves
open Sys2Proof.Proofs.Conditions Sys2Proof.Proofs.Exits Sys2Proof.Proofs.PointReports Sys2Proof.Proofs.DoorSteps
open Sys2Proof.Proofs.DoorRecords Sys2Proof.Proofs.DoorFollows Sys2Proof.Proofs.DoorReports
open Sys2Proof.Proofs.Persistence (withoutCommands dropCancel_withoutCommands station_withoutCommands)
open Sys2Proof.Proofs.Reports (heardFrom)

variable {s t : State} {a : Addr} {r : Room} {states : List PointState} {k : AlarmKey}

/-- The changes of the report. -/
def brought (s : State) (a : Addr) (states : List PointState) : DoorChanges := doorChanges (changes s a states)

/-- The state in which the push and the contact are followed. -/
def before (s : State) (a : Addr) (r : Room) (states : List PointState) : State :=
  tampered (pointed s a states) a r (brought s a states)

theorem before_door (s : State) (a : Addr) (r : Room) (states : List PointState) :
    (before s a r states).doors[r] = merged s.doors[r] (brought s a states) := by
  have doors : (pointed s a states).doors = s.doors := (pointed_frame s a states).2.2.2.2.1
  rw [before, tampered_door, doors]

theorem before_frame (s : State) (a : Addr) (r : Room) (states : List PointState) :
    (before s a r states).roll = s.roll ∧ (before s a r states).sup = s.sup ∧ (before s a r states).bank = s.bank ∧
      (before s a r states).bt = s.bt ∧ (before s a r states).clk = s.clk ∧ (before s a r states).lines = s.lines ∧
      (before s a r states).p2 = { s.p2 with rx := .hunting } ∧ OtherRoomsKept s (before s a r states) r := by
  obtain ⟨bt, clk, ctx, roll, doors, zones, bank, sup, lines, p2⟩ := pointed_frame s a states
  obtain ⟨-, roll', sup', zones', bank', ctx', bt', clk', lines', p2', others⟩ :=
    tampered_frame (pointed s a states) a r (brought s a states)
  refine ⟨roll'.trans roll, sup'.trans sup, bank'.trans bank, bt'.trans bt, clk'.trans clk, lines'.trans lines, p2'.trans p2, fun j hj => ?_⟩
  have kept := others j hj
  simp only [doors, ctx, roll, zones] at kept
  exact kept

/-- The event from the withdrawn cancel to the envelope. -/
theorem report_step (s : State) (a : Addr) (r : Room) (states : List PointState) :
    DoorStep 2 r (withdrawn (before s a r states) r (brought s a states)) ((followed s a r states).deriveEnvelope r) :=
  (doorFollows_step _ r _).trans (deriveEnvelope_step _ r)

theorem before_length (s : State) (a : Addr) (r : Room) (states : List PointState) :
    (before s a r states).alarms.records.length ≤ s.alarms.records.length + states.length + 1 :=
  (tampered_length ..).trans (Nat.add_le_add_right (pointed_length s a states) 1)

theorem followed_length (s : State) (a : Addr) (r : Room) (states : List PointState) :
    (followed s a r states).alarms.records.length ≤ s.alarms.records.length + states.length + 3 := by
  have step := ((doorFollows_step (before s a r states) r (brought s a states)).keeps (.bare .restarted) (by simp [Ended, AlarmKey.bare])).length
  rw [(withdrawn_frame ..).2.2.2.1] at step
  have first := before_length s a r states
  exact step.trans (by omega)

theorem before_openingTimer (s : State) (a : Addr) (r : Room) (states : List PointState) :
    (before s a r states).openingTimer r = s.openingTimer r := by
  unfold State.openingTimer
  rw [before_door, (before_frame s a r states).2.1]
  rfl

/-- The door as the recovery finds it, with the new state of its contact (R93). -/
theorem recovering_door (s : State) (a : Addr) (r : Room) (states : List PointState) :
    (withdrawn (before s a r states) r (brought s a states)).doors[r] = merged s.doors[r] (brought s a states) ∧
      (withdrawn (before s a r states) r (brought s a states)).roll = s.roll ∧
      (LostInside (withdrawn (before s a r states) r (brought s a states)) r ↔ LostInside s r) := by
  obtain ⟨doors, roll, -⟩ := withdrawn_frame (before s a r states) r (brought s a states)
  have own : (withdrawn (before s a r states) r (brought s a states)).doors[r] = merged s.doors[r] (brought s a states) := by
    rw [doors, before_door]
  have rolls := roll.trans (before_frame s a r states).1
  refine ⟨own, rolls, ?_⟩
  unfold LostInside State.headCount
  rw [own, rolls]
  rfl

theorem merged_contact {c : PointState} {d : Door} {ch : DoorChanges} (h : ch.contact = some c) : (merged d ch).contact = some c := by
  show (ch.contact <|> d.contact) = some c
  rw [h]
  rfl

section Report

variable (ends : Ends (followed s a r states) t r)

include ends

/-- The Loop Master but for the commands that wait. -/
theorem report_withoutCommands : withoutCommands t.loop = withoutCommands (pointed s a states).loop := by
  have loop : (before s a r states).loop = (pointed s a states).loop := (tampered_frame ..).1
  have kept : (followed s a r states).loop = (withdrawn (before s a r states) r (brought s a states)).loop :=
    (doorFollows_step (before s a r states) r (brought s a states)).loop
  rw [ends.loop, kept, ← loop]
  unfold withdrawn
  split
  · exact dropCancel_withoutCommands _ r
  · rfl

theorem report_station :
    t.loop.current = none ∧ t.loop.stations[a].state = .online ∧ t.loop.stations[a].misses = 0 := by
  have kept := report_withoutCommands ends
  have current := congrArg LoopMaster.current kept
  have station := congrArg (fun l : LoopMaster => l.stations[a]) kept
  simp only [station_withoutCommands, pointed_station] at station
  refine ⟨current.trans ?_, (congrArg Station.state station).trans rfl, (congrArg Station.misses station).trans rfl⟩
  show (pointed s a states).loop.current = none
  rw [pointed_loop]

/-- What the report leaves alone. -/
theorem report_leaves :
    t.bt = s.bt ∧ t.clk = s.clk ∧ t.bank.cylinders = s.bank.cylinders ∧ t.bank.reservations = s.bank.reservations ∧
      t.bank.manifold = s.bank.manifold ∧ t.roll.tick = s.roll.tick ∧ t.lines = s.lines ∧
      t.p2 = { s.p2 with rx := .hunting } ∧ OtherRoomsKept s t r ∧ t.roll.rooms[r].list = s.roll.rooms[r].list := by
  obtain ⟨roll, -, bank, bt, clk, lines, p2, others⟩ := before_frame s a r states
  obtain ⟨wdoors, wroll, -, -, wzones, wbank, wctx, wbt, wclk⟩ := withdrawn_frame (before s a r states) r (brought s a states)
  have step := report_step s a r states
  have follows := State.doorFollows_frame (before s a r states) r (brought s a states)
  obtain ⟨-, flines, fp2, -, -, fbt, fclk⟩ := follows
  have leaves := ends.leaves
  refine ⟨leaves.bt.trans ?_, leaves.clk.trans ?_, ?_, ?_, ?_, ?_, leaves.lines.trans ?_, leaves.p2.trans ?_, fun j hj => ?_, ?_⟩
  · exact (State.deriveEnvelope_frame ..).2.2.2.2.2.1.trans (fbt.trans bt)
  · exact (State.deriveEnvelope_frame ..).2.2.2.2.2.2.1.trans (fclk.trans clk)
  · rw [leaves.bank, step.cylinders, wbank, bank]
  · rw [leaves.bank, step.reservations, wbank, bank]
  · rw [leaves.bank, step.manifold, wbank, bank]
  · rw [leaves.roll, step.tick, wroll, roll]
  · exact (State.deriveEnvelope_frame ..).2.1.trans (flines.trans lines)
  · exact (State.deriveEnvelope_frame ..).2.2.1.trans (fp2.trans p2)
  · have stepped := step.others j hj
    simp only [wdoors, wctx, wroll, wzones] at stepped
    obtain ⟨doors, ctx, rooms, zones⟩ := stepped
    obtain ⟨doors', ctx', rooms', zones'⟩ := others j hj
    simp only [leaves.doors, leaves.ctx, leaves.roll, leaves.zones]
    exact ⟨doors.trans doors', ctx.trans ctx', rooms.trans rooms', zones.trans zones'⟩
  · have list := step.list
    simp only [wroll, roll] at list
    simp only [leaves.roll]
    exact list

/-- The points of the door, its lock and its mark (R76). -/
theorem report_points : points t.doors[r] = points (merged s.doors[r] (brought s a states)) := by
  have step := (report_step s a r states).points
  have doors : (withdrawn (before s a r states) r (brought s a states)).doors = (before s a r states).doors := (withdrawn_frame ..).1
  simp only [doors, before_door] at step
  simp only [ends.leaves.doors]
  exact step

theorem report_envelope :
    t.doors[r].envelopeClosed = true ↔
      t.doors[r].state ≠ .unknown ∧ t.doors[r].contact = some .normal ∧ t.doors[r].bolt = some .normal := by
  rw [ends.door]
  simp [Door.deriveEnvelope, and_assoc]

/-- A strongroom newly Unreconciled has its alarm (R66). -/
theorem report_unreconciled (four : states.length = 4) (roomy : Roomy s) (after : t.roll.rooms[r].unreconciled = true)
    (clear : s.roll.rooms[r].unreconciled = false) : Stands t (.forRoom .rollUnreconciled r) := by
  have few := before_length s a r states
  have length := followed_length s a r states
  have alarms : (withdrawn (before s a r states) r (brought s a states)).alarms = (before s a r states).alarms :=
    (withdrawn_frame ..).2.2.2.1
  have roll : (withdrawn (before s a r states) r (brought s a states)).roll = s.roll :=
    (withdrawn_frame ..).2.1.trans (before_frame s a r states).1
  unfold Roomy at roomy
  refine ends.stands _ nofun (by omega) ((doorFollows_step (before s a r states) r (brought s a states)).marked ?_ ?_ ?_)
  · have same := ends.roll
    rw [same] at after
    exact after
  · rw [roll]
    exact clear
  · rw [alarms]
    omega

/-- POINT_FAULT for each of the four points (R156), and for the tamper point (R76). -/
theorem report_faults (four : states.length = 4) (roomy : Roomy s) (i : Nat)
    (h : Faulty ((changes s a states).getD i none) ∨ i = 3 ∧ (changes s a states).getD 3 none = some .active) :
    Stands t (.forPoint (num a) (i + 1)) := by
  have few := before_length s a r states
  have length := followed_length s a r states
  have first := pointed_length s a states
  unfold Roomy at roomy
  have alarms : (withdrawn (before s a r states) r (brought s a states)).alarms = (before s a r states).alarms :=
    (withdrawn_frame ..).2.2.2.1
  have stands : Stands (before s a r states) (.forPoint (num a) (i + 1)) := by
    by_cases tamper : i = 3
    · subst tamper
      refine tampered_stands (by omega) ?_
      obtain faulty | ⟨-, isActive⟩ := h
      · exact .inr ⟨faulty, pointed_faults s a (n := 3) faulty (by omega)⟩
      · exact .inl isActive
    · have faulty := h.resolve_right fun both => tamper both.1
      have other : AlarmKey.forPoint (num a) (i + 1) ≠ .forPoint (num a) 4 := by simpa [AlarmKey.forPoint] using tamper
      exact (tampered_keepsAlarm _ a r _ other).stands (by omega) (pointed_faults s a (n := i) faulty (by omega))
  have followed_ := ((doorFollows_step (before s a r states) r (brought s a states)).keeps (.forPoint (num a) (i + 1))
    (by simp [Ended, AlarmKey.forPoint])).stands (by rw [alarms]; omega) (by simpa only [Stands, alarms] using stands)
  exact ends.stands _ nofun (by omega) followed_

/-- A push withdraws a cancel that waits (R83). -/
theorem report_withdraws (pressed : Pressed (brought s a states)) (at_ : s.stationOf .doorUnit (num r) = some a) :
    ∀ x, t.loop.stations[a].slots.bolt = some x → x.command ≠ .cancel := by
  have station := pointed_station s a states
  have bases (j : Addr) : (pointed s a states).loop.stations[j].type = s.loop.stations[j].type ∧
      (pointed s a states).loop.stations[j].room = s.loop.stations[j].room := by
    by_cases own : j = a
    · subst own
      rw [station]
      exact ⟨rfl, rfl⟩
    · rw [pointed_other states own]
      exact ⟨rfl, rfl⟩
  have loop : (before s a r states).loop = (pointed s a states).loop := (tampered_frame ..).1
  have unit : (before s a r states).stationOf .doorUnit (num r) = some a := by
    refine Eq.trans ?_ at_
    unfold State.stationOf
    congr 1
    funext j
    simp only [loop, bases j]
  have here : (before s a r states).loop.stations[a].lost = false := by
    rw [loop, station]
    rfl
  have dropped : (withdrawn (before s a r states) r (brought s a states)).loop.stations[a].slots =
      (before s a r states).loop.stations[a].slots.withoutCancel := by
    have drops : withdrawn (before s a r states) r (brought s a states) = (before s a r states).dropCancel r := if_pos pressed
    rw [drops, State.dropCancel, unit]
    simp only [State.placeAt, here, Bool.false_eq_true, if_false, State.setStation, vset_same]
  have kept : t.loop = (withdrawn (before s a r states) r (brought s a states)).loop :=
    ends.loop.trans (doorFollows_step (before s a r states) r (brought s a states)).loop
  intro x waits
  rw [kept, dropped] at waits
  simpa using (Option.filter_eq_some_iff.mp waits).2

/-! ### The clauses -/

/-- The door's record but for its envelope is that of the followed points. -/
theorem report_record :
    t.doors[r].state = (followed s a r states).doors[r].state ∧ t.doors[r].unknownCause = (followed s a r states).doors[r].unknownCause ∧
      t.doors[r].releaseKind = (followed s a r states).doors[r].releaseKind ∧
      t.doors[r].openCause = (followed s a r states).doors[r].openCause ∧ t.doors[r].unlock = (followed s a r states).doors[r].unlock ∧
      t.doors[r].heldOpen = (followed s a r states).doors[r].heldOpen ∧ t.doors[r].hold = (followed s a r states).doors[r].hold := by
  rw [ends.door]
  exact ⟨rfl, rfl, rfl, rfl, rfl, rfl, rfl⟩

theorem report_marked (h : (followed s a r states).roll.rooms[r].unreconciled = true) : t.roll.rooms[r].unreconciled = true := by
  rw [ends.roll]
  exact h

theorem report_unmarked (h : (followed s a r states).roll = (before s a r states).roll) : t.roll.rooms[r] = s.roll.rooms[r] := by
  have roll : t.roll = s.roll := ends.roll.trans (h.trans (before_frame s a r states).1)
  rw [roll]

/-- A push without a change of the contact (R77, R83). -/
theorem report_pushed (still : (brought s a states).contact = none) (push : Pressed (brought s a states)) :
    (s.doors[r].state = .secured ∨ s.doors[r].state = .timeLocked ∨ s.doors[r].state = .released →
      t.doors[r].state = .released ∧ t.doors[r].releaseKind = some .egress ∧
        t.doors[r].unlock = some s.sup.profiles[r].unlock ∧ t.roll.rooms[r] = s.roll.rooms[r]) ∧
    (Opened s.doors[r] →
      t.doors[r].state = (if s.doors[r].state = .forced then .forced else .opened) ∧ t.doors[r].openCause = some .egress ∧
        t.roll.rooms[r].unreconciled = true) ∧
    (s.doors[r].state = .unknown → t.doors[r].state = .unknown ∧ t.roll.rooms[r] = s.roll.rooms[r]) := by
  have door := before_door s a r states
  obtain ⟨state, -, kind, cause, unlock, -, -⟩ := report_record ends
  refine ⟨fun st => ?_, fun st => ?_, fun st => ?_⟩
  · obtain ⟨own, kept⟩ := follows_released (s := before s a r states) (r := r) still push (by rw [door]; exact or_assoc.mpr st)
    have own : (followed s a r states).doors[r] = _ := own
    rw [own] at state kind unlock
    rw [state, kind, unlock, (before_frame s a r states).2.1]
    exact ⟨rfl, rfl, rfl, report_unmarked ends kept⟩
  · obtain ⟨moved, by_, marked⟩ := follows_pushed (s := before s a r states) (r := r) still push (by rw [door]; exact st)
    rw [door] at moved
    exact ⟨state.trans moved, cause.trans by_, report_marked ends marked⟩
  · have stays := follows_unknown_none (s := before s a r states) (r := r) (ch := brought s a states) (by rw [door]; exact st) still
    obtain ⟨wdoors, wroll, -⟩ := withdrawn_frame (before s a r states) r (brought s a states)
    have own : (followed s a r states).doors[r] = merged s.doors[r] (brought s a states) := by
      rw [← door, ← wdoors]
      exact congrArg (fun x : State => x.doors[r]) stays
    rw [own] at state
    exact ⟨state.trans st, report_unmarked ends ((congrArg State.roll stays).trans wroll)⟩

theorem report_nothing (still : (brought s a states).contact = none) (push : ¬Pressed (brought s a states)) :
    t.doors[r].state = s.doors[r].state ∧ t.doors[r].releaseKind = s.doors[r].releaseKind ∧
      t.doors[r].openCause = s.doors[r].openCause ∧ t.doors[r].unlock = s.doors[r].unlock ∧
      t.doors[r].heldOpen = s.doors[r].heldOpen ∧ t.doors[r].hold = s.doors[r].hold ∧ t.roll.rooms[r] = s.roll.rooms[r] := by
  have stays := follows_nothing (s := before s a r states) (r := r) still push
  have own : (followed s a r states).doors[r] = merged s.doors[r] (brought s a states) :=
    (congrArg (fun x : State => x.doors[r]) stays).trans (before_door s a r states)
  obtain ⟨state, -, kind, cause, unlock, heldOpen, hold⟩ := report_record ends
  rw [own] at state kind cause unlock heldOpen hold
  exact ⟨state, kind, cause, unlock, heldOpen, hold, report_unmarked ends (congrArg State.roll stays)⟩

/-- A door whose contact repeats its state stays. -/
theorem report_same (push : ¬Pressed (brought s a states))
    (st : (brought s a states).contact = some .active ∧ Opened s.doors[r] ∨
      (brought s a states).contact = some .normal ∧ (Closed s.doors[r] ∨ s.doors[r].state = .released)) :
    t.doors[r].state = s.doors[r].state ∧ t.roll.rooms[r] = s.roll.rooms[r] := by
  have door := before_door s a r states
  have stays := follows_same (s := before s a r states) (r := r) push (by rw [door]; exact st)
  have own : (followed s a r states).doors[r] = merged s.doors[r] (brought s a states) :=
    (congrArg (fun x : State => x.doors[r]) stays).trans door
  obtain ⟨state, -⟩ := report_record ends
  rw [own] at state
  exact ⟨state, report_unmarked ends (congrArg State.roll stays)⟩

/-- The contact opens on a released door (R78). -/
theorem report_opens (isActive : (brought s a states).contact = some .active)
    (st : s.doors[r].state = .released ∨ Closed s.doors[r] ∧ Pressed (brought s a states)) :
    t.doors[r].state = .opened ∧ t.doors[r].releaseKind = none ∧ t.doors[r].unlock = none ∧
      (s.doors[r].hold = false → t.doors[r].heldOpen = s.openingTimer r) ∧
      (Pressed (brought s a states) ∨ s.doors[r].state = .released ∧ s.doors[r].releaseKind = some .egress →
        t.doors[r].openCause = some .egress ∧ t.roll.rooms[r].unreconciled = true) ∧
      (∀ k, ¬Pressed (brought s a states) → s.doors[r].releaseKind = some k → k ≠ .egress →
        t.doors[r].openCause = some (if k = .command then .command else .grant) ∧ t.doors[r].heldOpen = s.openingTimer r ∧
          t.roll.rooms[r] = s.roll.rooms[r]) := by
  have door := before_door s a r states
  obtain ⟨moved, noKind, noTimer, timer, egress, other⟩ := follows_opens (s := before s a r states) (r := r) isActive (by rw [door]; exact st)
  rw [before_openingTimer] at timer other
  rw [door] at timer egress other
  obtain ⟨state, -, kind, cause, unlock, heldOpen, -⟩ := report_record ends
  refine ⟨state.trans moved, kind.trans noKind, unlock.trans noTimer, fun free => heldOpen.trans (timer free), fun opening => ?_,
    fun k push hk no => ?_⟩
  · obtain ⟨by_, marked⟩ := egress opening
    exact ⟨cause.trans by_, report_marked ends marked⟩
  · obtain ⟨by_, held, kept⟩ := other k push hk no
    refine ⟨cause.trans (by_.trans ?_), heldOpen.trans held, report_unmarked ends kept⟩
    cases k with
    | egress => exact absurd rfl no
    | entry => rfl
    | command => rfl
    | exit => rfl

theorem report_forced (four : states.length = 4) (isActive : (brought s a states).contact = some .active) (st : Closed s.doors[r])
    (push : ¬Pressed (brought s a states)) :
    t.doors[r].state = .forced ∧ t.doors[r].heldOpen = s.openingTimer r ∧ t.roll.rooms[r] = s.roll.rooms[r] ∧
      (Roomy s → Stands t (.forRoom .forced r)) := by
  have door := before_door s a r states
  have few := before_length s a r states
  have length := followed_length s a r states
  obtain ⟨moved, held, kept, stands⟩ := follows_forced (s := before s a r states) (r := r) isActive (by rw [door]; exact st) push
  obtain ⟨state, -, -, -, -, heldOpen, -⟩ := report_record ends
  refine ⟨state.trans moved, heldOpen.trans (held.trans (before_openingTimer s a r states)), report_unmarked ends kept, fun roomy => ?_⟩
  unfold Roomy at roomy
  exact ends.stands _ nofun (by omega) (stands (by omega))

/-- The contact closes on an open door (R80). -/
theorem report_closes (isNormal : (brought s a states).contact = some .normal) (st : Opened s.doors[r]) :
    t.doors[r].state = s.doors[r].closedState ∧ t.doors[r].heldOpen = .stopped ∧ t.doors[r].openCause = none ∧
      t.doors[r].hold = false ∧ ConditionGone t (.forRoom .heldOpen r) ∧
      (s.doors[r].state = .forced → ConditionGone t (.forRoom .forced r)) ∧
      (Pressed (brought s a states) → t.roll.rooms[r].unreconciled = true) ∧
      (¬Pressed (brought s a states) → t.roll.rooms[r] = s.roll.rooms[r]) := by
  have door := before_door s a r states
  obtain ⟨moved, held, by_, free, gone, forced, marked, kept⟩ := follows_closes (s := before s a r states) (r := r) isNormal
    (by rw [door]; exact st)
  rw [door] at moved forced
  obtain ⟨state, -, -, cause, -, heldOpen, hold⟩ := report_record ends
  exact ⟨state.trans moved, heldOpen.trans held, cause.trans by_, hold.trans free, ends.gone _ nofun gone,
    fun was => ends.gone _ nofun (forced was), fun push => report_marked ends (marked push), fun push => report_unmarked ends (kept push)⟩

/-- The contact faults (R92). -/
theorem report_lost (faulty : Faulty (brought s a states).contact) :
    t.doors[r].state = .unknown ∧ t.doors[r].unknownCause = some .lost ∧ t.doors[r].releaseKind = none ∧
      t.doors[r].openCause = none ∧ t.doors[r].unlock = none ∧ t.doors[r].heldOpen = .stopped ∧ t.doors[r].hold = false ∧
      t.ctx[r] = .empty ∧ ConditionGone t (.forRoom .heldOpen r) ∧ ConditionGone t (.forRoom .forced r) := by
  obtain ⟨v, lost⟩ := follows_lost (s := before s a r states) (r := r) faulty
  obtain ⟨env, own⟩ := doorUnknown_door v r .lost
  obtain ⟨ctx, held, forced⟩ := doorUnknown_gone v r .lost
  have same : followed s a r states = v.doorUnknown r .lost := lost
  rw [← same] at own ctx held forced
  obtain ⟨state, unknown, kind, cause, unlock, heldOpen, hold⟩ := report_record ends
  rw [own] at state unknown kind cause unlock heldOpen hold
  refine ⟨state, unknown, kind, cause, unlock, heldOpen, hold, ?_, ends.gone _ nofun held, ends.gone _ nofun forced⟩
  rw [ends.ctx]
  exact ctx

theorem report_markedIfLost
    (h : MarkedIfLost (withdrawn (before s a r states) r (brought s a states)) (followed s a r states) r) :
    (LostInside s r → t.roll.rooms[r].unreconciled = true) ∧ (¬LostInside s r → t.roll.rooms[r] = s.roll.rooms[r]) := by
  obtain ⟨-, -, lostIff⟩ := recovering_door s a r states
  have roll := (withdrawn_frame (before s a r states) r (brought s a states)).2.1
  exact ⟨fun yes => report_marked ends (h.1 (lostIff.mpr yes)),
    fun no => report_unmarked ends ((h.2 fun yes => no (lostIff.mp yes)).trans roll)⟩

/-- An UNKNOWN door whose contact is known again (R93). -/
theorem report_recovers (four : states.length = 4) (unknown : s.doors[r].state = .unknown) :
    ((brought s a states).contact = some .normal →
      t.doors[r].state = s.doors[r].closedState ∧ t.doors[r].unknownCause = none ∧
        (LostInside s r → t.roll.rooms[r].unreconciled = true) ∧ (¬LostInside s r → t.roll.rooms[r] = s.roll.rooms[r])) ∧
    ((brought s a states).contact = some .active → (merged s.doors[r] (brought s a states)).egress = some .active →
      t.doors[r].state = .opened ∧ t.doors[r].unknownCause = none ∧ t.doors[r].openCause = some .egress ∧
        t.roll.rooms[r].unreconciled = true) ∧
    ((brought s a states).contact = some .active → (merged s.doors[r] (brought s a states)).egress ≠ some .active →
      t.doors[r].state = .forced ∧ t.doors[r].unknownCause = none ∧ (Roomy s → Stands t (.forRoom .forced r)) ∧
        (LostInside s r → t.roll.rooms[r].unreconciled = true) ∧ (¬LostInside s r → t.roll.rooms[r] = s.roll.rooms[r])) := by
  obtain ⟨door, -, -⟩ := recovering_door s a r states
  obtain ⟨state, noCause, -, cause, -⟩ := report_record ends
  have recovered (known : (brought s a states).contact = some .normal ∨ (brought s a states).contact = some .active) :
      followed s a r states = (withdrawn (before s a r states) r (brought s a states)).doorRecovers r :=
    follows_recovers (s := before s a r states) (r := r) (by rw [before_door]; exact unknown) known
  refine ⟨fun isNormal => ?_, fun isActive push => ?_, fun isActive push => ?_⟩
  · obtain ⟨moved, none_, marked⟩ := recovers_closed (s := withdrawn (before s a r states) r (brought s a states)) (r := r)
      (by rw [door]; exact merged_contact isNormal)
    rw [← recovered (.inl isNormal)] at moved none_ marked
    rw [door] at moved
    exact ⟨state.trans moved, noCause.trans none_, report_markedIfLost ends marked⟩
  · obtain ⟨moved, none_, by_, marked⟩ := recovers_pushed (s := withdrawn (before s a r states) r (brought s a states)) (r := r)
      (by rw [door, merged_contact isActive]; nofun) (by rw [door]; exact push)
    rw [← recovered (.inr isActive)] at moved none_ by_ marked
    exact ⟨state.trans moved, noCause.trans none_, cause.trans by_, report_marked ends marked⟩
  · obtain ⟨moved, none_, stands, marked⟩ := recovers_forced (s := withdrawn (before s a r states) r (brought s a states)) (r := r)
      (by rw [door, merged_contact isActive]; nofun) (by rw [door]; exact push)
    rw [← recovered (.inr isActive)] at moved none_ stands marked
    have alarms : (withdrawn (before s a r states) r (brought s a states)).alarms = (before s a r states).alarms :=
      (withdrawn_frame ..).2.2.2.1
    have few := before_length s a r states
    have length := followed_length s a r states
    rw [alarms] at stands
    refine ⟨state.trans moved, noCause.trans none_, fun roomy => ?_, report_markedIfLost ends marked⟩
    unfold Roomy at roomy
    exact ends.stands _ nofun (by omega) (stands (by omega))

end Report

/-- Settles O31: the event is that of the points on the state in which they have been taken; each clause is one case of `doorFollows`. -/
theorem doorReportsMoveTheDoor : Obligations.DoorReportsMoveTheDoor := by
  intro s a r line states replies type room four
  obtain ⟨t, next, ends⟩ := exec_report_door replies type room four
  have either (x y : Option PointState) : (x <|> y) = x.or y := by cases x <;> rfl
  have egress : (merged s.doors[r] (brought s a states)).egress = ((changes s a states).getD 2 none).or s.doors[r].egress := either ..
  obtain ⟨current, online, misses⟩ := report_station ends
  have left := report_leaves ends
  obtain ⟨bt, clk, cylinders, reservations, manifold, tick, lines, p2, others, list⟩ := left
  have kept := report_points ends
  simp only [points, Prod.mk.injEq] at kept
  obtain ⟨kcontact, kbolt, kegress, ktamper, klock, kdown⟩ := kept
  refine ⟨t, next, ⟨current, online, misses, bt, clk, cylinders, reservations, manifold, tick, lines, p2, others, list⟩,
    ⟨kcontact.trans (either ..), kbolt.trans (either ..), kegress.trans (either ..), ktamper.trans (either ..), klock, kdown,
      propext (report_envelope ends)⟩,
    report_withdraws ends, report_unreconciled ends four, fun i faulty roomy => report_faults ends four roomy i (.inl faulty),
    fun isActive roomy => report_faults ends four roomy 3 (.inr ⟨rfl, isActive⟩), fun still push => ?_, report_nothing ends,
    fun isActive => ⟨report_opens ends isActive, report_forced ends four isActive, fun st push => report_same ends push (.inl ⟨isActive, st⟩)⟩,
    fun isNormal => ⟨report_closes ends isNormal, fun st push => report_same ends push (.inr ⟨isNormal, or_assoc.mpr st⟩)⟩,
    report_lost ends, fun unknown => ?_⟩
  · obtain ⟨closed, opened, unknown⟩ := report_pushed ends still push
    refine ⟨closed, fun st => ?_, fun st => ?_, unknown⟩
    · have opens := opened (st.imp_right .inl)
      rw [if_neg (by obtain st | st := st <;> rw [st] <;> nofun)] at opens
      exact opens
    · have opens := opened (.inr (.inr st))
      rw [if_pos st] at opens
      exact opens
  · have recovers := report_recovers ends four unknown
    rw [egress] at recovers
    exact recovers

end Sys2Proof.Proofs.DoorUnits
end

section
/-! PROOFS. REPORTS WITH EVENTS (R152, R157): a report whose points bring no change leaves the state as it was but for the station's record,
and its events are answered in the answer poll. -/
namespace Sys2Proof.Proofs.EventReports

open Sys2Proof Sys2Proof.Machine Sys2Proof.Safety Sys2Proof.Laws
open Sys2Proof.Proofs.Evaluation Sys2Proof.Proofs.Persistence Sys2Proof.Proofs.Reports
open Sys2Proof.Proofs.DischargeSequence (setStation_own)

variable {s t m u : State} {a : Addr} {line : List Bool} {ty : StationType} {n : Nat} {r : ReportFrame} {ps : List Point}
  {answer : ReaderAnswer} {answers : Option (List ReaderAnswer)}

/-! ### What a report without a change leaves -/

/-- The state in which the events of a report are taken, where none of its points has changed. Of a door and its zone the envelope alone may
have been derived afresh. -/
structure Heard (s m : State) (a : Addr) : Prop where
  bt : m.bt = s.bt
  clk : m.clk = s.clk
  ctx : m.ctx = s.ctx
  roll : m.roll = s.roll
  bank : m.bank = s.bank
  lines : m.lines = s.lines
  profiles : m.sup.profiles = s.sup.profiles
  linkTest : m.sup.linkTest = s.sup.linkTest
  records : m.alarms.records = s.alarms.records
  newSettings : m.p2.newSettings = s.p2.newSettings
  loop : ∃ ps, m.loop =
    { s.loop with current := none, stations := s.loop.stations.set a (heardFrom s.loop.stations[a] ps) }
  doors : ∀ j : Room, m.doors[j] = { s.doors[j] with envelopeClosed := m.doors[j].envelopeClosed }
  zones : ∀ j : Room, m.zones[j] = { s.zones[j] with lastEnvelope := m.zones[j].lastEnvelope }

/-- The end of an event that changes neither the bank nor the Alarm Table. -/
theorem finish_sup (o s : State) : (State.finish o s).sup.linkTest = s.sup.linkTest := by
  obtain ⟨_, _, _, _, _, _, h⟩ := State.finish_eq o s
  rw [h]

theorem finish_records_of_coverage {o s : State} (h : s.bank.coverage = o.bank.coverage) :
    (State.finish o s).alarms.records = s.alarms.records := by
  obtain ⟨_, _, _, _, _, _, h⟩ := State.finish_eq_of_coverage o s h
  rw [h]

namespace Heard

variable (h : Heard s m a)

include h

theorem station : ∃ ps, m.loop.stations[a] = heardFrom s.loop.stations[a] ps := by
  obtain ⟨ps, loop⟩ := h.loop
  exact ⟨ps, by rw [loop]; exact vset_same ..⟩

theorem type : m.loop.stations[a].type = s.loop.stations[a].type := by
  obtain ⟨ps, station⟩ := h.station
  rw [station]
  rfl

theorem serves : m.loop.stations[a].serves = s.loop.stations[a].serves := by
  obtain ⟨ps, station⟩ := h.station
  rw [station]
  rfl

theorem lastEvent : m.loop.stations[a].lastEvent = s.loop.stations[a].lastEvent := by
  obtain ⟨ps, station⟩ := h.station
  rw [station]
  rfl

theorem findToken (tok : Token) : m.findToken tok = s.findToken tok := by
  unfold State.findToken
  rw [h.bt]

theorem entryOf (b : Nat) : m.entryOf b = s.entryOf b := by
  unfold State.entryOf
  rw [h.roll]

end Heard

/-- The end of the event of the points changes nothing of this. -/
theorem heard_finish (h : Heard s u a) : Heard s (State.finish (replied s a) u) a := by
  have leaves := finish_leaves (replied s a) u
  obtain ⟨ps, loop⟩ := h.loop
  refine ⟨leaves.bt.trans h.bt, leaves.clk.trans h.clk, leaves.ctx.trans h.ctx, leaves.roll.trans h.roll, leaves.bank.trans h.bank,
    leaves.lines.trans h.lines, leaves.profiles.trans h.profiles, (finish_sup ..).trans h.linkTest, ?_, ?_, ⟨ps, leaves.loop.trans loop⟩,
    fun j => ?_, fun j => ?_⟩
  · exact (finish_records_of_coverage (congrArg (·.coverage) h.bank)).trans h.records
  · rw [leaves.p2, h.newSettings]
  · rw [leaves.doors]
    exact h.doors j
  · rw [leaves.zones]
    exact h.zones j

/-- A report of a check-in station or a pendant receiver that was ONLINE. -/
theorem heard_pointless (type : s.loop.stations[a].type = .checkIn ∨ s.loop.stations[a].type = .pendantRx)
    (online : s.loop.stations[a].state = .online) : Heard s (reported s a []) a := by
  have effect := reported_pointless (s := s) (a := a) (type.imp_right .inl)
  have lost : s.loop.stations[a].lost = false := not_lost (by rw [online]; exact nofun) (by rw [online]; exact nofun)
  have quiet : (pointless s a).alarms = s.alarms := if_neg (by rw [lost]; exact Bool.false_ne_true)
  refine heard_finish ?_
  rw [effect]
  exact ⟨rfl, rfl, rfl, rfl, rfl, rfl, rfl, rfl, congrArg (·.records) quiet, rfl, ⟨[], rfl⟩, fun _ => rfl, fun _ => rfl⟩

/-! ### The answer poll -/

/-- The answers kept with their number, and the answer poll called for. -/
def answerPolled (t : State) (a : Addr) (n : Nat) (answers : Option (List ReaderAnswer)) : State := (t.keepAnswers a n answers).callAnswerPoll a

/-- The record of a station whose answer poll, with these answers or none, has been built. -/
def inPoll (st : Station) (n : Nat) (answers : Option (List ReaderAnswer)) : Station :=
  { st with
    lastEvent := n, lastAnswers := answers
    slots := ((match answers with | none => st.slots | some l => { st.slots with answers := some ⟨⟨n, l⟩, false⟩ } : Slots)).carry }

/-- Nothing makes the answer poll wait. -/
structure Unhindered (t : State) : Prop where
  settings : t.p2.newSettings = false
  linkTest : t.sup.linkTest = none
  broadcast : t.loop.broadcastDue = none ∨ t.loop.yielded = false

theorem answerPolled_eq (free : Unhindered t) :
    answerPolled t a n answers = (t.keepAnswers a n answers).startAnswerPoll a := by
  refine if_neg fun hindered => ?_
  obtain ⟨settings, linkTest, broadcast⟩ := free
  have settings : (t.keepAnswers a n answers).p2.newSettings = false := settings
  have linkTest : (t.keepAnswers a n answers).sup.linkTest = none := linkTest
  have broadcast : (t.keepAnswers a n answers).loop.broadcastDue = none ∨ (t.keepAnswers a n answers).loop.yielded = false := broadcast
  rw [settings, linkTest] at hindered
  rcases broadcast with broadcast | broadcast <;> rw [broadcast] at hindered <;> simp at hindered

theorem answerPolled_frame (t : State) (a : Addr) (n : Nat) (answers : Option (List ReaderAnswer)) :
    let w := answerPolled t a n answers
    w.bt = t.bt ∧ w.clk = t.clk ∧ w.ctx = t.ctx ∧ w.roll = t.roll ∧ w.doors = t.doors ∧ w.zones = t.zones ∧ w.bank = t.bank ∧
      w.alarms = t.alarms ∧ w.p2 = t.p2 ∧ w.sup = t.sup ∧ w.lines = t.lines := by
  simp [answerPolled]

/-- The station's record in its answer poll, and the poll in progress. -/
theorem answerPolled_station (free : Unhindered t) :
    (answerPolled t a n answers).loop.stations[a] = inPoll t.loop.stations[a] n answers := by
  rw [answerPolled_eq free]
  refine (vset_same ..).trans ?_
  have kept : (t.keepAnswers a n answers).loop.stations[a] = _ := setStation_own t a _
  rw [kept]
  rfl

theorem answerPolled_answerPoll (free : Unhindered t) :
    AnswerPoll (answerPolled t a n answers) a n ((inPoll t.loop.stations[a] n answers).slots.answers.map (·.command)) := by
  have kept : (t.keepAnswers a n answers).loop.stations[a] = _ := setStation_own t a _
  rw [answerPolled_eq free]
  have answersOf : (t.keepAnswers a n answers).loop.stations[a].slots.answers.map (·.command) =
      (inPoll t.loop.stations[a] n answers).slots.answers.map (·.command) := by
    rw [kept]
    simp only [inPoll, Slots.carry, Option.map_map]
    rfl
  have number : (t.keepAnswers a n answers).loop.stations[a].lastEvent = n := by rw [kept]
  refine ⟨(t.keepAnswers a n answers).standing a, (t.keepAnswers a n answers).loop.stations[a].slots.bolt.map (·.command),
    (t.keepAnswers a n answers).loop.stations[a].slots.tone.map (·.command),
    (t.keepAnswers a n answers).loop.stations[a].slots.fire.map (·.command), ?_⟩
  rw [← answersOf]
  refine Eq.trans (b := some ⟨some a, (t.keepAnswers a n answers).p2.firstPhase, (t.keepAnswers a n answers).pollContent a⟩) rfl ?_
  rw [State.pollContent, number]
  rfl

/-- One answer, kept and carried by the answer poll. -/
theorem answersWith_of {o : Host.Outcome State Fault Refusal} {effect : State → Prop} (free : Unhindered t)
    (next : o = .next (answerPolled t a n (some [answer]))) (h : effect (answerPolled t a n (some [answer]))) :
    AnswersWith o a n answer effect := by
  have station := answerPolled_station (a := a) (n := n) (answers := some [answer]) free
  have poll := answerPolled_answerPoll (a := a) (n := n) (answers := some [answer]) free
  refine ⟨_, next, ?_, ?_, ?_, poll, h⟩ <;> rw [station] <;> rfl

/-! ### The events of a report -/

/-- A report of a configured station whose points and flags leave the state `m` goes on with its events. -/
theorem exec_report_events (brings : Brings s a line n) (hr : r.line = line) (declared : r.declared? = some ty)
    (type : s.loop.stations[a].type = ty) (flags : ∀ low, r.events ≠ .pressure low) :
    exec (.report r) s = .next ((reported s a r.points).reportEvents a r) := by
  have next := exec_report_valid brings.toReplies hr declared
  rw [validReply_own brings.configured type] at next
  have taken : (replied s a).takeReport a r = ((replied s a).stationReturns a).takePoints a r.points := by
    unfold State.takeReport State.takeReportFlags
    split
    · next low pressure => exact absurd pressure (flags low)
    · rfl
  rw [taken] at next
  exact next

/-- New events of an owner: what the owner makes of them, answered in the answer poll. -/
theorem reportEvents_new (heard : Heard s m a) (number : 1 ≤ n ∧ n ≤ 255 ∧ n ≠ s.loop.stations[a].lastEvent) (hn : r.eventNumber = n)
    (owned : s.loop.stations[a].owns r.events = true) :
    m.reportEvents a r = answerPolled (m.takeEvents a r.events).1 a n (m.takeEvents a r.events).2 := by
  have owned' : m.loop.stations[a].owns r.events = true := by
    unfold Station.owns at owned ⊢
    rw [heard.serves]
    exact owned
  unfold State.reportEvents
  rw [if_neg (by rw [hn]; omega)]
  dsimp only
  rw [if_pos owned', if_neg (by rw [hn, heard.lastEvent]; exact number.2.2), hn]
  rfl

/-- The end of a decision that leaves the Loop Master's broadcast and the settings leaves the answer poll free to go. -/
theorem unhindered_finish (brings : Brings s a line n) (heard : Heard s m a) (p2 : u.p2 = m.p2) (sup : u.sup = m.sup)
    (loop : withoutCommands u.loop = withoutCommands m.loop) : Unhindered (State.finish m u) := by
  obtain ⟨settings, linkTest, broadcast⟩ := brings.unhindered
  have leaves := finish_leaves m u
  have same : (withoutCommands u.loop).broadcastDue = (withoutCommands m.loop).broadcastDue ∧
      (withoutCommands u.loop).yielded = (withoutCommands m.loop).yielded := by
    rw [loop]
    exact ⟨rfl, rfl⟩
  obtain ⟨due, yielded⟩ : u.loop.broadcastDue = m.loop.broadcastDue ∧ u.loop.yielded = m.loop.yielded := same
  obtain ⟨ps, before⟩ := heard.loop
  refine ⟨?_, ?_, ?_⟩
  · rw [leaves.p2, p2, heard.newSettings, settings]
  · rw [finish_sup, sup, heard.linkTest, linkTest]
  · rw [leaves.loop, due, yielded, before]
    exact broadcast

end Sys2Proof.Proofs.EventReports
end

section
/-! PROOFS. CHECK-INS AND PENDANTS (R106, R109): a check-in reloads a running counter and ends the conditions of its bearer; a pendant's
DURESS and TILT raise. -/
namespace Sys2Proof.Proofs.CheckIns

open Sys2Proof Sys2Proof.Machine Sys2Proof.Safety Sys2Proof.Laws
open Sys2Proof.Proofs.Evaluation Sys2Proof.Proofs.Persistence Sys2Proof.Proofs.EventReports Sys2Proof.Proofs.Conditions
open Sys2Proof.Proofs.ZoneMoves Sys2Proof.Proofs.PointReports
open Sys2Proof.Proofs.Acts (entryOf_get)
open Sys2Proof.Proofs.SecondTicks (get_of_mem)

variable {s t m u : State} {a : Addr} {line : List Bool} {n : Nat} {r : Room} {b e : Nat} {o : OccEntry} {tok : Token}

/-! ### A check-in (R109) -/

/-- What a check-in for the bearer `b` of the entry `o` under `e` leaves of the roll and of the Alarm Table. -/
structure CheckedIn (s t : State) (b e : Nat) (o : OccEntry) : Prop where
  entry : t.roll.entries.get e =
    if o.checkIn = .off then some o
    else some { o with counter := s.loneLoad o, checkIn := .running, promptDue := false }
  others : ∀ k, k ≠ e → t.roll.entries.get k = s.roll.entries.get k
  rooms : t.roll.rooms = s.roll.rooms
  overdue : ConditionGone t (.forRoomBearer .overdue o.room b)
  ended : ∀ x ∈ t.alarms.records, x.key.kind = .duress ∨ x.key.kind = .manDown → x.key.bearer = some b →
    x.state = .restored ∨ x.state = .awaitReset

/-- The same, where the roll and the records of the Alarm Table are the same. -/
theorem CheckedIn.congr (h : CheckedIn s t b e o) (roll : u.roll = t.roll) (records : u.alarms.records = t.alarms.records) :
    CheckedIn s u b e o := by
  obtain ⟨entry, others, rooms, overdue, ended⟩ := h
  refine ⟨?_, ?_, ?_, ?_, ?_⟩
  · rwa [roll]
  · rwa [roll]
  · rwa [roll]
  · rwa [ConditionGone, records]
  · rwa [records]

theorem loneLoad_congr (bt : m.bt = s.bt) (profiles : m.sup.profiles = s.sup.profiles) (o : OccEntry) : m.loneLoad o = s.loneLoad o := by
  unfold State.loneLoad
  rw [bt, profiles]

theorem checkIn_roll (m : State) (e : Nat) (o : OccEntry) :
    (m.checkIn e o).roll =
      if o.checkIn = .off then m.roll
      else
        { m.roll with
          entries := m.roll.entries.modify e fun x => { x with counter := m.loneLoad o, checkIn := .running, promptDue := false } } := by
  unfold State.checkIn
  dsimp only
  split <;> rfl

theorem checkIn_checkedIn (wf : m.roll.entries.wf = true) (found : m.entryOf b = some (e, o)) : CheckedIn m (m.checkIn e o) b e o := by
  obtain ⟨mem, bearer⟩ := entryOf_get found
  have entry := get_of_mem wf mem
  have roll := checkIn_roll m e o
  refine ⟨?_, fun k other => ?_, ?_, ?_, fun x memx kind same => ?_⟩
  · rw [roll]
    split
    · exact entry
    · rw [Table.get_modify, if_pos rfl, entry]
      rfl
  · rw [roll]
    split
    · rfl
    · rw [Table.get_modify, if_neg other]
  · rw [roll]
    split <;> rfl
  · rw [← bearer]
    exact alarmsGone_keepsGone _ (alarmGone_conditionGone _ _)
  · unfold State.checkIn at memx
    obtain ⟨y, -, key, ⟨-, gone⟩ | ⟨stays, rfl⟩⟩ := mem_alarmsGone memx
    · exact gone
    · rcases kind with kind | kind <;> simp [kind, same, bearer] at stays

theorem heard_checkedIn (h : Heard s m a) (occupancy : OccupancyLaw s) (found : s.entryOf b = some (e, o)) :
    CheckedIn s (State.finish m (m.checkIn e o)) b e o := by
  have wf : m.roll.entries.wf = true := h.roll ▸ occupancy.1
  have checked := checkIn_checkedIn wf ((h.entryOf b).trans found)
  obtain ⟨entry, others, rooms, overdue, ended⟩ := checked.congr (finish_leaves m (m.checkIn e o)).roll
    (finish_records_of_coverage (by simp))
  refine ⟨?_, fun k other => (others k other).trans (by rw [h.roll]), rooms.trans (by rw [h.roll]), overdue, ended⟩
  rw [entry, loneLoad_congr h.bt h.profiles]

/-! ### At a check-in station -/

theorem declared_checkIn {digits : List Nat} (number : 1 ≤ n ∧ n ≤ 255) (valid : ∀ d ∈ digits, d ≤ 9) :
    (⟨line, some .checkIn, [], n, .checkIn [⟨tok, digits⟩]⟩ : ReportFrame).declared? = some .checkIn := by
  have positive : n ≠ 0 := by omega
  simpa [ReportFrame.declared?, StationType.pointCount, Events.fit, Events.any, number.2, positive] using valid

/-- A presentation at the check-in station of a strongroom is decided on the state that the report leaves. -/
theorem exec_checkIn {digits : List Nat} (brings : Brings s a line n) (type : s.loop.stations[a].type = .checkIn)
    (here : s.loop.stations[a].room = num r) (valid : ∀ d ∈ digits, d ≤ 9) :
    ∃ m, Heard s m a ∧
      exec (.report ⟨line, some .checkIn, [], n, .checkIn [⟨tok, digits⟩]⟩) s =
        .next (answerPolled (State.finish m (m.checkInPresentation r ⟨tok, digits⟩).1) a n (some [(m.checkInPresentation r ⟨tok, digits⟩).2])) ∧
      Unhindered (State.finish m (m.checkInPresentation r ⟨tok, digits⟩).1) := by
  have heard := heard_pointless (.inl type) brings.online
  have next := exec_report_events brings rfl (declared_checkIn (tok := tok) ⟨brings.number.1, brings.number.2.1⟩ valid) type nofun
  have serves : s.loop.stations[a].serves = some r := by
    unfold Station.serves
    rw [type, here]
    exact room?_num r
  have events : (reported s a []).takeEvents a (.checkIn [⟨tok, digits⟩]) =
      (State.finish (reported s a []) ((reported s a []).checkInPresentation r ⟨tok, digits⟩).1,
        some [((reported s a []).checkInPresentation r ⟨tok, digits⟩).2]) := by
    unfold State.takeEvents
    rw [heard.serves, serves]
    rfl
  have owned : s.loop.stations[a].owns (.checkIn [⟨tok, digits⟩]) = true := congrArg Option.isSome serves
  refine ⟨_, heard, ?_, unhindered_finish brings heard (by simp) (by simp) (by simp)⟩
  rw [next, reportEvents_new heard brings.number rfl owned, events]

/-- The check-in of a bearer at its own check-in station. -/
theorem checkInPresentation_own {digits : List Nat} (token : m.findToken tok = some b) (inside : m.entryOf b = some (e, o)) (here : o.room = r) :
    m.checkInPresentation r ⟨tok, digits⟩ = (m.checkIn e o, .checkedIn) := by
  unfold State.checkInPresentation
  dsimp only
  rw [token]
  dsimp only
  rw [inside]
  exact if_pos here

/-- Any other presentation there. -/
theorem checkInPresentation_other {digits : List Nat}
    (other : ∀ b e x, m.findToken tok = some b → m.entryOf b = some (e, x) → x.room ≠ r) :
    m.checkInPresentation r ⟨tok, digits⟩ = (m, .notInside) := by
  unfold State.checkInPresentation
  dsimp only
  split
  · rfl
  · next b token =>
    split
    · rfl
    · next e x inside => exact if_neg (other b e x token inside)

/-! ### At a pendant receiver (R106) -/

theorem declared_pendant {button : Button} (number : 1 ≤ n ∧ n ≤ 255) :
    (⟨line, some .pendantRx, [], n, .pendant [⟨tok, button⟩]⟩ : ReportFrame).declared? = some .pendantRx := by
  have positive : n ≠ 0 := by omega
  simp [ReportFrame.declared?, StationType.pointCount, Events.fit, Events.any, number.2, positive]

theorem exec_pendant {button : Button} (brings : Brings s a line n) (type : s.loop.stations[a].type = .pendantRx) :
    ∃ m, Heard s m a ∧
      exec (.report ⟨line, some .pendantRx, [], n, .pendant [⟨tok, button⟩]⟩) s =
        .next (answerPolled (State.finish m (m.pendant a ⟨tok, button⟩)) a n none) ∧
      Unhindered (State.finish m (m.pendant a ⟨tok, button⟩)) := by
  have heard := heard_pointless (.inr type) brings.online
  have next := exec_report_events brings rfl (declared_pendant (tok := tok) (button := button) ⟨brings.number.1, brings.number.2.1⟩) type nofun
  have events : (reported s a []).takeEvents a (.pendant [⟨tok, button⟩]) =
      (State.finish (reported s a []) ((reported s a []).pendant a ⟨tok, button⟩), none) := by
    unfold State.takeEvents
    rfl
  refine ⟨_, heard, ?_, unhindered_finish brings heard (by simp) (by simp) (by simp)⟩
  rw [next, reportEvents_new heard brings.number rfl rfl, events]

/-- A raise in an event that leaves the coverage as it was stands at its end. -/
theorem finish_raise_stands {k : AlarmKey} (roomy : Roomy s) (heard : Heard s m a) : Stands (State.finish m (m.raiseAlarm k)) k := by
  have roomy : m.alarms.records.length < 64 := by
    unfold Roomy at roomy
    rw [heard.records]
    omega
  have raised : Stands (m.raiseAlarm k) k := raiseAlarm_stands roomy
  unfold Stands
  rw [finish_records_of_coverage (by simp)]
  exact raised

/-- The event of a pendant report, by its token and its button. -/
theorem pendant_known {button : Button} (token : m.findToken tok = some b) :
    m.pendant a ⟨tok, button⟩ =
      match button with
      | .checkIn => match m.entryOf b with | none => m | some (e, o) => m.checkIn e o
      | .duress => m.raiseAlarm (m.pendantDuressKey b)
      | .tilt => m.raiseAlarm (.forBearer .manDown b) := by
  unfold State.pendant
  dsimp only
  rw [token]
  cases button <;> rfl

theorem pendant_unknown {button : Button} (token : m.findToken tok = none) :
    m.pendant a ⟨tok, button⟩ =
      match button with
      | .checkIn => m
      | .duress => m.raiseAlarm (.forStation .duress a)
      | .tilt => m.raiseAlarm (.forStation .manDown a) := by
  unfold State.pendant
  dsimp only
  rw [token]
  cases button <;> rfl

theorem pendant_roll {button : Button} (other : button ≠ .checkIn) : (m.pendant a ⟨tok, button⟩).roll = m.roll := by
  cases token : m.findToken tok with
  | none =>
    rw [pendant_unknown token]
    cases button with
    | checkIn => exact absurd rfl other
    | duress => simp
    | tilt => simp
  | some b =>
    rw [pendant_known token]
    cases button with
    | checkIn => exact absurd rfl other
    | duress => simp
    | tilt => simp

/-! ### Presentations at a check-in station, and pendant reports -/

theorem exec_checkIn_answers {digits : List Nat} (brings : Brings s a line n) (occupancy : OccupancyLaw s)
    (type : s.loop.stations[a].type = .checkIn) (here : s.loop.stations[a].room = num r) (valid : ∀ d ∈ digits, d ≤ 9) :
    let out := exec (.report ⟨line, some .checkIn, [], n, .checkIn [⟨tok, digits⟩]⟩) s
    (∀ b e x, s.findToken tok = some b → s.entryOf b = some (e, x) → x.room = r →
      AnswersWith out a n .checkedIn fun t => CheckedIn s t b e x ∧ t.bt = s.bt) ∧
    ((∀ b e x, s.findToken tok = some b → s.entryOf b = some (e, x) → x.room ≠ r) →
      AnswersWith out a n .notInside fun t => t.roll = s.roll ∧ t.alarms.records = s.alarms.records ∧ t.bt = s.bt) := by
  obtain ⟨m, heard, next, free⟩ := exec_checkIn (tok := tok) brings type here valid
  refine ⟨fun b e x token inside own => ?_, fun other => ?_⟩
  · have taken := checkInPresentation_own (digits := digits) ((heard.findToken tok).trans token) ((heard.entryOf b).trans inside) own
    rw [taken] at next free
    obtain ⟨bt, -, -, roll, -, -, -, alarms, -⟩ := answerPolled_frame (State.finish m (m.checkIn e x)) a n (some [.checkedIn])
    refine answersWith_of free next ⟨(heard_checkedIn heard occupancy inside).congr roll (by rw [alarms]), ?_⟩
    rw [bt, (finish_leaves ..).bt, (State.checkIn_frame m e x).2.2.2.2.2.1, heard.bt]
  · have taken : m.checkInPresentation r ⟨tok, digits⟩ = (m, .notInside) :=
      checkInPresentation_other fun b e x token inside => other b e x ((heard.findToken tok).symm.trans token) ((heard.entryOf b).symm.trans inside)
    rw [taken] at next free
    obtain ⟨bt, -, -, roll, -, -, -, alarms, -⟩ := answerPolled_frame (State.finish m m) a n (some [.notInside])
    refine answersWith_of free next ⟨?_, ?_, ?_⟩
    · rw [roll, (finish_leaves ..).roll, heard.roll]
    · rw [alarms, finish_records_of_coverage rfl, heard.records]
    · rw [bt, (finish_leaves ..).bt, heard.bt]

/-- What a pendant's event leaves, by its token and its button (R106). -/
structure PendantHeard (s t : State) (a : Addr) (tok : Token) (button : Button) : Prop where
  bt : t.bt = s.bt
  roll : button ≠ .checkIn → t.roll = s.roll
  duress : ∀ b, s.findToken tok = some b → button = .duress → Roomy s →
    (∀ e o, s.entryOf b = some (e, o) → Stands t (.forRoomBearer .duress o.room b)) ∧ (s.entryOf b = none → Stands t (.forBearer .duress b))
  tilt : ∀ b, s.findToken tok = some b → button = .tilt → Roomy s → Stands t (.forBearer .manDown b)
  checkIn : ∀ b, s.findToken tok = some b → button = .checkIn →
    (∀ e o, s.entryOf b = some (e, o) → CheckedIn s t b e o) ∧
      (s.entryOf b = none → t.roll = s.roll ∧ t.alarms.records = s.alarms.records)
  strangeDuress : s.findToken tok = none → button = .duress → Roomy s → Stands t (.forStation .duress a)
  strangeTilt : s.findToken tok = none → button = .tilt → Roomy s → Stands t (.forStation .manDown a)
  strangeCheckIn : s.findToken tok = none → button = .checkIn → t.roll = s.roll ∧ t.alarms.records = s.alarms.records

theorem pendantHeard_finish {button : Button} (heard : Heard s m a) (occupancy : OccupancyLaw s) :
    PendantHeard s (State.finish m (m.pendant a ⟨tok, button⟩)) a tok button := by
  have still : (State.finish m m).roll = s.roll ∧ (State.finish m m).alarms.records = s.alarms.records :=
    ⟨(finish_leaves m m).roll.trans heard.roll, (finish_records_of_coverage rfl).trans heard.records⟩
  refine ⟨?_, fun other => ?_, fun b token pressed roomy => ?_, fun b token pressed roomy => ?_, fun b token pressed => ?_,
    fun token pressed roomy => ?_, fun token pressed roomy => ?_, fun token pressed => ?_⟩
  · rw [(finish_leaves ..).bt, (State.pendant_frame m a ⟨tok, button⟩).2.2.2.2.2.1, heard.bt]
  · rw [(finish_leaves ..).roll, pendant_roll other, heard.roll]
  · rw [pendant_known ((heard.findToken tok).trans token), pressed]
    dsimp only
    unfold State.pendantDuressKey
    rw [heard.entryOf b]
    refine ⟨fun e o inside => ?_, fun outside => ?_⟩
    · rw [inside]
      exact finish_raise_stands roomy heard
    · rw [outside]
      exact finish_raise_stands roomy heard
  · rw [pendant_known ((heard.findToken tok).trans token), pressed]
    exact finish_raise_stands roomy heard
  · rw [pendant_known ((heard.findToken tok).trans token), pressed]
    dsimp only
    rw [heard.entryOf b]
    refine ⟨fun e o inside => ?_, fun outside => ?_⟩
    · rw [inside]
      exact heard_checkedIn heard occupancy inside
    · rw [outside]
      exact still
  · rw [pendant_unknown ((heard.findToken tok).trans token), pressed]
    exact finish_raise_stands roomy heard
  · rw [pendant_unknown ((heard.findToken tok).trans token), pressed]
    exact finish_raise_stands roomy heard
  · rw [pendant_unknown ((heard.findToken tok).trans token), pressed]
    exact still

/-- The answer poll changes nothing of this. -/
theorem PendantHeard.congr {button : Button} (h : PendantHeard s t a tok button) (bt : u.bt = t.bt) (roll : u.roll = t.roll)
    (alarms : u.alarms = t.alarms) : PendantHeard s u a tok button := by
  have stands {k : AlarmKey} (up : Stands t k) : Stands u k := by rwa [Stands, alarms]
  have same : t.roll = s.roll ∧ t.alarms.records = s.alarms.records → u.roll = s.roll ∧ u.alarms.records = s.alarms.records :=
    fun ⟨r, x⟩ => ⟨roll.trans r, by rw [alarms, x]⟩
  exact
    { bt := bt.trans h.bt
      roll := fun other => roll.trans (h.roll other)
      duress := fun b token pressed roomy =>
        ⟨fun e o inside => stands ((h.duress b token pressed roomy).1 e o inside), fun outside => stands ((h.duress b token pressed roomy).2 outside)⟩
      tilt := fun b token pressed roomy => stands (h.tilt b token pressed roomy)
      checkIn := fun b token pressed =>
        ⟨fun e o inside => ((h.checkIn b token pressed).1 e o inside).congr roll (by rw [alarms]),
          fun outside => same ((h.checkIn b token pressed).2 outside)⟩
      strangeDuress := fun token pressed roomy => stands (h.strangeDuress token pressed roomy)
      strangeTilt := fun token pressed roomy => stands (h.strangeTilt token pressed roomy)
      strangeCheckIn := fun token pressed => same (h.strangeCheckIn token pressed) }

theorem exec_pendant_effect {button : Button} (brings : Brings s a line n) (occupancy : OccupancyLaw s)
    (type : s.loop.stations[a].type = .pendantRx) :
    ∃ t, exec (.report ⟨line, some .pendantRx, [], n, .pendant [⟨tok, button⟩]⟩) s = .next t ∧ t.loop.stations[a].lastEvent = n ∧
      t.loop.stations[a].lastAnswers = none ∧ (∃ answers, AnswerPoll t a n answers) ∧ PendantHeard s t a tok button := by
  obtain ⟨m, heard, next, free⟩ := exec_pendant (tok := tok) (button := button) brings type
  have station := answerPolled_station (a := a) (n := n) (answers := none) free
  obtain ⟨bt, -, -, roll, -, -, -, alarms, -⟩ := answerPolled_frame (State.finish m (m.pendant a ⟨tok, button⟩)) a n none
  refine ⟨_, next, ?_, ?_, ⟨_, answerPolled_answerPoll free⟩, (pendantHeard_finish heard occupancy).congr bt roll alarms⟩ <;> rw [station] <;> rfl

/-- Settles O33: a call point's report in `exec_report_callPoint`, a check-in's and a pendant's by the state their points leave. -/
theorem callPointPendantAndCheckInReports : Obligations.CallPointPendantAndCheckInReports := by
  unfold Obligations.CallPointPendantAndCheckInReports
  refine ⟨fun s a line states replies type four => CallPoints.exec_report_callPoint replies type four,
    fun s a line n brings occupancy => ?_⟩
  intro checkedIn
  refine ⟨fun r tok digits type here valid => ?_, fun tok button type => ?_⟩
  · obtain ⟨own, other⟩ := exec_checkIn_answers (tok := tok) brings occupancy type here valid
    refine ⟨fun b e x token inside room => ?_, other⟩
    obtain ⟨t, next, number, kept, slot, poll, ⟨entry, others, rooms, overdue, ended⟩, bt⟩ := own b e x token inside room
    exact ⟨t, next, number, kept, slot, poll, ⟨entry, others, rooms, overdue, ended⟩, bt⟩
  · obtain ⟨t, next, number, kept, poll, h⟩ := exec_pendant_effect (tok := tok) (button := button) brings occupancy type
    refine ⟨t, next, number, kept, poll, h.bt, h.roll, fun b token => ⟨h.duress b token, h.tilt b token, fun pressed => ⟨fun e o inside => ?_, ?_⟩⟩,
      fun token => ⟨h.strangeDuress token, h.strangeTilt token, h.strangeCheckIn token⟩⟩
    · obtain ⟨entry, others, rooms, overdue, ended⟩ := (h.checkIn b token pressed).1 e o inside
      exact ⟨entry, others, rooms, overdue, ended⟩
    · exact (h.checkIn b token pressed).2

end Sys2Proof.Proofs.CheckIns
end

section
/-! PROOFS. ALIKE STATES: an access decision reads and changes the same in two states that differ in the envelopes, the stations, the ports,
the Alarm Table and what is owed alone. -/
namespace Sys2Proof.Proofs.AlikeStates

open Sys2Proof Sys2Proof.Machine Sys2Proof.Safety Sys2Proof.Laws

variable {s t m u : State} {r z : Room} {b e : Nat} {o : OccEntry}

/-- All that an access decision reads and reports, equal. -/
structure Alike (s m : State) : Prop where
  bt : m.bt = s.bt
  clk : m.clk = s.clk
  ctx : m.ctx = s.ctx
  roll : m.roll = s.roll
  lines : m.lines = s.lines
  profiles : m.sup.profiles = s.sup.profiles
  cylinders : m.bank.cylinders = s.bank.cylinders
  doors : ∀ j : Room, ∃ c, m.doors[j] = { s.doors[j] with envelopeClosed := c }
  zones : ∀ j : Room, ∃ c, m.zones[j] = { s.zones[j] with lastEnvelope := c }

/-- The same in a state that an operation on the Alarm Table, the stations or the notices owed leaves. -/
structure Same (s t : State) : Prop where
  bt : t.bt = s.bt
  clk : t.clk = s.clk
  ctx : t.ctx = s.ctx
  roll : t.roll = s.roll
  lines : t.lines = s.lines
  profiles : t.sup.profiles = s.sup.profiles
  cylinders : t.bank.cylinders = s.bank.cylinders
  doors : t.doors = s.doors
  zones : t.zones = s.zones

theorem Alike.after (h : Alike s m) (hs : Same s t) (hm : Same m u) : Alike t u where
  bt := by rw [hm.bt, hs.bt, h.bt]
  clk := by rw [hm.clk, hs.clk, h.clk]
  ctx := by rw [hm.ctx, hs.ctx, h.ctx]
  roll := by rw [hm.roll, hs.roll, h.roll]
  lines := by rw [hm.lines, hs.lines, h.lines]
  profiles := by rw [hm.profiles, hs.profiles, h.profiles]
  cylinders := by rw [hm.cylinders, hs.cylinders, h.cylinders]
  doors j := by rw [hm.doors, hs.doors]; exact h.doors j
  zones j := by rw [hm.zones, hs.zones]; exact h.zones j

theorem raiseAlarm_same (s : State) (k : AlarmKey) : Same s (s.raiseAlarm k) := by constructor <;> simp

theorem alarmsGone_same (s : State) (g : AlarmKey → Bool) : Same s (s.alarmsGone g) := ⟨rfl, rfl, rfl, rfl, rfl, rfl, rfl, rfl, rfl⟩

theorem alarmGone_same (s : State) (k : AlarmKey) : Same s (s.alarmGone k) := alarmsGone_same s _

theorem placeBolt_same (s : State) (r : Room) (c : BoltCommand) : Same s (s.placeBolt r c) := by constructor <;> simp

/-- A decision's outcome in two alike states: alike states again, and the same answer. -/
structure Agree {α : Type} (p q : State × α) : Prop where
  alike : Alike p.1 q.1
  answer : q.2 = p.2

theorem Alike.agree {α : Type} {x y : α} (h : Alike s m) (same : y = x) : Agree (s, x) (m, y) := ⟨h, same⟩

namespace Alike

variable (h : Alike s m)

include h

/-! ### One record -/

theorem setDoor {d d' : Door} (r : Room) (same : ∃ c, d' = { d with envelopeClosed := c }) : Alike (s.setDoor r d) (m.setDoor r d') where
  bt := h.bt
  clk := h.clk
  ctx := h.ctx
  roll := h.roll
  lines := h.lines
  profiles := h.profiles
  cylinders := h.cylinders
  zones := h.zones
  doors j := by
    by_cases here : r = j
    · subst here
      simp only [State.setDoor, vset_same]
      exact same
    · simp only [State.setDoor, vset_other _ _ here]
      exact h.doors j

theorem setZone {zn zn' : Zone} (z : Room) (same : ∃ c, zn' = { zn with lastEnvelope := c }) : Alike (s.setZone z zn) (m.setZone z zn') where
  bt := h.bt
  clk := h.clk
  ctx := h.ctx
  roll := h.roll
  lines := h.lines
  profiles := h.profiles
  cylinders := h.cylinders
  doors := h.doors
  zones j := by
    by_cases here : z = j
    · subst here
      simp only [State.setZone, vset_same]
      exact same
    · simp only [State.setZone, vset_other _ _ here]
      exact h.zones j

theorem setCtx (r : Room) (c : Context) : Alike (s.setCtx r c) (m.setCtx r c) :=
  { h with ctx := congrArg (fun v : Vector Context 16 => v.set r c) h.ctx }

theorem dropContexts (test : Room → Context → Bool) : Alike (s.dropContexts test) (m.dropContexts test) :=
  { h with ctx := by simp only [State.dropContexts, h.ctx] }

theorem setRoll {x : Roll} : Alike { s with roll := x } { m with roll := x } := { h with roll := rfl }

theorem modEntry (e : Nat) (f : OccEntry → OccEntry) : Alike (s.modEntry e f) (m.modEntry e f) := by
  unfold State.modEntry State.setEntries
  rw [h.roll]
  exact h.setRoll

theorem alarmGone (k : AlarmKey) : Alike (s.alarmGone k) (m.alarmGone k) := h.after (alarmGone_same s k) (alarmGone_same m k)

theorem raiseAlarm (k : AlarmKey) : Alike (s.raiseAlarm k) (m.raiseAlarm k) := h.after (raiseAlarm_same s k) (raiseAlarm_same m k)

theorem placeBolt (r : Room) (c : BoltCommand) : Alike (s.placeBolt r c) (m.placeBolt r c) :=
  h.after (placeBolt_same s r c) (placeBolt_same m r c)

/-! ### The door's timers and demands -/

theorem endExpired (r : Room) : Alike (s.endExpired r) (m.endExpired r) := by
  obtain ⟨c, door⟩ := h.doors r
  unfold State.endExpired
  rw [door]
  dsimp only
  split
  · exact (h.setDoor r ⟨c, rfl⟩).alarmGone _
  · exact h

theorem resetHeld (r : Room) (x : HeldTimer) : Alike (s.resetHeld r x) (m.resetHeld r x) := by
  have ended := h.endExpired r
  obtain ⟨c, door⟩ := ended.doors r
  exact ended.setDoor r ⟨c, by rw [door]⟩

theorem loadHeld (r : Room) : Alike (s.loadHeld r) (m.loadHeld r) := by
  unfold State.loadHeld
  rw [h.profiles]
  exact h.resetHeld r _

theorem dropHold (r : Room) : Alike (s.dropHold r) (m.dropHold r) := by
  obtain ⟨c, door⟩ := h.doors r
  have dropped : Alike (s.setDoor r { s.doors[r] with hold := false }) (m.setDoor r { m.doors[r] with hold := false }) :=
    h.setDoor r ⟨c, by rw [door]⟩
  obtain ⟨c, door⟩ := dropped.doors r
  unfold State.dropHold
  dsimp only
  rw [door]
  unfold Door.isOpen
  dsimp only
  split
  · exact dropped.loadHeld r
  · exact dropped

theorem reloadHeld (r : Room) : Alike (s.reloadHeld r) (m.reloadHeld r) := by
  obtain ⟨c, door⟩ := h.doors r
  unfold State.reloadHeld
  rw [door]
  dsimp only
  split
  · exact h
  · exact h.loadHeld r

theorem reportEnvelope (r : Room) : Alike (s.reportEnvelope r) (m.reportEnvelope r) := by
  obtain ⟨c, zone⟩ := h.zones r
  exact h.setZone r ⟨_, by rw [zone]⟩

theorem cancelRelease (r : Room) : Alike (s.cancelRelease r) (m.cancelRelease r) := by
  obtain ⟨c, door⟩ := h.doors r
  unfold State.cancelRelease
  rw [door]
  unfold Door.cancellable
  dsimp only
  split
  · exact (h.placeBolt r .cancel).setDoor r ⟨c, rfl⟩
  · exact h

theorem setCloseDemand (r : Room) (demand : Bool) : Alike (s.setCloseDemand r demand) (m.setCloseDemand r demand) := by
  obtain ⟨c, door⟩ := h.doors r
  unfold State.setCloseDemand
  rw [door]
  dsimp only
  split
  · exact h
  · split
    · exact (((h.setDoor r ⟨c, rfl⟩).dropHold r).cancelRelease r).reportEnvelope r
    · exact h.setDoor r ⟨c, rfl⟩

/-! ### The zone's hold reasons -/

theorem refreshCoverage (z : Room) : Alike (s.refreshCoverage z) (m.refreshCoverage z) :=
  h.after ⟨rfl, rfl, rfl, rfl, rfl, rfl, rfl, rfl, rfl⟩ ⟨rfl, rfl, rfl, rfl, rfl, rfl, rfl, rfl, rfl⟩

theorem enterZone (z : Room) (st : ZoneState) : Alike (s.enterZone z st) (m.enterZone z st) := by
  obtain ⟨c, zone⟩ := h.zones z
  have entered : Alike (s.setZone z { s.zones[z] with state := st }) (m.setZone z { m.zones[z] with state := st }) :=
    h.setZone z ⟨c, by rw [zone]⟩
  have demanded := (entered.setCloseDemand z st.demand).refreshCoverage z
  unfold State.enterZone
  dsimp only
  split
  · exact demanded
  · exact demanded.setCtx z .empty

theorem leaveQueue (z : Room) : Alike (s.leaveQueue z) (m.leaveQueue z) :=
  h.after ⟨rfl, rfl, rfl, rfl, rfl, rfl, rfl, rfl, rfl⟩ ⟨rfl, rfl, rfl, rfl, rfl, rfl, rfl, rfl, rfl⟩

theorem headCount (r : Room) : m.headCount r = s.headCount r := by
  unfold State.headCount
  rw [h.roll]

theorem occupied (r : Room) : m.occupied r = s.occupied r := by
  unfold State.occupied
  rw [h.headCount r, h.roll]

theorem deriveHolds (z : Room) : m.deriveHolds z = s.deriveHolds z := by
  obtain ⟨c, zone⟩ := h.zones z
  unfold State.deriveHolds
  rw [zone, h.occupied, h.lines]

theorem actOnHolds (z : Room) : Alike (s.actOnHolds z) (m.actOnHolds z) := by
  obtain ⟨c, zone⟩ := h.zones z
  unfold State.actOnHolds
  rw [zone]
  dsimp only
  split
  · next counting any =>
    rw [counting, any]
    exact (h.setZone z ⟨c, rfl⟩).enterZone z .held
  · next waiting any =>
    rw [waiting, any]
    exact ((h.leaveQueue z).setZone z ⟨c, rfl⟩).enterZone z .held
  · next held any =>
    rw [held, any]
    exact (h.setZone z ⟨c, rfl⟩).enterZone z .countdown
  · exact h

theorem rederive (z : Room) : Alike (s.rederive z) (m.rederive z) := by
  obtain ⟨c, zone⟩ := h.zones z
  unfold State.rederive
  rw [h.deriveHolds, zone]
  exact (h.setZone z ⟨c, rfl⟩).actOnHolds z

end Alike

end Sys2Proof.Proofs.AlikeStates
end

section
/-! PROOFS. DECISIONS ON ALIKE STATES: a presentation is answered the same and leaves alike states. -/
namespace Sys2Proof.Proofs.AlikeStates.Alike

open Sys2Proof Sys2Proof.Machine Sys2Proof.Safety Sys2Proof.Laws

variable {s m : State} (h : Alike s m)

include h

/-! ### The roll -/

theorem supervised (r : Room) : m.supervised r = s.supervised r := by
  unfold State.supervised State.isLone
  rw [h.profiles, h.headCount, h.clk]

theorem loneLoad (o : OccEntry) : m.loneLoad o = s.loneLoad o := by
  unfold State.loneLoad
  rw [h.bt, h.profiles]

theorem retestEntry (e : Nat) : Alike (s.retestEntry e) (m.retestEntry e) := by
  unfold State.retestEntry State.loadCounter
  rw [h.roll]
  split
  · exact h
  · next o _ =>
    rw [h.supervised, h.loneLoad]
    split
    · exact h.modEntry e _
    · exact h
    · exact h
    · exact (h.modEntry e _).alarmGone _

theorem retest (r : Room) : Alike (s.retest r) (m.retest r) := by
  have all (es : List Nat) (s m : State) (h : Alike s m) : Alike (es.foldl State.retestEntry s) (es.foldl State.retestEntry m) := by
    induction es generalizing s m with
    | nil => exact h
    | cons e es ih => exact ih _ _ (h.retestEntry e)
  unfold State.retest
  rw [h.roll]
  exact all _ s m h

theorem handOn (r : Room) : Alike (s.handOn r) (m.handOn r) := (h.rederive r).retest r

theorem release (r : Room) (k : ReleaseKind) : Alike (s.release r k) (m.release r k) := by
  have placed : Alike (if k = .egress then s else s.placeBolt r (.release s.sup.profiles[r].unlock))
      (if k = .egress then m else m.placeBolt r (.release s.sup.profiles[r].unlock)) := by
    split
    · exact h
    · exact h.placeBolt r _
  unfold State.release
  rw [h.profiles]
  dsimp only
  generalize (if k = .egress then s else s.placeBolt r (.release s.sup.profiles[r].unlock)) = s' at placed ⊢
  generalize (if k = .egress then m else m.placeBolt r (.release s.sup.profiles[r].unlock)) = m' at placed ⊢
  obtain ⟨c, door⟩ := placed.doors r
  obtain ⟨c', door'⟩ := (placed.reloadHeld r).doors r
  rw [door, door']
  dsimp only
  cases s'.doors[r].state with
  | secured => exact placed.setDoor r ⟨c, rfl⟩
  | timeLocked => exact placed.setDoor r ⟨c, rfl⟩
  | released => exact placed.setDoor r ⟨c, rfl⟩
  | opened => exact (placed.reloadHeld r).setDoor r ⟨c', rfl⟩
  | held => exact (placed.reloadHeld r).setDoor r ⟨c', rfl⟩
  | forced => exact (placed.reloadHeld r).setDoor r ⟨c', rfl⟩
  | unknown => exact placed

theorem completeRetirement (b : Nat) : Alike (s.completeRetirement b) (m.completeRetirement b) := by
  unfold State.completeRetirement
  rw [h.bt]
  split
  · exact h
  · next x _ =>
    have erased : Alike
        { s with
          bt :=
            { s.bt.giveBack (s.bt.chainOf x) with
              index := (s.bt.giveBack (s.bt.chainOf x)).index.erase x.token.toNat
              bearers := (s.bt.giveBack (s.bt.chainOf x)).bearers.erase b } }
        { m with
          bt :=
            { s.bt.giveBack (s.bt.chainOf x) with
              index := (s.bt.giveBack (s.bt.chainOf x)).index.erase x.token.toNat
              bearers := (s.bt.giveBack (s.bt.chainOf x)).bearers.erase b } } := { h with bt := rfl }
    exact (erased.after (alarmsGone_same ..) (alarmsGone_same ..)).dropContexts _

theorem lapsedCount (r : Room) : m.lapsedCount r = s.lapsedCount r := by
  unfold State.lapsedCount State.entriesIn
  rw [h.roll]

theorem setRoom (r : Room) (f : RoomRecord → RoomRecord) : Alike (s.setRoom r (f s.roll.rooms[r])) (m.setRoom r (f m.roll.rooms[r])) := by
  unfold State.setRoom
  rw [h.roll]
  exact h.setRoll

theorem setEntries (f : Table OccEntry → Table OccEntry) : Alike (s.setEntries (f s.roll.entries)) (m.setEntries (f m.roll.entries)) := by
  unfold State.setEntries
  rw [h.roll]
  exact h.setRoll

theorem unlinked (e : Nat) (o : OccEntry) : Alike (Acts.unlinked s e o) (Acts.unlinked m e o) := by
  unfold Acts.unlinked
  cases o.link with
  | none =>
    dsimp only
    split
    · exact h.dropContexts _
    · exact ((h.setEntries _).raiseAlarm _).dropContexts _
  | some x =>
    have left := h.modEntry x fun o => { o with escorted := o.escorted - 1 }
    dsimp only
    split
    · exact left.dropContexts _
    · exact ((left.setEntries _).raiseAlarm _).dropContexts _

theorem erased (e : Nat) (o : OccEntry) : Alike (Acts.erased s e o) (Acts.erased m e o) := by
  have gone := ((h.setEntries (·.erase e)).setRoom o.room fun x => { x with list := x.list.filter (· ≠ e) }).alarmGone o.overdueKey
  unfold Acts.erased
  dsimp only
  rw [gone.lapsedCount]
  split
  · exact gone.after (alarmsGone_same ..) (alarmsGone_same ..)
  · exact gone

theorem removeEntry (e : Nat) (o : OccEntry) : Alike (s.removeEntry e o) (m.removeEntry e o) := by
  have left := (h.unlinked e o).erased e o
  rw [Acts.removeEntry_eq, Acts.removeEntry_eq]
  unfold Acts.retireIf
  split
  · exact (left.completeRetirement _).handOn _
  · exact left.handOn _

theorem findToken (t : Token) : m.findToken t = s.findToken t := by
  unfold State.findToken
  rw [h.bt]

theorem entryOf (b : Nat) : m.entryOf b = s.entryOf b := by
  unfold State.entryOf
  rw [h.roll]

theorem grantAnswer (r : Room) : m.grantAnswer r = s.grantAnswer r := by
  unfold State.grantAnswer
  rw [h.profiles]

/-! ### Exits and the stages of an entry -/

theorem exitPresentation (r : Room) (t : Token) :
    Agree (s.exitPresentation r t) (m.exitPresentation r t) := by
  have released := h.release r .exit
  have found : (m.release r .exit).entryOf = (s.release r .exit).entryOf := funext released.entryOf
  unfold State.exitPresentation
  dsimp only
  rw [released.findToken t, found]
  split
  · exact released.agree rfl
  · next e o _ =>
    split
    · exact (released.removeEntry e o).agree (released.grantAnswer r)
    · exact released.agree rfl

theorem nightRules (r : Room) (cls : Class) : m.nightRules r cls = s.nightRules r cls := by
  unfold State.nightRules
  rw [h.ctx, h.clk]

theorem needed (r : Room) (night : Bool) : m.needed r night = s.needed r night := by
  obtain ⟨c, zone⟩ := h.zones r
  unfold State.needed
  rw [zone]

theorem chainWalk (cls : Class) (r : Room) (need : Rights) (fuel entry : Nat) (named : Bool) :
    m.chainWalk cls r need fuel entry named = s.chainWalk cls r need fuel entry named := by
  induction fuel generalizing entry named with
  | zero => rfl
  | succ fuel ih =>
    unfold State.chainWalk
    rw [h.bt, h.clk]
    split
    · rfl
    · split
      · rfl
      · exact ih _ _

theorem custodyApplies (r : Room) (cls : Class) (night : Bool) : m.custodyApplies r cls night = s.custodyApplies r cls night := by
  unfold State.custodyApplies
  rw [h.ctx, h.profiles]

theorem inValidity (x : Bearer) : m.inValidity x = s.inValidity x := by
  unfold State.inValidity
  rw [h.clk]

theorem escortLimit (b : Nat) : m.escortLimit b = s.escortLimit b := by
  unfold State.escortLimit
  rw [h.bt]

theorem roomFor (r : Room) (n : Nat) : m.roomFor r n = s.roomFor r n := by
  unfold State.roomFor
  rw [h.headCount, h.profiles, h.roll]

theorem modBearer (b : Nat) (f : Bearer → Bearer) : Alike (s.modBearer b f) (m.modBearer b f) := by
  unfold State.modBearer State.setBearers
  rw [h.bt]
  exact { h with bt := rfl }

theorem wrongPin (b : Nat) : Alike (s.wrongPin b) (m.wrongPin b) := by
  unfold State.wrongPin
  rw [h.bt]
  split
  · exact h
  · dsimp only
    split
    · split
      · exact ((h.modBearer b _).raiseAlarm _).dropContexts _
      · exact h.modBearer b _
    · exact h

theorem pinCorrect (b : Nat) : Alike (s.pinCorrect b) (m.pinCorrect b) := h.modBearer b _

theorem duressPin (r : Room) (b : Nat) : Alike (s.duressPin r b) (m.duressPin r b) := (h.pinCorrect b).raiseAlarm _

theorem pinStage (r : Room) (b : Nat) (x : Bearer) (night : Bool) (digits : List Nat) :
    Agree (s.pinStage r b x night digits) (m.pinStage r b x night digits) := by
  unfold State.pinStage
  rw [h.profiles]
  split
  · split
    · exact h.agree rfl
    · exact (h.wrongPin b).agree rfl
    · exact h.agree rfl
    · split
      · exact (h.pinCorrect b).agree rfl
      · split
        · exact (h.duressPin r b).agree rfl
        · exact (h.wrongPin b).agree rfl
  · split
    · exact h.agree rfl
    · split
      · exact (h.duressPin r b).agree rfl
      · exact h.agree rfl

/-! ### Grants and pairs -/

theorem admitOne (r : Room) (a : Admission) : Alike (State.admitOne r s a) (State.admitOne r m a) := by
  unfold State.admitOne
  rw [h.roll]
  split
  · exact h
  · next e _ =>
    have entered := (h.setEntries (·.set e
      { bearer := a.bearer, room := r, entryTick := s.roll.tick, link := a.escort, escorted := 0, revokedInside := false
        lapsed := false, counter := 0, checkIn := .off, promptDue := false })).setRoom r fun x => { x with list := x.list ++ [e] }
    rw [h.roll] at entered
    dsimp only
    split
    · exact entered
    · exact entered.modEntry _ _

theorem admitAll (r : Room) (as : List Admission) : Alike (s.admitAll r as) (m.admitAll r as) := by
  have all (as : List Admission) (s m : State) (h : Alike s m) : Alike (as.foldl (State.admitOne r) s) (as.foldl (State.admitOne r) m) := by
    induction as generalizing s m with
    | nil => exact h
    | cons a as ih => exact ih _ _ (h.admitOne r a)
  exact (all as s m h).handOn r

theorem grantEntry (r : Room) (as : List Admission) : Alike (s.grantEntry r as) (m.grantEntry r as) := by
  have all (as : List Admission) (s m : State) (h : Alike s m) :
      Alike (as.foldl (fun s a => s.dropWaiting r a.bearer) s) (as.foldl (fun s a => s.dropWaiting r a.bearer) m) := by
    induction as generalizing s m with
    | nil => exact h
    | cons a as ih => exact ih _ _ (h.dropContexts _)
  exact all as _ _ ((h.release r .entry).admitAll r as)

theorem openGroup (r : Room) (night : Bool) (b : Nat) (rights : Rights) :
    Alike (s.openGroup r night b rights) (m.openGroup r night b rights) := by
  obtain ⟨c, zone⟩ := h.zones r
  unfold State.openGroup
  rw [h.escortLimit, h.ctx, zone, h.entryOf, h.profiles]
  dsimp only
  split
  · split
    · exact h
    · exact h.setCtx r _
  · exact h

theorem plainGrant (r : Room) (b : Nat) (night : Bool) (rights : Rights) :
    Agree (s.plainGrant r b night rights) (m.plainGrant r b night rights) := by
  unfold State.plainGrant
  exact ((h.grantEntry r _).openGroup r night b rights).agree (h.grantAnswer r)

theorem completePair (r : Room) (first : Nat) (firstRights : Rights) (night : Bool) (second : Nat) :
    Agree (s.completePair r first firstRights night second) (m.completePair r first firstRights night second) := by
  unfold State.completePair
  exact (((h.grantEntry r _).setCtx r .empty).openGroup r night first firstRights).agree (h.grantAnswer r)

theorem custodyStage (r : Room) (b : Nat) (night : Bool) (rights : Rights) :
    Agree (s.custodyStage r b night rights) (m.custodyStage r b night rights) := by
  unfold State.custodyStage
  rw [h.ctx]
  split
  · split
    · exact h.agree rfl
    · split
      · exact h.completePair r _ _ _ b
      · exact h.agree rfl
  · split
    · rw [h.profiles]
      exact (h.setCtx r _).agree rfl
    · exact h.agree rfl

theorem visitorStage (r : Room) (b : Nat) :
    Agree (s.visitorStage r b) (m.visitorStage r b) := by
  unfold State.visitorStage
  rw [h.ctx]
  split
  · next n _ escort e _ =>
    rw [h.roll, h.escortLimit]
    extract_lets count limit t u
    split
    · exact (h.setCtx r .empty).agree rfl
    · have granted := h.grantEntry r [⟨b, some e⟩]
      rw [h.profiles]
      exact (granted.setCtx r _).agree (h.grantAnswer r)
  · exact h.agree rfl

theorem pairingStage (r : Room) (b : Nat) (cls : Class) (night : Bool) (rights : Rights) :
    Agree (s.pairingStage r b cls night rights) (m.pairingStage r b cls night rights) := by
  unfold State.pairingStage
  rw [h.custodyApplies]
  split
  · exact h.visitorStage r b
  · split
    · exact h.custodyStage r b night rights
    · exact h.plainGrant r b night rights

theorem lastStages (r : Room) (b : Nat) (cls : Class) (night : Bool) (rights : Rights) :
    Agree (s.lastStages r b cls night rights) (m.lastStages r b cls night rights) := by
  unfold State.lastStages
  rw [h.entryOf, h.custodyApplies, h.roomFor]
  split
  · exact h.agree rfl
  · generalize (if s.custodyApplies r cls night then 2 else 1) = places
    split
    · exact h.agree rfl
    · exact h.pairingStage r b cls night rights

/-! ### The decision -/

theorem decideBearer (r : Room) (b : Nat) (x : Bearer) (digits : List Nat) :
    Agree (s.decideBearer r b x digits) (m.decideBearer r b x digits) := by
  unfold State.decideBearer
  rw [h.inValidity, h.nightRules]
  dsimp only
  rw [h.needed, h.chainWalk]
  split
  · exact h.agree rfl
  · split
    · exact h.agree rfl
    · exact h.agree rfl
    · next rights _ =>
      obtain ⟨alike, answer⟩ := h.pinStage r b x (s.nightRules r x.cls) digits
      generalize s.pinStage r b x (s.nightRules r x.cls) digits = p at alike answer ⊢
      generalize m.pinStage r b x (s.nightRules r x.cls) digits = q at alike answer ⊢
      obtain ⟨s', a⟩ := p
      obtain ⟨m', a'⟩ := q
      obtain rfl : a' = a := answer
      cases a' with
      | some a => exact alike.agree rfl
      | none => exact alike.lastStages r b x.cls _ rights

theorem decideToken (r : Room) (t : Token) (digits : List Nat) :
    Agree (s.decideToken r t digits) (m.decideToken r t digits) := by
  unfold State.decideToken
  rw [h.findToken, h.bt]
  split
  · exact h.agree rfl
  · split
    · exact h.agree rfl
    · split
      · exact h.agree rfl
      · exact h.agree rfl
      · exact h.decideBearer r _ _ digits

theorem doorDenies {a : Addr} (station : m.loop.stations[a].state = s.loop.stations[a].state) (r : Room) :
    m.doorDenies a r = s.doorDenies a r := by
  obtain ⟨c, door⟩ := h.doors r
  unfold State.doorDenies
  rw [door, station]

/-- A presentation at a door unit that stands in the same state. -/
theorem presentation {a : Addr} (station : m.loop.stations[a].state = s.loop.stations[a].state) (r : Room) (p : DoorPresentation) :
    Agree (s.presentation a r p) (m.presentation a r p) := by
  obtain ⟨c, zone⟩ := h.zones r
  unfold State.presentation
  split
  · exact h.exitPresentation r _
  · unfold State.entryPresentation
    rw [h.doorDenies station, zone]
    split
    · exact h.agree rfl
    · split
      · exact h.decideToken r _ _
      · exact h.agree rfl

end Sys2Proof.Proofs.AlikeStates.Alike
end

section
/-! PROOFS. PRESENTATIONS IN A REPORT (R38, R157): a door unit whose points have not changed leaves a state alike to the one before, on which
its presentation is decided. -/
namespace Sys2Proof.Proofs.Presentations

open Sys2Proof Sys2Proof.Machine Sys2Proof.Safety Sys2Proof.Laws
open Sys2Proof.Proofs.Evaluation Sys2Proof.Proofs.Persistence Sys2Proof.Proofs.Reports Sys2Proof.Proofs.PointReports
open Sys2Proof.Proofs.EventReports Sys2Proof.Proofs.AlikeStates

variable {s t m u : State} {a : Addr} {r : Room} {line : List Bool} {states : List PointState} {n : Nat} {cs : List (Option PointState)}
  {side : Side} {tok : Token} {digits : List Nat}

/-! ### Points without a change -/

theorem pointFaults_still (s : State) (a : Addr) (i : Nat) (still : ∀ c ∈ cs, c = none) : s.pointFaults a i cs = s := by
  induction cs generalizing i with
  | nil => rfl
  | cons c cs ih =>
    obtain rfl := still c List.mem_cons_self
    exact ih (i + 1) fun c mem => still c (List.mem_cons_of_mem _ mem)

theorem getD_still (still : ∀ c ∈ cs, c = none) (i : Nat) : cs.getD i none = none := by
  rw [List.getD_eq_getElem?_getD]
  cases at_ : cs[i]? with
  | none => rfl
  | some c => exact still c (List.mem_of_getElem? at_)

theorem setDoor_still (s : State) (r : Room) : s.setDoor r s.doors[r] = s :=
  congrArg (fun v => { s with doors := v }) (Vector.set_getElem_self _)

/-- A door unit's report without a change derives the envelope alone. -/
theorem doorPoints_still (s : State) (a : Addr) (r : Room) : s.doorPoints a r ⟨none, none, none, none⟩ = s.deriveEnvelope r := by
  have follows : s.doorFollows r ⟨none, none, none, none⟩ = s := by
    unfold State.doorFollows
    exact ite_self s
  have whole : s.doorPoints a r ⟨none, none, none, none⟩ = ((s.setDoor r s.doors[r]).doorFollows r ⟨none, none, none, none⟩).deriveEnvelope r := rfl
  rw [whole, setDoor_still, follows]

theorem deriveEnvelope_doors (s : State) (r : Room) :
    (s.deriveEnvelope r).doors = s.doors.set r { s.doors[r] with envelopeClosed := s.doors[r].deriveEnvelope } := by
  unfold State.deriveEnvelope
  dsimp only
  split <;> rfl

theorem deriveEnvelope_zones (s : State) (r : Room) :
    (s.deriveEnvelope r).zones = s.zones ∨ ∃ c, (s.deriveEnvelope r).zones = s.zones.set r { s.zones[r] with lastEnvelope := c } := by
  unfold State.deriveEnvelope
  dsimp only
  split
  · exact .inr ⟨_, rfl⟩
  · exact .inl rfl

theorem heard_deriveEnvelope (h : Heard s u a) (r : Room) : Heard s (u.deriveEnvelope r) a := by
  obtain ⟨ps, loop⟩ := h.loop
  refine ⟨?_, ?_, ?_, ?_, ?_, ?_, ?_, ?_, ?_, ?_, ⟨ps, ?_⟩, fun j => ?_, fun j => ?_⟩
  · simpa using h.bt
  · simpa using h.clk
  · simpa using h.ctx
  · simpa using h.roll
  · simpa using h.bank
  · simpa using h.lines
  · simpa using h.profiles
  · simpa using h.linkTest
  · simpa using h.records
  · simpa using h.newSettings
  · simpa using loop
  · rw [deriveEnvelope_doors]
    by_cases here : r = j
    · subst here
      rw [vset_same]
      rw [h.doors r]
    · rw [vset_other _ _ here]
      exact h.doors j
  · obtain same | ⟨c, set⟩ := deriveEnvelope_zones u r
    · rw [same]
      exact h.zones j
    · rw [set]
      by_cases here : r = j
      · subst here
        rw [vset_same]
        rw [h.zones r]
      · rw [vset_other _ _ here]
        exact h.zones j

/-- A report of an ONLINE station before its owner takes its points, none of which has changed. -/
theorem heard_pointed (online : s.loop.stations[a].state = .online) (still : ∀ c ∈ changes s a states, c = none) :
    Heard s (pointed s a states) a := by
  obtain ⟨bt, clk, ctx, roll, doors, zones, bank, sup, lines, p2⟩ := pointed_frame s a states
  have lost : (replied s a).loop.stations[a].lost = false := by
    rw [replied_station]
    exact not_lost (by rw [online]; exact nofun) (by rw [online]; exact nofun)
  have alarms : (pointed s a states).alarms = s.alarms := by
    unfold pointed
    rw [pointFaults_still _ _ _ still, stationReturns_eq]
    exact if_neg (by rw [lost]; exact Bool.false_ne_true)
  refine ⟨bt, clk, ctx, roll, bank, lines, by rw [sup], by rw [sup], by rw [alarms], by rw [p2], ⟨_, pointed_loop s a states⟩, fun j => ?_,
    fun j => ?_⟩
  · rw [doors]
  · rw [zones]

/-- What the points of a presenting door unit leave. -/
theorem heard_presents (presents : Presents s a r line states n) : Heard s (reported s a states) a := by
  have heard := heard_pointed presents.online presents.still
  have serves : s.loop.stations[a].serves = some r := by
    unfold Station.serves
    rw [presents.unit.1, presents.unit.2]
    exact room?_num r
  have taken : (pointed s a states).ownerTakes a (changes s a states) = (pointed s a states).deriveEnvelope r := by
    unfold State.ownerTakes
    dsimp only
    rw [heard.type, heard.serves, presents.unit.1, serves]
    dsimp only
    rw [getD_still presents.still, getD_still presents.still, getD_still presents.still, getD_still presents.still]
    exact doorPoints_still _ a r
  rw [reported, takePoints_pointed, taken]
  exact heard_finish (heard_deriveEnvelope heard r)

theorem heard_alike (h : Heard s m a) : Alike s m :=
  ⟨h.bt, h.clk, h.ctx, h.roll, h.lines, h.profiles, congrArg (·.cylinders) h.bank, fun j => ⟨_, h.doors j⟩, fun j => ⟨_, h.zones j⟩⟩

/-! ### The presentation -/

theorem declared_door (four : states.length = 4) (number : 1 ≤ n ∧ n ≤ 255) (short : digits.length ≤ 12) (valid : ∀ d ∈ digits, d ≤ 9) :
    (⟨line, some .doorUnit, states, n, .door [⟨side, tok, digits⟩]⟩ : ReportFrame).declared? = some .doorUnit := by
  have positive : n ≠ 0 := by omega
  simpa [ReportFrame.declared?, StationType.pointCount, Events.fit, Events.any, number.2, positive, four, short] using valid

/-! Nothing that a decision does to the stations hinders the answer poll. -/

theorem release_withoutCommands (s : State) (r : Room) (k : ReleaseKind) : withoutCommands (s.release r k).loop = withoutCommands s.loop := by
  have placed : withoutCommands (if k = .egress then s else s.placeBolt r (.release s.sup.profiles[r].unlock)).loop = withoutCommands s.loop := by
    split
    · rfl
    · exact placeBolt_withoutCommands ..
  unfold State.release
  dsimp only
  generalize (if k = .egress then s else s.placeBolt r (.release s.sup.profiles[r].unlock)) = u at placed ⊢
  rw [← placed]
  split <;> simp

theorem removeEntry_withoutCommands (s : State) (e : Nat) (o : OccEntry) :
    withoutCommands (s.removeEntry e o).loop = withoutCommands s.loop := by
  have removed : s.removeEntry e o = (RollRequests.removed s e o).handOn o.room := rfl
  rw [removed, handOn_withoutCommands, (RollRequests.removed_frame s e o).2.2.2.2.2.1]

theorem grantEntry_withoutCommands (s : State) (r : Room) (as : List Admission) :
    withoutCommands (s.grantEntry r as).loop = withoutCommands s.loop := by
  have dropped (as : List Admission) (u : State) : (as.foldl (fun s a => s.dropWaiting r a.bearer) u).loop = u.loop :=
    foldl_loop (fun s (a : Admission) => s.dropWaiting r a.bearer) (fun _ _ => rfl) as u
  have admitted (as : List Admission) (u : State) : (as.foldl (State.admitOne r) u).loop = u.loop :=
    foldl_loop _ (fun u a => by simp) as u
  unfold State.grantEntry State.admitAll
  dsimp only
  rw [dropped, handOn_withoutCommands, admitted, release_withoutCommands]

theorem pairingStage_withoutCommands (s : State) (r : Room) (b : Nat) (cls : Sys2Proof.Class) (night : Bool) (rights : Rights) :
    withoutCommands (s.pairingStage r b cls night rights).1.loop = withoutCommands s.loop := by
  have granted (as : List Admission) := grantEntry_withoutCommands s r as
  unfold State.pairingStage
  split
  · unfold State.visitorStage
    split
    · extract_lets count limit t
      split
      · rfl
      · simpa [t] using granted _
    · rfl
  · split
    · unfold State.custodyStage
      split
      · split
        · rfl
        · split
          · unfold State.completePair
            simpa using granted _
          · rfl
      · split <;> rfl
    · unfold State.plainGrant
      simpa using granted _

theorem lastStages_withoutCommands (s : State) (r : Room) (b : Nat) (cls : Sys2Proof.Class) (night : Bool) (rights : Rights) :
    withoutCommands (s.lastStages r b cls night rights).1.loop = withoutCommands s.loop := by
  unfold State.lastStages
  split
  · rfl
  · generalize (if s.custodyApplies r cls night then 2 else 1) = places
    split
    · rfl
    · exact pairingStage_withoutCommands ..

theorem decideBearer_withoutCommands (s : State) (r : Room) (b : Nat) (x : Bearer) (digits : List Nat) :
    withoutCommands (s.decideBearer r b x digits).1.loop = withoutCommands s.loop := by
  unfold State.decideBearer
  split
  · rfl
  · dsimp only
    split
    · rfl
    · rfl
    · have pin : (s.pinStage r b x (s.nightRules r x.cls) digits).1.loop = s.loop := by simp
      rw [← pin]
      generalize s.pinStage r b x (s.nightRules r x.cls) digits = d
      obtain ⟨u, answer⟩ := d
      cases answer with
      | none => exact lastStages_withoutCommands u ..
      | some _ => rfl

theorem presentation_withoutCommands (s : State) (a : Addr) (r : Room) (p : DoorPresentation) :
    withoutCommands (s.presentation a r p).1.loop = withoutCommands s.loop := by
  unfold State.presentation
  split
  · have released := release_withoutCommands s r .exit
    unfold State.exitPresentation
    dsimp only
    split
    · exact released
    · split
      · exact (removeEntry_withoutCommands ..).trans released
      · exact released
  · unfold State.entryPresentation
    split
    · rfl
    · split
      · unfold State.decideToken
        split
        · rfl
        · split
          · rfl
          · split
            · rfl
            · rfl
            · exact decideBearer_withoutCommands ..
      · rfl

theorem exec_presentation (presents : Presents s a r line states n) (short : digits.length ≤ 12) (valid : ∀ d ∈ digits, d ≤ 9) :
    ∃ m, Heard s m a ∧
      exec (.report ⟨line, some .doorUnit, states, n, .door [⟨side, tok, digits⟩]⟩) s =
        .next (answerPolled (State.finish m (m.presentation a r ⟨side, tok, digits⟩).1) a n (some [(m.presentation a r ⟨side, tok, digits⟩).2])) ∧
      Unhindered (State.finish m (m.presentation a r ⟨side, tok, digits⟩).1) := by
  have heard := heard_presents presents
  have next := exec_report_events presents.toBrings rfl
    (declared_door (side := side) (tok := tok) presents.four ⟨presents.number.1, presents.number.2.1⟩ short valid) presents.unit.1 nofun
  have serves : s.loop.stations[a].serves = some r := by
    unfold Station.serves
    rw [presents.unit.1, presents.unit.2]
    exact room?_num r
  have events : (reported s a states).takeEvents a (.door [⟨side, tok, digits⟩]) =
      (State.finish (reported s a states) ((reported s a states).presentation a r ⟨side, tok, digits⟩).1,
        some [((reported s a states).presentation a r ⟨side, tok, digits⟩).2]) := by
    unfold State.takeEvents
    rw [heard.serves, serves]
    rfl
  have owned : s.loop.stations[a].owns (.door [⟨side, tok, digits⟩]) = true := congrArg Option.isSome serves
  refine ⟨_, heard, ?_, unhindered_finish presents.toBrings heard (by simp) (by simp) (presentation_withoutCommands ..)⟩
  rw [next, reportEvents_new heard presents.number rfl owned, events]

/-- The state that answers a presentation is alike to what the decision leaves of the state before. -/
theorem answerPolled_alike (h : Alike u m) (answers : Option (List ReaderAnswer)) (o : State) :
    Alike u (answerPolled (State.finish o m) a n answers) := by
  have leaves := finish_leaves o m
  obtain ⟨bt, clk, ctx, roll, doors, zones, bank, -, -, sup, lines⟩ := answerPolled_frame (State.finish o m) a n answers
  refine h.after ⟨rfl, rfl, rfl, rfl, rfl, rfl, rfl, rfl, rfl⟩ ⟨?_, ?_, ?_, ?_, ?_, ?_, ?_, ?_, ?_⟩
  · rw [bt, leaves.bt]
  · rw [clk, leaves.clk]
  · rw [ctx, leaves.ctx]
  · rw [roll, leaves.roll]
  · rw [lines, leaves.lines]
  · rw [sup, leaves.profiles]
  · rw [bank, leaves.bank]
  · rw [doors, leaves.doors]
  · rw [zones, leaves.zones]

/-- A report with one presentation answers what the decision answers on the state before it. -/
theorem presentation_answered (presents : Presents s a r line states n) (short : digits.length ≤ 12) (valid : ∀ d ∈ digits, d ≤ 9) :
    let p : DoorPresentation := ⟨side, tok, digits⟩
    AnswersWith (exec (.report ⟨line, some .doorUnit, states, n, .door [p]⟩) s) a n (s.presentation a r p).2 fun t =>
      Alike (s.presentation a r p).1 t ∧
        ∃ m, Heard s m a ∧ t = answerPolled (State.finish m (m.presentation a r p).1) a n (some [(m.presentation a r p).2]) := by
  intro p
  obtain ⟨m, heard, next, free⟩ := exec_presentation (side := side) (tok := tok) presents short valid
  have station : m.loop.stations[a].state = s.loop.stations[a].state := by
    obtain ⟨ps, here⟩ := heard.station
    rw [here, presents.online]
    rfl
  have agree := (heard_alike heard).presentation station r p
  rw [← agree.answer]
  exact answersWith_of free next ⟨answerPolled_alike agree.alike _ m, m, heard, rfl⟩

end Sys2Proof.Proofs.Presentations
end

section
/-! PROOFS. ENTRY DECISIONS (R40 to R49): the stages one by one, and what reaches the PIN stage. -/
namespace Sys2Proof.Proofs.EntryStages

open Sys2Proof Sys2Proof.Machine Sys2Proof.Safety Sys2Proof.Laws
open Sys2Proof.Proofs.Schedules (names_iff covers_rights)
open Sys2Proof.Proofs.AlikeStates

variable {s t m u : State} {a : Addr} {r : Room} {tok : Token} {digits : List Nat} {b : Nat} {rec : Bearer} {rights : Rights}
  {reason : DenyReason} {night : Bool}

/-! ### Stages 1 to 3 -/

theorem entry_denied (h : s.doorDenies a r = some reason) : s.entryPresentation a r tok digits = (s, .deny reason) := by
  unfold State.entryPresentation
  rw [h]

theorem entry_zoneActive (door : s.doorDenies a r = none) (zone : s.zones[r].state.allowsEntry = false) :
    s.entryPresentation a r tok digits = (s, .deny .zoneActive) := by
  unfold State.entryPresentation
  rw [door]
  exact if_neg (by rw [zone]; exact Bool.false_ne_true)

theorem entry_token (door : s.doorDenies a r = none) (zone : s.zones[r].state.allowsEntry = true) :
    s.entryPresentation a r tok digits = s.decideToken r tok digits := by
  unfold State.entryPresentation
  rw [door]
  exact if_pos zone

theorem decideToken_unknown (token : s.findToken tok = none) : s.decideToken r tok digits = (s, .deny .unknown) := by
  unfold State.decideToken
  rw [token]

/-- Stage 3 by the state of a live record. -/
def byState (s : State) (r : Room) (b : Nat) (rec : Bearer) (digits : List Nat) : BearerState → State × ReaderAnswer
  | .retiring => (s, .deny .revoked)
  | .suspended => (s, .deny .suspended)
  | .active => s.decideBearer r b rec digits

theorem decideToken_known (token : s.findToken tok = some b) (live : s.bt.bearers.get b = some rec) :
    s.decideToken r tok digits = byState s r b rec digits rec.state := by
  unfold State.decideToken
  rw [token]
  dsimp only
  rw [live]
  dsimp only
  cases rec.state <;> rfl

theorem allowsEntry_iff (z : ZoneState) : z.allowsEntry = true ↔ z = .normal ∨ z = .alert ∨ z = .disabled ∨ z = .vent := by
  cases z <;> simp [ZoneState.allowsEntry]

theorem night_iff (st : SiteState) : st.night = true ↔ st ≠ .openHours := by cases st <;> simp [SiteState.night]

/-- The rule set by the door's context (R49). -/
theorem nightRules_iff (s : State) (r : Room) (cls : Sys2Proof.Class) :
    s.nightRules r cls = true ↔
      match s.ctx[r] with
      | .custody n _ _ _ => if cls = .visitor then s.clk.siteState ≠ .openHours else n = true
      | .escort n _ _ _ => if cls = .visitor then n = true else s.clk.siteState ≠ .openHours
      | .empty => s.clk.siteState ≠ .openHours := by
  unfold State.nightRules
  generalize s.ctx[r] = c
  cases c with
  | empty => simpa [Context.serves] using night_iff s.clk.siteState
  | custody n w x g => by_cases visitor : cls = .visitor <;> simp [Context.serves, Context.night, visitor, night_iff]
  | escort n w x e => by_cases visitor : cls = .visitor <;> simp [Context.serves, Context.night, visitor, night_iff]

/-! ### Validity and the chain walk -/

theorem decideBearer_invalid (h : s.inValidity rec = false) : s.decideBearer r b rec digits = (s, .deny .outOfValidity) := by
  unfold State.decideBearer
  exact if_pos (by rw [h]; rfl)

/-- The chain walk for a bearer's presentation, under the rule set and the rights it requires. -/
def walkFor (s : State) (r : Room) (rec : Bearer) : Walk :=
  s.chainWalk rec.cls r (s.needed r (s.nightRules r rec.cls)) 16 rec.chainHead false

/-- Stages 7 to 9 after a PIN stage. -/
def afterPin (r : Room) (b : Nat) (cls : Sys2Proof.Class) (night : Bool) (rights : Rights) : State × Option ReaderAnswer → State × ReaderAnswer
  | (u, some answer) => (u, answer)
  | (u, none) => u.lastStages r b cls night rights

/-- Stages 6 to 9 by the result of the chain walk. -/
def afterWalk (s : State) (r : Room) (b : Nat) (rec : Bearer) (digits : List Nat) : Walk → State × ReaderAnswer
  | .named => (s, .deny .outsideSchedule)
  | .nothing => (s, .deny .noPermission)
  | .matched rights =>
    afterPin r b rec.cls (s.nightRules r rec.cls) rights (s.pinStage r b rec (s.nightRules r rec.cls) digits)

theorem decideBearer_valid (h : s.inValidity rec = true) :
    s.decideBearer r b rec digits = afterWalk s r b rec digits (walkFor s r rec) := by
  have walk : s.chainWalk rec.cls r (s.needed r (s.nightRules r rec.cls)) Config.maxChain rec.chainHead false = walkFor s r rec := rfl
  unfold State.decideBearer
  dsimp only
  rw [walk, h]
  generalize walkFor s r rec = w
  cases w with
  | named => rfl
  | nothing => rfl
  | matched rights =>
    show (if (!true) = true then _ else _) = afterPin r b rec.cls _ rights (s.pinStage r b rec (s.nightRules r rec.cls) digits)
    generalize s.pinStage r b rec (s.nightRules r rec.cls) digits = d
    obtain ⟨u, answer⟩ := d
    cases answer <;> rfl

/-- A presentation that reaches the PIN stage is decided there and in stages 7 to 9. -/
theorem entry_reaches (h : ReachesPin s a r tok b rec rights) (digits : List Nat) :
    s.entryPresentation a r tok digits =
      afterPin r b rec.cls (s.nightRules r rec.cls) rights (s.pinStage r b rec (s.nightRules r rec.cls) digits) := by
  have walk : walkFor s r rec = .matched rights := h.chain
  rw [entry_token h.door h.zone, decideToken_known h.token h.live, h.active, byState, decideBearer_valid h.valid, walk, afterWalk]

/-- What is granted has reached the PIN stage. -/
theorem granted_reaches {n : Nat} (h : (s.entryPresentation a r tok digits).2 = .grant n) :
    ∃ b rec rights, ReachesPin s a r tok b rec rights := by
  cases door : s.doorDenies a r with
  | some reason =>
    rw [entry_denied door] at h
    cases h
  | none =>
    cases zone : s.zones[r].state.allowsEntry with
    | false =>
      rw [entry_zoneActive door zone] at h
      cases h
    | true =>
      rw [entry_token door zone] at h
      cases token : s.findToken tok with
      | none =>
        rw [decideToken_unknown token] at h
        cases h
      | some b =>
        cases live : s.bt.bearers.get b with
        | none =>
          unfold State.decideToken at h
          rw [token] at h
          dsimp only at h
          rw [live] at h
          cases h
        | some rec =>
          rw [decideToken_known token live] at h
          cases active : rec.state with
          | retiring => rw [active] at h; cases h
          | suspended => rw [active] at h; cases h
          | active =>
            rw [active] at h
            cases valid : s.inValidity rec with
            | false =>
              rw [byState, decideBearer_invalid valid] at h
              cases h
            | true =>
              rw [byState, decideBearer_valid valid] at h
              cases walk : walkFor s r rec with
              | named => rw [walk] at h; cases h
              | nothing => rw [walk] at h; cases h
              | matched rights => exact ⟨b, rec, rights, door, zone, token, live, active, valid, walk⟩

/-- A walk that matches has found an entry of the chain that names the strongroom with the rights it requires. -/
theorem chainWalk_source {cls : Sys2Proof.Class} {need : Rights} {n e : Nat} {named : Bool}
    (h : s.chainWalk cls r need n e named = .matched rights) :
    ∃ k ∈ s.bt.chain n e, ∃ x, s.bt.entries.get k = some x ∧ NamesRoom cls r need x.content := by
  induction n generalizing e named with
  | zero =>
    rw [State.chainWalk] at h
    split at h <;> cases h
  | succ n ih =>
    rw [State.chainWalk] at h
    cases hit : s.bt.entries.get e with
    | none =>
      rw [hit] at h
      dsimp only at h
      split at h <;> cases h
    | some x =>
      rw [hit] at h
      dsimp only at h
      have here : s.bt.chain (n + 1) e = e :: s.bt.chain n x.next := by rw [BearerTable.chain, hit]
      rw [here]
      split at h
      · next fits =>
        rw [Bool.and_eq_true, names_iff] at fits
        exact ⟨e, List.mem_cons_self, x, hit, fits.1⟩
      · obtain ⟨k, mem, found⟩ := ih h
        exact ⟨k, List.mem_cons_of_mem _ mem, found⟩

/-- The zone lets a granted presentation in, in VENT a safety officer with the right to it alone (R42, R44). -/
theorem granted_zone {n : Nat} (h : (s.entryPresentation a r tok digits).2 = .grant n) :
    (s.zones[r].state = .normal ∨ s.zones[r].state = .alert ∨ s.zones[r].state = .disabled ∨ s.zones[r].state = .vent) ∧
      (s.zones[r].state = .vent →
        ∃ b rec e x, s.findToken tok = some b ∧ s.bt.bearers.get b = some rec ∧ rec.cls = .safetyOfficer ∧
          e ∈ s.bt.chainOf rec ∧ s.bt.entries.get e = some x ∧ x.content.rooms.getLsbD r.val = true ∧
          x.content.rights.ventEntry = true) := by
  obtain ⟨b, rec, rights, reaches⟩ := granted_reaches h
  refine ⟨(allowsEntry_iff _).mp reaches.zone, fun vent => ?_⟩
  obtain ⟨e, mem, x, entry, names, -, -, -, -, covers⟩ := chainWalk_source reaches.chain
  have right := covers (decide_eq_true vent)
  simp only [allowedTo, Bool.and_eq_true, decide_eq_true_eq] at right
  exact ⟨b, rec, e, x, reaches.token, reaches.live, right.2, mem, entry, names, right.1⟩

/-- What reaches the PIN stage reaches it in an alike state. -/
theorem reaches_alike (h : ReachesPin s a r tok b rec rights) (alike : Alike s m)
    (station : m.loop.stations[a].state = s.loop.stations[a].state) : ReachesPin m a r tok b rec rights := by
  obtain ⟨c, zone⟩ := alike.zones r
  refine ⟨(alike.doorDenies station r).trans h.door, ?_, (alike.findToken tok).trans h.token, ?_, h.active, (alike.inValidity rec).trans h.valid, ?_⟩
  · rw [zone]
    exact h.zone
  · rw [alike.bt]
    exact h.live
  · rw [alike.nightRules, alike.needed, alike.chainWalk]
    exact h.chain

end Sys2Proof.Proofs.EntryStages
end

section
/-! PROOFS. THE PIN STAGE (R13, R45 to R47) and what stages 7 to 9 answer. -/
namespace Sys2Proof.Proofs.PinStage

open Sys2Proof Sys2Proof.Machine Sys2Proof.Safety Sys2Proof.Laws
open Sys2Proof.Proofs.AlikeStates Sys2Proof.Proofs.EntryStages Sys2Proof.Proofs.ZoneMoves

variable {s t m u : State} {a : Addr} {r : Room} {tok : Token} {digits : List Nat} {b : Nat} {rec : Bearer} {rights : Rights}
  {night : Bool} {cls : Sys2Proof.Class} {pin : PinBcd} {k : AlarmKey}

/-- The duress form differs from the PIN in its last digit. -/
theorem duressDigits_ne (pin : PinBcd) : duressDigits pin ≠ pinDigits pin := by
  intro same
  simp only [duressDigits, pinDigits, List.cons.injEq, and_true, true_and] at same
  omega

/-! ### The PIN stage by what is supplied -/

theorem pinStage_missing (demanded : (night || s.sup.profiles[r].pinAlways) = true) (none_ : rec.pin = none) (nothing : digits = []) :
    s.pinStage r b rec night digits = (s, some (.deny .pinWrong)) := by
  unfold State.pinStage
  rw [if_pos demanded, none_, nothing]

theorem pinStage_unset (demanded : (night || s.sup.profiles[r].pinAlways) = true) (none_ : rec.pin = none) (supplied : digits ≠ []) :
    s.pinStage r b rec night digits = (s.wrongPin b, some (.deny .pinWrong)) := by
  obtain ⟨d, ds, rfl⟩ := List.exists_cons_of_ne_nil supplied
  unfold State.pinStage
  rw [if_pos demanded, none_]

theorem pinStage_awaited (demanded : (night || s.sup.profiles[r].pinAlways) = true) (has : rec.pin = some pin) (nothing : digits = []) :
    s.pinStage r b rec night digits = (s, some (.await .pinRequired)) := by
  unfold State.pinStage
  rw [if_pos demanded, has, nothing]

theorem pinStage_supplied (demanded : (night || s.sup.profiles[r].pinAlways) = true) (has : rec.pin = some pin) (supplied : digits ≠ []) :
    s.pinStage r b rec night digits =
      if digits = pinDigits pin then (s.pinCorrect b, none)
      else if digits = duressDigits pin then (s.duressPin r b, none)
      else (s.wrongPin b, some (.deny .pinWrong)) := by
  obtain ⟨d, ds, rfl⟩ := List.exists_cons_of_ne_nil supplied
  unfold State.pinStage
  rw [if_pos demanded, has]

theorem pinStage_free (free : (night || s.sup.profiles[r].pinAlways) = false) :
    s.pinStage r b rec night digits =
      if rec.pin.any (fun p => digits = duressDigits p) then (s.duressPin r b, none) else (s, none) := by
  unfold State.pinStage
  refine (if_neg (by rw [free]; exact Bool.false_ne_true)).trans ?_
  cases rec.pin with
  | none => rfl
  | some p => simp [Option.any]

/-- The duress form raises DURESS and passes. -/
theorem pinStage_duress (has : rec.pin = some pin) : s.pinStage r b rec night (duressDigits pin) = (s.duressPin r b, none) := by
  have supplied : duressDigits pin ≠ [] := by simp [duressDigits, pinDigits]
  cases demanded : (night || s.sup.profiles[r].pinAlways) with
  | true => rw [pinStage_supplied demanded has supplied, if_neg (duressDigits_ne pin), if_pos rfl]
  | false =>
    rw [pinStage_free demanded, has]
    exact if_pos (by simp [Option.any])

/-- The right PIN passes. -/
theorem pinStage_right (has : rec.pin = some pin) :
    ∃ u, s.pinStage r b rec night (pinDigits pin) = (u, none) ∧ (u = s ∨ u = s.pinCorrect b) := by
  have supplied : pinDigits pin ≠ [] := by simp [pinDigits]
  cases demanded : (night || s.sup.profiles[r].pinAlways) with
  | true => exact ⟨_, by rw [pinStage_supplied demanded has supplied, if_pos rfl], .inr rfl⟩
  | false =>
    refine ⟨_, ?_, .inl rfl⟩
    rw [pinStage_free demanded, has]
    exact if_neg (by simpa [Option.any] using (duressDigits_ne pin).symm)

/-- What passes the PIN stage without duress leaves the state but for the bearer's failed PINs. -/
theorem pinStage_passes (h : passesPin s r rec digits) :
    ∃ u, s.pinStage r b rec (s.nightRules r rec.cls) (digits.take 4) = (u, none) ∧ (u = s ∨ u = s.pinCorrect b) := by
  unfold passesPin at h
  cases demanded : demandsPin s r rec.cls with
  | true =>
    rw [if_pos demanded] at h
    obtain ⟨p, has, right⟩ := h
    rw [right]
    exact pinStage_right has
  | false =>
    rw [if_neg (by rw [demanded]; exact Bool.false_ne_true)] at h
    refine ⟨_, (pinStage_free demanded).trans (if_neg ?_), .inl rfl⟩
    rw [Option.any_eq_true]
    rintro ⟨p, has, duress⟩
    exact h p has (of_decide_eq_true duress)

/-- A wrong PIN counts up to the lockout (R13). -/
theorem wrongPin_effect (s : State) (live : s.bt.bearers.get b = some rec) (active : rec.state = .active) (has : rec.pin = some pin) :
    (s.wrongPin b).bt =
        { s.bt with
          bearers := s.bt.bearers.modify b fun x =>
            { x with failedPin := min 5 (rec.failedPin + 1), state := if 4 ≤ rec.failedPin then .suspended else x.state } } ∧
      (s.wrongPin b).ctx = (if 4 ≤ rec.failedPin then withoutBearer s b else s.ctx) ∧
      (4 ≤ rec.failedPin → ∃ v : State, v.alarms = s.alarms ∧ (s.wrongPin b).alarms = (v.raiseAlarm (.forBearer .pinLockout b)).alarms) := by
  have counted : rec.state = .active ∧ rec.pin.isSome = true := ⟨active, by rw [has]; rfl⟩
  unfold State.wrongPin
  rw [live]
  dsimp only
  rw [if_pos counted]
  by_cases locked : 4 ≤ rec.failedPin
  · have five : min Config.failedPinLimit (rec.failedPin + 1) = Config.failedPinLimit := Nat.min_eq_left (by rw [Config.failedPinLimit]; omega)
    rw [if_pos five, if_pos locked]
    refine ⟨?_, ?_, fun _ => ⟨s.modBearer b fun r => { r with failedPin := min Config.failedPinLimit (rec.failedPin + 1), state := .suspended }, rfl, rfl⟩⟩
    · simp [State.modBearer, State.setBearers, State.dropBearerContexts, locked, Config.failedPinLimit]
    · simp [State.dropBearerContexts, State.dropContexts, withoutBearer, State.modBearer, State.setBearers]
  · have fewer : min Config.failedPinLimit (rec.failedPin + 1) ≠ Config.failedPinLimit := by
      rw [Config.failedPinLimit]
      omega
    rw [if_neg fewer, if_neg locked]
    refine ⟨?_, rfl, fun no => absurd no locked⟩
    simp [State.modBearer, State.setBearers, locked, Config.failedPinLimit]

/-! ### What stages 7 to 9 answer -/

theorem escortLimit_pinCorrect (s : State) (b x : Nat) : (s.pinCorrect b).escortLimit x = s.escortLimit x := by
  unfold State.escortLimit State.pinCorrect State.modBearer State.setBearers
  dsimp only
  rw [Table.get_modify]
  by_cases here : x = b
  · rw [if_pos here]
    cases s.bt.bearers.get x with
    | none => rfl
    | some y => by_cases active : y.state = .active <;> simp [active]
  · rw [if_neg here]

/-- All that stages 7 to 9 answer by. -/
structure AnswersAs (s u : State) : Prop where
  ctx : u.ctx = s.ctx
  roll : u.roll = s.roll
  profiles : u.sup.profiles = s.sup.profiles
  limits : ∀ x, u.escortLimit x = s.escortLimit x

theorem visitorStage_answer (h : AnswersAs s u) (r : Room) (b : Nat) : (u.visitorStage r b).2 = (s.visitorStage r b).2 := by
  unfold State.visitorStage
  rw [h.ctx, h.roll]
  split
  · rw [h.limits]
    extract_lets count limit t t'
    split
    · rfl
    · unfold State.grantAnswer
      rw [h.profiles]
  · rfl

theorem custodyStage_answer (h : AnswersAs s u) (r : Room) (b : Nat) (night : Bool) (rights : Rights) :
    (u.custodyStage r b night rights).2 = (s.custodyStage r b night rights).2 := by
  unfold State.custodyStage State.completePair State.grantAnswer
  rw [h.ctx, h.profiles]
  split
  · split
    · rfl
    · split <;> rfl
  · split <;> rfl

theorem lastStages_answer (h : AnswersAs s u) (r : Room) (b : Nat) (cls : Sys2Proof.Class) (night : Bool) (rights : Rights) :
    (u.lastStages r b cls night rights).2 = (s.lastStages r b cls night rights).2 := by
  have entry : u.entryOf b = s.entryOf b := by
    unfold State.entryOf
    rw [h.roll]
  have custody : u.custodyApplies r cls night = s.custodyApplies r cls night := by
    unfold State.custodyApplies
    rw [h.ctx, h.profiles]
  have places (n : Nat) : u.roomFor r n = s.roomFor r n := by
    unfold State.roomFor State.headCount
    rw [h.roll, h.profiles]
  unfold State.lastStages State.pairingStage
  rw [entry, custody, places]
  split
  · rfl
  · generalize (if s.custodyApplies r cls night then 2 else 1) = n
    split
    · rfl
    · split
      · exact visitorStage_answer h r b
      · split
        · exact custodyStage_answer h r b night rights
        · unfold State.plainGrant State.grantAnswer
          rw [h.profiles]

theorem pinCorrect_answersAs (s : State) (b : Nat) : AnswersAs s (s.pinCorrect b) := ⟨rfl, rfl, rfl, escortLimit_pinCorrect s b⟩

theorem duressPin_answersAs (s : State) (r : Room) (b : Nat) : AnswersAs s (s.duressPin r b) := by
  have raised : (s.duressPin r b).bt = (s.pinCorrect b).bt := by simp [State.duressPin]
  refine ⟨by simp [State.duressPin], by simp [State.duressPin], by simp [State.duressPin], fun x => ?_⟩
  rw [← escortLimit_pinCorrect s b x]
  unfold State.escortLimit
  rw [raised]

theorem passes_answersAs (h : u = s ∨ u = s.pinCorrect b) : AnswersAs s u := by
  rcases h with rfl | rfl
  · exact ⟨rfl, rfl, rfl, fun _ => rfl⟩
  · exact pinCorrect_answersAs s b

/-- The reader's answer is the same for the duress form as for the right PIN (R46). -/
theorem duress_answer (token : s.findToken tok = some b) (live : s.bt.bearers.get b = some rec) (has : rec.pin = some pin) :
    (s.entryPresentation a r tok (duressDigits pin)).2 = (s.entryPresentation a r tok (pinDigits pin)).2 := by
  cases door : s.doorDenies a r with
  | some reason => rw [entry_denied door, entry_denied door]
  | none =>
    cases zone : s.zones[r].state.allowsEntry with
    | false => rw [entry_zoneActive door zone, entry_zoneActive door zone]
    | true =>
      rw [entry_token door zone, entry_token door zone, decideToken_known token live, decideToken_known token live]
      cases rec.state with
      | retiring => rfl
      | suspended => rfl
      | active =>
        rw [byState, byState]
        cases valid : s.inValidity rec with
        | false => rw [decideBearer_invalid valid, decideBearer_invalid valid]
        | true =>
          rw [decideBearer_valid valid, decideBearer_valid valid]
          cases walkFor s r rec with
          | named => rfl
          | nothing => rfl
          | matched rights =>
            obtain ⟨u, right, passed⟩ := pinStage_right (s := s) (r := r) (b := b) (night := s.nightRules r rec.cls) has
            rw [afterWalk, afterWalk, pinStage_duress has, right, afterPin, afterPin, lastStages_answer (duressPin_answersAs s r b),
              lastStages_answer (passes_answersAs passed)]

end Sys2Proof.Proofs.PinStage
end

section
/-! PROOFS. ENTRIES IN A REPORT (R38 to R48): what a presentation at the entry reader answers, from the stage that decides it. -/
namespace Sys2Proof.Proofs.EntryReports

open Sys2Proof Sys2Proof.Machine Sys2Proof.Safety Sys2Proof.Laws
open Sys2Proof.Proofs.EventReports Sys2Proof.Proofs.AlikeStates Sys2Proof.Proofs.EntryStages Sys2Proof.Proofs.PinStage
open Sys2Proof.Proofs.ZoneMoves Sys2Proof.Proofs.Presentations Sys2Proof.Proofs.PointReports Sys2Proof.Proofs.Evaluation
open Sys2Proof.Proofs.DoorSteps (retest_keepsAlarm)

variable {s t m u : State} {a : Addr} {r : Room} {line : List Bool} {states : List PointState} {n : Nat} {tok : Token}
  {digits : List Nat} {b : Nat} {rec : Bearer} {rights : Rights} {night : Bool} {cls : Sys2Proof.Class} {pin : PinBcd} {k : AlarmKey}
  {answer : ReaderAnswer}

/-! ### The Alarm Table through stages 7 to 9 -/

theorem release_keepsAlarm (s : State) (r : Room) (kind : ReleaseKind) (other : k.kind ≠ .heldOpen) : KeepsAlarm 0 k s (s.release r kind) := by
  have reloaded (v : State) : KeepsAlarm 0 k v (v.reloadHeld r) := by
    unfold State.reloadHeld
    split
    · exact .of_eq rfl
    · exact resetHeld_keepsAlarm v r _ other
  have placed : (if kind = .egress then s else s.placeBolt r (.release s.sup.profiles[r].unlock)).alarms = s.alarms := by
    split
    · rfl
    · simp
  unfold State.release
  dsimp only
  generalize (if kind = .egress then s else s.placeBolt r (.release s.sup.profiles[r].unlock)) = v at placed ⊢
  split
  · exact .of_eq placed
  · exact .of_eq placed
  · exact .of_eq placed
  · exact (reloaded v).congr placed rfl
  · exact (reloaded v).congr placed rfl
  · exact (reloaded v).congr placed rfl
  · exact .of_eq placed

theorem admitOne_alarms (r : Room) (s : State) (x : Admission) : (State.admitOne r s x).alarms = s.alarms := by
  unfold State.admitOne
  split
  · rfl
  · dsimp only
    split <;> rfl

theorem grantEntry_keepsAlarm (s : State) (r : Room) (as : List Admission) (held : k.kind ≠ .heldOpen) (overdue : k.kind ≠ .overdue) :
    KeepsAlarm 0 k s (s.grantEntry r as) := by
  have admitted (v : State) : (as.foldl (State.admitOne r) v).alarms = v.alarms := foldl_alarms (State.admitOne r) (admitOne_alarms r) as v
  have dropped (v : State) : (as.foldl (fun s a => s.dropWaiting r a.bearer) v).alarms = v.alarms :=
    foldl_alarms (fun s (a : Admission) => s.dropWaiting r a.bearer) (fun _ _ => rfl) as v
  have entered : KeepsAlarm 0 k s (as.foldl (State.admitOne r) (s.release r .entry)) :=
    (release_keepsAlarm s r .entry held).congr rfl (admitted _)
  have handed := (entered.trans (rederive_keepsAlarm _ r held)).trans (retest_keepsAlarm _ r overdue)
  exact handed.congr rfl (dropped _)

theorem pairingStage_keepsAlarm (s : State) (r : Room) (b : Nat) (cls : Sys2Proof.Class) (night : Bool) (rights : Rights)
    (held : k.kind ≠ .heldOpen) (overdue : k.kind ≠ .overdue) : KeepsAlarm 0 k s (s.pairingStage r b cls night rights).1 := by
  have granted (as : List Admission) : KeepsAlarm 0 k s (s.grantEntry r as) := grantEntry_keepsAlarm s r as held overdue
  unfold State.pairingStage
  split
  · unfold State.visitorStage
    split
    · next _ _ escort e _ =>
      extract_lets count limit t
      split
      · exact .of_eq rfl
      · exact (granted [⟨b, some e⟩]).congr rfl (by simp [t])
    · exact .of_eq rfl
  · split
    · unfold State.custodyStage
      split
      · next _ _ first _ _ =>
        split
        · exact .of_eq rfl
        · split
          · unfold State.completePair
            exact (granted [⟨first, none⟩, ⟨b, none⟩]).congr rfl (by simp)
          · exact .of_eq rfl
      · split
        · exact .of_eq rfl
        · exact .of_eq rfl
    · unfold State.plainGrant
      exact (granted [⟨b, none⟩]).congr rfl (by simp)

theorem lastStages_keepsAlarm (s : State) (r : Room) (b : Nat) (cls : Sys2Proof.Class) (night : Bool) (rights : Rights)
    (held : k.kind ≠ .heldOpen) (overdue : k.kind ≠ .overdue) : KeepsAlarm 0 k s (s.lastStages r b cls night rights).1 := by
  unfold State.lastStages
  split
  · exact .of_eq rfl
  · generalize (if s.custodyApplies r cls night then 2 else 1) = places
    split
    · exact .of_eq rfl
    · exact pairingStage_keepsAlarm s r b cls night rights held overdue

/-! ### What a report answers -/

/-- A report with an entry presentation answers what the decision on the state before it answers, and leaves a state alike to what the
decision leaves. -/
theorem presented_answers (presents : Presents s a r line states n) (short : digits.length ≤ 12) (valid : ∀ d ∈ digits, d ≤ 9)
    {v : State} {effect : State → Prop} (decided : s.entryPresentation a r tok (digits.take 4) = (v, answer))
    (h : ∀ t, Alike v t → effect t) : AnswersWith (presented s line states n tok digits) a n answer effect := by
  have whole : s.presentation a r ⟨.entry, tok, digits⟩ = (v, answer) := decided
  obtain ⟨t, next, number, kept, slot, poll, alike, -⟩ :=
    presentation_answered (side := .entry) (tok := tok) (digits := digits) presents short valid
  rw [whole] at kept slot poll alike
  exact ⟨t, next, number, kept, slot, poll, h t alike⟩

/-- The same, with the state that the decision is taken on: its Alarm Table holds what the state before held. -/
theorem presented_decides (presents : Presents s a r line states n) (short : digits.length ≤ 12) (valid : ∀ d ∈ digits, d ≤ 9)
    (reaches : ReachesPin s a r tok b rec rights) :
    ∃ t m, AnswersWith (presented s line states n tok digits) a n (s.entryPresentation a r tok (digits.take 4)).2 (· = t) ∧
      presented s line states n tok digits = .next t ∧ Alike (s.entryPresentation a r tok (digits.take 4)).1 t ∧
      Heard s m a ∧ ReachesPin m a r tok b rec rights ∧
      t = answerPolled (State.finish m (m.entryPresentation a r tok (digits.take 4)).1) a n
        (some [(m.entryPresentation a r tok (digits.take 4)).2]) := by
  obtain ⟨t, next, number, kept, slot, poll, alike, m, heard, effect⟩ :=
    presentation_answered (side := .entry) (tok := tok) (digits := digits) presents short valid
  have station : m.loop.stations[a].state = s.loop.stations[a].state := by
    obtain ⟨ps, here⟩ := heard.station
    rw [here, presents.online]
    rfl
  exact ⟨t, m, ⟨t, next, number, kept, slot, poll, rfl⟩, next, alike, heard, reaches_alike reaches (heard_alike heard) station, effect⟩

theorem answersWith_mono {o : Host.Outcome State Fault Refusal} {effect effect' : State → Prop} (h : AnswersWith o a n answer effect)
    (mono : ∀ t, effect t → effect' t) : AnswersWith o a n answer effect' := by
  obtain ⟨t, next, number, kept, slot, poll, was⟩ := h
  exact ⟨t, next, number, kept, slot, poll, mono t was⟩

theorem alike_state (h : Alike u t) (j : Room) : t.doors[j].state = u.doors[j].state ∧ t.doors[j].releaseKind = u.doors[j].releaseKind ∧
    t.doors[j].unlock = u.doors[j].unlock ∧ t.zones[j].state = u.zones[j].state := by
  obtain ⟨c, door⟩ := h.doors j
  obtain ⟨c', zone⟩ := h.zones j
  rw [door, zone]
  exact ⟨rfl, rfl, rfl, rfl⟩

/-- A decision that ends at the PIN stage. -/
theorem entry_endsAtPin (reaches : ReachesPin s a r tok b rec rights) {v : State}
    (pin : s.pinStage r b rec (s.nightRules r rec.cls) digits = (v, some answer)) : s.entryPresentation a r tok digits = (v, answer) := by
  rw [entry_reaches reaches, pin, afterPin]

theorem entry_passesPin (reaches : ReachesPin s a r tok b rec rights) {v : State}
    (pin : s.pinStage r b rec (s.nightRules r rec.cls) digits = (v, none)) :
    s.entryPresentation a r tok digits = v.lastStages r b rec.cls (s.nightRules r rec.cls) rights := by
  rw [entry_reaches reaches, pin, afterPin]

/-- A raise that the decision makes stands when the report is taken. -/
theorem finish_stands {v : State} (heard : Heard s m a) (roomy : Roomy s) (raised : ∃ w : State, w.alarms = m.alarms ∧ KeepsAlarm 0 k (w.raiseAlarm k) v)
    (other : k.kind ≠ .coverageShort) (answers : Option (List ReaderAnswer)) :
    Stands (answerPolled (State.finish m v) a n answers) k := by
  obtain ⟨w, alarms, keeps⟩ := raised
  have few : w.alarms.records.length ≤ 40 := by
    rw [alarms, heard.records]
    exact roomy
  have stands : Stands (w.raiseAlarm k) k := raiseAlarm_stands (by omega)
  have length := raiseAlarm_length w k
  have length' := keeps.length
  have ends : Stands (State.finish m v) k := (finish_keepsAlarm m v other).stands (by omega) (keeps.stands (by omega) stands)
  have same : (answerPolled (State.finish m v) a n answers).alarms = (State.finish m v).alarms :=
    (answerPolled_frame (State.finish m v) a n answers).2.2.2.2.2.2.2.1
  rwa [Stands, same]

end Sys2Proof.Proofs.EntryReports
end

section
/-! PROOFS. ENTRY DECISIONS BY STAGE (R38 to R48): the clauses of the decision and of a report that takes it. -/
namespace Sys2Proof.Proofs.EntryDecisions

open Sys2Proof Sys2Proof.Machine Sys2Proof.Safety Sys2Proof.Laws
open Sys2Proof.Proofs.EventReports Sys2Proof.Proofs.AlikeStates Sys2Proof.Proofs.EntryStages Sys2Proof.Proofs.PinStage
open Sys2Proof.Proofs.ZoneMoves Sys2Proof.Proofs.Presentations Sys2Proof.Proofs.EntryReports

variable {s t m u : State} {a : Addr} {r : Room} {line : List Bool} {states : List PointState} {n : Nat} {tok : Token}
  {digits : List Nat} {b : Nat} {rec : Bearer} {rights : Rights} {pin : PinBcd} {answer : ReaderAnswer}

/-! ### The decision by its stages -/

theorem doorDenies_fault (h : ¬(s.loop.stations[a].state = .online ∧ s.doors[r].state ≠ .unknown)) :
    s.doorDenies a r = some .stationFault := if_pos (by
  by_contra none_
  obtain ⟨online, known⟩ := not_or.mp none_
  exact h ⟨not_not.mp online, known⟩)

theorem doorDenies_marks (h : s.loop.stations[a].state = .online ∧ s.doors[r].state ≠ .unknown) :
    s.doorDenies a r =
      if s.doors[r].lockdown then some .lockdown else if s.doors[r].timeLock then some .timeLocked else none :=
  if_neg (not_or.mpr ⟨not_not_intro h.1, h.2⟩)

/-- A live record's decision up to the chain walk (R43, R44). -/
theorem bearer_stages (door : s.doorDenies a r = none) (zone : s.zones[r].state.allowsEntry = true) (token : s.findToken tok = some b)
    (live : s.bt.bearers.get b = some rec) :
    let present := s.entryPresentation a r tok digits
    (rec.state = .retiring → present = (s, .deny .revoked)) ∧ (rec.state = .suspended → present = (s, .deny .suspended)) ∧
      (rec.state = .active → s.inValidity rec = false → present = (s, .deny .outOfValidity)) ∧
      (rec.state = .active → s.inValidity rec = true → walkFor s r rec = .named → present = (s, .deny .outsideSchedule)) ∧
      (rec.state = .active → s.inValidity rec = true → walkFor s r rec = .nothing → present = (s, .deny .noPermission)) := by
  intro present
  have known : present = byState s r b rec digits rec.state := (entry_token door zone).trans (decideToken_known token live)
  refine ⟨fun retiring => ?_, fun suspended => ?_, fun active invalid => ?_, fun active valid named => ?_, fun active valid nothing => ?_⟩
  · rw [known, retiring, byState]
  · rw [known, suspended, byState]
  · rw [known, active, byState, decideBearer_invalid invalid]
  · rw [known, active, byState, decideBearer_valid valid, named, afterWalk]
  · rw [known, active, byState, decideBearer_valid valid, nothing, afterWalk]

/-! ### The PIN stage in a report (R45 to R47) -/

/-- What an unmoved roll and door are. -/
def Unmoved (s t : State) (r : Room) : Prop := t.roll = s.roll ∧ t.doors[r].state = s.doors[r].state

/-- A decision that leaves the roll and the doors as they were. -/
theorem alike_unmoved (h : Alike u t) (roll : u.roll = s.roll) (doors : u.doors = s.doors) : Unmoved s t r := by
  refine ⟨h.roll.trans roll, ?_⟩
  rw [(alike_state h r).1, doors]

section Report

variable (presents : Presents s a r line states n) (reaches : ReachesPin s a r tok b rec rights) (short : digits.length ≤ 12)
  (valid : ∀ d ∈ digits, d ≤ 9)

include presents reaches short valid

/-- A decision that ends at the PIN stage with the state as it was. -/
theorem answers_atPin (pin : s.pinStage r b rec (s.nightRules r rec.cls) (digits.take 4) = (s, some answer)) :
    AnswersWith (presented s line states n tok digits) a n answer fun t => t.bt = s.bt ∧ t.ctx = s.ctx ∧ Unmoved s t r :=
  presented_answers presents short valid (entry_endsAtPin reaches pin) fun _ alike => ⟨alike.bt, alike.ctx, alike_unmoved alike rfl rfl⟩

/-- A bearer without a PIN where one is demanded. -/
theorem answers_withoutPin (demanded : demandsPin s r rec.cls = true) (none_ : rec.pin = none) :
    AnswersWith (presented s line states n tok digits) a n (.deny .pinWrong) fun t => t.bt = s.bt ∧ t.ctx = s.ctx ∧ Unmoved s t r := by
  have still : s.wrongPin b = s := by
    unfold State.wrongPin
    rw [reaches.live]
    exact if_neg (by simp [none_])
  refine answers_atPin presents reaches short valid ?_
  by_cases nothing : digits.take 4 = []
  · exact pinStage_missing demanded none_ nothing
  · rw [pinStage_unset demanded none_ nothing, still]

theorem answers_awaitPin (demanded : demandsPin s r rec.cls = true) (has : rec.pin = some pin) (nothing : digits = []) :
    AnswersWith (presented s line states n tok digits) a n (.await .pinRequired) fun t =>
      t.bt = s.bt ∧ t.ctx = s.ctx ∧ Unmoved s t r :=
  answers_atPin presents reaches short valid (pinStage_awaited demanded has (by rw [nothing]; rfl))

omit presents short valid in
theorem entry_wrongPin (demanded : demandsPin s r rec.cls = true) (has : rec.pin = some pin) (supplied : digits ≠ [])
    (wrong : digits.take 4 ≠ pinDigits pin) (noDuress : digits.take 4 ≠ duressDigits pin) :
    s.entryPresentation a r tok (digits.take 4) = (s.wrongPin b, .deny .pinWrong) := by
  refine entry_endsAtPin reaches ?_
  rw [pinStage_supplied demanded has (by simpa using supplied), if_neg wrong, if_neg noDuress]

/-- A wrong PIN is denied and counted, up to the lockout. -/
theorem answers_wrongPin (demanded : demandsPin s r rec.cls = true) (has : rec.pin = some pin) (supplied : digits ≠ [])
    (wrong : digits.take 4 ≠ pinDigits pin) (noDuress : digits.take 4 ≠ duressDigits pin) :
    AnswersWith (presented s line states n tok digits) a n (.deny .pinWrong) fun t =>
      t.bt =
          { s.bt with
            bearers := s.bt.bearers.modify b fun x =>
              { x with failedPin := min 5 (rec.failedPin + 1), state := if 4 ≤ rec.failedPin then .suspended else x.state } } ∧
        t.ctx = (if 4 ≤ rec.failedPin then withoutBearer s b else s.ctx) ∧
        (4 ≤ rec.failedPin → Roomy s → Stands t (.forBearer .pinLockout b)) ∧ Unmoved s t r := by
  have decided := entry_wrongPin reaches demanded has supplied wrong noDuress
  obtain ⟨bt, ctx, -⟩ := wrongPin_effect s reaches.live reaches.active has
  obtain ⟨t, m, answers, -, alike, heard, reachesM, effect⟩ := presented_decides presents short valid reaches
  rw [decided] at answers alike
  refine answersWith_mono answers ?_
  rintro _ rfl
  refine ⟨alike.bt.trans bt, alike.ctx.trans ctx, fun locked roomy => ?_, alike_unmoved alike (by simp) (by simp)⟩
  have demandedM : demandsPin m r rec.cls = true := by
    unfold demandsPin
    rw [(heard_alike heard).nightRules, heard.profiles]
    exact demanded
  rw [entry_wrongPin reachesM demandedM has supplied wrong noDuress] at effect
  obtain ⟨-, -, raises⟩ := wrongPin_effect m reachesM.live reachesM.active has
  obtain ⟨v, before, after⟩ := raises locked
  rw [effect]
  exact finish_stands heard roomy ⟨v, before, .of_eq after⟩ (by simp [AlarmKey.forBearer]) _

/-- The duress form raises DURESS. -/
theorem presents_duress (has : rec.pin = some pin) (duress : digits.take 4 = duressDigits pin) (roomy : Roomy s) :
    ∃ t, presented s line states n tok digits = .next t ∧ Stands t (.forRoomBearer .duress r b) := by
  obtain ⟨t, m, -, next, -, heard, reachesM, effect⟩ := presented_decides (digits := digits) presents short valid reaches
  refine ⟨t, next, ?_⟩
  rw [duress, entry_passesPin reachesM (pinStage_duress has)] at effect
  rw [effect]
  refine finish_stands heard roomy ⟨m.pinCorrect b, rfl, ?_⟩ (by simp [AlarmKey.forRoomBearer]) _
  exact lastStages_keepsAlarm (m.duressPin r b) r b rec.cls _ rights (by simp [AlarmKey.forRoomBearer]) (by simp [AlarmKey.forRoomBearer])

/-- A decision that passes the PIN stage without duress is that of stages 7 to 9 on a state that differs in the bearer's failed PINs alone. -/
theorem answers_pastPin (passes : passesPin s r rec digits) {effect : State → Prop}
    (h : ∀ u, (u = s ∨ u = s.pinCorrect b) →
      ∃ v, u.lastStages r b rec.cls (s.nightRules r rec.cls) rights = (v, answer) ∧ ∀ t, Alike v t → effect t) :
    AnswersWith (presented s line states n tok digits) a n answer effect := by
  obtain ⟨u, pin, was⟩ := pinStage_passes (b := b) passes
  obtain ⟨v, decided, after⟩ := h u was
  exact presented_answers presents short valid ((entry_passesPin reaches pin).trans decided) after

theorem answers_passback (passes : passesPin s r rec digits) (inside : (s.entryOf b).isSome) :
    AnswersWith (presented s line states n tok digits) a n (.deny .passback) fun t => t.ctx = s.ctx ∧ Unmoved s t r := by
  refine answers_pastPin presents reaches short valid passes fun u was => ?_
  have still : u.ctx = s.ctx ∧ u.roll = s.roll ∧ u.doors = s.doors := by rcases was with rfl | rfl <;> exact ⟨rfl, rfl, rfl⟩
  obtain ⟨ctx, roll, doors⟩ := still
  refine ⟨u, if_pos ?_, fun t alike => ⟨alike.ctx.trans ctx, alike_unmoved alike roll doors⟩⟩
  unfold State.entryOf at inside ⊢
  rw [roll]
  exact inside

theorem answers_full (passes : passesPin s r rec digits) (outside : s.entryOf b = none)
    (full : s.roomFor r (if s.custodyApplies r rec.cls (s.nightRules r rec.cls) then 2 else 1) = false) :
    AnswersWith (presented s line states n tok digits) a n (.deny .capacityFull) fun t => t.ctx = s.ctx ∧ Unmoved s t r := by
  refine answers_pastPin presents reaches short valid passes fun u was => ?_
  have still : u.ctx = s.ctx ∧ u.roll = s.roll ∧ u.doors = s.doors ∧ u.sup = s.sup := by rcases was with rfl | rfl <;> exact ⟨rfl, rfl, rfl, rfl⟩
  obtain ⟨ctx, roll, doors, sup⟩ := still
  refine ⟨u, ?_, fun t alike => ⟨alike.ctx.trans ctx, alike_unmoved alike roll doors⟩⟩
  have out : u.entryOf b = none := by
    unfold State.entryOf at outside ⊢
    rw [roll]
    exact outside
  have custody : u.custodyApplies r rec.cls (s.nightRules r rec.cls) = s.custodyApplies r rec.cls (s.nightRules r rec.cls) := by
    unfold State.custodyApplies
    rw [ctx, sup]
  have places (k : Nat) : u.roomFor r k = s.roomFor r k := by
    unfold State.roomFor State.headCount
    rw [roll, sup]
  unfold State.lastStages
  rw [out, custody, places, full]
  rfl

end Report

/-- Settles O25: the decision stage by stage, and its report by the state alike to the one before. -/
theorem entryDecisionsByStage : Obligations.EntryDecisionsByStage := by
  unfold Obligations.EntryDecisionsByStage
  refine ⟨fun s a r tok digits => ?_, fun s a r tok digits n granted => granted_zone granted,
    fun s a r tok b rec pin token live has _ => ⟨duressDigits_ne pin, duress_answer token live has⟩,
    fun s a r line states n side tok digits presents short valid => ?_,
    fun s a r line states n tok digits b rec rights presents reaches short valid => ?_⟩
  · refine ⟨fun fault => entry_denied (doorDenies_fault fault), fun known lockdown => entry_denied ?_, fun known free locked => entry_denied ?_,
      fun known free unlocked => ?_⟩
    · rw [doorDenies_marks known, if_pos lockdown]
    · rw [doorDenies_marks known, if_neg (by rw [free]; exact Bool.false_ne_true), if_pos locked]
    · have door : s.doorDenies a r = none := by
        rw [doorDenies_marks known, if_neg (by rw [free]; exact Bool.false_ne_true), if_neg (by rw [unlocked]; exact Bool.false_ne_true)]
      refine ⟨fun normal alert disabled vent => entry_zoneActive door ?_, fun admits => ?_⟩
      · refine Bool.eq_false_iff.mpr fun allows => ?_
        rcases (allowsEntry_iff _).mp allows with h | h | h | h
        · exact normal h
        · exact alert h
        · exact disabled h
        · exact vent h
      · have zone := (allowsEntry_iff s.zones[r].state).mpr admits
        refine ⟨fun unknown => (entry_token door zone).trans (decideToken_unknown unknown), fun b rec token live => ?_⟩
        obtain ⟨retiring, suspended, invalid, named, nothing⟩ := bearer_stages (digits := digits) door zone token live
        exact ⟨retiring, suspended, invalid, fun active valid => ⟨named active valid, nothing active valid, nightRules_iff s r rec.cls⟩⟩
  · refine answersWith_mono (presentation_answered presents short valid) ?_
    rintro t ⟨alike, -⟩
    exact ⟨alike.bt, alike.roll, alike.ctx, alike.clk, alike.cylinders, alike_state alike⟩
  · exact ⟨answers_withoutPin presents reaches short valid,
      fun pin demanded has => ⟨answers_awaitPin presents reaches short valid demanded has,
        answers_wrongPin presents reaches short valid demanded has⟩,
      fun pin has duress roomy => presents_duress presents reaches short valid has duress roomy,
      fun passes => ⟨answers_passback presents reaches short valid passes, answers_full presents reaches short valid passes⟩⟩

end Sys2Proof.Proofs.EntryDecisions
end

section
/-! PROOFS. ADMISSIONS (R57, R62): what one admission, and a grant with its admissions, leaves of the roll, the contexts and the door. -/
namespace Sys2Proof.Proofs.Admissions

open Sys2Proof Sys2Proof.Machine Sys2Proof.Safety Sys2Proof.Laws
open Sys2Proof.Proofs.RollRequests (SameRoll get_of_baseEntries retest_sameRoll headCount_congr)
open Sys2Proof.Proofs.SecondTicks (holders holders_modify holders_of_base wf_of_holders entryOf_some_of_holders entry_get)
open Sys2Proof.Proofs.ZoneMoves (rederive_still)
open Sys2Proof.Proofs.Acts (admitOne_eq listed freshEntry mem_of_mem_set entryOf_eq_none)

variable {s t u : State} {r : Room} {b e : Nat} {o : OccEntry} {link : Option Nat}

/-! ### A free entry -/

theorem used_of_lowestFree {α : Type} {m : Table α} {lo n : Nat} (h : m.lowestFree lo n = none) :
    ∀ j, lo ≤ j → j < lo + n → (m.get j).isSome := by
  induction n generalizing lo with
  | zero => intro j low high; omega
  | succ n ih =>
    unfold Table.lowestFree at h
    split at h
    · next used =>
      intro j low high
      rcases Nat.eq_or_lt_of_le low with rfl | above
      · exact used
      · exact ih h j (by omega) (by omega)
    · cases h

/-- A table with fewer records than numbers has a free one. -/
theorem lowestFree_exists {α : Type} {m : Table α} {n : Nat} (few : m.length < n) : ∃ e, m.lowestFree 1 n = some e ∧ m.get e = none := by
  cases free : m.lowestFree 1 n with
  | some e => exact ⟨e, rfl, Acts.lowestFree_none free⟩
  | none =>
    have used := used_of_lowestFree free
    have covers : List.range' 1 n ⊆ m.map Prod.fst := by
      intro j mem
      obtain ⟨low, high⟩ := List.mem_range'_1.mp mem
      obtain ⟨x, get⟩ := Option.isSome_iff_exists.mp (used j low (by omega))
      exact List.mem_map.mpr ⟨(j, x), Table.mem_of_get get, rfl⟩
    have le := ((List.nodup_range' (s := 1) (n := n)).subperm covers).length_le
    simp only [List.length_range', List.length_map] at le
    omega

theorem length_set_le {α : Type} (m : Table α) (n : Nat) (x : α) : (m.set n x).length ≤ m.length + 1 := by
  induction m with
  | nil => simp [Table.set]
  | cons p m ih =>
    unfold Table.set
    split
    · simp
    · split
      · simp
      · simpa using ih

/-! ### The entry of a bearer -/

theorem entryOf_of_mem (mem : (e, o) ∈ s.roll.entries) (bearer : o.bearer = b) (only : ∀ p ∈ s.roll.entries, p.2.bearer = b → p = (e, o)) :
    s.entryOf b = some (e, o) := by
  cases found : s.entryOf b with
  | none => exact absurd bearer ((entryOf_eq_none.mp found) _ mem)
  | some p =>
    have here := List.find?_some found
    rw [only p (List.mem_of_find?_eq_some found) (of_decide_eq_true here)]

/-- A new entry is its bearer's. -/
theorem entryOf_set_own (outside : s.entryOf b = none) (bearer : o.bearer = b) (entries : t.roll.entries = s.roll.entries.set e o) :
    t.entryOf b = some (e, o) := by
  refine entryOf_of_mem ?_ bearer fun p mem same => ?_
  · rw [entries]
    exact Table.mem_of_get (Table.get_set_same ..)
  · rw [entries] at mem
    exact (mem_of_mem_set mem).resolve_right fun old => (entryOf_eq_none.mp outside) p old same

/-- A new entry leaves the entry of another bearer, where that bearer has no other. -/
theorem entryOf_set_other {x : OccEntry} {k : Nat} (inside : s.entryOf b = some (e, o)) (wf : s.roll.entries.wf = true)
    (only : ∀ p ∈ s.roll.entries, p.2.bearer = b → p = (e, o)) (free : s.roll.entries.get k = none) (other : x.bearer ≠ b)
    (entries : t.roll.entries = s.roll.entries.set k x) : t.entryOf b = some (e, o) := by
  have entry := entry_get wf inside
  have away : e ≠ k := fun same => by
    rw [same, free] at entry
    cases entry
  refine entryOf_of_mem ?_ (Acts.entryOf_get inside).2 fun p mem same => ?_
  · rw [entries]
    exact Table.mem_of_get (by rw [Table.get_set_other _ _ away, entry])
  · rw [entries] at mem
    rcases mem_of_mem_set mem with rfl | old
    · exact absurd same other
    · exact only p old same

/-- What a hand-on leaves of the entry of a bearer. -/
theorem entryOf_handedOn (same : SameRoll s t) (wf : s.roll.entries.wf = true) (inside : s.entryOf b = some (e, o)) :
    ∃ x, t.entryOf b = some (e, x) ∧ entryBase x = entryBase o := by
  have holds := holders_of_base same.entries
  obtain ⟨x, still⟩ := entryOf_some_of_holders holds inside
  have base := get_of_baseEntries same.entries e
  rw [entry_get (wf_of_holders holds wf) still, entry_get wf inside] at base
  exact ⟨x, still, Option.some.inj base⟩

/-! ### One admission -/

/-- The state with the entry of an admission, and the escort's count of it. -/
def admitted (s : State) (r : Room) (x : Admission) (e : Nat) : State :=
  match x.escort with
  | none => listed s r x e
  | some y => (listed s r x e).modEntry y fun o => { o with escorted := o.escorted + 1 }

theorem admitOne_admitted {x : Admission} (free : s.roll.entries.lowestFree 1 Config.maxOccEntries = some e) :
    State.admitOne r s x = admitted s r x e := by
  rw [admitOne_eq, free]
  obtain ⟨b, escort⟩ := x
  cases escort <;> rfl

theorem admitted_rooms (s : State) (r : Room) (x : Admission) (e : Nat) :
    (admitted s r x e).roll.rooms = s.roll.rooms.set r { s.roll.rooms[r] with list := s.roll.rooms[r].list ++ [e] } := by
  obtain ⟨b, escort⟩ := x
  cases escort <;> rfl

theorem admitted_holders (s : State) (r : Room) (x : Admission) (e : Nat) :
    holders (admitted s r x e).roll.entries = holders (s.roll.entries.set e (freshEntry s r x)) := by
  obtain ⟨b, escort⟩ := x
  cases escort with
  | none => rfl
  | some y => exact holders_modify _ _ (g := fun o => { o with escorted := o.escorted + 1 }) fun _ => rfl

/-! ### A grant with its admissions -/

/-- The contexts in which an admitted bearer waits are dropped, but for the door's own (R57). -/
def withoutWaiting (c : Context) (own : Bool) (xs : List Nat) : Context :=
  match c with
  | .custody n w x g => if x ∈ xs ∧ own = false then .empty else .custody n w x g
  | c => c

theorem dropWaiting_ctx (s : State) (r : Room) (b : Nat) (j : Room) :
    (s.dropWaiting r b).ctx[j] = withoutWaiting s.ctx[j] (decide (j = r)) [b] := by
  refine (vgen_get ..).trans ?_
  cases s.ctx[j] with
  | empty => rfl
  | escort n w x f => rfl
  | custody n w x g => simp [withoutWaiting]

theorem withoutWaiting_cons (c : Context) (own : Bool) (b : Nat) (xs : List Nat) :
    withoutWaiting (withoutWaiting c own [b]) own xs = withoutWaiting c own (b :: xs) := by
  cases c with
  | empty => rfl
  | escort n w x f => rfl
  | custody n w x g =>
    by_cases here : x = b ∧ own = false
    · simp [withoutWaiting, here.1, here.2]
    · by_cases other : own = false
      · have away : x ≠ b := fun same => here ⟨same, other⟩
        simp [withoutWaiting, other, away]
      · simp [withoutWaiting, other]

theorem dropWaitings_ctx (as : List Admission) (s : State) (r j : Room) :
    (as.foldl (fun s a => s.dropWaiting r a.bearer) s).ctx[j] = withoutWaiting s.ctx[j] (decide (j = r)) (as.map Admission.bearer) := by
  induction as generalizing s with
  | nil =>
    cases h : s.ctx[j] <;> simp [withoutWaiting, h]
  | cons a as ih => exact (ih _).trans (by rw [dropWaiting_ctx, withoutWaiting_cons, List.map_cons])

/-- What a grant of the door of `r` with admissions leaves, where the zone acts on no hold reasons. -/
structure Granted (s v : State) (r : Room) (as : List Admission) : Prop where
  roll : SameRoll (as.foldl (State.admitOne r) s) v
  ctx : ∀ j : Room, v.ctx[j] = withoutWaiting s.ctx[j] (decide (j = r)) (as.map Admission.bearer)
  doors : v.doors = (s.release r .entry).doors
  loop : v.loop = (s.release r .entry).loop
  zone : v.zones[r].state = s.zones[r].state
  bt : v.bt = s.bt
  sup : v.sup = s.sup

/-- An admission looks at the roll alone. -/
theorem admitOne_roll (h : t.roll = s.roll) (r : Room) (x : Admission) : (State.admitOne r t x).roll = (State.admitOne r s x).roll := by
  obtain ⟨b, escort⟩ := x
  unfold State.admitOne
  rw [h]
  split
  · exact h
  · cases escort <;> simp only [State.setRoom, State.setEntries, State.modEntry, h]

theorem admitAll_roll (as : List Admission) (h : t.roll = s.roll) :
    (as.foldl (State.admitOne r) t).roll = (as.foldl (State.admitOne r) s).roll := by
  induction as generalizing s t with
  | nil => exact h
  | cons a as ih => exact ih (admitOne_roll h r a)

theorem handOn_still (zone : s.zones[r].state.allowsEntry = true) :
    (s.handOn r).ctx = s.ctx ∧ (s.handOn r).doors = s.doors ∧ (s.handOn r).loop = s.loop ∧
      (s.handOn r).zones[r].state = s.zones[r].state ∧ SameRoll s (s.handOn r) := by
  have quiet : s.zones[r].state ≠ .held ∧ s.zones[r].state ≠ .countdown ∧ s.zones[r].state ≠ .waitBank := by
    generalize s.zones[r].state = z at zone ⊢
    cases z <;> simp_all [ZoneState.allowsEntry]
  have derived : s.handOn r = (s.setZone r { s.zones[r] with holds := s.deriveHolds r }).retest r := by
    unfold State.handOn
    rw [rederive_still s r quiet]
  refine ⟨?_, ?_, ?_, ?_, RollRequests.handOn_sameRoll s r⟩
  · rw [derived]
    simp
  · rw [derived]
    simp
  · rw [derived]
    simp
  · rw [derived, (State.retest_frame ..).2.2.2.2.2.2.2.2.2.1]
    simp [State.setZone]

theorem grantEntry_granted (zone : s.zones[r].state.allowsEntry = true) (as : List Admission) : Granted s (s.grantEntry r as) r as := by
  let w := as.foldl (State.admitOne r) (s.release r .entry)
  have dropped (v : State) : (as.foldl (fun s a => s.dropWaiting r a.bearer) v).roll = v.roll ∧
      (as.foldl (fun s a => s.dropWaiting r a.bearer) v).doors = v.doors ∧
      (as.foldl (fun s a => s.dropWaiting r a.bearer) v).loop = v.loop ∧ (as.foldl (fun s a => s.dropWaiting r a.bearer) v).zones = v.zones :=
    ⟨foldl_roll (fun s (a : Admission) => s.dropWaiting r a.bearer) (fun _ _ => rfl) as v,
      foldl_doors (fun s (a : Admission) => s.dropWaiting r a.bearer) (fun _ _ => rfl) as v,
      foldl_loop (fun s (a : Admission) => s.dropWaiting r a.bearer) (fun _ _ => rfl) as v,
      foldl_zones (fun s (a : Admission) => s.dropWaiting r a.bearer) (fun _ _ => rfl) as v⟩
  have whole : s.grantEntry r as = as.foldl (fun s a => s.dropWaiting r a.bearer) (w.handOn r) := rfl
  have zones : w.zones = s.zones := (foldl_zones (State.admitOne r) (fun v a => by simp) as _).trans (by simp)
  have ctx : w.ctx = s.ctx := (foldl_ctx (State.admitOne r) (fun v a => by simp) as _).trans (by simp)
  have doors : w.doors = (s.release r .entry).doors := foldl_doors (State.admitOne r) (fun v a => by simp) as _
  have loop : w.loop = (s.release r .entry).loop := foldl_loop (State.admitOne r) (fun v a => by simp) as _
  obtain ⟨ctx', doors', loop', zone', roll'⟩ := handOn_still (s := w) (r := r) (by rw [zones]; exact zone)
  obtain ⟨rollD, doorsD, loopD, zonesD⟩ := dropped (w.handOn r)
  have roll : w.roll = (as.foldl (State.admitOne r) s).roll := admitAll_roll as (by simp)
  refine ⟨?_, fun j => ?_, ?_, ?_, ?_, ?_, ?_⟩
  · rw [whole]
    exact ((SameRoll.of_eq roll).trans roll').trans (.of_eq rollD)
  · rw [whole, dropWaitings_ctx, ctx', ctx]
  · rw [whole, doorsD, doors', doors]
  · rw [whole, loopD, loop', loop]
  · rw [whole, zonesD, zone', zones]
  · simp
  · simp

end Sys2Proof.Proofs.Admissions
end

section
/-! PROOFS. GRANTS IN A REPORT (R50, R77, R157): the entries that a grant makes, and its release of the door. -/
namespace Sys2Proof.Proofs.Grants

open Sys2Proof Sys2Proof.Machine Sys2Proof.Safety Sys2Proof.Laws
open Sys2Proof.Proofs.EventReports Sys2Proof.Proofs.AlikeStates Sys2Proof.Proofs.EntryStages Sys2Proof.Proofs.PinStage
open Sys2Proof.Proofs.Presentations Sys2Proof.Proofs.EntryReports Sys2Proof.Proofs.Admissions Sys2Proof.Proofs.Evaluation
open Sys2Proof.Proofs.RollRequests (SameRoll get_of_baseEntries)
open Sys2Proof.Proofs.SecondTicks (holders holders_modify wf_of_holders entry_get entryOf_some_of_holders)
open Sys2Proof.Proofs.Acts (freshEntry listed mem_of_mem_set entryOf_eq_none)

variable {s t m u v w : State} {a : Addr} {r : Room} {line : List Bool} {states : List PointState} {n : Nat} {tok : Token}
  {digits : List Nat} {b e k : Nat} {o : OccEntry} {rec : Bearer} {rights : Rights} {night : Bool} {link : Option Nat}

/-! ### The entries that a grant makes -/

/-- The bearer's entry is fresh: in the strongroom, with its link, and escorting nobody. -/
def EntersAs (t : State) (r : Room) (b : Nat) (link : Option Nat) (e : Nat) : Prop :=
  ∃ o, t.entryOf b = some (e, o) ∧ o.room = r ∧ o.link = link ∧ o.escorted = 0

theorem EntersAs.congr (h : EntersAs t r b link e) (roll : u.roll = t.roll) : EntersAs u r b link e := by
  unfold EntersAs State.entryOf at h ⊢
  rwa [roll]

theorem base_fields {x y : OccEntry} (h : entryBase x = entryBase y) :
    x.bearer = y.bearer ∧ x.room = y.room ∧ x.link = y.link ∧ x.escorted = y.escorted := by
  simp only [entryBase, Prod.mk.injEq] at h
  obtain ⟨bearer, room, -, link, escorted, -⟩ := h
  exact ⟨bearer, room, link, escorted⟩

/-- A hand-on keeps a fresh entry fresh. -/
theorem entersAs_handedOn (same : SameRoll u v) (wf : u.roll.entries.wf = true) (h : EntersAs u r b link e) : EntersAs v r b link e := by
  obtain ⟨o, inside, room, linked, escorted⟩ := h
  obtain ⟨x, still, base⟩ := entryOf_handedOn same wf inside
  obtain ⟨-, room', linked', escorted'⟩ := base_fields base
  exact ⟨x, still, room'.trans room, linked'.trans linked, escorted'.trans escorted⟩

/-- What one admission leaves of the entries, of a bearer outside under the number of a free entry. -/
structure OneMore (s t : State) (r : Room) (b : Nat) (link : Option Nat) (e : Nat) : Prop where
  free : s.roll.entries.get e = none
  enters : EntersAs t r b link e
  wf : t.roll.entries.wf = true
  rooms : t.roll.rooms = s.roll.rooms.set r { s.roll.rooms[r] with list := s.roll.rooms[r].list ++ [e] }
  kept : ∀ k o, s.roll.entries.get k = some o →
    t.roll.entries.get k = some (if link = some k then { o with escorted := o.escorted + 1 } else o)

theorem admitted_oneMore (wf : s.roll.entries.wf = true) (outside : s.entryOf b = none) (free : s.roll.entries.get e = none)
    (real : ∀ y, link = some y → (s.roll.entries.get y).isSome) : OneMore s (admitted s r ⟨b, link⟩ e) r b link e := by
  have entries : (listed s r ⟨b, link⟩ e).roll.entries = s.roll.entries.set e (freshEntry s r ⟨b, link⟩) := rfl
  have own : (listed s r ⟨b, link⟩ e).entryOf b = some (e, freshEntry s r ⟨b, link⟩) := entryOf_set_own outside rfl entries
  have wf' : (listed s r ⟨b, link⟩ e).roll.entries.wf = true := by
    rw [entries]
    exact Table.wf_set _ _ _ wf
  have counted (y : Nat) : (admitted s r ⟨b, some y⟩ e).roll.entries =
      (listed s r ⟨b, some y⟩ e).roll.entries.modify y fun o => { o with escorted := o.escorted + 1 } := rfl
  have away {k : Nat} {o : OccEntry} (get : s.roll.entries.get k = some o) : k ≠ e := fun same => by
    rw [same, free] at get
    cases get
  refine ⟨free, ?_, ?_, admitted_rooms s r ⟨b, link⟩ e, fun k o get => ?_⟩
  · cases link with
    | none => exact ⟨_, own, rfl, rfl, rfl⟩
    | some y =>
      have apart : e ≠ y := fun same => by
        obtain ⟨x, get⟩ := Option.isSome_iff_exists.mp (real y rfl)
        exact away get same.symm
      have holds := holders_modify (listed s r ⟨b, some y⟩ e).roll.entries y (g := fun o => { o with escorted := o.escorted + 1 }) fun _ => rfl
      obtain ⟨x, still⟩ := entryOf_some_of_holders (t := admitted s r ⟨b, some y⟩ e) holds own
      have get := entry_get (wf_of_holders holds wf') still
      have same : (admitted s r ⟨b, some y⟩ e).roll.entries.get e = some (freshEntry s r ⟨b, some y⟩) := by
        rw [counted, Table.get_modify, if_neg apart]
        exact entry_get wf' own
      obtain rfl := Option.some.inj (get.symm.trans same)
      exact ⟨_, still, rfl, rfl, rfl⟩
  · cases link with
    | none => exact wf'
    | some y =>
      rw [counted]
      exact Table.wf_modify _ _ _ wf'
  · have stays : (listed s r ⟨b, link⟩ e).roll.entries.get k = some o := by
      rw [entries, Table.get_set_other _ _ (away get), get]
    cases link with
    | none => exact stays
    | some y =>
      rw [counted, Table.get_modify, stays]
      by_cases here : k = y
      · rw [if_pos here, if_pos (congrArg some here.symm)]
        rfl
      · rw [if_neg here, if_neg fun same => here (Option.some.inj same).symm]

/-- A grant with one admission. -/
theorem granted_one (wf : s.roll.entries.wf = true) (outside : s.entryOf b = none) (few : s.roll.entries.length < 256)
    (real : ∀ y, link = some y → (s.roll.entries.get y).isSome) (h : Granted s v r [⟨b, link⟩]) :
    ∃ e w, OneMore s w r b link e ∧ SameRoll w v := by
  obtain ⟨e, lowest, free⟩ := lowestFree_exists (n := Config.maxOccEntries) few
  have roll := h.roll
  simp only [List.foldl_cons, List.foldl_nil, admitOne_admitted lowest] at roll
  exact ⟨e, _, admitted_oneMore wf outside free real, roll⟩

/-- A grant with two admissions, of bearers outside. -/
theorem granted_pair {f : Nat} (wf : s.roll.entries.wf = true) (first : s.entryOf f = none) (second : s.entryOf b = none) (apart : f ≠ b)
    (few : s.roll.entries.length + 2 ≤ 256) (h : Granted s v r [⟨f, none⟩, ⟨b, none⟩]) :
    ∃ e e' w, EntersAs v r f none e ∧ EntersAs v r b none e' ∧ SameRoll w v ∧ w.roll.rooms[r].list = s.roll.rooms[r].list ++ [e, e'] := by
  obtain ⟨e, lowest, free⟩ := lowestFree_exists (m := s.roll.entries) (n := Config.maxOccEntries) (by rw [Config.maxOccEntries]; omega)
  have one := admitted_oneMore (r := r) (link := none) wf first free nofun
  have length : (admitted s r ⟨f, none⟩ e).roll.entries.length ≤ s.roll.entries.length + 1 := length_set_le _ _ _
  obtain ⟨e', lowest', free'⟩ := lowestFree_exists (m := (admitted s r ⟨f, none⟩ e).roll.entries) (n := Config.maxOccEntries)
    (by rw [Config.maxOccEntries]; omega)
  have outside : (admitted s r ⟨f, none⟩ e).entryOf b = none := by
    rw [← admitOne_admitted lowest]
    exact Acts.admitOne_outside (fun same => apart same.symm) second
  have two := admitted_oneMore (r := r) (link := none) one.wf outside free' nofun
  have roll := h.roll
  simp only [List.foldl_cons, List.foldl_nil, admitOne_admitted lowest, admitOne_admitted lowest'] at roll
  have still : EntersAs (admitted (admitted s r ⟨f, none⟩ e) r ⟨b, none⟩ e') r f none e := by
    obtain ⟨o, inside, fresh⟩ := one.enters
    refine ⟨o, entryOf_set_other inside one.wf (fun p mem same => ?_) free' (fun same => apart same.symm) rfl, fresh⟩
    have own := (entryOf_set_own (t := admitted s r ⟨f, none⟩ e) first (o := freshEntry s r ⟨f, none⟩) rfl rfl).symm.trans inside
    obtain rfl := (Prod.mk.inj (Option.some.inj own)).2
    exact (mem_of_mem_set mem).resolve_right fun old => (entryOf_eq_none.mp first) p old same
  refine ⟨e, e', _, entersAs_handedOn roll two.wf still, entersAs_handedOn roll two.wf two.enters, roll, ?_⟩
  rw [two.rooms, vset_same, one.rooms, vset_same]
  simp

/-! ### The release of the door -/

/-- A decision that grants releases the door of `r` and changes no door and no station further. -/
def ReleasesIfGranted (s : State) (r : Room) (d : State × ReaderAnswer) : Prop :=
  (∀ n, d.2 ≠ .grant n) ∨ d.1.loop = (s.release r .entry).loop ∧ d.1.doors = (s.release r .entry).doors

theorem grantEntry_releases (zone : s.zones[r].state.allowsEntry = true) (as : List Admission) {answer : ReaderAnswer}
    (loop : v.loop = (s.grantEntry r as).loop) (doors : v.doors = (s.grantEntry r as).doors) : ReleasesIfGranted s r (v, answer) :=
  .inr ⟨loop.trans (grantEntry_granted zone as).loop, doors.trans (grantEntry_granted zone as).doors⟩

theorem pairingStage_releases (zone : s.zones[r].state.allowsEntry = true) (b : Nat) (cls : Sys2Proof.Class) (night : Bool) (rights : Rights) :
    ReleasesIfGranted s r (s.pairingStage r b cls night rights) := by
  unfold State.pairingStage
  split
  · unfold State.visitorStage
    split
    · next _ _ _ e _ =>
      extract_lets count limit t
      split
      · exact .inl nofun
      · exact grantEntry_releases zone [⟨b, some e⟩] (by simp [t]) (by simp [t])
    · exact .inl nofun
  · split
    · unfold State.custodyStage
      split
      · next _ _ first _ _ =>
        split
        · exact .inl nofun
        · split
          · unfold State.completePair
            exact grantEntry_releases zone [⟨first, none⟩, ⟨b, none⟩] (by simp) (by simp)
          · exact .inl nofun
      · split
        · exact .inl nofun
        · exact .inl nofun
    · unfold State.plainGrant
      exact grantEntry_releases zone [⟨b, none⟩] (by simp) (by simp)

theorem lastStages_releases (zone : s.zones[r].state.allowsEntry = true) (b : Nat) (cls : Sys2Proof.Class) (night : Bool) (rights : Rights) :
    ReleasesIfGranted s r (s.lastStages r b cls night rights) := by
  unfold State.lastStages
  split
  · exact .inl nofun
  · generalize (if s.custodyApplies r cls night then 2 else 1) = places
    split
    · exact .inl nofun
    · exact pairingStage_releases zone b cls night rights

/-- What the PIN stage leaves is the state but for the bearers, the contexts and the Alarm Table. -/
theorem pinStage_kept (s : State) (r : Room) (b : Nat) (rec : Bearer) (night : Bool) (digits : List Nat) :
    let u := (s.pinStage r b rec night digits).1
    u.doors = s.doors ∧ u.zones = s.zones ∧ u.loop = s.loop ∧ u.sup = s.sup := by simp

theorem pinStage_grantsNothing (s : State) (r : Room) (b : Nat) (rec : Bearer) (night : Bool) (digits : List Nat) :
    (s.pinStage r b rec night digits).2 ≠ some (.grant n) := by
  unfold State.pinStage
  split
  · split
    · exact nofun
    · exact nofun
    · exact nofun
    · split
      · exact nofun
      · split <;> exact nofun
  · split
    · exact nofun
    · split <;> exact nofun

/-- A granted entry at a closed door releases it, and the release command waits at its unit. -/
theorem entry_granted (reaches : ReachesPin s a r tok b rec rights) (grant : (s.entryPresentation a r tok digits).2 = .grant n) :
    let v := (s.entryPresentation a r tok digits).1
    (s.doors[r].state = .secured →
      v.doors[r].state = .released ∧ v.doors[r].releaseKind = some .entry ∧ v.doors[r].unlock = some s.sup.profiles[r].unlock) ∧
      ∀ a : Addr, s.stationOf .doorUnit (num r) = some a → s.loop.stations[a].lost = false →
        v.loop.stations[a].slots.bolt = some ⟨.release s.sup.profiles[r].unlock, false⟩ := by
  obtain ⟨doors, zones, loop, sup⟩ := pinStage_kept s r b rec (s.nightRules r rec.cls) digits
  have nothing := pinStage_grantsNothing (n := n) s r b rec (s.nightRules r rec.cls) digits
  rw [entry_reaches reaches] at grant ⊢
  generalize s.pinStage r b rec (s.nightRules r rec.cls) digits = d at grant doors zones loop sup nothing ⊢
  obtain ⟨u, answer⟩ := d
  obtain ⟨doors, zones, loop, sup⟩ : u.doors = s.doors ∧ u.zones = s.zones ∧ u.loop = s.loop ∧ u.sup = s.sup := ⟨doors, zones, loop, sup⟩
  cases answer with
  | some answer => exact absurd (congrArg some grant) nothing
  | none =>
    rw [afterPin] at grant ⊢
    have zone : u.zones[r].state.allowsEntry = true := by
      rw [zones]
      exact reaches.zone
    obtain ⟨loop', doors'⟩ := (lastStages_releases zone b rec.cls (s.nightRules r rec.cls) rights).resolve_left fun none_ => none_ n grant
    refine ⟨fun secured => ?_, fun a at_ here => ?_⟩
    · rw [doors']
      have secured' : u.doors[r].state = .secured := by
        rw [doors]
        exact secured
      rw [DoorRequests.release_closed .entry (.inl secured'), DoorRequests.setDoor_own, sup]
      exact ⟨rfl, rfl, rfl⟩
    · have at' : u.stationOf .doorUnit (num r) = some a := by
        unfold State.stationOf at at_ ⊢
        rw [loop]
        exact at_
      have placed : (u.release r .entry).loop = (u.placeBolt r (.release u.sup.profiles[r].unlock)).loop := Exits.release_loop u r .entry
      rw [loop', placed, State.placeBolt, placeAt_station, if_pos ⟨at', by rw [loop]; exact here⟩, sup]

theorem heard_stationOf (h : Heard s m a) (ty : StationType) (x : Nat) : m.stationOf ty x = s.stationOf ty x := by
  obtain ⟨ps, loop⟩ := h.loop
  have same (j : Addr) : m.loop.stations[j].type = s.loop.stations[j].type ∧ m.loop.stations[j].room = s.loop.stations[j].room := by
    rw [loop]
    by_cases here : a = j
    · subst here
      simp only [vset_same]
      exact ⟨rfl, rfl⟩
    · exact ⟨congrArg (fun st : Station => st.type) (vset_other _ _ here), congrArg (fun st : Station => st.room) (vset_other _ _ here)⟩
  unfold State.stationOf
  congr 1
  funext j
  rw [(same j).1, (same j).2]

/-- A granted presentation in a report: the door is released, and the answer poll of its unit carries the release command. -/
theorem presented_granted (presents : Presents s a r line states n) (short : digits.length ≤ 12) (valid : ∀ d ∈ digits, d ≤ 9)
    (reaches : ReachesPin s a r tok b rec rights) {effect : State → Prop} {v : State}
    (decided : s.entryPresentation a r tok (digits.take 4) = (v, .grant s.sup.profiles[r].unlock))
    (h : ∀ t, Alike v t → DoorGranted s t a r → effect t) :
    AnswersWith (presented s line states n tok digits) a n (.grant s.sup.profiles[r].unlock) effect := by
  obtain ⟨t, m, answers, -, alike, heard, reachesM, after⟩ := presented_decides presents short valid reaches
  have station : m.loop.stations[a].state = s.loop.stations[a].state := by
    obtain ⟨ps, here⟩ := heard.station
    rw [here, presents.online]
    rfl
  have same := ((heard_alike heard).presentation station r ⟨.entry, tok, digits⟩).answer
  have grantM : (m.entryPresentation a r tok (digits.take 4)).2 = .grant s.sup.profiles[r].unlock := same.trans (congrArg Prod.snd decided)
  obtain ⟨door, -⟩ := entry_granted reaches (congrArg Prod.snd decided)
  obtain ⟨-, bolt⟩ := entry_granted reachesM grantM
  rw [decided] at answers alike door
  refine answersWith_mono answers ?_
  rintro _ rfl
  refine h _ alike ⟨fun secured => ?_, fun at_ => ?_⟩
  · obtain ⟨state, kind, unlock, -⟩ := alike_state alike r
    rw [state, kind, unlock]
    exact door secured
  · have lost : m.loop.stations[a].lost = false := by
      rw [Evaluation.not_lost] <;> rw [station, presents.online] <;> exact nofun
    have free : Unhindered (State.finish m (m.entryPresentation a r tok (digits.take 4)).1) :=
      unhindered_finish presents.toBrings heard (by simp) (by simp) (presentation_withoutCommands m a r ⟨.entry, tok, digits⟩)
    rw [after, answerPolled_station free, (finish_leaves ..).loop]
    have carried := bolt a ((heard_stationOf heard _ _).trans at_) lost
    rw [heard.profiles] at carried
    simp only [inPoll, Slots.carry, carried, Option.map_some]

end Sys2Proof.Proofs.Grants
end

section
/-! PROOFS. PAIRING CONTEXTS (R50 to R57): plain grants, custody pairs and visitors of a group, each as a REPORT with that presentation answers. -/
namespace Sys2Proof.Proofs.PairingContexts

open Sys2Proof Sys2Proof.Machine Sys2Proof.Safety Sys2Proof.Laws
open Sys2Proof.Proofs.AlikeStates Sys2Proof.Proofs.EntryStages Sys2Proof.Proofs.PinStage
open Sys2Proof.Proofs.EntryReports Sys2Proof.Proofs.EntryDecisions Sys2Proof.Proofs.Admissions Sys2Proof.Proofs.Grants
open Sys2Proof.Proofs.RollRequests (SameRoll get_of_baseEntries headCount_congr)

variable {s t u v w : State} {a : Addr} {r : Room} {line : List Bool} {states : List PointState} {n : Nat} {tok : Token}
  {digits : List Nat} {b e : Nat} {o : OccEntry} {rec : Bearer} {rights : Rights} {night : Bool} {link : Option Nat} {xs : List Nat}
  {answer : ReaderAnswer}

/-! ### Stage 9 on the state that the PIN stage leaves -/

/-- The state past the PIN stage: all but the bearers' failed PINs is as before. -/
structure Past (s u : State) : Prop where
  ctx : u.ctx = s.ctx
  roll : u.roll = s.roll
  doors : u.doors = s.doors
  zones : u.zones = s.zones
  sup : u.sup = s.sup
  limits : ∀ x, u.escortLimit x = s.escortLimit x

theorem past_of (h : u = s ∨ u = s.pinCorrect b) : Past s u := by
  rcases h with rfl | rfl
  · exact ⟨rfl, rfl, rfl, rfl, rfl, fun _ => rfl⟩
  · exact ⟨rfl, rfl, rfl, rfl, rfl, escortLimit_pinCorrect s b⟩

theorem Past.entryOf (h : Past s u) (x : Nat) : u.entryOf x = s.entryOf x := by
  unfold State.entryOf
  rw [h.roll]

theorem Past.custodyApplies (h : Past s u) (r : Room) (cls : Sys2Proof.Class) (night : Bool) :
    u.custodyApplies r cls night = s.custodyApplies r cls night := by
  unfold State.custodyApplies
  rw [h.ctx, h.sup]

/-- What reaches stage 9 is decided there. -/
theorem lastStages_pairing (h : Past s u) (outside : s.entryOf b = none)
    (place : s.roomFor r (if s.custodyApplies r rec.cls night then 2 else 1) = true) (rights : Rights) :
    u.lastStages r b rec.cls night rights = u.pairingStage r b rec.cls night rights := by
  have places (k : Nat) : u.roomFor r k = s.roomFor r k := by
    unfold State.roomFor State.headCount
    rw [h.roll, h.sup]
  unfold State.lastStages
  rw [h.entryOf, outside, h.custodyApplies, places, place]
  rfl

theorem custodyApplies_notVisitor {cls : Sys2Proof.Class} (h : s.custodyApplies r cls night = true) : cls ≠ .visitor := by
  rintro rfl
  simp [State.custodyApplies] at h

theorem custodyApplies_ctx {cls : Sys2Proof.Class} {m : Bool} {x f : Nat} {g : Rights} (h : s.ctx[r] = .custody m x f g) (other : cls ≠ .visitor) :
    s.custodyApplies r cls night = true := by
  unfold State.custodyApplies
  rw [h]
  simp [other]

/-! ### What a report answers at stage 9 -/

/-- A decision of stage 9 that moves neither the roll nor the door. -/
theorem answers_still (presents : Presents s a r line states n) (reaches : ReachesPairing s a r tok digits b rec rights)
    (short : digits.length ≤ 12) (valid : ∀ d ∈ digits, d ≤ 9) {c : Vector Context 16}
    (decided : ∀ u, Past s u → ∃ v, u.pairingStage r b rec.cls (s.nightRules r rec.cls) rights = (v, answer) ∧ v.ctx = c ∧
      v.roll = u.roll ∧ v.doors = u.doors) :
    AnswersWith (presented s line states n tok digits) a n answer fun t => t.ctx = c ∧ Unmoved s t r := by
  refine answers_pastPin presents reaches.toReachesPin short valid reaches.pin fun u was => ?_
  have past := past_of was
  obtain ⟨v, stage, ctx, roll, doors⟩ := decided u past
  exact ⟨v, (lastStages_pairing past reaches.outside reaches.room rights).trans stage,
    fun t alike => ⟨alike.ctx.trans ctx, alike_unmoved alike (roll.trans past.roll) (doors.trans past.doors)⟩⟩

/-- A decision of stage 9 that grants. -/
theorem answers_granted (presents : Presents s a r line states n) (reaches : ReachesPairing s a r tok digits b rec rights)
    (short : digits.length ≤ 12) (valid : ∀ d ∈ digits, d ≤ 9) {effect : State → Prop}
    (decided : ∀ u, Past s u → ∃ v, u.pairingStage r b rec.cls (s.nightRules r rec.cls) rights = (v, u.grantAnswer r) ∧
      ∀ t, Alike v t → DoorGranted s t a r → effect t) :
    AnswersWith (presented s line states n tok digits) a n (.grant s.sup.profiles[r].unlock) effect := by
  obtain ⟨u, pin, was⟩ := pinStage_passes (b := b) reaches.pin
  have past := past_of was
  obtain ⟨v, stage, after⟩ := decided u past
  have grant : u.grantAnswer r = .grant s.sup.profiles[r].unlock := by
    unfold State.grantAnswer
    rw [past.sup]
  rw [grant] at stage
  exact presented_granted presents short valid reaches.toReachesPin
    ((entry_passesPin reaches.toReachesPin pin).trans ((lastStages_pairing past reaches.outside reaches.room rights).trans stage)) after

/-! ### The group of an escort (R54) -/

/-- The bearer may lead a group (R54). -/
def Leads (s : State) (r : Room) (x : Nat) (right : Bool) : Prop :=
  right = true ∧ s.zones[r].state ≠ .vent ∧ ∃ q, s.bt.bearers.get x = some q ∧ 0 < q.escortLimit

theorem escortLimit_pos (s : State) (x : Nat) : 0 < s.escortLimit x ↔ ∃ q, s.bt.bearers.get x = some q ∧ 0 < q.escortLimit := by
  unfold State.escortLimit
  cases s.bt.bearers.get x with
  | none => simp
  | some q => simp

theorem escortLimit_of {q : Bearer} {x : Nat} (live : s.bt.bearers.get x = some q) : s.escortLimit x = q.escortLimit := by
  unfold State.escortLimit
  rw [live]

/-- A state in which a bearer has just been admitted: the zone and the limits are those before. -/
structure Joined (s w : State) (r : Room) : Prop where
  zone : w.zones[r].state = s.zones[r].state
  limits : ∀ x, w.escortLimit x = s.escortLimit x
  profiles : w.sup.profiles = s.sup.profiles

theorem openGroup_leads (h : Joined s w r) (leads : Leads s r b rights.escort) (free : w.ctx[r] = .empty) (inside : w.entryOf b = some (e, o)) :
    w.openGroup r night b rights = w.setCtx r (.escort night s.sup.profiles[r].window b e) := by
  obtain ⟨right, zone, limit⟩ := leads
  have limit := (escortLimit_pos s b).mpr limit
  unfold State.openGroup
  rw [h.limits, h.profiles, free, inside, h.zone]
  refine if_pos ?_
  simp only [Bool.and_eq_true, decide_eq_true_eq]
  exact ⟨⟨⟨right, limit⟩, trivial⟩, zone⟩

theorem openGroup_alone (h : Joined s w r) (alone : w.ctx[r] ≠ .empty ∨ ¬Leads s r b rights.escort) :
    w.openGroup r night b rights = w := by
  unfold State.openGroup
  refine if_neg fun opens => ?_
  simp only [Bool.and_eq_true, decide_eq_true_eq, h.limits] at opens
  obtain ⟨⟨⟨right, limit⟩, free⟩, zone⟩ := opens
  rcases alone with taken | stays
  · exact taken free
  · exact stays ⟨right, h.zone ▸ zone, (escortLimit_pos s b).mp limit⟩

theorem openGroup_other (w : State) {j : Room} (other : j ≠ r) : (w.openGroup r night b rights).ctx[j] = w.ctx[j] := by
  unfold State.openGroup
  split
  · split
    · rfl
    · exact vset_other _ _ other.symm
  · rfl

theorem Granted.joined {as : List Admission} (past : Past s u) (h : Granted u v r as) : Joined s v r := by
  refine ⟨by rw [h.zone, past.zones], fun x => ?_, by rw [h.sup, past.sup]⟩
  rw [← past.limits]
  unfold State.escortLimit
  rw [h.bt]

/-- The contexts of other doors in which an admitted bearer waited are dropped. -/
def OthersDropped (s t : State) (r : Room) (xs : List Nat) : Prop :=
  ∀ j : Room, j ≠ r → t.ctx[j] = match s.ctx[j] with | .custody _ _ w _ => if w ∈ xs then .empty else s.ctx[j] | c => c

theorem othersDropped_of (h : ∀ j : Room, j ≠ r → t.ctx[j] = withoutWaiting s.ctx[j] (decide (j = r)) xs) : OthersDropped s t r xs := by
  intro j other
  rw [h j other]
  cases ctx : s.ctx[j] with
  | empty => rfl
  | escort m w x f => rfl
  | custody m w x g => simp [withoutWaiting, other]

theorem withoutWaiting_own (c : Context) (xs : List Nat) : withoutWaiting c true xs = c := by
  cases c with
  | empty => rfl
  | escort m w x f => rfl
  | custody m w x g => simp [withoutWaiting]

/-- The contexts after a grant, at the door itself and at the others. -/
theorem granted_ctx {as : List Admission} (past : Past s u) (h : Granted u v r as) :
    v.ctx[r] = s.ctx[r] ∧ OthersDropped s v r (as.map Admission.bearer) := by
  refine ⟨?_, othersDropped_of fun j _ => ?_⟩
  · rw [h.ctx r, decide_eq_true rfl, withoutWaiting_own, past.ctx]
  · rw [h.ctx j, past.ctx]

theorem othersDropped_congr (h : OthersDropped s v r xs) (ctx : ∀ j : Room, j ≠ r → t.ctx[j] = v.ctx[j]) : OthersDropped s t r xs :=
  fun j other => (ctx j other).trans (h j other)

theorem setCtx_own (s : State) (r : Room) (c : Context) : (s.setCtx r c).ctx[r] = c := vset_same ..

theorem setCtx_other (s : State) (c : Context) {j : Room} (other : j ≠ r) : (s.setCtx r c).ctx[j] = s.ctx[j] := vset_other _ _ other.symm

theorem admittedTo_of (h : EntersAs t r b link e) (mem : e ∈ t.roll.rooms[r].list) : AdmittedTo t r b link := by
  obtain ⟨o, inside, room, linked, escorted⟩ := h
  exact ⟨e, o, inside, room, linked, escorted, mem⟩

/-- One admission, as the report leaves it. -/
theorem admitted_at (wf : s.roll.entries.wf = true) (past : Past s u) (outside : s.entryOf b = none) (few : s.roll.entries.length < 256)
    (real : ∀ y, link = some y → (s.roll.entries.get y).isSome) (h : Granted u v r [⟨b, link⟩]) (roll : t.roll = v.roll) :
    ∃ e, EntersAs t r b link e ∧ t.roll.rooms[r].list = s.roll.rooms[r].list ++ [e] ∧
      ∀ k o, s.roll.entries.get k = some o →
        ∃ x, t.roll.entries.get k = some x ∧ x.bearer = o.bearer ∧ x.escorted = if link = some k then o.escorted + 1 else o.escorted := by
  obtain ⟨e, w, one, same⟩ := granted_one (by rw [past.roll]; exact wf) ((past.entryOf b).trans outside) (by rw [past.roll]; exact few)
    (by rw [past.roll]; exact real) h
  refine ⟨e, (entersAs_handedOn same one.wf one.enters).congr roll, ?_, fun k o get => ?_⟩
  · rw [roll, same.rooms, one.rooms, vset_same, past.roll]
  · have kept := one.kept k o (by rw [past.roll]; exact get)
    have base := get_of_baseEntries same.entries k
    rw [kept, Option.map_some] at base
    obtain ⟨x, read, equal⟩ := Option.map_eq_some_iff.mp base
    obtain ⟨bearer, -, -, escorted⟩ := base_fields equal
    refine ⟨x, by rw [roll, read], ?_, ?_⟩
    · rw [bearer]
      split <;> rfl
    · rw [escorted]
      split <;> rfl

theorem roomFor_entries {k : Nat} (h : s.roomFor r k = true) : s.roll.entries.length + k ≤ 256 := by
  unfold State.roomFor at h
  simp only [Bool.and_eq_true, decide_eq_true_eq] at h
  exact h.2

/-! ### A plain grant (R50, R54) -/

/-- What a grant to one bearer leaves of the roll and of the other doors' contexts. -/
structure Joins (s t : State) (r : Room) (b : Nat) (link : Option Nat) : Prop where
  roll : ∃ e, EntersAs t r b link e ∧ t.roll.rooms[r].list = s.roll.rooms[r].list ++ [e]
  kept : ∀ k o, s.roll.entries.get k = some o →
    ∃ x, t.roll.entries.get k = some x ∧ x.bearer = o.bearer ∧ x.escorted = if link = some k then o.escorted + 1 else o.escorted
  others : OthersDropped s t r [b]

theorem Joins.congr (h : Joins s v r b link) (roll : t.roll = v.roll) (ctx : ∀ j : Room, j ≠ r → t.ctx[j] = v.ctx[j]) : Joins s t r b link := by
  obtain ⟨⟨e, enters, list⟩, kept, others⟩ := h
  exact ⟨⟨e, enters.congr roll, by rw [roll, list]⟩, by rwa [roll], othersDropped_congr others ctx⟩

theorem Joins.admittedTo (h : Joins s t r b link) : AdmittedTo t r b link ∧ t.roll.rooms[r].list.length = s.headCount r + 1 := by
  obtain ⟨⟨e, enters, list⟩, -, -⟩ := h
  exact ⟨admittedTo_of enters (by rw [list]; simp), by rw [list]; simp [State.headCount]⟩

theorem granted_joins (wf : s.roll.entries.wf = true) (past : Past s u) (outside : s.entryOf b = none) (few : s.roll.entries.length < 256)
    (real : ∀ y, link = some y → (s.roll.entries.get y).isSome) (granted : Granted u w r [⟨b, link⟩]) : Joins s w r b link := by
  obtain ⟨e, enters, list, kept⟩ := admitted_at wf past outside few real granted rfl
  exact ⟨⟨e, enters, list⟩, kept, (granted_ctx past granted).2⟩

/-- What a plain grant leaves: the bearer has joined, and leads a group where R54 allows it. -/
structure PlainlyGranted (s t : State) (r : Room) (b : Nat) (night : Bool) (rights : Rights) : Prop where
  joins : Joins s t r b none
  leads : s.ctx[r] = .empty → Leads s r b rights.escort →
    ∃ e o, t.entryOf b = some (e, o) ∧ t.ctx[r] = .escort night s.sup.profiles[r].window b e
  alone : s.ctx[r] ≠ .empty ∨ ¬Leads s r b rights.escort → t.ctx[r] = s.ctx[r]

theorem PlainlyGranted.congr (h : PlainlyGranted s v r b night rights) (roll : t.roll = v.roll) (ctx : t.ctx = v.ctx) :
    PlainlyGranted s t r b night rights := by
  obtain ⟨joins, leads, alone⟩ := h
  refine ⟨joins.congr roll fun j _ => by rw [ctx], fun free lead => ?_, fun no => by rw [ctx, alone no]⟩
  obtain ⟨e, o, inside, group⟩ := leads free lead
  refine ⟨e, o, ?_, by rw [ctx, group]⟩
  unfold State.entryOf at inside ⊢
  rw [roll, inside]

theorem granted_plainly (wf : s.roll.entries.wf = true) (past : Past s u) (outside : s.entryOf b = none) (few : s.roll.entries.length < 256)
    (granted : Granted u w r [⟨b, none⟩]) : PlainlyGranted s (w.openGroup r night b rights) r b night rights := by
  have joins := granted_joins (link := none) wf past outside few nofun granted
  have own := (granted_ctx past granted).1
  have joined := Granted.joined past granted
  have roll : (w.openGroup r night b rights).roll = w.roll := by simp
  refine ⟨joins.congr roll fun j other => openGroup_other w other, fun free leads => ?_, fun alone => ?_⟩
  · obtain ⟨⟨e, ⟨o, inside, -⟩, -⟩, -, -⟩ := joins
    rw [openGroup_leads joined leads (own.trans free) inside]
    exact ⟨e, o, inside, setCtx_own ..⟩
  · rw [openGroup_alone joined (alone.imp_left fun taken free => taken (own.symm.trans free))]
    exact own

theorem pairingStage_plain {cls : Sys2Proof.Class} (past : Past s u) (other : cls ≠ .visitor) (custody : s.custodyApplies r cls night = false) :
    u.pairingStage r b cls night rights = u.plainGrant r b night rights := by
  unfold State.pairingStage
  rw [if_neg other, past.custodyApplies, custody]
  rfl

theorem answers_plain (presents : Presents s a r line states n) (reaches : ReachesPairing s a r tok digits b rec rights)
    (law : OccupancyLaw s) (short : digits.length ≤ 12) (valid : ∀ d ∈ digits, d ≤ 9) (other : rec.cls ≠ .visitor)
    (custody : s.custodyApplies r rec.cls (s.nightRules r rec.cls) = false) :
    AnswersWith (presented s line states n tok digits) a n (.grant s.sup.profiles[r].unlock) fun t =>
      DoorGranted s t a r ∧ PlainlyGranted s t r b (s.nightRules r rec.cls) rights := by
  have few := roomFor_entries reaches.room
  rw [custody] at few
  refine answers_granted presents reaches short valid fun u past => ?_
  have granted : Granted u (u.grantEntry r [⟨b, none⟩]) r [⟨b, none⟩] := grantEntry_granted (by rw [past.zones]; exact reaches.zone) _
  have plainly := granted_plainly (night := s.nightRules r rec.cls) (rights := rights) law.1 past reaches.outside (by simpa using few) granted
  refine ⟨(u.grantEntry r [⟨b, none⟩]).openGroup r (s.nightRules r rec.cls) b rights, ?_,
    fun t alike door => ⟨door, plainly.congr alike.roll alike.ctx⟩⟩
  rw [pairingStage_plain past other custody, State.plainGrant]

/-! ### A custody pair (R52, R53) -/

theorem pairingStage_custody {cls : Sys2Proof.Class} (past : Past s u) (custody : s.custodyApplies r cls night = true) :
    u.pairingStage r b cls night rights = u.custodyStage r b night rights := by
  unfold State.pairingStage
  rw [if_neg (custodyApplies_notVisitor custody), past.custodyApplies, custody]
  rfl

/-- A first custodian waits, and a bearer without the right is denied. -/
theorem custodyStage_opens (past : Past s u) (none_ : ∀ m w x g, s.ctx[r] ≠ .custody m w x g) :
    u.custodyStage r b night rights =
      if rights.custody then (u.setCtx r (.custody night s.sup.profiles[r].window b rights), .await .secondCustodian)
      else (u, .deny .custodyRequired) := by
  unfold State.custodyStage
  split
  · next m w x g ctx => exact absurd ((congrArg (fun v : Vector Context 16 => v[r]) past.ctx).symm.trans ctx) (none_ m w x g)
  · rw [past.sup]

theorem custodyStage_waits (past : Past s u) {m : Bool} {w' first : Nat} {g : Rights} (ctx : s.ctx[r] = .custody m w' first g) :
    u.custodyStage r b night rights =
      if first = b then (u, .await .secondCustodian)
      else if rights.custody then u.completePair r first g m b
      else (u, .deny .custodyRequired) := by
  unfold State.custodyStage
  rw [past.ctx, ctx]

section Answers

variable (presents : Presents s a r line states n) (reaches : ReachesPairing s a r tok digits b rec rights)
  (short : digits.length ≤ 12) (valid : ∀ d ∈ digits, d ≤ 9)

include presents reaches short valid

theorem answers_firstCustodian (custody : s.custodyApplies r rec.cls (s.nightRules r rec.cls) = true)
    (none_ : ∀ m w x g, s.ctx[r] ≠ .custody m w x g) :
    (rights.custody = true →
      AnswersWith (presented s line states n tok digits) a n (.await .secondCustodian) fun t =>
        t.ctx = s.ctx.set r (.custody (s.nightRules r rec.cls) s.sup.profiles[r].window b rights) ∧ Unmoved s t r) ∧
      (rights.custody = false →
        AnswersWith (presented s line states n tok digits) a n (.deny .custodyRequired) fun t => t.ctx = s.ctx ∧ Unmoved s t r) := by
  refine ⟨fun right => answers_still presents reaches short valid fun u past =>
      ⟨u.setCtx r (.custody (s.nightRules r rec.cls) s.sup.profiles[r].window b rights), ?_, ?_, rfl, rfl⟩,
    fun wrong => answers_still presents reaches short valid fun u past => ⟨u, ?_, past.ctx, rfl, rfl⟩⟩
  · rw [pairingStage_custody past custody, custodyStage_opens past none_, if_pos right]
  · exact congrArg (fun v : Vector Context 16 => v.set r _) past.ctx
  · rw [pairingStage_custody past custody, custodyStage_opens past none_, if_neg (by rw [wrong]; exact Bool.false_ne_true)]

theorem answers_waitingCustodian (other : rec.cls ≠ .visitor) {m : Bool} {w' first : Nat} {g : Rights}
    (ctx : s.ctx[r] = .custody m w' first g) :
    (first = b →
      AnswersWith (presented s line states n tok digits) a n (.await .secondCustodian) fun t => t.ctx = s.ctx ∧ Unmoved s t r) ∧
      (first ≠ b → rights.custody = false →
        AnswersWith (presented s line states n tok digits) a n (.deny .custodyRequired) fun t => t.ctx = s.ctx ∧ Unmoved s t r) := by
  have custody : s.custodyApplies r rec.cls (s.nightRules r rec.cls) = true := custodyApplies_ctx ctx other
  refine ⟨fun same => answers_still presents reaches short valid fun u past => ⟨u, ?_, past.ctx, rfl, rfl⟩,
    fun apart wrong => answers_still presents reaches short valid fun u past => ⟨u, ?_, past.ctx, rfl, rfl⟩⟩
  · rw [pairingStage_custody past custody, custodyStage_waits past ctx, if_pos same]
  · rw [pairingStage_custody past custody, custodyStage_waits past ctx, if_neg apart, if_neg (by rw [wrong]; exact Bool.false_ne_true)]

end Answers

/-! The completion of a pair: both are admitted in order, and the door's context becomes that of the first's group, or NONE. -/

/-- What a completed pair leaves of the roll and the contexts. -/
structure Paired (s t : State) (r : Room) (first b : Nat) (m : Bool) (g : Rights) : Prop where
  roll : ∃ e e', EntersAs t r first none e ∧ EntersAs t r b none e' ∧ t.roll.rooms[r].list = s.roll.rooms[r].list ++ [e, e']
  others : OthersDropped s t r [first, b]
  alone : ¬Leads s r first g.escort → t.ctx[r] = .empty
  leads : Leads s r first g.escort → ∀ e o, t.entryOf first = some (e, o) → t.ctx[r] = .escort m s.sup.profiles[r].window first e

theorem Paired.congr {first : Nat} {m : Bool} {g : Rights} (h : Paired s v r first b m g) (roll : t.roll = v.roll) (ctx : t.ctx = v.ctx) :
    Paired s t r first b m g := by
  obtain ⟨⟨e, e', enters, enters', list⟩, others, alone, leads⟩ := h
  refine ⟨⟨e, e', enters.congr roll, enters'.congr roll, by rw [roll, list]⟩, othersDropped_congr others fun j _ => by rw [ctx],
    fun no => by rw [ctx, alone no], fun yes e o inside => ?_⟩
  rw [ctx]
  unfold State.entryOf at inside
  rw [roll] at inside
  exact leads yes e o inside

theorem granted_paired {first : Nat} {m : Bool} {g : Rights} (law : OccupancyLaw s) (past : Past s u) (outside : s.entryOf first = none)
    (outside' : s.entryOf b = none) (apart : first ≠ b) (few : s.roll.entries.length + 2 ≤ 256)
    (granted : Granted u w r [⟨first, none⟩, ⟨b, none⟩]) : Paired s ((w.setCtx r .empty).openGroup r m first g) r first b m g := by
  obtain ⟨-, dropped⟩ := granted_ctx past granted
  have joined := Granted.joined past granted
  have joined' : Joined s (w.setCtx r .empty) r := ⟨joined.zone, joined.limits, joined.profiles⟩
  obtain ⟨e, e', w', enters, enters', same, list⟩ := granted_pair (by rw [past.roll]; exact law.1) ((past.entryOf first).trans outside)
    ((past.entryOf b).trans outside') apart (by rw [past.roll]; exact few) granted
  have roll : ((w.setCtx r .empty).openGroup r m first g).roll = w.roll := by simp
  refine ⟨⟨e, e', enters.congr roll, enters'.congr roll, by rw [roll, same.rooms, list, past.roll]⟩,
    othersDropped_congr dropped fun j away => (openGroup_other _ away).trans (setCtx_other _ _ away), fun alone => ?_,
    fun leads e o inside => ?_⟩
  · rw [openGroup_alone joined' (.inr alone)]
    exact setCtx_own ..
  · unfold State.entryOf at inside
    rw [roll] at inside
    rw [openGroup_leads joined' leads (setCtx_own ..) inside]
    exact setCtx_own ..

theorem answers_pair (presents : Presents s a r line states n) (reaches : ReachesPairing s a r tok digits b rec rights)
    (law : OccupancyLaw s) (short : digits.length ≤ 12) (valid : ∀ d ∈ digits, d ≤ 9) (other : rec.cls ≠ .visitor)
    {m : Bool} {w' first : Nat} {g : Rights} (ctx : s.ctx[r] = .custody m w' first g) (apart : first ≠ b) (right : rights.custody = true) :
    AnswersWith (presented s line states n tok digits) a n (.grant s.sup.profiles[r].unlock) fun t =>
      DoorGranted s t a r ∧ Paired s t r first b m g := by
  have custody : s.custodyApplies r rec.cls (s.nightRules r rec.cls) = true := custodyApplies_ctx ctx other
  have few := roomFor_entries reaches.room
  rw [custody] at few
  refine answers_granted presents reaches short valid fun u past => ?_
  have granted : Granted u (u.grantEntry r [⟨first, none⟩, ⟨b, none⟩]) r [⟨first, none⟩, ⟨b, none⟩] :=
    grantEntry_granted (by rw [past.zones]; exact reaches.zone) _
  have paired := granted_paired (m := m) (g := g) law past (law.2.2.2 r m w' first g ctx).1 reaches.outside apart few granted
  refine ⟨((u.grantEntry r [⟨first, none⟩, ⟨b, none⟩]).setCtx r .empty).openGroup r m first g, ?_,
    fun t alike door => ⟨door, paired.congr alike.roll alike.ctx⟩⟩
  rw [pairingStage_custody past custody, custodyStage_waits past ctx, if_neg apart, if_pos right, State.completePair]

/-! ### A visitor of a group (R55) -/

theorem visitor_custody {cls : Sys2Proof.Class} (visitor : cls = .visitor) : s.custodyApplies r cls night = false := by
  cases h : s.custodyApplies r cls night with
  | false => rfl
  | true => exact absurd visitor (custodyApplies_notVisitor h)

theorem pairingStage_visitor {cls : Sys2Proof.Class} (visitor : cls = .visitor) :
    u.pairingStage r b cls night rights = u.visitorStage r b := if_pos visitor

theorem visitorStage_alone (past : Past s u) (none_ : ∀ m w x e, s.ctx[r] ≠ .escort m w x e) :
    u.visitorStage r b = (u, .deny .escortRequired) := by
  unfold State.visitorStage
  split
  · next m w x e ctx => exact absurd ((congrArg (fun v : Vector Context 16 => v[r]) past.ctx).symm.trans ctx) (none_ m w x e)
  · rfl

theorem visitorStage_joins (past : Past s u) {m : Bool} {w' escort : Nat} {q : Bearer} (ctx : s.ctx[r] = .escort m w' escort e)
    (entry : s.roll.entries.get e = some o) (live : s.bt.bearers.get escort = some q) :
    u.visitorStage r b =
      if q.escortLimit ≤ o.escorted then (u.setCtx r .empty, .deny .escortRequired)
      else
        ((u.grantEntry r [⟨b, some e⟩]).setCtx r
          (if o.escorted + 1 = q.escortLimit then .empty else .escort m s.sup.profiles[r].window escort e), u.grantAnswer r) := by
  have limit : u.escortLimit escort = q.escortLimit := (past.limits escort).trans (escortLimit_of live)
  unfold State.visitorStage
  rw [past.ctx, ctx, past.roll]
  dsimp only
  rw [entry, limit, past.sup]

section Answers

variable (presents : Presents s a r line states n) (reaches : ReachesPairing s a r tok digits b rec rights)
  (short : digits.length ≤ 12) (valid : ∀ d ∈ digits, d ≤ 9) (visitor : rec.cls = .visitor)

include presents reaches short valid visitor

theorem answers_unescorted (none_ : ∀ m w x e, s.ctx[r] ≠ .escort m w x e) :
    AnswersWith (presented s line states n tok digits) a n (.deny .escortRequired) fun t => t.ctx = s.ctx ∧ Unmoved s t r :=
  answers_still presents reaches short valid fun u past =>
    ⟨u, (pairingStage_visitor visitor).trans (visitorStage_alone past none_), past.ctx, rfl, rfl⟩

variable {m : Bool} {w' escort : Nat} {q : Bearer} (ctx : s.ctx[r] = .escort m w' escort e) (entry : s.roll.entries.get e = some o)
  (live : s.bt.bearers.get escort = some q)

include ctx entry live

theorem answers_fullGroup (full : q.escortLimit ≤ o.escorted) :
    AnswersWith (presented s line states n tok digits) a n (.deny .escortRequired) fun t =>
      t.ctx = s.ctx.set r .empty ∧ Unmoved s t r :=
  answers_still presents reaches short valid fun u past =>
    ⟨_, (pairingStage_visitor visitor).trans ((visitorStage_joins past ctx entry live).trans (if_pos full)),
      congrArg (fun v : Vector Context 16 => v.set r _) past.ctx, rfl, rfl⟩

theorem answers_visitor (law : OccupancyLaw s) (place : o.escorted < q.escortLimit) :
    AnswersWith (presented s line states n tok digits) a n (.grant s.sup.profiles[r].unlock) fun t =>
      DoorGranted s t a r ∧ Joins s t r b (some e) ∧
        t.ctx[r] = (if o.escorted + 1 = q.escortLimit then .empty else .escort m s.sup.profiles[r].window escort e) := by
  have few := roomFor_entries reaches.room
  rw [visitor_custody visitor] at few
  refine answers_granted presents reaches short valid fun u past => ?_
  have granted : Granted u (u.grantEntry r [⟨b, some e⟩]) r [⟨b, some e⟩] := grantEntry_granted (by rw [past.zones]; exact reaches.zone) _
  have joins := granted_joins law.1 past reaches.outside (by simpa using few)
    (fun y same => by rw [← Option.some.inj same, entry]; rfl) granted
  generalize hw : u.grantEntry r [⟨b, some e⟩] = w at joins
  refine ⟨_, (pairingStage_visitor visitor).trans ((visitorStage_joins past ctx entry live).trans (if_neg (by omega))), ?_⟩
  rw [hw]
  exact fun t alike door => ⟨door, joins.congr alike.roll fun j other => by rw [alike.ctx]; exact setCtx_other _ _ other,
    by rw [alike.ctx]; exact setCtx_own ..⟩

end Answers

/-- Settles O26: stage 9 on the state that the PIN stage leaves, each outcome as the report answers it. -/
theorem pairingContextsAdmitTogether : Obligations.PairingContextsAdmitTogether := by
  unfold Obligations.PairingContextsAdmitTogether
  intro s a r line states n tok digits b rec rights presents reaches law short valid
  refine ⟨fun other custody => answersWith_mono (answers_plain presents reaches law short valid other custody) ?_,
    fun custody none_ => answers_firstCustodian presents reaches short valid custody none_,
    fun m w first g other ctx => ⟨(answers_waitingCustodian presents reaches short valid other ctx).1,
      (answers_waitingCustodian presents reaches short valid other ctx).2, fun apart right => ?_⟩,
    fun visitor => ⟨fun none_ => answers_unescorted presents reaches short valid visitor none_, fun m w escort e o q ctx entry live =>
      ⟨answers_fullGroup presents reaches short valid visitor ctx entry live, fun place =>
        answersWith_mono (answers_visitor presents reaches short valid visitor ctx entry live law place) ?_⟩⟩⟩
  · rintro t ⟨door, joins, leads, alone⟩
    exact ⟨door, joins.admittedTo.1, joins.admittedTo.2, joins.others, leads, alone⟩
  · refine answersWith_mono (answers_pair presents reaches law short valid other ctx apart right) ?_
    rintro t ⟨door, ⟨e, e', enters, enters', list⟩, others, alone, leads⟩
    obtain ⟨o, inside, fresh⟩ := enters
    obtain ⟨p, inside', fresh'⟩ := enters'
    refine ⟨door, admittedTo_of ⟨o, inside, fresh⟩ (by rw [list]; simp), admittedTo_of ⟨p, inside', fresh'⟩ (by rw [list]; simp), others,
      ⟨e, o, e', p, inside, inside', list, ?_⟩, fun lead => ?_, fun taken => ?_⟩
    · by_cases lead : Leads s r first g.escort
      · exact .inl (leads lead e o inside)
      · exact .inr (alone lead)
    · rw [leads lead e o inside]
      exact nofun
    · by_contra no
      exact taken (alone no)
  · rintro t ⟨door, joins, own⟩
    obtain ⟨x, read, bearer, escorted⟩ := joins.kept e o entry
    exact ⟨door, joins.admittedTo.1, joins.others, ⟨x, read, bearer, escorted.trans (if_pos rfl)⟩, own⟩

end Sys2Proof.Proofs.PairingContexts
end

section
/-! PROOFS. THE NOTICES OF AN EVENT (R167): what queueing notices, one after another, leaves waiting of an object: its last notice, or what
waited where none is of it. -/
namespace Sys2Proof.Proofs.NoticeQueue

open Sys2Proof Sys2Proof.Machine Sys2Proof.Safety Sys2Proof.Laws

variable {p : PortOne} {n : Notice} {o : NoticeObject} {ns : List Notice}

/-- The notices of an object that wait at a port. -/
def noticesOf (p : PortOne) (o : NoticeObject) : List TxEntry := p.queue.filter (TxEntry.isNoticeOf o)

/-- What waits of an object, in the queue and as a mark, is the same. -/
def SameNews (p q : PortOne) (o : NoticeObject) : Prop := noticesOf q o = noticesOf p o ∧ (o ∈ q.marks ↔ o ∈ p.marks)

/-- The object is announced, and every notice of it that waits is `n`. -/
def News (p : PortOne) (o : NoticeObject) (n : Notice) : Prop :=
  (o ∈ p.marks ∨ noticesOf p o ≠ []) ∧ ∀ m, TxEntry.notice m ∈ noticesOf p o → m = n

theorem SameNews.refl (p : PortOne) (o : NoticeObject) : SameNews p p o := ⟨rfl, Iff.rfl⟩

theorem SameNews.trans {q r : PortOne} (h : SameNews p q o) (h' : SameNews q r o) : SameNews p r o :=
  ⟨h'.1.trans h.1, h'.2.trans h.2⟩

theorem News.same {q : PortOne} (h : News p o n) (same : SameNews p q o) : News q o n := by
  obtain ⟨queue, marks⟩ := same
  unfold News
  rw [queue, marks]
  exact h

theorem isNoticeOf_notice (o : NoticeObject) (n : Notice) : (TxEntry.notice n).isNoticeOf o = decide (n.object = o) := rfl

theorem mem_noticesOf {m : Notice} : TxEntry.notice m ∈ noticesOf p o ↔ TxEntry.notice m ∈ p.queue ∧ m.object = o := by
  simp [noticesOf, isNoticeOf_notice]

/-- Putting a notice in the place of those of its object leaves the notices of another object. -/
theorem filter_replaced (queue : List TxEntry) (other : n.object ≠ o) :
    (queue.map fun e => if e.isNoticeOf n.object then TxEntry.notice n else e).filter (TxEntry.isNoticeOf o) =
      queue.filter (TxEntry.isNoticeOf o) := by
  induction queue with
  | nil => rfl
  | cons e queue ih =>
    rw [List.map_cons, List.filter_cons, List.filter_cons, ih]
    cases own : e.isNoticeOf n.object with
    | false => rfl
    | true =>
      have replaced : (TxEntry.notice n).isNoticeOf o = false := by simpa [isNoticeOf_notice] using other
      have replaces : e.isNoticeOf o = false := by
        cases e with
        | answer _ _ => rfl
        | notice m =>
          have object : m.object = n.object := by simpa [isNoticeOf_notice] using own
          simpa [isNoticeOf_notice, object] using other
      simp [replaced, replaces]

theorem queueNotice_other (p : PortOne) (other : n.object ≠ o) : SameNews p (p.queueNotice n) o := by
  unfold PortOne.queueNotice
  split
  · exact .refl p o
  · split
    · exact ⟨filter_replaced p.queue other, Iff.rfl⟩
    · split
      · exact .refl p o
      · split
        · exact ⟨by simp [noticesOf, isNoticeOf_notice, other], Iff.rfl⟩
        · exact ⟨rfl, by simpa using fun h : o = n.object => absurd h.symm other⟩

theorem queueNotice_own (n : Notice) (on : p.heldOff = false) : News (p.queueNotice n) n.object n := by
  unfold PortOne.queueNotice
  rw [on]
  split
  · next off => cases off
  split
  · next any =>
    obtain ⟨e, waits, own⟩ := List.any_eq_true.mp any
    refine ⟨.inr (List.ne_nil_of_mem (mem_noticesOf.mpr ⟨List.mem_map.mpr ⟨e, waits, if_pos own⟩, rfl⟩)), fun m hm => ?_⟩
    obtain ⟨hm, object⟩ := mem_noticesOf.mp hm
    obtain ⟨x, -, hx⟩ := List.mem_map.mp hm
    split at hx
    · cases hx
      rfl
    · next not =>
      subst hx
      exact absurd (by simpa [isNoticeOf_notice] using object) not
  · next none =>
    have nobody (m : Notice) (hm : TxEntry.notice m ∈ p.queue) : m.object ≠ n.object := fun object =>
      none (List.any_eq_true.mpr ⟨_, hm, by simpa [isNoticeOf_notice] using object⟩)
    split
    · next marked =>
      exact ⟨.inl (List.contains_iff_mem.mp marked), fun m hm => absurd (mem_noticesOf.mp hm).2 (nobody m (mem_noticesOf.mp hm).1)⟩
    · split
      · refine ⟨.inr (List.ne_nil_of_mem (mem_noticesOf.mpr ⟨by simp, rfl⟩)), fun m hm => ?_⟩
        obtain ⟨hm, object⟩ := mem_noticesOf.mp hm
        rcases List.mem_append.mp hm with old | new
        · exact absurd object (nobody m old)
        · simpa using new
      · exact ⟨.inl (by simp), fun m hm => absurd (mem_noticesOf.mp hm).2 (nobody m (mem_noticesOf.mp hm).1)⟩

theorem queueNotice_heldOff (p : PortOne) (n : Notice) : (p.queueNotice n).heldOff = p.heldOff := by
  unfold PortOne.queueNotice
  split_ifs <;> rfl

theorem queueNotices_heldOff (p : PortOne) (ns : List Notice) : (ns.foldl PortOne.queueNotice p).heldOff = p.heldOff := by
  induction ns generalizing p with
  | nil => rfl
  | cons n ns ih => exact (ih _).trans (queueNotice_heldOff p n)

/-- A port held OFF takes no notice. -/
theorem queueNotices_off (off : p.heldOff = true) (ns : List Notice) : ns.foldl PortOne.queueNotice p = p := by
  induction ns with
  | nil => rfl
  | cons n ns ih => exact (congrArg (ns.foldl PortOne.queueNotice) (if_pos off)).trans ih

theorem queueNotices_other (p : PortOne) (others : ∀ n ∈ ns, n.object ≠ o) : SameNews p (ns.foldl PortOne.queueNotice p) o := by
  induction ns generalizing p with
  | nil => exact .refl p o
  | cons n ns ih =>
    exact (queueNotice_other p (others n (by simp))).trans (ih _ fun m hm => others m (by simp [hm]))

/-- The last notice of an object is the one that waits. -/
theorem queueNotices_last (p : PortOne) (on : p.heldOff = false) (before : List Notice) (own : n.object = o) {after : List Notice}
    (others : ∀ m ∈ after, m.object ≠ o) : News ((before ++ n :: after).foldl PortOne.queueNotice p) o n := by
  rw [List.foldl_append, List.foldl_cons]
  have open_ : (before.foldl PortOne.queueNotice p).heldOff = false := (queueNotices_heldOff p before).trans on
  exact (own ▸ queueNotice_own n open_).same (queueNotices_other _ others)

end Sys2Proof.Proofs.NoticeQueue
end

section
/-! PROOFS. THE OBJECTS AN EVENT HAS CHANGED (R12, R36, R73, R90, R130, R145, R150): what has not changed is told by the same notices, and the
end of an event lists exactly the objects that have. -/
namespace Sys2Proof.Proofs.ChangedObjects

open Sys2Proof Sys2Proof.Machine Sys2Proof.Safety Sys2Proof.Laws

variable {s t u : State} {o : NoticeObject} {n : Notice}

/-- The object does not differ between two states in a field whose change queues its notice. -/
def Steady (s t : State) (o : NoticeObject) : Prop := ¬Changed s t o

theorem Steady.refl (s : State) (o : NoticeObject) : Steady s s o := by
  unfold Steady
  cases o <;> exact fun h => h rfl

theorem Steady.trans (h : Steady s t o) (h' : Steady t u o) : Steady s u o := by
  unfold Steady at *
  cases o <;> exact not_not_intro ((not_not.mp h).trans (not_not.mp h'))

theorem Steady.symm (h : Steady s t o) : Steady t s o := by
  unfold Steady at *
  cases o <;> exact not_not_intro (not_not.mp h).symm

/-! ### What is steady is told the same -/

theorem tells_alarm (k : AlarmKey) : (Tells s (.alarm k) n ↔
    (∃ r, recordOf s k = some r ∧ n = .alarm k (.standing r.state) k.kind.priority r.repeats r.raisedAt) ∨
      recordOf s k = none ∧ ∃ shown at_, (∀ st, shown ≠ .standing st) ∧ n = .alarm k shown k.kind.priority 0 at_) := by
  unfold Tells
  dsimp only
  cases recordOf s k <;> simp

theorem rollFigures_counts {r : Room} (h : rollFigures s r = rollFigures t r) :
    s.headCount r = t.headCount r ∧ s.roll.rooms[r].unreconciled = t.roll.rooms[r].unreconciled ∧
      s.lapsedCount r = t.lapsedCount r ∧ s.revokedCount r = t.revokedCount r := by
  simp only [rollFigures, Prod.mk.injEq] at h
  obtain ⟨count, unreconciled, entries⟩ := h
  have lapsed (u : State) : u.lapsedCount r =
      (((u.entriesIn r).map fun p => (p.1, p.2.revokedInside, p.2.lapsed, p.2.link, p.2.escorted)).filter fun x => x.2.2.1).length := by
    rw [List.filter_map, List.length_map]
    rfl
  have revoked (u : State) : u.revokedCount r =
      (((u.entriesIn r).map fun p => (p.1, p.2.revokedInside, p.2.lapsed, p.2.link, p.2.escorted)).filter fun x => x.2.1).length := by
    rw [List.filter_map, List.length_map]
    rfl
  exact ⟨count, unreconciled, by rw [lapsed, lapsed, entries], by rw [revoked, revoked, entries]⟩

theorem Steady.tells (h : Steady s t o) (told : Tells s o n) : Tells t o n := by
  unfold Steady at h
  cases o with
  | alarm k =>
    rw [tells_alarm] at told ⊢
    rwa [← show recordOf s k = recordOf t k from not_not.mp h]
  | zone z =>
    obtain ⟨remainder, rfl⟩ := told
    replace h := not_not.mp h
    simp only [Prod.mk.injEq] at h
    obtain ⟨state, cause, holds, kind, authorise, opened, unconfirmed⟩ := h
    exact ⟨remainder, by simp only [state, cause, holds, kind, authorise, opened, unconfirmed]⟩
  | door d =>
    obtain ⟨closed, rfl⟩ := told
    replace h := not_not.mp h
    simp only [Prod.mk.injEq] at h
    obtain ⟨state, kind, cause, lock, demand, lockdown, hold⟩ := h
    exact ⟨closed, by simp only [state, kind, cause, lock, demand, lockdown, hold]⟩
  | roll r =>
    obtain ⟨tick, rfl⟩ := told
    obtain ⟨count, unreconciled, lapsed, revoked⟩ := rollFigures_counts (not_not.mp h)
    exact ⟨tick, by rw [count, unreconciled, lapsed, revoked]⟩
  | cylinder p =>
    have same : s.bank.cylinders[p] = t.bank.cylinders[p] := not_not.mp h
    refine told.trans ?_
    rw [same]
  | coverage z =>
    obtain ⟨required, rfl⟩ := told
    replace h := not_not.mp h
    simp only [Prod.mk.injEq] at h
    obtain ⟨basis, sum, achieved, grade, count⟩ := h
    exact ⟨required, by simp only [basis, sum, achieved, grade, count]⟩
  | station a =>
    replace h := not_not.mp h
    simp only [Prod.mk.injEq] at h
    obtain ⟨type, room, state⟩ := h
    exact told.trans (by rw [type, room, state])
  | site =>
    replace h := not_not.mp h
    simp only [Prod.mk.injEq] at h
    obtain ⟨siteState, override, isSet⟩ := h
    exact told.trans (by rw [siteState, override, isSet])
  | bearer b =>
    unfold Tells at told ⊢
    refine told.trans ?_
    have same : (s.bt.bearers.get b).map (fun x => (x.state, x.failedPin)) = (t.bt.bearers.get b).map fun x => (x.state, x.failedPin) := not_not.mp h
    cases hs : s.bt.bearers.get b <;> cases ht : t.bt.bearers.get b <;> simp_all

/-! ### The objects of an event's notices -/

theorem rollReported_iff {r : Room} : s.rollReported r = t.rollReported r ↔ rollFigures s r = rollFigures t r := by
  have entries (u : State) : ((u.entriesIn r).map fun p => (⟨p.1, p.2.revokedInside, p.2.lapsed, p.2.link, p.2.escorted⟩ : EntryReport)) =
      ((u.entriesIn r).map fun p => (p.1, p.2.revokedInside, p.2.lapsed, p.2.link, p.2.escorted)).map
        fun x => ⟨x.1, x.2.1, x.2.2.1, x.2.2.2.1, x.2.2.2.2⟩ := by
    rw [List.map_map]
    rfl
  have injective : Function.Injective
      (fun x : Nat × Bool × Bool × Option Nat × Nat => (⟨x.1, x.2.1, x.2.2.1, x.2.2.2.1, x.2.2.2.2⟩ : EntryReport)) := by
    intro x y h
    simp only [EntryReport.mk.injEq] at h
    obtain ⟨h1, h2, h3, h4, h5⟩ := h
    exact Prod.ext h1 (Prod.ext h2 (Prod.ext h3 (Prod.ext h4 h5)))
  unfold State.rollReported rollFigures
  rw [entries, entries, RollReport.mk.injEq, injective.list_map.eq_iff, Prod.mk.injEq, Prod.mk.injEq]

theorem get_isSome_of_mem {m : Table Bearer} {b : Nat} {x : Bearer} (h : m.get b = some x) : b ∈ m.map Prod.fst :=
  List.mem_map.mpr ⟨(b, x), Table.mem_of_get h, rfl⟩

theorem mem_changedBearers {b : Nat} : b ∈ changedBearers s t ↔ s.bearerReported b ≠ t.bearerReported b := by
  unfold changedBearers
  rw [List.mem_filter, List.mem_append, List.mem_filter, decide_eq_true_eq]
  refine ⟨And.right, fun differs => ⟨?_, differs⟩⟩
  cases hs : s.bt.bearers.get b with
  | some x => exact .inl (get_isSome_of_mem hs)
  | none =>
    cases ht : t.bt.bearers.get b with
    | some x => exact .inr ⟨get_isSome_of_mem ht, rfl⟩
    | none => exact absurd (by simp [State.bearerReported, hs, ht]) differs

/-- The objects whose notices the end of an event queues are those it has changed; ALARM notices are queued as records change. -/
theorem mem_changedObjects : o ∈ changedObjects s t ↔ (∀ k, o ≠ .alarm k) ∧ Changed s t o := by
  unfold changedObjects
  simp only [List.mem_append]
  cases o with
  | alarm k => simp
  | site =>
    have changed : Changed s t .site ↔ s.clk.reported ≠ t.clk.reported := Iff.rfl
    by_cases h : s.clk.reported = t.clk.reported <;> simp [h, changed]
  | bearer b => simp [mem_changedBearers, show Changed s t (.bearer b) ↔ s.bearerReported b ≠ t.bearerReported b from Iff.rfl]
  | door d => simp [show Changed s t (.door d) ↔ s.doors[d].reported ≠ t.doors[d].reported from Iff.rfl]
  | roll r => simp [Changed, rollReported_iff]
  | zone z => simp [show Changed s t (.zone z) ↔ s.zones[z].reported ≠ t.zones[z].reported from Iff.rfl]
  | cylinder p => simp [Changed]
  | coverage z =>
    simp [show Changed s t (.coverage z) ↔ s.bank.coverage[z].reported ≠ t.bank.coverage[z].reported from Iff.rfl]
  | station a => simp [Changed, -Prod.mk.injEq]

end Sys2Proof.Proofs.ChangedObjects
end

section
/-! PROOFS. THE NOTICES OF THE ALARM TABLE (R96 to R99, R102): each act on the table owes the notice of every record it changes, makes, evicts
or retires, and the last notice owed of a kind-and-key tells its record as the event leaves it. -/
namespace Sys2Proof.Proofs.AlarmNotices

open Sys2Proof Sys2Proof.Machine Sys2Proof.Safety Sys2Proof.Laws Relation
open Sys2Proof.Proofs.Acts (AlarmAct Allows AlarmAct.law conditionGone_key)
open Sys2Proof.Proofs.ChangedObjects
open Sys2Proof.Proofs.FramesSent (recordOf_key)

variable {s t u : State} {k : AlarmKey} {r v : AlarmRecord} {l : List AlarmRecord} {w : Allows}

/-! ### The record of a kind-and-key in a list -/

/-- The first record of a kind-and-key. -/
def ofKey (k : AlarmKey) (l : List AlarmRecord) : Option AlarmRecord := l.find? fun r => r.key = k

theorem recordOf_eq (s : State) (k : AlarmKey) : recordOf s k = ofKey k s.alarms.records := rfl

theorem ofKey_key (h : ofKey k l = some r) : r.key = k := by simpa using List.find?_some h

theorem ofKey_none : ofKey k l = none ↔ ∀ x ∈ l, x.key ≠ k := by simp [ofKey]

theorem ofKey_map {g : AlarmRecord → AlarmRecord} (keys : ∀ x, (g x).key = x.key) (k : AlarmKey) (l : List AlarmRecord) :
    ofKey k (l.map g) = (ofKey k l).map g := by
  unfold ofKey
  rw [List.find?_map]
  simp only [Function.comp_def, keys]

/-- A change of the records of one kind-and-key leaves the record of another. -/
theorem ofKey_map_other {g : AlarmRecord → AlarmRecord} {k' : AlarmKey} (keys : ∀ x, (g x).key = x.key) (others : ∀ x, x.key ≠ k' → g x = x)
    (other : k ≠ k') : ofKey k (l.map g) = ofKey k l := by
  rw [ofKey_map keys]
  cases found : ofKey k l with
  | none => rfl
  | some x => exact congrArg some (others x (ofKey_key found ▸ other))

theorem ofKey_append_new (fresh : AlarmRecord) (absent : ofKey fresh.key l = none) : ofKey fresh.key (l ++ [fresh]) = some fresh := by
  simp [ofKey, List.find?_append, show l.find? (fun r => decide (r.key = fresh.key)) = none from absent]

theorem ofKey_append_other {fresh : AlarmRecord} (other : fresh.key ≠ k) : ofKey k (l ++ [fresh]) = ofKey k l := by
  simp [ofKey, List.find?_append, other]

theorem ofKey_filter_other {test : AlarmRecord → Bool} (stay : ∀ x, x.key = k → test x = true) : ofKey k (l.filter test) = ofKey k l := by
  unfold ofKey
  rw [List.find?_filter]
  refine congrArg (List.find? · l) (funext fun x => ?_)
  by_cases key : x.key = k <;> simp [key, stay]

/-- Where no two records share a kind-and-key, that of the record erased is free. -/
theorem ofKey_erase_own (distinct : (l.map AlarmRecord.key).Nodup) (mem : v ∈ l) : ofKey v.key (l.erase v) = none := by
  rw [(distinct.of_map _).erase_eq_filter, ofKey_none]
  intro x hx key
  obtain ⟨hx, differs⟩ := List.mem_filter.mp hx
  exact absurd (List.inj_on_of_nodup_map distinct hx mem key) (by simpa using differs)

theorem ofKey_erase_other (distinct : (l.map AlarmRecord.key).Nodup) (other : k ≠ v.key) : ofKey k (l.erase v) = ofKey k l := by
  rw [(distinct.of_map _).erase_eq_filter]
  refine ofKey_filter_other fun x key => ?_
  have : x ≠ v := fun h => other (key.symm.trans (congrArg _ h))
  simpa using this

/-! ### What is owed -/

/-- The object of a notice owed. -/
def dueObject : Due → NoticeObject
  | .notice n => n.object
  | .object o => o

/-- The last notice owed of a kind-and-key tells its record as it stands. -/
def LastTells (ds : List Due) (t : State) (k : AlarmKey) : Prop :=
  ∃ before n after, ds = before ++ Due.notice n :: after ∧ Tells t (.alarm k) n ∧ ∀ d ∈ after, dueObject d ≠ .alarm k

/-- What is owed tells the record of a kind-and-key, or is not of it and the record has not changed. -/
def Told (ds : List Due) (s t : State) (k : AlarmKey) : Prop :=
  LastTells ds t k ∨ (∀ d ∈ ds, dueObject d ≠ .alarm k) ∧ recordOf t k = recordOf s k

/-- Nothing is owed of any object by an empty list. -/
theorem owes_nothing (o : NoticeObject) : ∀ d ∈ ([] : List Due), dueObject d ≠ o := fun _ h => absurd h List.not_mem_nil

theorem Told.refl (s : State) (k : AlarmKey) : Told [] s s k := .inr ⟨owes_nothing _, rfl⟩

theorem LastTells.after {ds es : List Due} (h : LastTells es t k) : LastTells (ds ++ es) t k := by
  obtain ⟨before, n, after, rfl, told, others⟩ := h
  exact ⟨ds ++ before, n, after, by rw [List.append_assoc], told, others⟩

theorem Told.trans {ds es : List Due} (h : Told ds s t k) (h' : Told es t u k) : Told (ds ++ es) s u k := by
  rcases h' with told | ⟨others', same'⟩
  · exact .inl told.after
  · rcases h with ⟨before, n, after, rfl, told, others⟩ | ⟨others, same⟩
    · have steady : Steady t u (.alarm k) := not_not_intro same'.symm
      refine .inl ⟨before, n, after ++ es, by simp, steady.tells told, fun d hd => ?_⟩
      exact (List.mem_append.mp hd).elim (others d) (others' d)
    · exact .inr ⟨fun d hd => (List.mem_append.mp hd).elim (others d) (others' d), same'.trans same⟩

/-- A standing record is told by its notice, one that has gone by a notice that says how. -/
theorem tells_notice (h : recordOf t k = some r) : Tells t (.alarm k) r.notice := by
  have key := recordOf_key h
  subst key
  exact (tells_alarm r.key).mpr (.inl ⟨r, h, rfl⟩)

theorem tells_gone {shown : AlarmShown} (h : recordOf t r.key = none) (gone : ∀ st, shown ≠ .standing st) :
    Tells t (.alarm r.key) (r.goneNotice shown) :=
  (tells_alarm r.key).mpr (.inr ⟨h, shown, r.raisedAt, gone, rfl⟩)

theorem told_one {n : Notice} (h : Tells t (.alarm k) n) : Told [.notice n] s t k := .inl ⟨[], n, [], rfl, h, owes_nothing _⟩

theorem told_other {n : Notice} {k' : AlarmKey} (object : n.object = .alarm k') (other : k ≠ k') (same : recordOf t k = recordOf s k) :
    Told [.notice n] s t k := by
  refine .inr ⟨fun d hd h => ?_, same⟩
  cases List.mem_singleton.mp hd
  exact other (NoticeObject.alarm.inj (h.symm.trans object))

/-! ### The acts -/

theorem Told.of_records {ds : List Due} {t' : State} (h : Told ds s t k) (same : t'.alarms.records = t.alarms.records) : Told ds s t' k := by
  have record : recordOf t' k = recordOf t k := by rw [recordOf_eq, recordOf_eq, same]
  rcases h with ⟨before, n, after, shape, told, others⟩ | ⟨others, kept⟩
  · exact .inl ⟨before, n, after, shape, (show Steady t t' (.alarm k) from not_not_intro record.symm).tells told, others⟩
  · exact .inr ⟨others, record.trans kept⟩

/-- A record replaced by another of its kind-and-key, which its notice tells. -/
theorem told_map {g : AlarmRecord → AlarmRecord} {k' : AlarmKey} (keys : ∀ x, (g x).key = x.key) (others : ∀ x, x.key ≠ k' → g x = x)
    (found : recordOf s k' = some v) (records : t.alarms.records = s.alarms.records.map g) : Told [.notice (g v).notice] s t k := by
  by_cases own : k = k'
  · subst own
    refine told_one (tells_notice ?_)
    rw [recordOf_eq, records, ofKey_map keys, ← recordOf_eq, found]
    rfl
  · refine told_other (k' := k') ?_ own ?_
    · exact congrArg NoticeObject.alarm ((keys v).trans (recordOf_key found))
    · rw [recordOf_eq, records, ofKey_map_other keys others own]
      rfl

theorem putAlarm_told (stands : Stands s r.key) (k : AlarmKey) : Told [.notice r.notice] s (s.putAlarm r) k := by
  obtain ⟨x, mem, key⟩ := stands
  cases found : recordOf s r.key with
  | none => exact absurd key (ofKey_none.mp found x mem)
  | some v =>
    have put : (if v.key = r.key then r else v) = r := if_pos (recordOf_key found)
    have told := told_map (k := k) (g := fun x => if x.key = r.key then r else x) (t := s.putAlarm r)
      (fun x => by split <;> simp_all) (fun x other => if_neg other) found rfl
    rwa [put] at told

theorem retireAlarm_told (k : AlarmKey) : Told [.notice (r.goneNotice .retired)] s (s.retireAlarm r) k := by
  by_cases own : k = r.key
  · subst own
    exact told_one (tells_gone (ofKey_none.mpr (by simp [State.retireAlarm])) fun _ => nofun)
  · refine told_other (k' := r.key) rfl own ?_
    exact ofKey_filter_other fun x key => by simpa [key] using own

theorem raiseAlarm_told (law : AlarmLaw s) (k' k : AlarmKey) :
    ∃ ds, (s.raiseAlarm k').due = s.due ++ ds ∧ Told ds s (s.raiseAlarm k') k := by
  obtain ⟨distinct, -⟩ := law
  unfold State.raiseAlarm
  split
  · next v found =>
    have again : (fun x : AlarmRecord => if x.key = k' then x.raisedAgain else x) v = v.raisedAgain := if_pos (recordOf_key found)
    refine ⟨_, rfl, again ▸ told_map (g := fun x => if x.key = k' then x.raisedAgain else x) (fun x => ?_)
      (fun x other => if_neg other) found rfl⟩
    split <;> rfl
  next absent =>
  extract_lets fresh
  have none : ofKey k' s.alarms.records = none := absent
  split
  · refine ⟨_, rfl, ?_⟩
    by_cases own : k = k'
    · subst own
      exact told_one (tells_notice (ofKey_append_new fresh none))
    · exact told_other (k' := k') rfl own (ofKey_append_other (Ne.symm own))
  split
  · next v found =>
    have mem : v ∈ s.alarms.records := by
      obtain ⟨test, -, hv⟩ := List.exists_of_findSome?_eq_some found
      exact List.mem_of_find?_eq_some hv
    have apart : v.key ≠ k' := ofKey_none.mp none v mem
    refine ⟨_, rfl, ?_⟩
    by_cases own : k = k'
    · subst own
      refine .inl ⟨[_], fresh.notice, [], rfl, tells_notice ?_, owes_nothing _⟩
      exact ofKey_append_new fresh ((ofKey_erase_other distinct apart.symm).trans none)
    by_cases evicted : k = v.key
    · subst evicted
      refine .inl ⟨[], _, [_], rfl, tells_gone ?_ fun _ => nofun, fun d hd h => ?_⟩
      · exact (ofKey_append_other (Ne.symm own)).trans (ofKey_erase_own distinct mem)
      · cases List.mem_singleton.mp hd
        exact own (NoticeObject.alarm.inj h.symm)
    · refine .inr ⟨fun d hd h => ?_, (ofKey_append_other (Ne.symm own)).trans (ofKey_erase_other distinct evicted)⟩
      rcases List.mem_pair.mp hd with rfl | rfl
      · exact evicted (NoticeObject.alarm.inj h.symm)
      · exact own (NoticeObject.alarm.inj h.symm)
  · refine ⟨_, rfl, ?_⟩
    by_cases own : k = k'
    · subst own
      exact told_one ((tells_alarm k).mpr (.inr ⟨none, .notStored, .zeros, fun _ => nofun, rfl⟩))
    · exact told_other (k' := k') rfl own rfl

/-- The notices of a record's change name its kind-and-key. -/
theorem changeNotice_object {new : Option AlarmRecord} (keys : ∀ q, new = some q → q.key = r.key) {d : Due}
    (h : d ∈ r.changeNotice new) : dueObject d = .alarm r.key := by
  unfold AlarmRecord.changeNotice at h
  split at h
  · cases List.mem_singleton.mp h
    rfl
  · next q =>
    split at h
    · cases h
    · cases List.mem_singleton.mp h
      exact congrArg NoticeObject.alarm (keys q rfl)

/-- A change of the records of a table, some left out, none renamed, which leaves no other record of a kind-and-key. -/
theorem changes_told {change : AlarmRecord → Option AlarmRecord} (keys : ∀ x q, change x = some q → q.key = x.key)
    (distinct : (s.alarms.records.map AlarmRecord.key).Nodup) (records : t.alarms.records = s.alarms.records.filterMap change)
    (k : AlarmKey) : Told (s.alarms.records.flatMap fun x => x.changeNotice (change x)) s t k := by
  have gone {l : List AlarmRecord} (absent : ∀ x ∈ l, x.key ≠ k) : ofKey k (l.filterMap change) = none := by
    refine ofKey_none.mpr fun q hq => ?_
    obtain ⟨x, mem, hx⟩ := List.mem_filterMap.mp hq
    exact keys x q hx ▸ absent x mem
  have quiet {l : List AlarmRecord} (absent : ∀ x ∈ l, x.key ≠ k) (d : Due)
      (hd : d ∈ l.flatMap fun x => x.changeNotice (change x)) : dueObject d ≠ .alarm k := by
    obtain ⟨x, mem, hx⟩ := List.mem_flatMap.mp hd
    rw [changeNotice_object (keys x) hx]
    exact fun h => absent x mem (NoticeObject.alarm.inj h)
  cases found : recordOf s k with
  | none =>
    have absent := ofKey_none.mp found
    refine .inr ⟨quiet absent, ?_⟩
    rw [recordOf_eq, records, found, gone absent]
  | some r =>
    have key := recordOf_key found
    obtain ⟨-, before, after, shape, earlier⟩ := List.find?_eq_some_iff_append.mp found
    have absentBefore (x : AlarmRecord) (hx : x ∈ before) : x.key ≠ k := by simpa using earlier x hx
    have absentAfter (x : AlarmRecord) (hx : x ∈ after) : x.key ≠ k := fun same => by
      rw [shape, List.map_append, List.map_cons, List.nodup_append] at distinct
      obtain ⟨-, later, -⟩ := distinct
      exact (List.nodup_cons.mp later).1 (List.mem_map.mpr ⟨x, hx, same.trans key.symm⟩)
    have record : recordOf t k = change r := by
      rw [recordOf_eq, records, shape, List.filterMap_append]
      unfold ofKey
      rw [List.find?_append, show (before.filterMap change).find? (fun x => decide (x.key = k)) = none from gone absentBefore, Option.none_or]
      cases hr : change r with
      | none => rw [List.filterMap_cons_none hr]; exact gone absentAfter
      | some q => rw [List.filterMap_cons_some hr]; exact List.find?_cons_of_pos (by simpa using (keys r q hr).trans key)
    rw [shape, List.flatMap_append, List.flatMap_cons]
    have told : Told (r.changeNotice (change r)) s t k := by
      cases hr : change r with
      | none => exact key ▸ told_one (tells_gone (key ▸ record.trans hr) fun _ => nofun)
      | some q =>
        unfold AlarmRecord.changeNotice
        dsimp only
        split
        · next same => exact .inr ⟨owes_nothing _, by rw [record, hr, same, found]⟩
        · exact told_one (tells_notice (record.trans hr))
    have calm : Told (after.flatMap fun x => x.changeNotice (change x)) t t k := .inr ⟨quiet absentAfter, rfl⟩
    exact Told.trans (t := s) (.inr ⟨quiet absentBefore, rfl⟩) (told.trans calm)

theorem alarmsGone_told (law : AlarmLaw s) (g : AlarmKey → Bool) (k : AlarmKey) :
    ∃ ds, (s.alarmsGone g).due = s.due ++ ds ∧ Told ds s (s.alarmsGone g) k := by
  obtain ⟨distinct, -⟩ := law
  refine ⟨_, rfl, changes_told (fun x q hx => ?_) distinct rfl k⟩
  split at hx
  · exact conditionGone_key hx
  · cases hx
    rfl

/-- An act owes what tells each record it changes, beside the notice of a door. -/
theorem AlarmAct.told (h : AlarmAct w s t) (law : AlarmLaw s) (k : AlarmKey) : ∃ ds, t.due = s.due ++ ds ∧ Told ds s t k := by
  cases h with
  | same ha hd => exact ⟨[], by rw [hd, List.append_nil], (Told.refl s k).of_records (by rw [ha])⟩
  | raised k' ha hd =>
    obtain ⟨ds, due, told⟩ := raiseAlarm_told law k' k
    exact ⟨ds, hd.trans due, told.of_records (by rw [ha])⟩
  | gone g ha hd =>
    obtain ⟨ds, due, told⟩ := alarmsGone_told law g k
    exact ⟨ds, hd.trans due, told.of_records (by rw [ha])⟩
  | put r stands ha hd => exact ⟨_, hd.trans rfl, (putAlarm_told stands k).of_records (by rw [ha])⟩
  | retired r _ ha hd => exact ⟨_, hd.trans rfl, (retireAlarm_told k).of_records (by rw [ha])⟩
  | owed _ d ha hd =>
    refine ⟨_, hd, .inr ⟨fun d' hd' h => ?_, by rw [recordOf_eq, recordOf_eq, ha]⟩⟩
    cases List.mem_singleton.mp hd'
    cases h

theorem alarmActs_told (h : ReflTransGen (AlarmAct w) s t) (law : AlarmLaw s) (k : AlarmKey) :
    ∃ ds, t.due = s.due ++ ds ∧ Told ds s t k := by
  induction h with
  | refl => exact ⟨[], (List.append_nil _).symm, .refl s k⟩
  | tail path last ih =>
    obtain ⟨ds, due, told⟩ := ih
    obtain ⟨es, due', told'⟩ := AlarmAct.told last (Acts.alarmActs_law path law) k
    exact ⟨ds ++ es, by rw [due', due, List.append_assoc], told.trans told'⟩

/-- What acts owe: notices of alarm records, and doors where the command may owe them. -/
def Owable (w : Allows) (d : Due) : Prop := (∃ n k, d = .notice n ∧ n.object = .alarm k) ∨ w.owes = true ∧ ∃ r, d = .object (.door r)

theorem owable_notice {n : Notice} (h : n.object = .alarm k) : Owable w (.notice n) := .inl ⟨n, k, rfl, h⟩

theorem AlarmAct.owable (h : AlarmAct w s t) (start : ∀ d ∈ s.due, Owable w d) : ∀ d ∈ t.due, Owable w d := by
  have more {ds : List Due} (due : t.due = s.due ++ ds) (new : ∀ d ∈ ds, Owable w d) : ∀ d ∈ t.due, Owable w d := by
    rw [due]
    exact fun d hd => (List.mem_append.mp hd).elim (start d) (new d)
  have one {d : Due} (due : t.due = s.due ++ [d]) (new : Owable w d) : ∀ d ∈ t.due, Owable w d :=
    more due fun d' hd => List.mem_singleton.mp hd ▸ new
  cases h with
  | same _ hd => rwa [hd]
  | raised k _ hd =>
    unfold State.raiseAlarm at hd
    split at hd
    · exact one hd (owable_notice (k := _) rfl)
    · dsimp only at hd
      split at hd
      · exact one hd (owable_notice (k := _) rfl)
      split at hd
      · refine more hd fun d hd => ?_
        rcases List.mem_pair.mp hd with rfl | rfl <;> exact owable_notice (k := _) rfl
      · exact one hd (owable_notice (k := _) rfl)
  | gone g _ hd =>
    refine more hd fun d hd => ?_
    obtain ⟨x, -, hx⟩ := List.mem_flatMap.mp hd
    unfold AlarmRecord.changeNotice at hx
    split at hx
    · exact List.mem_singleton.mp hx ▸ owable_notice (k := _) rfl
    · split at hx
      · cases hx
      · exact List.mem_singleton.mp hx ▸ owable_notice (k := _) rfl
  | put r _ _ hd => exact one hd (owable_notice (k := _) rfl)
  | retired r _ _ hd => exact one hd (owable_notice (k := _) rfl)
  | owed owes d _ hd => exact one hd (.inr ⟨owes, d, rfl⟩)

theorem alarmActs_owable (h : ReflTransGen (AlarmAct w) s t) (start : ∀ d ∈ s.due, Owable w d) : ∀ d ∈ t.due, Owable w d := by
  induction h with
  | refl => exact start
  | tail _ last ih => exact AlarmAct.owable last ih

end Sys2Proof.Proofs.AlarmNotices
end

section
/-! PROOFS. WHAT THE END OF AN EVENT ANNOUNCES (R167, R174): every object that the event has changed is announced, with the newest notice alone
waiting of it, and of an object that it has not changed no notice is queued. -/
namespace Sys2Proof.Proofs.EventNews

open Sys2Proof Sys2Proof.Machine Sys2Proof.Safety Sys2Proof.Laws Relation
open Sys2Proof.Proofs.Acts (AlarmAct Allows SamePort coverageAlarms_keeps Keeps.alarms)
open Sys2Proof.Proofs.ChangedObjects Sys2Proof.Proofs.NoticeQueue Sys2Proof.Proofs.AlarmNotices
open Sys2Proof.Proofs.FramesSent (buildNotice_object buildNotice_tells)

variable {o s t u : State} {x : NoticeObject} {k : AlarmKey} {w : Allows}

/-! ### Paying what is owed -/

/-- The notice that what is owed stands for, built from the state where only an object is owed. -/
def dueNotice (s : State) : Due → Notice
  | .notice n => n
  | .object x => s.buildNotice x

theorem dueNotice_object (s : State) (d : Due) : (dueNotice s d).object = dueObject d := by
  cases d with
  | notice n => rfl
  | object x => exact buildNotice_object s x

theorem payDue_port (s : State) (d : Due) : s.payDue d = { s with p1 := s.p1.queueNotice (dueNotice s d) } := by
  cases d <;> rfl

theorem payDues_port (s : State) (ds : List Due) :
    ds.foldl State.payDue s = { s with p1 := (ds.map (dueNotice s)).foldl PortOne.queueNotice s.p1 } := by
  have step (p : PortOne) (d : Due) : dueNotice { s with p1 := p } d = dueNotice s d := by
    cases d with
    | notice n => rfl
    | object x => exact State.buildNotice_of_portOne s p x
  have fold (p : PortOne) : ds.foldl State.payDue { s with p1 := p } = { s with p1 := (ds.map (dueNotice s)).foldl PortOne.queueNotice p } := by
    induction ds generalizing p with
    | nil => rfl
    | cons d ds ih =>
      rw [List.foldl_cons, payDue_port, step]
      exact ih _
  exact fold s.p1

/-- The state whose notices the end of an event queues. -/
def ended (o u : State) : State := { (u.coverageAlarms o).deriveOutputs o with due := [] }

/-- What the end of an event pays: what the event owes, then the objects it has changed. -/
def dues (o u : State) : List Due := (u.coverageAlarms o).due ++ (changedObjects o ((u.coverageAlarms o).deriveOutputs o)).map Due.object

/-- The notices that the end of an event queues, in order. -/
def notices (o u : State) : List Notice := (dues o u).map (dueNotice (ended o u))

theorem finish_form (o u : State) :
    ∃ v, State.finish o u =
      { ended o u with
        p1 := (notices o u).foldl PortOne.queueNotice u.p1
        sup := { u.sup with checkValue := v } } := by
  obtain ⟨v, hv⟩ := (((u.coverageAlarms o).deriveOutputs o).flush o).updateCheck_eq o
  have flushed : ((u.coverageAlarms o).deriveOutputs o).flush o =
      { ended o u with p1 := (notices o u).foldl PortOne.queueNotice (ended o u).p1 } := payDues_port _ _
  have port : (ended o u).p1 = u.p1 := by simp [ended, State.deriveOutputs]
  have handler : (ended o u).sup = u.sup := by simp [ended, State.deriveOutputs]
  refine ⟨v, hv.trans ?_⟩
  rw [flushed, port, handler]

theorem finish_port (o u : State) : (State.finish o u).p1 = (notices o u).foldl PortOne.queueNotice u.p1 := by
  obtain ⟨v, h⟩ := finish_form o u
  rw [h]

/-- The end of an event changes no object, as its notices tell it. -/
theorem ended_steady (o u : State) (x : NoticeObject) : Steady (ended o u) (State.finish o u) x := by
  obtain ⟨v, h⟩ := finish_form o u
  rw [h]
  cases x <;> exact fun differs => differs rfl

theorem listed_iff : x ∈ changedObjects o ((u.coverageAlarms o).deriveOutputs o) ↔ (∀ k, x ≠ .alarm k) ∧ Changed o (State.finish o u) x := by
  rw [mem_changedObjects]
  refine and_congr_right fun _ => ?_
  have steady : Steady ((u.coverageAlarms o).deriveOutputs o) (State.finish o u) x := by
    refine Steady.trans ?_ (ended_steady o u x)
    cases x <;> exact fun differs => differs rfl
  constructor
  · intro changed
    by_contra still
    exact Steady.trans still steady.symm changed
  · intro changed
    by_contra still
    exact Steady.trans still steady changed

/-! ### What is announced -/

/-- An object is announced, or it has not changed and what waits of it is the same. -/
def Follows (s t : State) (x : NoticeObject) : Prop := Announced t x ∨ Steady s t x ∧ SameNews s.p1 t.p1 x

theorem announced_of_news {n : Notice} (news : News t.p1 x n) (tells : Tells t x n) : Announced t x := by
  obtain ⟨heard, newest⟩ := news
  exact ⟨heard, fun m hm => newest m hm ▸ tells⟩

theorem announced_same (h : Announced s x) (steady : Steady s t x) (news : SameNews s.p1 t.p1 x) : Announced t x := by
  obtain ⟨heard, newest⟩ := h
  obtain ⟨queue, marks⟩ := news
  have waits : waiting t x = waiting s x := queue
  refine ⟨?_, fun n hn => steady.tells (newest n (waits ▸ hn))⟩
  rw [waits, marks]
  exact heard

theorem Follows.refl (s : State) (x : NoticeObject) : Follows s s x := .inr ⟨.refl s x, .refl _ x⟩

theorem Follows.trans (h : Follows s t x) (h' : Follows t u x) : Follows s u x := by
  rcases h' with announced | ⟨steady', news'⟩
  · exact .inl announced
  · rcases h with announced | ⟨steady, news⟩
    · exact .inl (announced_same announced steady' news')
    · exact .inr ⟨steady.trans steady', news.trans news'⟩

/-- The last entry of a list that a test picks. -/
theorem exists_last {α : Type} {p : α → Prop} {l : List α} (h : ∃ a ∈ l, p a) :
    ∃ before a after, l = before ++ a :: after ∧ p a ∧ ∀ b ∈ after, ¬p b := by
  induction l with
  | nil =>
    obtain ⟨a, mem, -⟩ := h
    exact absurd mem List.not_mem_nil
  | cons a l ih =>
    by_cases later : ∃ b ∈ l, p b
    · obtain ⟨before, b, after, rfl, hb, others⟩ := ih later
      exact ⟨a :: before, b, after, rfl, hb, others⟩
    · obtain ⟨b, mem, hb⟩ := h
      rcases List.mem_cons.mp mem with rfl | mem
      · exact ⟨[], b, l, rfl, hb, fun c hc pc => later ⟨c, hc, pc⟩⟩
      · exact absurd ⟨b, mem, hb⟩ later

/-- The last that is owed of an object is what waits of it. -/
theorem finish_last {before after : List Due} {d : Due} (on : u.p1.heldOff = false) (shape : dues o u = before ++ d :: after)
    (own : dueObject d = x) (others : ∀ e ∈ after, dueObject e ≠ x) (tells : Tells (ended o u) x (dueNotice (ended o u) d)) :
    Announced (State.finish o u) x := by
  have news : News (State.finish o u).p1 x (dueNotice (ended o u) d) := by
    rw [finish_port, notices, shape, List.map_append, List.map_cons]
    refine queueNotices_last u.p1 on _ ((dueNotice_object _ d).trans own) fun n hn => ?_
    obtain ⟨e, mem, rfl⟩ := List.mem_map.mp hn
    rw [dueNotice_object]
    exact others e mem
  exact announced_of_news news ((ended_steady o u x).tells tells)

theorem finish_calm (others : ∀ d ∈ dues o u, dueObject d ≠ x) : SameNews u.p1 (State.finish o u).p1 x := by
  rw [finish_port]
  refine queueNotices_other u.p1 fun n hn => ?_
  obtain ⟨d, mem, rfl⟩ := List.mem_map.mp hn
  rw [dueNotice_object]
  exact others d mem

/-! ### Objects of no alarm record -/

section objects

variable (other : ∀ k, x ≠ .alarm k) (owable : ∀ d ∈ (u.coverageAlarms o).due, Owable w d)
include other owable

theorem dues_object {d : Due} (mem : d ∈ dues o u) (own : dueObject d = x) : d = .object x := by
  rcases List.mem_append.mp mem with owed | listed
  · rcases owable d owed with ⟨n, k, rfl, object⟩ | ⟨-, r, rfl⟩
    · exact absurd (own.symm.trans object) (other k)
    · exact congrArg Due.object own
  · obtain ⟨y, -, rfl⟩ := List.mem_map.mp listed
    exact congrArg Due.object own

theorem finish_object (on : u.p1.heldOff = false) :
    Announced (State.finish o u) x ∨ Steady o (State.finish o u) x ∧ SameNews u.p1 (State.finish o u).p1 x := by
  by_cases owed : ∃ d ∈ dues o u, dueObject d = x
  · obtain ⟨before, d, after, shape, own, others⟩ := exists_last owed
    have built := dues_object other owable (d := d) (by rw [shape]; simp) own
    refine .inl (finish_last on shape own others ?_)
    rw [built]
    exact buildNotice_tells _ x
  · have none (d : Due) (hd : d ∈ dues o u) : dueObject d ≠ x := fun own => owed ⟨d, hd, own⟩
    refine .inr ⟨fun changed => ?_, finish_calm none⟩
    exact none (.object x) (List.mem_append_right _ (List.mem_map.mpr ⟨x, listed_iff.mpr ⟨other, changed⟩, rfl⟩)) rfl

/-- No notice is queued of an object that has not changed, but for a door's whose notice is owed. -/
theorem finish_silent (doors : ∀ d, x = .door d → w.owes = false) (steady : Steady o (State.finish o u) x) :
    SameNews u.p1 (State.finish o u).p1 x := by
  refine finish_calm fun d hd own => ?_
  obtain rfl := dues_object other owable hd own
  rcases List.mem_append.mp hd with owed | listed
  · rcases owable _ owed with ⟨n, k, shape, -⟩ | ⟨owes, r, shape⟩
    · cases shape
    · have door : x = .door r := Due.object.inj shape
      rw [doors r door] at owes
      cases owes
  · obtain ⟨y, mem, shape⟩ := List.mem_map.mp listed
    cases shape
    exact steady (listed_iff.mp mem).2

end objects

/-! ### Alarm records -/

theorem finish_alarm (on : u.p1.heldOff = false) (told : Told (u.coverageAlarms o).due o (u.coverageAlarms o) k) :
    Announced (State.finish o u) (.alarm k) ∨ Steady o (State.finish o u) (.alarm k) ∧ SameNews u.p1 (State.finish o u).p1 (.alarm k) := by
  have steady : Steady (u.coverageAlarms o) (ended o u) (.alarm k) := fun differs => differs rfl
  have unlisted (d : Due) (hd : d ∈ (changedObjects o ((u.coverageAlarms o).deriveOutputs o)).map Due.object) : dueObject d ≠ .alarm k := by
    obtain ⟨y, mem, rfl⟩ := List.mem_map.mp hd
    exact (listed_iff.mp mem).1 k
  rcases told with ⟨before, n, after, shape, tells, others⟩ | ⟨others, same⟩
  · have own : n.object = .alarm k := by
      rcases (tells_alarm k).mp tells with ⟨r, -, rfl⟩ | ⟨-, shown, at_, -, rfl⟩ <;> rfl
    have last : dues o u = before ++ .notice n :: (after ++ (changedObjects o ((u.coverageAlarms o).deriveOutputs o)).map Due.object) := by
      unfold dues
      rw [shape, List.append_assoc, List.cons_append]
    refine .inl (finish_last on last own (fun e he => ?_) (steady.tells tells))
    exact (List.mem_append.mp he).elim (others e) (unlisted e)
  · refine .inr ⟨?_, finish_calm fun d hd => (List.mem_append.mp hd).elim (others d) (unlisted d)⟩
    exact Steady.trans (not_not_intro same.symm) (steady.trans (ended_steady o u _))

end Sys2Proof.Proofs.EventNews
end

section
/-! PROOFS. EVERY CHANGE IS ANNOUNCED (R12, R36, R73, R90, R102, R130, R145, R150, R167, R174): stage by stage. A stage that is no start and
begins no frame of port 1 is an event with its end, or does nothing that a notice tells. -/
namespace Sys2Proof.Proofs.Announcements

open Sys2Proof Sys2Proof.Machine Sys2Proof.Safety Sys2Proof.Laws Relation
open Sys2Proof.Proofs.Acts
open Sys2Proof.Proofs.ChangedObjects Sys2Proof.Proofs.NoticeQueue Sys2Proof.Proofs.EventNews
open Sys2Proof.Proofs.AlarmNotices (alarmActs_told alarmActs_owable Owable)

variable {o s t u : State} {x : NoticeObject} {k : AlarmKey} {w : Allows} {m : Mode}

/-! ### Steps that tell nothing -/

/-- Nothing that a notice tells changes, nor what waits of any object, the records, what is owed, or whether port 1 is held OFF. -/
structure Calm (s t : State) : Prop where
  records : t.alarms.records = s.alarms.records
  due : t.due = s.due
  heldOff : t.p1.heldOff = s.p1.heldOff
  steady : ∀ x, Steady s t x
  news : ∀ x, SameNews s.p1 t.p1 x

theorem Calm.follows (h : Calm s t) : Follows s t x := .inr ⟨h.steady x, h.news x⟩

/-- Two states with the same objects differ in none. -/
theorem steady_of (records : t.alarms.records = s.alarms.records) (bt : t.bt = s.bt) (roll : t.roll = s.roll) (doors : t.doors = s.doors)
    (zones : t.zones = s.zones) (bank : t.bank = s.bank) (site : t.clk.reported = s.clk.reported)
    (stations : ∀ a : Addr, (t.loop.stations[a].type, t.loop.stations[a].room, t.loop.stations[a].state) =
      (s.loop.stations[a].type, s.loop.stations[a].room, s.loop.stations[a].state)) (x : NoticeObject) : Steady s t x := by
  unfold Steady
  cases x <;> refine not_not_intro ?_
  case alarm k => exact congrArg (List.find? fun r => r.key = k) records.symm
  case site => exact site.symm
  case bearer b => rw [bt]
  case door d => rw [doors]
  case roll r => simp only [rollFigures, State.headCount, State.entriesIn, roll]
  case zone z => dsimp only; rw [zones]
  case cylinder p => rw [bank]
  case coverage z => dsimp only; rw [bank]
  case station a => exact (stations a).symm

theorem calm_of_silent (h : Silent s t) : Calm s t where
  records := by rw [h.alarms]
  due := h.due
  heldOff := h.heldOff
  steady := steady_of (by rw [h.alarms]) h.bt h.roll h.doors h.zones h.bank h.site h.stations
  news x := ⟨by unfold noticesOf; rw [h.queue], by rw [h.marks]⟩

theorem calm_taken (s : State) (rest : List RequestFrame) : Calm s (taken s rest) :=
  ⟨rfl, rfl, rfl, steady_of rfl rfl rfl rfl rfl rfl rfl fun _ => rfl, fun _ => ⟨rfl, Iff.rfl⟩⟩

theorem calm_testing (s : State) (f : Option RequestFrame) : Calm s (testing s f) :=
  ⟨rfl, rfl, rfl, steady_of rfl rfl rfl rfl rfl rfl rfl fun _ => rfl, fun _ => ⟨rfl, Iff.rfl⟩⟩

/-- A newer setting leaves the notices that wait. -/
theorem noticesOf_without (p : PortOne) (new : AfterSent) (x : NoticeObject) : noticesOf (p.without new) x = noticesOf p x := by
  unfold noticesOf PortOne.without
  dsimp only
  induction p.queue with
  | nil => rfl
  | cons e queue ih => cases e <;> simp [TxEntry.without, TxEntry.isNoticeOf, List.filter_cons, ih]

theorem calm_answer (s : State) (f : RequestFrame) (code : Octet) (r : Reply) : Calm s (s.answer f code r) := by
  unfold State.answer
  split
  · have silent := applyAfter_silent { s with p1 := s.p1.without r.after } r.after
    exact
      { records := by rw [State.applyNow, silent.alarms]
        due := silent.due
        heldOff := silent.heldOff
        steady := steady_of (by rw [State.applyNow, silent.alarms]) silent.bt silent.roll silent.doors silent.zones silent.bank silent.site
          silent.stations
        news := fun x => ⟨by unfold noticesOf; rw [State.applyNow, silent.queue]; exact noticesOf_without s.p1 r.after x,
          by rw [State.applyNow, silent.marks]; rfl⟩ }
  · exact ⟨rfl, rfl, rfl, steady_of rfl rfl rfl rfl rfl rfl rfl fun _ => rfl,
      fun x => ⟨by simp [noticesOf, TxEntry.isNoticeOf], Iff.rfl⟩⟩

/-! ### Events -/

/-- A stage that is no start and begins no frame is calm, or an event with calm before and after it. -/
inductive Eventful (w : Allows) (m : Mode) : State → State → Prop
  | calm {s t : State} (h : Calm s t) : Eventful w m s t
  | event {s o u t : State} (before : Calm s o) (h : Event w m o u) (port : SamePort o u) (after : Calm (State.finish o u) t) : Eventful w m s t

theorem Stage.eventful (h : Stage w m s t) (starts : w.starts = false) (transmits : w.transmits = false) : Eventful w m s t := by
  cases h with
  | event h port _ => exact .event (calm_of_silent (.refl s)) h port (calm_of_silent (.refl _))
  | silent h => exact .calm (calm_of_silent h)
  | request _ code r _ h port => exact .event (calm_taken ..) h port (calm_answer ..)
  | @asked f rest _ =>
    have calm := calm_testing (taken s rest) (some f)
    exact .calm ⟨rfl, rfl, rfl, calm.steady, calm.news⟩
  | tested _ code r _ h port _ => exact .event (calm_testing ..) h port (calm_answer ..)
  | transmitted begins _ => exact absurd (begins.symm.trans transmits) (by decide)
  | emptied begins _ => exact absurd (begins.symm.trans starts) (by decide)
  | started begins _ _ _ _ _ => exact absurd (begins.symm.trans starts) (by decide)

theorem finish_heldOff (o u : State) : (State.finish o u).p1.heldOff = u.p1.heldOff := by
  rw [EventNews.finish_port]
  exact queueNotices_heldOff ..

theorem Eventful.heldOff (h : Eventful w m s t) : t.p1.heldOff = s.p1.heldOff := by
  cases h with
  | calm h => exact h.heldOff
  | event before _ port after => exact after.heldOff.trans ((finish_heldOff ..).trans (port.heldOff.trans before.heldOff))

theorem SamePort.news (h : SamePort s t) (x : NoticeObject) : SameNews s.p1 t.p1 x :=
  ⟨by unfold noticesOf; rw [h.queue], by rw [h.marks]⟩

/-- What an event's acts owe, the changes of COVERAGE_SHORT at its end among them. -/
theorem event_owable (h : Event w m o u) (settled : Settled o) : ∀ d ∈ (u.coverageAlarms o).due, Owable w d := by
  refine alarmActs_owable (h.alarms.trans (coverageAlarms_keeps u o).alarms) ?_
  rw [show o.due = [] from settled]
  exact fun d hd => absurd hd List.not_mem_nil

theorem Eventful.follows_object (h : Eventful w m s t) (settled : Settled s) (on : s.p1.heldOff = false) (other : ∀ k, x ≠ .alarm k) :
    Follows s t x := by
  cases h with
  | calm h => exact h.follows
  | event before h port after =>
    have open_ := port.heldOff.trans (before.heldOff.trans on)
    rcases finish_object other (event_owable h (before.due.trans settled)) open_ with announced | ⟨steady, news⟩
    · exact .inl (announced_same announced (after.steady x) (after.news x))
    · exact Follows.trans before.follows (.trans (.inr ⟨steady, (SamePort.news port x).trans news⟩) after.follows)

theorem Eventful.follows_alarm (h : Eventful w m s t) (settled : Settled s) (law : AlarmLaw s) (on : s.p1.heldOff = false) (k : AlarmKey) :
    Follows s t (.alarm k) := by
  cases h with
  | calm h => exact h.follows
  | @event o u _ before h port after =>
    have open_ := port.heldOff.trans (before.heldOff.trans on)
    have law : AlarmLaw o := alarmLaw_congr law before.records
    obtain ⟨ds, due, told⟩ := alarmActs_told (h.alarms.trans (coverageAlarms_keeps u o).alarms) law k
    rw [show o.due = [] from before.due.trans settled, List.nil_append] at due
    rcases finish_alarm open_ (due ▸ told) with announced | ⟨steady, news⟩
    · exact .inl (announced_same announced (after.steady _) (after.news _))
    · exact Follows.trans before.follows (.trans (.inr ⟨steady, (SamePort.news port _).trans news⟩) after.follows)

theorem Eventful.silent (h : Eventful w m s t) (settled : Settled s) (other : ∀ k, x ≠ .alarm k) (doors : ∀ d, x = .door d → w.owes = false)
    (steady : Steady s t x) : SameNews s.p1 t.p1 x := by
  cases h with
  | calm h => exact h.news x
  | event before h port after =>
    have between := ((before.steady x).symm.trans steady).trans (after.steady x).symm
    have news := finish_silent other (event_owable h (before.due.trans settled)) doors between
    exact (((before.news x).trans (SamePort.news port x)).trans news).trans (after.news x)

end Sys2Proof.Proofs.Announcements
end

section
/-! PROOFS. EVERY CHANGE IS ANNOUNCED, command by command (O46, O47): the stages of a command put together, the growth of the transmit queue
and of the marks, and the port held OFF. -/
namespace Sys2Proof.Proofs.EveryChange

open Sys2Proof Sys2Proof.Machine Sys2Proof.Safety Sys2Proof.Laws Relation
open Sys2Proof.Proofs.Acts hiding finish_port
open Sys2Proof.Proofs.ChangedObjects Sys2Proof.Proofs.NoticeQueue Sys2Proof.Proofs.EventNews Sys2Proof.Proofs.Announcements

variable {o s t u : State} {x : NoticeObject} {k : AlarmKey} {w : Allows} {m : Mode} {c : Instr}

/-! ### The stages of a command -/

theorem stages_object (h : Stages w m s t) (starts : w.starts = false) (transmits : w.transmits = false) (settled : Settled s)
    (on : s.p1.heldOff = false) (other : ∀ k, x ≠ .alarm k) : Follows s t x := by
  suffices all : Settled t ∧ t.p1.heldOff = false ∧ Follows s t x from all.2.2
  induction h with
  | refl => exact ⟨settled, on, .refl s x⟩
  | tail _ last ih =>
    obtain ⟨settled, on, follows⟩ := ih
    have eventful := Stage.eventful last starts transmits
    exact ⟨Stage.settled last settled, (Eventful.heldOff eventful).trans on,
      follows.trans (Eventful.follows_object eventful settled on other)⟩

theorem stages_alarm (h : Stages w m s t) (starts : w.starts = false) (transmits : w.transmits = false) (settled : Settled s)
    (law : AlarmLaw s) (on : s.p1.heldOff = false) (k : AlarmKey) : Follows s t (.alarm k) := by
  suffices all : Settled t ∧ AlarmLaw t ∧ t.p1.heldOff = false ∧ Follows s t (.alarm k) from all.2.2.2
  induction h with
  | refl => exact ⟨settled, law, on, .refl s _⟩
  | tail _ last ih =>
    obtain ⟨settled, law, on, follows⟩ := ih
    have eventful := Stage.eventful last starts transmits
    exact ⟨Stage.settled last settled, Stage.alarmLaw last law, (Eventful.heldOff eventful).trans on,
      follows.trans (Eventful.follows_alarm eventful settled law on k)⟩

/-- The beginning of a frame changes no object. -/
theorem transmit_steady (h : exec (.frameTransmit .supervisor) s = .next t) (x : NoticeObject) : Steady s t x := by
  obtain rfl : (if s.mayTransmit then s.beginFrame else s) = t := Host.Outcome.next.inj h
  split
  · exact steady_of (by simp) (by simp) (by simp) (by simp) (by simp) (by simp) (by simp) (by simp) x
  · exact .refl s x

theorem beginsFrame_iff : beginsFrame c = true ↔ c = .frameTransmit .supervisor := by
  cases c with
  | frameTransmit port => cases port <;> simp [beginsFrame]
  | _ => simp [beginsFrame]

/-- What each command makes of an object, once it follows through its stages. -/
theorem announced_of_stages (h : exec c s = .next t) (changed : Changed s t x)
    (stages : ∀ {m}, (allowsOf c).transmits = false → Stages (allowsOf c) m s t → Follows s t x) : Announced t x := by
  cases begins : beginsFrame c with
  | true =>
    obtain rfl := beginsFrame_iff.mp begins
    exact absurd changed (transmit_steady h x)
  | false =>
    obtain ⟨m, path⟩ := exec_stages h
    rcases stages begins path with announced | ⟨steady, -⟩
    · exact announced
    · exact absurd changed steady

/-- Settles O47: each act on the Alarm Table owes the notice of the records it changes, and the last of a kind-and-key is the one that waits. -/
theorem everyAlarmChangeIsAnnounced : Obligations.EveryAlarmChangeIsAnnounced := by
  unfold Obligations.EveryAlarmChangeIsAnnounced
  intro c s t settled law starts on h k changed
  exact announced_of_stages h changed fun transmits path => stages_alarm path starts transmits settled law on k

/-! ### One event queues no notice of an object that it has not changed -/

theorem one_of_silent (h : silentUnlessChanged c x = true) :
    manyEvents c = false ∧ beginsFrame c = false ∧ (∀ k, x ≠ .alarm k) ∧ ∀ d, x = .door d → owesDoor c = false := by
  refine ⟨?_, ?_, ?_, ?_⟩
  · cases c with
    | report _ => cases h
    | secondTick _ => cases h
    | _ => rfl
  · cases c with
    | frameTransmit _ => cases h
    | _ => rfl
  · rintro k rfl
    cases c <;> cases h
  · rintro d rfl
    cases c with
    | doorLockdown _ => cases h
    | pollMissed => cases h
    | stationConfigure _ => cases h
    | report _ => cases h
    | _ => rfl

theorem silent_news (h : exec c s = .next t) (starts : startsAgain c = false) (settled : Settled s)
    (silent : silentUnlessChanged c x = true) (steady : Steady s t x) : SameNews s.p1 t.p1 x := by
  obtain ⟨one, transmits, other, doors⟩ := one_of_silent silent
  rcases exec_stage one h with rfl | stage
  · exact .refl _ x
  · exact Eventful.silent (Stage.eventful stage starts transmits) settled other doors steady

/-! ### The growth of the queue -/

/-- The queue keeps the place of what waits and gains notices, then at most one answer; new marks stand behind the old. -/
def Grows (s t : State) (answer : Option Answer) : Prop :=
  (∃ objects : List NoticeObject, t.p1.queue.map place = s.p1.queue.map place ++ objects.map .inr ++ answer.toList.map .inl) ∧
    ∃ new, t.p1.marks = s.p1.marks ++ new

theorem Grows.of_same (queue : t.p1.queue.map place = s.p1.queue.map place) (marks : t.p1.marks = s.p1.marks) : Grows s t none :=
  ⟨⟨[], by simp [queue]⟩, [], by simp [marks]⟩

theorem Grows.refl (s : State) : Grows s s none := .of_same rfl rfl

theorem Grows.trans {answer : Option Answer} (h : Grows s t none) (h' : Grows t u answer) : Grows s u answer := by
  obtain ⟨⟨objects, queue⟩, new, marks⟩ := h
  obtain ⟨⟨objects', queue'⟩, new', marks'⟩ := h'
  exact ⟨⟨objects ++ objects', by simp [queue', queue]⟩, new ++ new', by simp [marks', marks]⟩

theorem finish_grows (o u : State) : Grows u (State.finish o u) none := by
  obtain ⟨_, _, q, marks, _, ⟨⟨objects, queue⟩, new, same⟩, h⟩ := State.finish_eq o u
  rw [h]
  refine ⟨⟨objects, ?_⟩, new, same⟩
  have places := congrArg (List.map Prod.fst) queue
  simpa [List.map_map, Function.comp_def] using places

theorem answer_grows (s : State) (f : RequestFrame) (code : Octet) (r : Reply) : ∃ answer, Grows s (s.answer f code r) answer := by
  unfold State.answer
  split
  · have silent := applyAfter_silent { s with p1 := s.p1.without r.after } r.after
    refine ⟨none, .of_same ?_ ?_⟩
    · rw [State.applyNow, silent.queue]
      simp only [PortOne.without, List.map_map]
      exact List.map_congr_left fun e _ => by cases e <;> rfl
    · rw [State.applyNow, silent.marks]
      rfl
  · exact ⟨some ⟨f.tag, code, r.code, r.contents⟩, ⟨[], by simp [place]⟩, [], by simp⟩

theorem Stage.grows (h : Stage w m s t) (starts : w.starts = false) (transmits : w.transmits = false) :
    ∃ answer, Grows s t answer ∧ (w.answers = false → answer = none) := by
  have ported {a b : State} (port : SamePort a b) : Grows a b none := .of_same (by rw [port.queue]) port.marks
  cases h with
  | event _ port _ => exact ⟨none, (ported port).trans (finish_grows ..), fun _ => rfl⟩
  | silent h => exact ⟨none, .of_same (by rw [h.queue]) h.marks, fun _ => rfl⟩
  | @request u f rest answers code r _ _ port =>
    obtain ⟨answer, grows⟩ := answer_grows (State.finish (taken s rest) u) f code r
    refine ⟨answer, ?_, fun no => absurd (answers.symm.trans no) (by decide)⟩
    exact (Grows.of_same (s := s) (t := taken s rest) rfl rfl).trans ((ported port).trans ((finish_grows ..).trans grows))
  | asked _ => exact ⟨none, .of_same rfl rfl, fun _ => rfl⟩
  | @tested u f answers code r _ _ port _ =>
    obtain ⟨answer, grows⟩ := answer_grows (State.finish (testing s none) u) f code r
    refine ⟨answer, ?_, fun no => absurd (answers.symm.trans no) (by decide)⟩
    exact (Grows.of_same (s := s) (t := testing s none) rfl rfl).trans ((ported port).trans ((finish_grows ..).trans grows))
  | transmitted begins _ => exact absurd (begins.symm.trans transmits) (by decide)
  | emptied begins _ => exact absurd (begins.symm.trans starts) (by decide)
  | started begins _ _ _ _ _ => exact absurd (begins.symm.trans starts) (by decide)

theorem stages_grow (h : Stages w m s t) (starts : w.starts = false) (transmits : w.transmits = false) (answers : w.answers = false) :
    Grows s t none := by
  induction h with
  | refl => exact .refl s
  | tail _ last ih =>
    obtain ⟨answer, grows, no⟩ := Stage.grows last starts transmits
    exact ih.trans (no answers ▸ grows)

/-- Only a request is answered, and it is one stage. -/
theorem exec_grows (h : exec c s = .next t) (starts : startsAgain c = false) (transmits : beginsFrame c = false) :
    ∃ answer, Grows s t answer := by
  cases many : manyEvents c with
  | false =>
    rcases exec_stage many h with rfl | stage
    · exact ⟨none, .refl _⟩
    · obtain ⟨answer, grows, -⟩ := Stage.grows stage starts transmits
      exact ⟨answer, grows⟩
  | true =>
    obtain ⟨m, path⟩ := exec_stages h
    exact ⟨none, stages_grow path starts transmits (congrArg (!·) many)⟩

/-! ### A port held OFF -/

/-- Port 1 stays held OFF with what waits, and no LINK TEST is unanswered. -/
structure StaysOff (s t : State) : Prop where
  queue : t.p1.queue = s.p1.queue
  marks : t.p1.marks = s.p1.marks
  heldOff : t.p1.heldOff = s.p1.heldOff
  test : t.sup.linkTest = s.sup.linkTest

theorem Stage.staysOff (h : Stage w m s t) (starts : w.starts = false) (off : s.p1.heldOff = true) (test : s.sup.linkTest = none) :
    StaysOff s t := by
  have untaken {f : RequestFrame} {rest : List RequestFrame} (takes : Takes s f rest) : False := by
    have can := takes.can
    simp [State.canTake, off] at can
  cases h with
  | @event u _ port _ =>
    have same : (State.finish s u).p1 = u.p1 := (EventNews.finish_port s u).trans (queueNotices_off (port.heldOff.trans off) _)
    obtain ⟨-, test, -⟩ := Acts.finish_port s u
    exact ⟨by rw [same, port.queue], by rw [same, port.marks], by rw [same, port.heldOff], test.trans port.test⟩
  | silent h => exact ⟨h.queue, h.marks, h.heldOff, h.test⟩
  | request _ _ _ takes _ _ => exact (untaken takes).elim
  | asked takes => exact (untaken takes).elim
  | tested _ _ _ waits _ _ _ => cases waits.symm.trans test
  | transmitted _ may => simp [State.mayTransmit, off] at may
  | emptied begins _ => exact absurd (begins.symm.trans starts) (by decide)
  | started begins _ _ _ _ _ => exact absurd (begins.symm.trans starts) (by decide)

theorem stages_off (h : Stages w m s t) (starts : w.starts = false) (off : s.p1.heldOff = true) (test : s.sup.linkTest = none) :
    StaysOff s t := by
  induction h with
  | refl => exact ⟨rfl, rfl, rfl, rfl⟩
  | tail _ last ih =>
    have next := Stage.staysOff last starts (ih.heldOff.trans off) (ih.test.trans test)
    exact ⟨next.queue.trans ih.queue, next.marks.trans ih.marks, next.heldOff.trans ih.heldOff, next.test.trans ih.test⟩

/-- Settles O46: stage by stage an object's change puts its newest notice, or its mark, in the queue, and all that waits keeps its place. -/
theorem everyChangeIsAnnounced : Obligations.EveryChangeIsAnnounced := by
  unfold Obligations.EveryChangeIsAnnounced
  intro c s t settled starts h
  refine ⟨fun on => ⟨fun x other changed => ?_, fun x silent still => silent_news h starts settled silent still, fun notFrame => ?_⟩,
    fun off test => ?_⟩
  · exact announced_of_stages h changed fun transmits path => stages_object path starts transmits settled on other
  · have transmits : beginsFrame c = false := Bool.not_eq_true _ ▸ mt beginsFrame_iff.mp notFrame
    obtain ⟨answer, ⟨objects, queue⟩, marks⟩ := exec_grows h starts transmits
    exact ⟨⟨objects, answer, queue⟩, marks⟩
  · obtain ⟨m, path⟩ := exec_stages h
    have same := stages_off path starts off test
    exact ⟨same.queue, same.marks⟩

end Sys2Proof.Proofs.EveryChange
end
